-- ==== Sys2Proof/Syntax.lean ====
section
/-!
DEFINITION. The commands: one constructor of `Instr` per row of spec/opcode_table.json, with the operands the row's
rules name. No row gives bits, so the operands are the model's choice (log 3): who acts, which instance, what value, and
what the world outside the block supplies.
-/

namespace Sys2Proof

/-- Who makes an access (R463): the Hewer cores, the Deputy, the RECORD requester, the night shift, the SPI target, the
link port and the DMA channels. -/
inductive Requester where
  | hewer (core : Fin 4) | deputy | record | night | spi | link | dma (ch : Fin 8)
deriving DecidableEq, Repr

/-- What an access does (R434, R435): a load, a store, an instruction fetch or an atomic operation. -/
inductive AccKind where
  | load | store | fetch | amo
deriving DecidableEq, Repr

/-- The two gates of a leg. -/
inductive Gate where
  | gh | gl
deriving DecidableEq, Repr

/-- How a leg is held: not at all, both gates low, or GL high (R121, R122). -/
inductive Hold where
  | none | off | short
deriving DecidableEq, Repr

/-- What a shunt comparator sees at a latch clear (R148): its filtered input above threshold, or below it for so many
ticks. -/
structure CompRead where
  above : Bool
  belowFor : Nat
deriving DecidableEq, Repr

/-- An SW transition that a drive die has measured (R130): the tick on which it begins, its swing in mV, the time in ns from
the gate edge before it to 50 % of the swing, and its 10 % to 90 % time as a TMEAS code. -/
structure Transition where
  at_ : Nat
  swing : Nat
  half : Nat
  tmeas : Nat
deriving DecidableEq, Repr

/-- What the checker of an ECC word reports on a read (R288, R410): nothing, a corrected error, an uncorrectable one. -/
inductive Ecc where
  | none | corrected | uncorrectable
deriving DecidableEq, Repr

/-- A fault message (R408): SRC, KIND and ADDR, with the full address that a memory checker passes beside it (R412), the
held flag of a drive link (R151), and for an ECC report whether it concerns the injected read of an injection session and
its syndrome (R430 to R432). For ENG_ECC kinds `full` is the context whose work found the error (R416). -/
structure FaultMsg where
  src : Nat
  kind : Nat
  addr : Nat
  full : Word
  held : Bool
  onInjected : Bool
  syn : Nat
deriving DecidableEq, Repr

/-- What a plumb cycle measures (R236): offset, gain and skew coefficients, and the check conversion's reading. -/
structure PlumbResult where
  ofs : Int
  gain : Int
  skew : Int
  reading : Int
deriving DecidableEq, Repr

/-- The RV32A read-modify-write operations (R441). -/
inductive AmoOp where
  | swap | add | xor | and | or | min | max | minu | maxu
deriving DecidableEq, Repr

/-- The instructions of the JTAG TAP (R450, R452). -/
inductive TapInstr where
  | idcode | bypass | sample | extest | intest | dtm
deriving DecidableEq, Repr

/-- What the debugger does over JTAG (R450): it shifts in an instruction of the TAP; over the DMI it writes the abstract data or a
word of the program buffer, or runs the Access Register command on a register of a hart. -/
inductive JtagOp where
  | ir (i : TapInstr)
  | data (w : Word)
  | prog (i : Fin 8) (w : Word)
  | reg (h : Fin 5) (no : BitVec 16) (write : Bool)
deriving DecidableEq, Repr

/-- Why a hart enters debug halt (R451): a halt request over the DMI, one of its triggers, or the hart itself (EBREAK, a step). -/
inductive HaltReq where
  | dmi | trigger (i : Fin 4) | own
deriving DecidableEq, Repr

/-- A request of the SPI host (R520): its CMD byte, ADDR, and the data of a write. -/
structure SpiReq where
  cmd : Byte
  addr : Word
  vals : List Word
deriving DecidableEq, Repr

/-- A frame of the Roentol link (R539) but for its length, which the payload gives, and its CRC; `type` is its TYPE code. -/
structure LinkFrame where
  seq : Byte
  dst : Nat
  bcast : Bool
  src : Nat
  type : Nat
  ttl : Nat
  barrier : Bool
  payload : List Byte
deriving DecidableEq, Repr

/-- The commands, in the order of the table: each constructor is one row. -/
inductive Instr where
  /-- KEEP_ALIVE (R19): The core die sends a keep-alive command on a drive link after 256 ticks without any other command. -/
  | keepAlive (d : Fin 4) (chk : Bool)
  /-- WATCHDOG_EXPIRY (R19): A drive die that has received no valid command for 2 µs on its own oscillator forces all its legs safe. -/
  | watchdogExpiry (d : Fin 4)
  /-- EDGE_COMMAND (R134): A drive die receives an edge command, checks its stamp and link check, and applies the interlock before it moves the gate. -/
  | edgeCommand (leg : Fin 256) (gate : Gate) (on : Bool) (chk : Bool) (oppLow : Bool) (bstLow : Bool) (meas : List Transition)
  /-- INTERLOCK_TURN_ON (R134): A waiting gate turns on once the opposite gate has read below the interlock level for 3 consecutive ticks. -/
  | interlockTurnOn (leg : Fin 256) (bstLow : Bool)
  /-- INTLK_TIMEOUT (R135): A turn-on still waiting INTLK_TO ticks after its command is abandoned and INTLK_TIMEOUT is sent. -/
  | intlkTimeout (leg : Fin 256)
  /-- SAFE_COMMAND (R28): A drive die receives a safe command (OFF or SHORT) that overrides every edge command for the leg. -/
  | safeCommand (leg : Fin 256) (hold : Hold) (chk : Bool) (ghLow : Bool)
  /-- RETIRE_COMMAND (R102): A drive die receives a retire command and turns both gates of the leg off. -/
  | retireCommand (leg : Fin 256) (chk : Bool)
  /-- HOLDER_COMMAND (R457): A drive die accepts the holder command after an authority switch, latches the new holder and acknowledges. -/
  | holderCommand (d : Fin 4) (chk : Bool)
  /-- DDIE_REFRESH (R163): The drive die refreshes its core-die copy of status, events and counts at least every 256 ticks. -/
  | ddieRefresh (d : Fin 4) (vdrv : BitVec 8) (temp : BitVec 8)
  /-- HARD_SAFE_ASSERT (R17): Assertion of a hard-safe line forces every leg of its drive die low without any clock. -/
  | hardSafeAssert (d : Fin 4)
  /-- HARD_TRIP (R142): The filtered HARD comparator asserts, both gates go off, HARD_LAT is set and HARD_TRIP is sent. -/
  | hardTrip (leg : Fin 256) (above : Nat)
  /-- SOFT_TRIP (R143): SOFT detection outside blanking turns both gates off, sets SOFT_LAT and sends SOFT_TRIP. -/
  | softTrip (leg : Fin 256) (above : Nat) (released : Bool)
  /-- PRESENCE_SEEN (R145): The filtered PRESENCE output asserts while GL is on outside blanking, and the period is recorded as showing presence. -/
  | presenceSeen (leg : Fin 256) (above : Nat)
  /-- BST_UV (R136): BST − SW falls below its threshold, so GH turns off, BST_UV is latched and sent, and GH turn-ons are suppressed. -/
  | bstUv (leg : Fin 256)
  /-- VDRV_UV (R125): VDRV falls below its UVLO threshold and every gate of the die goes low. -/
  | vdrvUv (d : Fin 4)
  /-- VDRV_OV (R125): VDRV rises above the mode's overvoltage limit and every gate of the die goes low. -/
  | vdrvOv (d : Fin 4)
  /-- VDRV_RECOVER (R125): A VDRV condition clears with hysteresis, and the legs stay safe until recovery. -/
  | vdrvRecover (d : Fin 4) (ov : Bool)
  /-- TRIP_LATCH_CLEAR (R148): A write of 1 to HARD_LAT or SOFT_LAT clears the latch unless the refusal conditions hold. -/
  | tripLatchClear (who : Requester) (leg : Fin 256) (val : Word) (chk : Bool) (hard : CompRead) (soft : CompRead)
  /-- DDIE_CFG_WRITE (R124): A DDIE CFG write travels to the die and is ignored, with MODE_IGN, if it changes MODE while legs are active. -/
  | ddieCfgWrite (who : Requester) (d : Fin 4) (val : Word) (chk : Bool)
  /-- DDIE_VDRV_UV_WRITE (R126): A VDRV_UV threshold write travels to the die and is ignored, with CFG_IGN, when out of range. -/
  | ddieVdrvUvWrite (who : Requester) (d : Fin 4) (val : Word) (chk : Bool)
  /-- ST_START (R154): ST_CMD.START begins the comparator self-test of the legs in ST_MASK. -/
  | stStart (who : Requester) (d : Fin 4) (val : Word) (chk : Bool)
  /-- ST_ABORT (R154): ST_CMD.ABORT ends the self-test after its current step and marks the untested legs skipped. -/
  | stAbort (who : Requester) (d : Fin 4) (val : Word) (chk : Bool)
  /-- ST_STEP (R155): One comparator self-test step ends with a pass or fail judgement for that comparator and level. -/
  | stStep (d : Fin 4) (after : Option Nat)
  /-- FAULT_MESSAGE (R415): The collector decides an arriving fault message's level and applies its reaction, escalation, retry count and tally entry. -/
  | faultMessage (pick : List Bool) (ext : List FaultMsg)
  /-- RETRY_CLEAR (R423): RETRY_DLY periods after a transient trip, the collector tries to clear the latch, and retries a period later if refused. -/
  | retryClear (leg : Fin 256) (chk : Bool) (hard : CompRead) (soft : CompRead)
  /-- OCCURRENCE_EXPIRY (R422): A leg's retry occurrence expires RETRY_WINDOW periods after its arrival. -/
  | occurrenceExpiry (leg : Fin 256) (cls : Nat)
  /-- RECOVER (R427): A RECOVER write with GO requests recovery of a scope, is checked and starts its quiet period. -/
  | recover (who : Requester) (val : Word)
  /-- CANCEL (R428): A RECOVER write with CANCEL ends a waiting request with REASON 6. -/
  | cancel (who : Requester) (val : Word)
  /-- QUIET_PERIOD_END (R427): At the end of a scope's quiet period, the collector checks release conditions and releases every member on one cycle. -/
  | quietPeriodEnd (refuse : List (Fin 256)) (lost : List (Fin 256))
  /-- TALLY_READ (R425): A read of TALLY_LO returns and removes the oldest tally entry and shadows its high word. -/
  | tallyRead (who : Requester)
  /-- CLR_TALLY (R425): CMD.CLR_TALLY empties the tally. -/
  | clrTally (who : Requester) (val : Word)
  /-- CLR_FIRST (R426): CMD.CLR_FIRST clears FIRST so that the next qualifying fault is recorded. -/
  | clrFirst (who : Requester) (val : Word)
  /-- INJ_ARM (R430): INJ_CTL with ARM starts an injection session on the next read of the target word, or ends REFUSED. -/
  | injArm (who : Requester) (val : Word)
  /-- INJ_TIMEOUT (R431): An injection session with no decided injected report within INJ_TO ends in TIMEOUT. -/
  | injTimeout
  /-- JOURNAL_APPEND (R424): A retirement or return record is written at the journal head through the RECORD requester. -/
  | journalAppend (ok : Bool)
  /-- JOURNAL_RECLAIM (R488): Before the next append, the night shift copies forward newest records from the block ahead of the head and clears it. -/
  | journalReclaim
  /-- JOURNAL_SCAN (R489): After POWER_UP, the night shift scans the journal, builds JMAP, places the head and sets READY. -/
  | journalScan
  /-- FORMAT (R490): JCMD.FORMAT from the Deputy starts clearing every journal slot. -/
  | format (who : Requester) (val : Word)
  /-- FORMAT_DONE (R490): FORMAT ends, the head is slot 0, JMAP is clear and waiting retirements are appended. -/
  | formatDone
  /-- COMMIT_GO (R46): A COMMIT write with GO freezes the domain's wet set and queues the commit for validation. -/
  | commitGo (who : Requester) (addr : Word) (tag : Byte) (with_ : BitVec 4)
  /-- COMMIT_DISCARD (R54): A COMMIT write with DISCARD drops the domain's wet set and second coat and returns STATE to IDLE. -/
  | commitDiscard (who : Requester) (addr : Word)
  /-- COMMIT_VALIDATION (R53): The commit unit validates a queued commit and leaves it ARMED or REFUSED. -/
  | commitValidation
  /-- COMMIT_SET (R49): At the commit point, every wet register of the committed domains becomes set on one tick. -/
  | commitSet (dom : Nat) (lost : List (Fin 256))
  /-- WET_WRITE (R45): A write to an RWW register lands wet in its shadow, or in the second coat after a GO. -/
  | wetWrite (who : Requester) (addr : Word) (val : Word)
  /-- DOMAIN_WRITE (R41): A write to a DOMAIN register changes the page's domain, or is ignored with DMN_IGN. -/
  | domainWrite (who : Requester) (addr : Word) (val : Word)
  /-- CAST (R60): A CAST write captures the ROC registers of a page or domain on one tick and advances SEQ. -/
  | cast (who : Requester) (addr : Word) (val : Word)
  /-- PAIR_READ_LOW (R65): A low-word read of a 64-bit value copies its high word into the reader's pair shadow. -/
  | pairReadLow (who : Requester) (addr : Word)
  /-- PAIR_READ_HIGH (R65): A high-word read returns the tagged shadow entry and frees it, or the live word. -/
  | pairReadHigh (who : Requester) (addr : Word)
  /-- PAIR_WRITE_LOW (R67): A low-word write of a 64-bit RW value is held in the writer's private write shadow. -/
  | pairWriteLow (who : Requester) (addr : Word) (val : Word)
  /-- PAIR_WRITE_HIGH (R67): The high-word write of a 64-bit RW value makes both halves take effect on one cycle. -/
  | pairWriteHigh (who : Requester) (addr : Word) (val : Word) (chk : Bool)
  /-- REGISTER_WRITE (R12): A write to a register without a row of its own acts by its access code, subject to authority blocking. -/
  | registerWrite (who : Requester) (addr : Word) (val : Word)
  /-- RC_READ (R12): A read of an RC field returns its value and clears it. -/
  | rcRead (who : Requester) (addr : Word)
  /-- FENCE (R70): A RISC-V FENCE completes once every earlier access of its kinds has landed or returned. -/
  | fence (who : Requester)
  /-- FRAME_RELOAD (R164): A frame's counter returns to 0, beginning a period in which duties, offsets, ranks, dither and refresh are fixed. -/
  | frameReload (f : Fin 16) (lost : List (Fin 256))
  /-- STRONG_DRIVE_END (R128): After 64 periods of fixed strong drive, the core die commands the leg to adaptive drive. -/
  | strongDriveEnd (leg : Fin 256) (chk : Bool)
  /-- LOAD_STALE (R93): No load measure for 4 periods sets A = L and suspends shedding and presence checking. -/
  | loadStale (g : Fin 64)
  /-- RETIRE (R113): A write of CMD.RETIRE retires the leg at any time. -/
  | retire (who : Requester) (leg : Fin 256) (val : Word)
  /-- RETURN (R113): A write of CMD.RETURN returns a retired leg listed in no enabled gang, or is ignored. -/
  | returnLeg (who : Requester) (leg : Fin 256) (val : Word)
  /-- ENGINE_DUTY_LANDS (R172): An engine duty lands at the modulator and becomes wet or is discarded by its tag and cut-off. -/
  | engineDutyLands
  /-- SAMPLE (R199): A SAMPLE entry acts and sends a conversion request to the sampling arbiter. -/
  | sample (f : Fin 16) (idx : Nat)
  /-- JOB (R201): A JOB entry acts and waits for its context's sample set. -/
  | job (f : Fin 16) (idx : Nat)
  /-- COMMIT_POINT (R203): A COMMIT_POINT entry acts, marking the next reload as commit, re-gang and swap point. -/
  | commitPoint (f : Fin 16) (idx : Nat)
  /-- REFRESH (R204): A REFRESH entry gives the leg at the gang's refresh pointer a refresh next period. -/
  | refresh (f : Fin 16) (idx : Nat)
  /-- ROTATE (R204): A ROTATE entry advances the gang's rotation at the next reload. -/
  | rotate (f : Fin 16) (idx : Nat)
  /-- CAST_POINT (R204): A CAST_POINT entry takes a cast of the named page or domain on the second tick after it acts. -/
  | castPoint (f : Fin 16) (idx : Nat)
  /-- MARK (R204): A MARK entry records its ID, frame and device tick, and sets EVT.MARK if IRQ is 1. -/
  | mark (f : Fin 16) (idx : Nat)
  /-- JOB_READY (R201): A JOB becomes ready once its sample set completes, or at dispatch with NOWAIT. -/
  | jobReady (ctx : Fin 256)
  /-- ROSTER_ENTRY_WRITE (R212): A write to a roster entry lands in the inactive bank, or is ignored and logged as LIVE_WRITE. -/
  | rosterEntryWrite (who : Requester) (addr : Word) (val : Word)
  /-- COPY (R215): ROST CMD.COPY starts copying the active bank into the inactive bank. -/
  | copy (who : Requester) (val : Word)
  /-- CLEAR (R215): ROST CMD.CLEAR starts filling the inactive bank with NOP. -/
  | clear (who : Requester) (val : Word)
  /-- ROSTER_CMD_DONE (R215): A COPY or CLEAR completes and PROG reports DONE. -/
  | rosterCmdDone
  /-- SLICE_ASSIGN (R222): The arbiter assigns a waiting request to the lowest free on-shift slice, or skips it under its guard. -/
  | sliceAssign
  /-- STALE (R224): A request unassigned 600 ticks after arrival is abandoned and delivered as skipped. -/
  | stale
  /-- RESULT_DELIVERY (R223): A converted or skipped result is stamped and written to its result register and its context. -/
  | resultDelivery (raw : BitVec 14) (clip : Bool)
  /-- SLICE_PLUMB_START (R234): A draining slice whose last result is delivered enters PLUMB. -/
  | slicePlumbStart (sl : Fin 12)
  /-- PLUMB_CYCLE_END (R234): A plumb cycle ends, the slice returns on shift with new coefficients and the next slice drains. -/
  | plumbCycleEnd (result : PlumbResult)
  /-- INIT_CALIBRATION_END (R238): The initial calibration ends, slices go on shift and READY is set. -/
  | initCalibrationEnd (results : List PlumbResult)
  /-- TEST_DAC_GRANT (R239): The test DAC is granted to the next user on release, or to a plumb cycle that pre-empts a diagnosis. -/
  | testDacGrant
  /-- TDCMD_GO (R240): TDCMD with GO starts an input-path diagnosis that waits for the test DAC. -/
  | tdcmdGo (who : Requester) (val : Word)
  /-- TDCMD_ABORT (R240): TDCMD with ABORT ends a waiting or armed diagnosis without a result. -/
  | tdcmdAbort (who : Requester) (val : Word)
  /-- TD_TIMEOUT (R240): A diagnosis with no request assigned within 1 ms of ARMED ends with TD_TIMEOUT. -/
  | tdTimeout
  /-- MAN (R243): A MAN write with GO requests a firmware conversion, or is ignored with MAN_IGN. -/
  | man (who : Requester) (val : Word)
  /-- WINCFG_WRITE (R233): A window limit or setting write acts from the next result, and EN = 0 deasserts the output. -/
  | wincfgWrite (who : Requester) (addr : Word) (val : Word)
  /-- WORK_START (R251): A lane takes the oldest ready work (rerun, job or speculative run) and latches its inputs. -/
  | workStart
  /-- WORK_RUN (R250): A lane runs a chain's stages, one stage-cycle per tick, handing on side effects as stages complete. -/
  | workRun (lane : Fin 4) (ecc : Ecc) (inSlot : Bool)
  /-- JOB_COMMIT (R274): Work commits when its last stage and last duty are done, making its words set and advancing JSEQ. -/
  | jobCommit (ctx : Fin 256)
  /-- VERIFY (R279): The check unit compares the delivered sample set with the speculative run's predictions. -/
  | verify (ctx : Fin 256)
  /-- CTXCMD_RESET (R287): CTXCMD with RESET schedules a context reset once none of its work runs. -/
  | ctxcmdReset (who : Requester) (val : Word)
  /-- RESET_DONE (R287): A context's set half has been zeroed and waiting work may start. -/
  | resetDone (ctx : Fin 256)
  /-- CONTEXT_WRITE (R254): A write to context RAM lands, or is ignored with CTX_LIVE_WRITE. -/
  | contextWrite (who : Requester) (addr : Word) (val : Word)
  /-- STAGE_WRITE (R258): A write to a stage slot lands, or changes only parameters of a live slot. -/
  | stageWrite (who : Requester) (addr : Word) (val : Word)
  /-- START (R326): An axis CMD.START begins sounding or records a start request. -/
  | start (who : Requester) (a : Fin 16) (val : Word)
  /-- STOP (R326): An axis CMD.STOP brakes, idles or clears RUNREQ according to state. -/
  | stop (who : Requester) (a : Fin 16) (val : Word)
  /-- COAST (R326): An axis CMD.COAST moves the axis to COASTING and clears RUNREQ. -/
  | coast (who : Requester) (a : Fin 16) (val : Word)
  /-- FO_RESET (R315): An axis CMD.FO_RESET returns failed-over sets to in-line sensing in IDLE or FAULTED. -/
  | foReset (who : Requester) (a : Fin 16) (val : Word)
  /-- SOUNDING_WINDOW_END (R330): A sounding window ends and is classified STATIONARY, FORWARD, BACKWARD or INVALID. -/
  | soundingWindowEnd (a : Fin 16)
  /-- CATCH_END (R332): CATCH_T passes and the axis enters RUNNING, DECELERATING or a catch failure. -/
  | catchEnd (a : Fin 16)
  /-- RESOUND_START (R339): RESOUND after the previous window, a coasting axis starts a resound window. -/
  | resoundStart (a : Fin 16)
  /-- OBS_LOSS_RAMP_END (R346): 2 ms after observer loss, the axis restores the PLL gains and enters COASTING. -/
  | obsLossRampEnd (a : Fin 16)
  /-- LOCKED_ROTOR (R317): The no-commutation count reaching LR_TIME at high current sends LOCKED_ROTOR at L2. -/
  | lockedRotor (a : Fin 16)
  /-- FB_COUNT (R355): An accepted input change of a feedback channel counts forward or reverse, or is an edge error; `ago`: ticks
  since the pins took these levels (R354). -/
  | fbCount (k : Fin 16) (levels : BitVec 3) (ago : BitVec 16)
  /-- INDEX_EVENT (R367): A qualified index captures POS and homes, corrects, or reports a mismatch. -/
  | indexEvent (k : Fin 16)
  /-- FB_GATE (R360): At a gate boundary the channel computes its speed and starts an absolute read. -/
  | fbGate (k : Fin 16)
  /-- ABS_READ_END (R372): An absolute read ends, updating POS on a good read or reporting FB_ABS on a failure. -/
  | absReadEnd (k : Fin 16)
  /-- EMU_STEP (R374): The emulation output count steps one count toward its target at most every EMIN ticks. -/
  | emuStep (k : Fin 16)
  /-- SET_POS (R377): FB CMD.SET_POS loads PRESET into POS. -/
  | setPos (who : Requester) (k : Fin 16) (val : Word)
  /-- CLR_HOMED (R377): FB CMD.CLR_HOMED clears HOMED. -/
  | clrHomed (who : Requester) (k : Fin 16) (val : Word)
  /-- CLR_FAIL (R377): FB CMD.CLR_FAIL clears FAILED. -/
  | clrFail (who : Requester) (k : Fin 16) (val : Word)
  /-- CONV_START (R389): A converter CMD.START begins soft-start, precharge or dump arming in IDLE. -/
  | convStart (who : Requester) (c : Fin 16) (val : Word)
  /-- CONV_STOP (R389): A converter CMD.STOP returns it to IDLE. -/
  | convStop (who : Requester) (c : Fin 16) (val : Word)
  /-- FAST_WIN_EXPIRY (R392): FAST_WIN passes without a fast trip and FTRIPS returns to 0. -/
  | fastWinExpiry (c : Fin 16)
  /-- FAST_PAUSE_END (R388): FAST_OFF reloads after a fast trip, the converter restarts or clears PAUSE. -/
  | fastPauseEnd (c : Fin 16)
  /-- OVERLOAD_STEP (R393): Each 0.1 ms the slow-limit count rises or falls with the IL tap. -/
  | overloadStep (c : Fin 16)
  /-- CONTACTOR_DELAY_END (R396): CT_DLY after the contactor asserts, the precharge converter enters RUNNING with gangs OFF. -/
  | contactorDelayEnd (c : Fin 16)
  /-- PC_TIMEOUT (R396): STARTING lasting PC_TMAX sends CONV_PRECHARGE at L2. -/
  | pcTimeout (c : Fin 16)
  /-- LF_WRITTEN (R399): A last-fault record reaches MRAM and LFSTAT is updated. -/
  | lfWritten (c : Fin 16) (ok : Bool)
  /-- DAMP_MEASUREMENT_START (R403): Each DPERIOD the night shift begins a damp measurement with the switch open. -/
  | dampMeasurementStart
  /-- DAMP_SETTLE_END (R403): DSETTLE passes and the night shift starts averaging background conversions. -/
  | dampSettleEnd
  /-- DAMP_AVERAGE_DONE (R404): The 64 conversions of a step are averaged, closing the switch or computing RISO. -/
  | dampAverageDone
  /-- DAMP_ABANDON (R403): A damp step not delivered within 100 ms, or a mode or bus condition, abandons the measurement. -/
  | dampAbandon
  /-- TELEMETRY_PERIOD (R491): At the start of each TPERIOD the night shift requests background conversions of the enabled inputs. -/
  | telemetryPeriod
  /-- TELEMETRY_RECORD (R491): At the end of a period a 32-byte telemetry record is written to Hewer SRAM. -/
  | telemetryRecord
  /-- SKIM_BEAT (R483): A skim grant reads one SRAM or MRAM beat, writes back a corrected error or reports an uncorrectable one. -/
  | skimBeat (mram : Bool) (ecc : Ecc)
  /-- DEPUTY_SKIM (R484): The Deputy SRAM skim reads and checks one word in a cycle free of Deputy accesses. -/
  | deputySkim (ecc : Ecc)
  /-- ARBITRATION_PHASE (R466): At each Banksman phase, reservation is revised and a free port is granted. -/
  | arbitrationPhase (waits : BitVec 17) (ended : Bool) (beats : Nat)
  /-- FREEZE (R470): A Deputy write of CTL.FREEZE restricts eligibility to requesters 4 and 5 and ends other grants. -/
  | freeze (who : Requester) (val : Word)
  /-- DMA_GO (R474): DMA_CTL.GO starts a channel from its first descriptor. -/
  | dmaGo (who : Requester) (ch : Fin 8) (val : Word)
  /-- DMA_ABORT (R474): DMA_CTL.ABORT stops a channel after its current beat. -/
  | dmaAbort (who : Requester) (ch : Fin 8) (val : Word) (moved : Nat)
  /-- DMA_DESCRIPTOR_DONE (R473): A channel completes a descriptor and follows NEXT, or stops at END. -/
  | dmaDescriptorDone (ch : Fin 8)
  /-- LR (R441): A Hewer LR reserves the 32-byte granule of its address in Hewer SRAM. -/
  | lr (core : Fin 4) (addr : Word)
  /-- SC (R441): A Hewer SC stores only if its reservation still holds. -/
  | sc (core : Fin 4) (addr : Word) (val : Word)
  /-- AMO (R441): A Hewer AMO in Hewer SRAM is performed as one indivisible two-beat grant. -/
  | amo (core : Fin 4) (op : AmoOp) (addr : Word) (val : Word)
  /-- RESERVATION_EXPIRY (R441): An LR reservation is lost 256 CLK_CPU cycles after the LR. -/
  | reservationExpiry (core : Fin 4)
  /-- ACCESS_FAULT (R435): An access outside the permitted map ends in an access fault with no effect. -/
  | accessFault (who : Requester) (addr : Word) (kind : AccKind)
  /-- MACHINE_TIMER_INTERRUPT (R442): A hart's timer interrupt becomes pending when the count reaches its compare value. -/
  | machineTimerInterrupt (h : Fin 5)
  /-- LOCKSTEP (R443): The two Deputy cores' outputs differ and LOCKSTEP is sent as a hard L4 fault. -/
  | lockstep
  /-- DWDT_ARM (R446): A Deputy write of DWDT with EN arms the Deputy watchdog and counts as the first kick. -/
  | dwdtArm (who : Requester) (val : Word)
  /-- DKICK (R446): A Deputy write to DKICK kicks the watchdog, or sends DEP_WDT if early or wrong. -/
  | dkick (who : Requester) (val : Word)
  /-- DEP_WDT (R446): No Deputy kick within WIN_HI sends DEP_WDT at L4. -/
  | depWdt
  /-- HKICK (R504): Hewer core h kicks its watchdog, or sends HEWER_WDT if early or wrong. -/
  | hkick (core : Fin 4) (val : Word)
  /-- HEWER_WDT (R447): A Hewer watchdog expires and HEWER_WDT is sent at L3. -/
  | hewerWdt (core : Fin 4)
  /-- DEBUG_HALT (R451): A hart enters debug halt and the device enters HALT with every gate safe. -/
  | debugHalt (h : Fin 5) (req : HaltReq) (jtag : List JtagOp)
  /-- DBG_LOCK (R452): The Deputy sets DBG.LOCK, closing debug access until reset. -/
  | dbgLock (who : Requester) (val : Word)
  /-- REQUEST (R456): A Hewer core requests authority with a nonce. -/
  | request (core : Fin 4) (val : Word)
  /-- RELEASE (R456): A Hewer core releases authority, switching it to the Deputy. -/
  | release (core : Fin 4) (val : Word)
  /-- GRANT (R456): The Deputy grants a pending request with matching nonce, switching authority to HEWER. -/
  | grant (who : Requester) (val : Word)
  /-- DENY (R456): The Deputy denies a pending request. -/
  | deny (who : Requester) (val : Word)
  /-- TAKE (R456): The Deputy takes authority, clearing any pending request. -/
  | take (who : Requester) (val : Word)
  /-- REQ_TIMEOUT (R456): A request neither granted nor denied within 1 ms is cleared. -/
  | reqTimeout
  /-- HBEAT (R458): A Hewer core beats the authority heartbeat while HEWER holds. -/
  | hbeat (who : Requester)
  /-- DBEAT (R458): The Deputy beats the heartbeat and the first DBEAT arms the check. -/
  | dbeat (who : Requester)
  /-- BEAT_LATE (R458): 40 µs without a beat from the holder sets BEAT_LATE. -/
  | beatLate
  /-- HEARTBEAT_STALE (R459): 50 µs without a beat makes the heartbeat stale and triggers the authority conflict response. -/
  | heartbeatStale
  /-- PLL_LOCK (R494): The root PLL locks and LOCKED is set. -/
  | pllLock
  /-- CLK_CFG_WRITE (R495): A CLK.CFG write sets spread, or is ignored while a frame runs or is in SYNC MODE 2. -/
  | clkCfgWrite (who : Requester) (val : Word)
  /-- SPREAD_CHANGE (R495): An accepted spread change takes effect at the next bottom of the triangle. -/
  | spreadChange (rx : BitVec 2)
  /-- CLK_LOSS (R496): The clock monitor declares the root lost by STOP or FREQ and asserts every hard-safe line. -/
  | clkLoss (kind : Bool)
  /-- RELOCK (R497): The PLL relocks within 2 ms, clocks resume in SAFE and CLK_LOSS is tallied. -/
  | relock
  /-- CLKFAIL (R501): No relock within 2 ms causes a CLKFAIL device reset. -/
  | clkfail
  /-- CORE_SUPPLY (R498): A core rail crosses a CORE_SUPPLY limit and CORE_SUPPLY is sent at L4. -/
  | coreSupply (rail : Fin 3) (high : Bool)
  /-- PORC (R501): A core rail below its reset threshold resets the device. -/
  | porc (rail : Fin 3)
  /-- PORA (R501): VKA below 4.2 V resets everything including the always-on domain. -/
  | pora
  /-- PIN_RESET (R501): RESET_N held low for at least 1 µs resets the device. -/
  | pinReset
  /-- SOFT_RESET (R502): TOP.RST.DEVICE written with KEY 0xB7 by a permitted requester resets the device. -/
  | softReset (who : Requester) (val : Word)
  /-- HEWER_RESET (R503): TOP.RST.HEWER from the Deputy resets the Hewer complex and clears HCLAIM. -/
  | hewerReset (who : Requester) (val : Word) (moved : List Nat)
  /-- HCTL_RELEASE (R503): The Deputy sets HCTL bits and the Hewer cores start at HVEC. -/
  | hctlRelease (who : Requester) (val : Word)
  /-- TEMP_WARN (R499): A die crosses above WARN and TEMP_WARN is sent. -/
  | tempWarn (die : Fin 5) (temp : BitVec 8)
  /-- TEMP_SHUT (R499): A die crosses above the shutdown level and TEMP_SHUT is sent at L3 or L4. -/
  | tempShut (die : Fin 5) (temp : BitVec 8)
  /-- MODE_REQ (R506): A MODE_REQ write is decided on its cycle and changes the mode or is refused. -/
  | modeReq (who : Requester) (val : Word)
  /-- POWER_UP_DONE (R506): Rails qualified for 100 µs with the PLL locked move the device from POWER_UP to BOOT. -/
  | powerUpDone
  /-- WAKE_EVENT (R510): An enabled wake event ends SLEEP, raises PWREN and releases a WAKE reset. -/
  | wakeEvent (ev : Fin 9) (level : Bool) (seen : Nat) (pvw : List (BitVec 16))
  /-- BOOT_DONE (R512): The boot ROM chooses a valid image, copies the Deputy part and enters CONFIGURE, or enters UPDATE. -/
  | bootDone
  /-- ERASE (R513): UPD_CTL.ERASE starts zeroing the writable image slot. -/
  | erase (who : Requester) (val : Word)
  /-- VERIFY_SLOT (R513): UPD_CTL.VERIFY starts checking the writable slot's image. -/
  | verifySlot (who : Requester) (val : Word)
  /-- UPD_DONE (R513): An ERASE or VERIFY ends and UPD_STAT is updated. -/
  | updDone
  /-- SLOT_WRITE (R513): A write to an MRAM image slot lands only in UPDATE on the unbooted slot, else WR_IGN. -/
  | slotWrite (who : Requester) (addr : Word) (val : Word)
  /-- SPI_READ (R520): An SPI READ transaction reads one word and returns it with STATUS. -/
  | spiRead (cmd : Byte) (addr : Word) (crc : Byte)
  /-- SPI_WRITE (R520): An SPI WRITE transaction writes one word. -/
  | spiWrite (low : BitVec 5) (addr : Word) (val : Word) (crc : Byte)
  /-- BURST_RD (R523): An SPI BURST_RD reads up to 32 words in ascending order. -/
  | burstRd (addr : Word) (n : Nat) (crc : Byte)
  /-- BURST_WR (R523): An SPI BURST_WR writes up to 32 words in ascending order. -/
  | burstWr (addr : Word) (vals : List Word) (crc : Byte)
  /-- BARRIER (R524): An SPI BARRIER answers once every earlier write of the target has landed. -/
  | barrier (low : BitVec 5) (addr : Word) (crc : Byte)
  /-- SPI_CAST (R524): An SPI CAST takes a cast of the page holding ADDR and answers when complete. -/
  | spiCast (low : BitVec 5) (addr : Word) (crc : Byte)
  /-- SPI_FRAME_ABORT (R522): CS_N rises before the transaction ends and the request or response is lost. -/
  | spiFrameAbort (req : SpiReq) (crc : Option Byte)
  /-- SPI_TIMEOUT (R523): An access not returned within TMO ends the response with TIMEOUT. -/
  | spiTimeout (req : SpiReq) (crc : Byte)
  /-- SPI_LATE_COMPLETION (R523): A timed-out access completes later and the target stops answering BUSY. -/
  | spiLateCompletion
  /-- CAN_MODE_WRITE (R526): A CAN MODE write changes OPMODE, or is ignored under the spread limit. -/
  | canModeWrite (who : Requester) (n : Fin 2) (val : Word)
  /-- CAN_SEND (R527): A SEND write queues transmit mailboxes for arbitration. -/
  | canSend (who : Requester) (n : Fin 2) (val : Word) (starts : Bool)
  /-- CAN_ABORT (R528): An ABORT write withdraws a queued mailbox unless its frame is on the bus. -/
  | canAbort (who : Requester) (n : Fin 2) (val : Word) (starts : Bool)
  /-- TX_DONE (R527): A CAN frame is sent and the mailbox's SENT bit is set. -/
  | txDone (n : Fin 2) (mbox : Fin 16) (starts : Bool) (sof : Nat)
  /-- CAN_RX (R527): A received CAN frame passes acceptance into the FIFO, or is discarded on overflow. -/
  | canRx (n : Fin 2) (words : List Word) (sof : Nat)
  /-- RXNEXT (R549): RXNEXT removes the head element of the CAN receive FIFO. -/
  | rxnext (who : Requester) (n : Fin 2) (val : Word)
  /-- BUSOFF (R528): The CAN controller enters bus-off. -/
  | busoff (n : Fin 2)
  /-- CAN_REJOIN (R528): After 128 occurrences of 11 recessive bits with AUTO_REJOIN, the controller leaves bus-off. -/
  | canRejoin (n : Fin 2)
  /-- UART_TX_WRITE (R529): A UART DATA write queues a byte in the TX FIFO. -/
  | uartTxWrite (who : Requester) (n : Fin 2) (val : Word)
  /-- UART_RX_BYTE (R529): A UART byte is received into the RX FIFO, or discarded with OVF when full. -/
  | uartRxByte (n : Fin 2) (byte : Byte) (perr : Bool) (ferr : Bool) (brk : Bool)
  /-- UART_DATA_READ (R550): A UART DATA read removes the head of the RX FIFO. -/
  | uartDataRead (who : Requester) (n : Fin 2)
  /-- UART_TX_BYTE (R529): A UART finishes sending a byte from its TX FIFO. -/
  | uartTxByte (n : Fin 2)
  /-- I2C_CMD (R530): An I²C CMD with GO starts a write-then-read transaction, or is ignored while BUSY. -/
  | i2cCmd (who : Requester) (val : Word)
  /-- I2C_DONE (R530): An I²C transaction ends DONE or ERROR with its cause. -/
  | i2cDone (cause : Nat) (done : BitVec 6) (data : List Byte) (pec : Byte)
  /-- GPIO_EDGE (R533): A selected edge on a GPIO input sets the line's EVT bit. -/
  | gpioEdge (line : Fin 48) (rising : Bool)
  /-- TIMER_WRAP (R534): A timer channel's count reaches PERIOD and restarts. -/
  | timerWrap (k : Fin 8)
  /-- TIMER_CAPTURE (R534): A selected edge copies a timer channel's count into CAP. -/
  | timerCapture (k : Fin 8) (rising : Bool)
  /-- TAMPER (R535): A tamper input held active through its filter latches an event, may wipe retention words and may wake. -/
  | tamper (pin : Fin 4) (held : Nat)
  /-- TAMPER_LOOP_STEP (R536): Every 8 RTC cycles the LFSR drives TAMP0 and TAMP1 is checked, latching event 1 on two misreads. -/
  | tamperLoopStep (misread : Bool)
  /-- TAMPSTAT_WRITE (R537): A Deputy write clears latched tamper bits whose inputs are no longer active. -/
  | tampstatWrite (who : Requester) (val : Word)
  /-- PORT_UP (R538): A link port sees 1,024 valid idle characters and goes UP. -/
  | portUp (p : Fin 3)
  /-- LINK_LOST (R538): An UP port sees invalid characters for 1 µs, goes DOWN and sends LINK_LOST. -/
  | linkLost (p : Fin 3)
  /-- LINK_FRAME_FORWARD (R540): A received frame not for this device is forwarded by route, or dropped with LINK_ERR. -/
  | linkFrameForward (p : Fin 3) (crc : Word) (frame : LinkFrame)
  /-- LINK_DATA (R540): A DATA frame for this device is delivered into the RX FIFO. -/
  | linkData (p : Fin 3) (crc : Word) (frame : LinkFrame)
  /-- LINK_RD (R542): An RD frame performs register reads as requester 8 and answers with RESP. -/
  | linkRd (p : Fin 3) (crc : Word) (frame : LinkFrame)
  /-- LINK_WR (R542): A WR frame performs register writes as requester 8 and answers with RESP. -/
  | linkWr (p : Fin 3) (crc : Word) (frame : LinkFrame)
  /-- LINK_RESP (R542): A RESP frame for this device is delivered into the RX FIFO. -/
  | linkResp (p : Fin 3) (crc : Word) (frame : LinkFrame)
  /-- LINK_SYNC (R543): A child receives SYNC and records its arrival time. -/
  | linkSync (t1 : BitVec 64) (frac : BitVec 16) (hops : BitVec 4)
  /-- LINK_DREQ (R543): A parent receives DREQ and answers with DRESP carrying the arrival time. -/
  | linkDreq (p : Fin 3) (frac : BitVec 16)
  /-- LINK_DRESP (R543): A child receives DRESP, computes delay and offset, and steps or slews OFS. -/
  | linkDresp (t4 : BitVec 64)
  /-- SYNC_SEND (R543): Every SYNC_INT a parent sends SYNC downstream and every DREQ_DIV a child sends DREQ. -/
  | syncSend (frac : BitVec 16)
  /-- SYNC_LOSS (R546): No SYNC within 4 × SYNC_INT clears LOCKED and MODE 2 frames free-run. -/
  | syncLoss
  /-- LINK_RESEND (R541): An unacknowledged or refused frame is resent, and dropped with LINK_ERR after three resends. -/
  | linkResend (p : Fin 3) (idx : Fin 4) (refused : Bool)
  /-- LINK_ACK (R541): A receiver's acknowledgement frees an unacknowledged frame at the sender. -/
  | linkAck (p : Fin 3) (idx : Fin 4)
  /-- TXCTL_GO (R552): A TXCTL write with GO sends a frame from TXBUF, or is ignored while BUSY. -/
  | txctlGo (who : Requester) (val : Word)
  /-- RXCTL_POP (R552): RXCTL.POP removes the head frame of the link RX FIFO. -/
  | rxctlPop (who : Requester) (val : Word)
  /-- DRIVE_LINK_LOSS (R163): A drive link stops working, so commands and writes to the die can no longer be carried and fault messages are held on the die. -/
  | driveLinkLoss (d : Fin 4)
  /-- DRIVE_LINK_RETURN (R457): A drive link works again, the core die resends any pending holder command first and the die forwards its held fault messages with the held flag. -/
  | driveLinkReturn (d : Fin 4)
  /-- TEMP_FALL (R499): A die's temperature falls below the WARN or shutdown level less 10 °C of hysteresis, re-arming that message and ending a present TEMP_SHUT condition. -/
  | tempFall (die : Fin 5) (temp : BitVec 8)
  /-- CORE_SUPPLY_RETURN (R498): A core rail returns inside its CORE_SUPPLY limits with hysteresis, re-arming CORE_SUPPLY and updating PWR.RAIL. -/
  | coreSupplyReturn (rail : Fin 3)
  /-- DEBUG_RESUME (R451): A hart resumes from debug halt; the device stays in HALT, but the condition no hart is in debug halt can now be met. -/
  | debugResume (h : Fin 5) (jtag : List JtagOp)
  /-- HWDT_ARM (R504): A write of TOP.HWDTh with EN = 1 arms Hewer core h's watchdog and counts as its first kick, or is ignored when WIN_LO ≥ WIN_HI. -/
  | hwdtArm (core : Fin 4) (val : Word)
  /-- CAN_ERROR (R549): A CAN bus error (stuff, form, acknowledgement, bit or CRC) ends a frame, updates LASTERR and the error counters and may enter ERROR_PASSIVE. -/
  | canError (n : Fin 2) (kind : Nat) (tx : Bool)
deriving DecidableEq, Repr

end Sys2Proof
end

