-- ==== Sys2Proof/Config.lean ====
section
/-!
DEFINITION. What a device fixes for its life (its grade, its boot ROM) and the values the spec leaves open.
An opaque constant here has no value that a proof could see: a claim is true whatever it is (log 2).
-/

namespace Sys2Proof.Config

/-- The free value that the model draws for the n-th time (`Dev.free` counts the draws, log 2). -/
opaque freeValue : Nat → BitVec 64

/-- Whether the device is of grade V (true) or D (R1, R2): fixed per device. -/
opaque gradeV : Bool

/-- The bytes of the boot ROM (R434), which the spec does not list. -/
opaque bootRomByte : Nat → Byte

/-- CLK_PER edges that the clock monitor counts in its n-th window of 1,024 oscillator cycles (R496, R516), before the band that
the spec gives it. -/
opaque clkWindow : Nat → Nat

/-- The bytes of the Vuyth map (R75 to R78) past those the spec gives. -/
opaque vuythByte : Nat → Byte

/-- Grade, stepping B0 and part code of `TOP.ID` (R4, R515). -/
def topId : Word := if gradeV then 0x56420001 else 0x44420001

/-- Reset value of `PWR.TEMPCFG` (R499): code 199 for grade V, 174 for grade D. -/
def tempWarnReset : Word := if gradeV then 199 else 174

/-- Shutdown level of every die, as a temperature code (R499). -/
def tempShut : Nat := if gradeV then 224 else 199

end Sys2Proof.Config
end

