-- ==== Sys2Proof/Machine/RegMap.lean ====
section
/-!
DEFINITION. The register tables of the spec: for each page its base, instances and type code (R436), and for each
register its offset, access code, reset value and implemented bits (the register tables of the chapters, R36 to R552).
Reserved bits and reserved offsets read 0 and ignore writes (R9).
-/

namespace Sys2Proof.Machine

/-- The kinds of register page (R436); `mtime` is the machine timer's register block (R442), which has no header. -/
inductive Page where
  | leg | gang | frame | axis | conv | fb | slice | ddie | top | clk | pwr | flt | auth | arb | nv | bg | link | spi | can | uart | i2c | gpio | adc | res | eng | rost | vuy | mtime
deriving DecidableEq, Repr

/-- The access codes of R12. -/
inductive Acc where
  | rw | ro | wo | w1c | w1s | rc | rww | roc
deriving DecidableEq, Repr

/-- One row of a register table: `n` registers from `off`, `stride` bytes apart. -/
structure RegDef where
  off : Nat
  n : Nat
  stride : Nat
  acc : Acc
  reset : Nat
  mask : Nat
deriving DecidableEq, Repr

/-- R36: the header registers from 0x004 on; PAGE_ID and DOMAIN differ per page and are computed below. -/
def headerDefs : List RegDef := [
  ⟨0x000, 1, 4, .ro, 0, 0xFFFFFFFF⟩, ⟨0x004, 1, 4, .ro, 0, 0x00000007⟩, ⟨0x008, 1, 4, .rw, 0, 0x0000007F⟩,
  ⟨0x00C, 1, 4, .wo, 0, 0xFF0000F3⟩, ⟨0x010, 1, 4, .ro, 0, 0xFF00FFEF⟩, ⟨0x014, 1, 4, .ro, 0, 0xFFFFFFFF⟩,
  ⟨0x018, 1, 4, .ro, 0, 0xFFFFFFFF⟩, ⟨0x01C, 1, 4, .wo, 0, 0x00000003⟩, ⟨0x020, 1, 4, .ro, 0, 0xFFFF0001⟩,
  ⟨0x024, 2, 4, .roc, 0, 0xFFFFFFFF⟩, ⟨0x02C, 1, 4, .ro, 0, 0xF0FFFFFF⟩, ⟨0x030, 1, 4, .ro, 0, 0x00FFFFFF⟩]

def legDefs : List RegDef := [
  ⟨0x040, 1, 4, .rww, 0x00001818, 0x0000FFFF⟩,  -- DEAD
  ⟨0x044, 1, 4, .rww, 0x00000030, 0x000000FF⟩,  -- BLANK
  ⟨0x048, 1, 4, .rww, 0x00F0C808, 0x00FFFFFF⟩,  -- THRESH
  ⟨0x04C, 1, 4, .rww, 0x00100F0F, 0x807F1F1F⟩,  -- GATE
  ⟨0x050, 1, 4, .rww, 0x00000026, 0x000000FF⟩,  -- BSTUV
  ⟨0x054, 1, 4, .wo, 0x00000000, 0x00000003⟩,  -- CMD
  ⟨0x058, 1, 4, .roc, 0x00000000, 0xF03F3F83⟩,  -- LSTAT
  ⟨0x05C, 1, 4, .ro, 0x00000000, 0x0000003E⟩,  -- TRIP
  ⟨0x060, 1, 4, .roc, 0x00000000, 0x007F1F1F⟩,  -- STRENGTH
  ⟨0x064, 1, 4, .w1c, 0x00000000, 0x00000007⟩,  -- EVT
  ⟨0x068, 1, 4, .rc, 0x00000000, 0xFFFFFFFF⟩]  -- COUNT

def gangDefs : List RegDef := [
  ⟨0x040, 1, 4, .rww, 0x00000000, 0x8FB3FFFF⟩,  -- CFG
  ⟨0x044, 1, 4, .rww, 0x00000000, 0xF00F3F0F⟩,  -- ROLE
  ⟨0x048, 1, 4, .rww, 0x01100040, 0xBFFFFFFF⟩,  -- SHED
  ⟨0x04C, 1, 4, .rww, 0x00000000, 0xFFFFFFFF⟩,  -- SHED_LVL
  ⟨0x050, 1, 4, .rww, 0x00000000, 0xF03FFF00⟩,  -- FF
  ⟨0x054, 1, 4, .rww, 0x00000100, 0x0000FFFF⟩,  -- PRES
  ⟨0x058, 8, 4, .rww, 0x00000000, 0xBFBFBFBF⟩,  -- SLOT0 to SLOT7
  ⟨0x078, 1, 4, .rww, 0x00000000, 0xBFBFBFBF⟩,  -- SPARE
  ⟨0x080, 1, 4, .roc, 0x00000000, 0xFFF3FFFF⟩,  -- LIVE
  ⟨0x084, 1, 4, .roc, 0x00000000, 0x001F00FF⟩,  -- STAT
  ⟨0x088, 8, 4, .roc, 0x00000000, 0x000000FF⟩,  -- MAP0 to MAP7
  ⟨0x0A8, 1, 4, .rw, 0x00000000, 0x0000FFFF⟩,  -- LOAD
  ⟨0x0AC, 1, 4, .w1c, 0x00000000, 0x0000003F⟩,  -- EVT
  ⟨0x0B0, 1, 4, .rw, 0x00000000, 0x0000003F⟩,  -- IEN
  ⟨0x0B4, 1, 4, .rc, 0x00000000, 0xFFFFFFFF⟩,  -- COUNT
  ⟨0x0B8, 1, 4, .rc, 0x00000000, 0x0000FFFF⟩]  -- REGANG

def frameDefs : List RegDef := [
  ⟨0x040, 1, 4, .rww, 0x00007530, 0x8000FFFF⟩,  -- CFG
  ⟨0x044, 1, 4, .rww, 0x00000000, 0xCF00FFFF⟩,  -- SYNC
  ⟨0x048, 1, 4, .rww, 0x00000040, 0x00000FFF⟩,  -- LATE
  ⟨0x04C, 1, 4, .rww, 0x8000FFFF, 0x8000FFFF⟩,  -- REFR
  ⟨0x050, 1, 4, .rww, 0x00000008, 0x000000FF⟩,  -- DHOLD
  ⟨0x054, 1, 4, .rww, 0x00000000, 0xFFFFFFFF⟩,  -- MSEL_LO
  ⟨0x058, 1, 4, .rww, 0x00000000, 0xFFFFFFFF⟩,  -- MSEL_HI
  ⟨0x060, 1, 4, .roc, 0x00000000, 0xFFF7FFFF⟩,  -- STAT
  ⟨0x064, 1, 4, .roc, 0x00000000, 0x0000FFFF⟩,  -- TICK
  ⟨0x068, 1, 4, .w1c, 0x00000000, 0x0000007F⟩,  -- EVT
  ⟨0x06C, 1, 4, .rw, 0x00000000, 0x0000007F⟩,  -- IEN
  ⟨0x070, 1, 4, .ro, 0x00000000, 0xFFFFFFFF⟩,  -- LATELOG
  ⟨0x074, 1, 4, .rc, 0x00000000, 0xFFFFFFFF⟩,  -- COUNT
  ⟨0x078, 1, 4, .rc, 0x00000000, 0xFFFFFFFF⟩,  -- COUNT2
  ⟨0x100, 64, 4, .rww, 0x00000000, 0x000FFFFF⟩,  -- MDUTY0 to MDUTY63
  ⟨0x200, 64, 4, .roc, 0x00000000, 0xF00FFFFF⟩]  -- SDUTY0 to SDUTY63

def axisDefs : List RegDef := [
  ⟨0x040, 1, 4, .rww, 0x00000000, 0xFFFFCFF0⟩,  -- CFG
  ⟨0x044, 1, 4, .rww, 0x00000000, 0xFFFFFFFF⟩,  -- TAP0
  ⟨0x048, 1, 4, .rww, 0x00000000, 0xFFFFFFFF⟩,  -- TAP1
  ⟨0x04C, 1, 4, .rww, 0x00F30000, 0x01FF0FFF⟩,  -- VLIM
  ⟨0x050, 1, 4, .rww, 0x00000000, 0x0FFF0FFF⟩,  -- VLIM2
  ⟨0x054, 1, 4, .rww, 0x46000000, 0xFF00FFFF⟩,  -- ILIM
  ⟨0x058, 1, 4, .rww, 0x00000000, 0xFFFFFFFF⟩,  -- TLIM
  ⟨0x05C, 1, 4, .rww, 0xFFFF0001, 0xFFFFFFFF⟩,  -- SLIM
  ⟨0x060, 1, 4, .rww, 0x00000000, 0x000000FF⟩,  -- REFFMT
  ⟨0x064, 1, 4, .rww, 0x00000000, 0x00FFFFFF⟩,  -- PHIN
  ⟨0x068, 1, 4, .rww, 0x00000000, 0x00FFFFFF⟩,  -- PHK
  ⟨0x06C, 1, 4, .rww, 0x00000000, 0x00FFFFFF⟩,  -- DCK
  ⟨0x070, 1, 4, .rww, 0x20002000, 0x3FFF3FFF⟩,  -- ZERO
  ⟨0x074, 1, 4, .rww, 0x00002010, 0xBFBFFFFF⟩,  -- DCR
  ⟨0x078, 1, 4, .rww, 0x3FFF0000, 0x3FFF3FFF⟩,  -- SRNG
  ⟨0x07C, 1, 4, .rww, 0x00000000, 0x8000FFFF⟩,  -- SSUM
  ⟨0x080, 1, 4, .rww, 0x00000000, 0xFFFFFFFF⟩,  -- LR
  ⟨0x084, 1, 4, .rww, 0x07D00000, 0xFFFFFFFF⟩,  -- SOUND
  ⟨0x088, 1, 4, .rw, 0x00000000, 0xFFFFFFFF⟩,  -- IREQ
  ⟨0x08C, 1, 4, .wo, 0x00000000, 0x0000000F⟩,  -- CMD
  ⟨0x090, 1, 4, .roc, 0x00000000, 0xF07F01FF⟩,  -- ASTAT
  ⟨0x094, 1, 4, .roc, 0x00000000, 0xFFFFFFFF⟩,  -- IEFF
  ⟨0x098, 1, 4, .roc, 0x00000000, 0xFFFFFFFF⟩,  -- SPEED
  ⟨0x09C, 1, 4, .roc, 0x00000000, 0xFFFFFFFF⟩,  -- VSTAT
  ⟨0x0A0, 1, 4, .roc, 0x00000000, 0xFFFFFFFF⟩,  -- RECON_A
  ⟨0x0A4, 1, 4, .roc, 0x00000000, 0xFFFFFFFF⟩,  -- RECON_B
  ⟨0x0A8, 1, 4, .w1c, 0x00000000, 0x000001FF⟩,  -- EVT
  ⟨0x0AC, 1, 4, .rw, 0x00000000, 0x000001FF⟩,  -- IEN
  ⟨0x0B0, 1, 4, .rc, 0x00000000, 0xFFFFFFFF⟩,  -- COUNT
  ⟨0x0C0, 1, 4, .rww, 0x00000000, 0x003F3F3F⟩,  -- SNDA
  ⟨0x0C4, 1, 4, .rww, 0x00000000, 0x003F3F3F⟩,  -- SNDB
  ⟨0x0C8, 1, 4, .rww, 0x00000000, 0x00FFFFFF⟩,  -- SNDK
  ⟨0x0CC, 1, 4, .rww, 0x00400000, 0xFFFF3FFF⟩,  -- SNDL
  ⟨0x0D0, 1, 4, .rww, 0x00000000, 0x0FFF0FFF⟩,  -- SEED
  ⟨0x0D4, 1, 4, .rww, 0x14030032, 0xFF0FFFFF⟩,  -- CATCH
  ⟨0x0D8, 1, 4, .rww, 0x00050002, 0xFFFFFFFF⟩,  -- RUN
  ⟨0x0DC, 1, 4, .rww, 0x00000000, 0xFFFFFFFF⟩,  -- DEC
  ⟨0x0E0, 1, 4, .rww, 0x00000000, 0xFFFFFFFF⟩,  -- OBSL
  ⟨0x0E4, 1, 4, .rww, 0x00000000, 0xFFFFFFFF⟩,  -- BUSW
  ⟨0x0E8, 1, 4, .rww, 0x00000000, 0xFFFFFFFF⟩,  -- BUSL
  ⟨0x0EC, 1, 4, .rww, 0x00000000, 0x8FFFFFFF⟩,  -- SEL
  ⟨0x0F0, 1, 4, .rww, 0x00000000, 0x8000FFFF⟩,  -- HOLD
  ⟨0x0F4, 1, 4, .roc, 0x00000000, 0xFE0FFFFF⟩,  -- HSTAT
  ⟨0x0F8, 1, 4, .roc, 0x00000000, 0xF000FF00⟩,  -- SNDR
  ⟨0x0FC, 1, 4, .roc, 0x00000000, 0xFFFFFFFF⟩,  -- SNDV
  ⟨0x100, 1, 4, .w1c, 0x00000000, 0x000000FF⟩,  -- EVT2
  ⟨0x104, 1, 4, .rw, 0x00000000, 0x000000FF⟩,  -- IEN2
  ⟨0x108, 1, 4, .rc, 0x00000000, 0xFFFFFFFF⟩]  -- COUNT2

def convDefs : List RegDef := [
  ⟨0x040, 1, 4, .rww, 0x00000000, 0xFFFFF8FF⟩,  -- CFG
  ⟨0x044, 1, 4, .rww, 0xFFFFFF00, 0xFFFFFF00⟩,  -- TAP
  ⟨0x048, 1, 4, .rww, 0x00000000, 0xFFFFFFFF⟩,  -- VREF
  ⟨0x04C, 1, 4, .rww, 0x00000000, 0xFFFFFFFF⟩,  -- SS
  ⟨0x050, 1, 4, .rww, 0x00000000, 0xFFFFFFFF⟩,  -- ILIM
  ⟨0x054, 1, 4, .rww, 0x00000000, 0x0000FFFF⟩,  -- OLT
  ⟨0x058, 1, 4, .rww, 0x00002000, 0x3F003FFF⟩,  -- FAST
  ⟨0x05C, 1, 4, .rww, 0x00000000, 0x00FFFFFF⟩,  -- FASTK
  ⟨0x060, 1, 4, .rww, 0x00001903, 0xFFFFFFFF⟩,  -- FASTL
  ⟨0x064, 1, 4, .rww, 0x00000064, 0x0000FFFF⟩,  -- FASTW
  ⟨0x068, 1, 4, .rww, 0x00000000, 0xFFFFFFFF⟩,  -- PCHG
  ⟨0x06C, 1, 4, .rww, 0x00000000, 0xFFFFFFFF⟩,  -- PCHG2
  ⟨0x070, 1, 4, .rww, 0x00000000, 0x80FFFFFF⟩,  -- PACK
  ⟨0x074, 1, 4, .rww, 0x00000000, 0xFFFFFFFF⟩,  -- DUMP
  ⟨0x078, 1, 4, .rww, 0x00000000, 0xFFFFFFFF⟩,  -- LFBASE
  ⟨0x07C, 1, 4, .rww, 0x00000000, 0xFFFF000F⟩,  -- LFCFG
  ⟨0x080, 1, 4, .wo, 0x00000000, 0x00000003⟩,  -- CMD
  ⟨0x084, 1, 4, .roc, 0x00000000, 0xFFF001FF⟩,  -- CSTAT
  ⟨0x088, 1, 4, .roc, 0x00000000, 0xFFFFFFFF⟩,  -- VSTAT
  ⟨0x08C, 1, 4, .roc, 0x00000000, 0xFFFFFFFF⟩,  -- MEAS
  ⟨0x090, 1, 4, .roc, 0x00000000, 0xFFFF0000⟩,  -- MEAS2
  ⟨0x094, 1, 4, .w1c, 0x00000000, 0x00000FFF⟩,  -- EVT
  ⟨0x098, 1, 4, .rw, 0x00000000, 0x00000FFF⟩,  -- IEN
  ⟨0x09C, 1, 4, .rc, 0x00000000, 0xFFFFFFFF⟩,  -- COUNT
  ⟨0x0A0, 1, 4, .ro, 0x00000000, 0xFFFF0003⟩]  -- LFSTAT

def fbDefs : List RegDef := [
  ⟨0x040, 1, 4, .rww, 0x00000000, 0xFEFF3F03⟩,  -- CFG
  ⟨0x044, 1, 4, .rww, 0x00000000, 0xFFFFFFFF⟩,  -- CPR
  ⟨0x048, 1, 4, .rww, 0x00000000, 0xFFFFFFFF⟩,  -- IDXPOS
  ⟨0x04C, 1, 4, .rww, 0x00000000, 0xFFFFFFFF⟩,  -- EOFS
  ⟨0x050, 1, 4, .rww, 0x08000018, 0xFF00FFFF⟩,  -- EDGE
  ⟨0x054, 1, 4, .rww, 0x17700804, 0xFFFFFFFF⟩,  -- SPDCFG
  ⟨0x058, 1, 4, .rww, 0x00000064, 0x0000FFFF⟩,  -- ZEROT
  ⟨0x05C, 1, 4, .rww, 0x00000000, 0xFFFCFFFF⟩,  -- ABS
  ⟨0x060, 1, 4, .rww, 0x000407D0, 0x7FFFFFFF⟩,  -- ABS2
  ⟨0x064, 1, 4, .rww, 0x00000000, 0xC03FFFFF⟩,  -- EMU
  ⟨0x068, 1, 4, .rww, 0x00100006, 0xFFFFFFFF⟩,  -- EMU2
  ⟨0x06C, 1, 4, .rww, 0x00000000, 0x8F000000⟩,  -- CAP
  ⟨0x070, 1, 4, .wo, 0x00000000, 0x00000007⟩,  -- CMD
  ⟨0x074, 1, 4, .rw, 0x00000000, 0xFFFFFFFF⟩,  -- PRESET
  ⟨0x080, 1, 4, .roc, 0x00000000, 0xFFFFFFFF⟩,  -- POS
  ⟨0x084, 1, 4, .roc, 0x00000000, 0xFFFFFFFF⟩,  -- SPEED
  ⟨0x088, 1, 4, .roc, 0x00000000, 0xFFFFFFFF⟩,  -- ESPEED
  ⟨0x08C, 1, 4, .roc, 0xE0000000, 0xFF70FF07⟩,  -- FSTAT
  ⟨0x090, 1, 4, .ro, 0x00000000, 0xFFFFFFFF⟩,  -- IDXCAP
  ⟨0x094, 1, 4, .ro, 0x00000000, 0xFFFFFFFF⟩,  -- IDXDEV
  ⟨0x098, 1, 4, .ro, 0x00000000, 0xFFFFFFFF⟩,  -- ABSWORD
  ⟨0x09C, 1, 4, .ro, 0x00000000, 0xB07F003F⟩,  -- ABSSTAT
  ⟨0x0A0, 1, 4, .ro, 0x00000000, 0xFFFFFFFF⟩,  -- POSCAP
  ⟨0x0A4, 1, 4, .w1c, 0x00000000, 0x0000007F⟩,  -- EVT
  ⟨0x0A8, 1, 4, .rw, 0x00000000, 0x0000007F⟩,  -- IEN
  ⟨0x0AC, 1, 4, .rc, 0x00000000, 0xFFFFFFFF⟩,  -- COUNT
  ⟨0x0B0, 1, 4, .rc, 0x00000000, 0xFFFFFFFF⟩]  -- COUNT2

def sliceDefs : List RegDef := [
  ⟨0x040, 1, 4, .roc, 0x00000000, 0xF300FFFF⟩,  -- SSTAT
  ⟨0x044, 1, 4, .roc, 0x00000000, 0x000003FF⟩,  -- OFS
  ⟨0x048, 1, 4, .roc, 0x00000000, 0x00000FFF⟩,  -- GAIN
  ⟨0x04C, 1, 4, .roc, 0x00000000, 0x0000003F⟩,  -- SKEW
  ⟨0x050, 1, 4, .ro, 0x00000000, 0xFFFFFFFF⟩,  -- CONV_LO
  ⟨0x054, 1, 4, .ro, 0x00000000, 0xFFFFFFFF⟩,  -- CONV_HI
  ⟨0x058, 1, 4, .ro, 0x00000000, 0x80000007⟩]  -- LASTFAIL

def ddieDefs : List RegDef := [
  ⟨0x040, 1, 4, .rw, 0x0C400300, 0xFFFF0F03⟩,  -- CFG
  ⟨0x044, 1, 4, .rw, 0x00000023, 0x000000FF⟩,  -- VDRV_UV
  ⟨0x048, 1, 4, .roc, 0x00000000, 0xFFFF031F⟩,  -- DSTAT
  ⟨0x04C, 1, 4, .w1c, 0x00000000, 0x000003FF⟩,  -- EVT
  ⟨0x050, 1, 4, .rw, 0x00000000, 0x000003FF⟩,  -- IEN
  ⟨0x054, 1, 4, .rc, 0x00000000, 0xFFFFFFFF⟩,  -- LINKCNT
  ⟨0x058, 1, 4, .rc, 0x00000000, 0xFFFFFFFF⟩,  -- LEGCNT
  ⟨0x05C, 1, 4, .rc, 0x00000000, 0x0000FFFF⟩,  -- STRCNT
  ⟨0x060, 1, 4, .wo, 0x00000000, 0x0000FF03⟩,  -- ST_CMD
  ⟨0x064, 1, 4, .rw, 0xFFFFFFFF, 0xFFFFFFFF⟩,  -- ST_MASK_LO
  ⟨0x068, 1, 4, .rw, 0xFFFFFFFF, 0xFFFFFFFF⟩,  -- ST_MASK_HI
  ⟨0x06C, 1, 4, .ro, 0x00000000, 0xFFFFFFFF⟩,  -- ST_FAIL_LO
  ⟨0x070, 1, 4, .ro, 0x00000000, 0xFFFFFFFF⟩,  -- ST_FAIL_HI
  ⟨0x074, 1, 4, .ro, 0x00000000, 0xFFFFFFFF⟩,  -- ST_SKIP_LO
  ⟨0x078, 1, 4, .ro, 0x00000000, 0xFFFFFFFF⟩,  -- ST_SKIP_HI
  ⟨0x07C, 1, 4, .ro, 0x00000000, 0x80003F31⟩]  -- ST_FIRST

def topDefs : List RegDef := [
  ⟨0x040, 1, 4, .ro, 0x00000000, 0xFFFFFFFF⟩,  -- ID
  ⟨0x044, 1, 4, .roc, 0x00000000, 0xFFFF00FF⟩,  -- MODE
  ⟨0x048, 1, 4, .wo, 0x00000000, 0x0000000F⟩,  -- MODE_REQ
  ⟨0x04C, 1, 4, .ro, 0x00000000, 0x800F0F00⟩,  -- MODE_STAT
  ⟨0x050, 1, 4, .wo, 0x00000000, 0xFF000003⟩,  -- RST
  ⟨0x054, 1, 4, .w1c, 0x00000001, 0x0000007F⟩,  -- RSTCAUSE
  ⟨0x058, 1, 4, .rw, 0x00000000, 0x0000000F⟩,  -- HCTL
  ⟨0x05C, 1, 4, .rw, 0x00000000, 0xFFFFFFFF⟩,  -- HVEC
  ⟨0x060, 1, 4, .ro, 0x00000000, 0xFFFFFFFF⟩,  -- DEVTICK_LO
  ⟨0x064, 1, 4, .ro, 0x00000000, 0xFFFFFFFF⟩,  -- DEVTICK_HI
  ⟨0x068, 1, 4, .w1c, 0x00000000, 0x00000007⟩,  -- EVT
  ⟨0x06C, 1, 4, .rw, 0x00000000, 0x00000007⟩,  -- IEN
  ⟨0x070, 4, 8, .rw, 0x00000000, 0x8FFF0FFF⟩,  -- HWDTh
  ⟨0x074, 4, 8, .wo, 0x00000000, 0x000000FF⟩]  -- HKICKh

def clkDefs : List RegDef := [
  ⟨0x040, 1, 4, .rw, 0x00000000, 0x8000000F⟩,  -- CFG
  ⟨0x044, 1, 4, .roc, 0x00000000, 0xF000FFFF⟩,  -- STAT
  ⟨0x048, 1, 4, .w1c, 0x00000000, 0x00000007⟩,  -- EVT
  ⟨0x04C, 1, 4, .rw, 0x00000000, 0x00000007⟩,  -- IEN
  ⟨0x050, 1, 4, .rc, 0x00000000, 0x0000FFFF⟩]  -- LOSSCNT

def pwrDefs : List RegDef := [
  ⟨0x040, 1, 4, .roc, 0x00000000, 0x80000707⟩,  -- RAIL
  ⟨0x044, 1, 4, .roc, 0x00000000, 0x000000FF⟩,  -- TEMP
  ⟨0x048, 1, 4, .rw, 0x00000000, 0x000000FF⟩,  -- TEMPCFG
  ⟨0x04C, 1, 4, .w1c, 0x00000000, 0x0000000F⟩,  -- EVT
  ⟨0x050, 1, 4, .rw, 0x00000000, 0x0000000F⟩,  -- IEN
  ⟨0x054, 1, 4, .rw, 0x00000000, 0x000301FF⟩,  -- WAKE_EN
  ⟨0x058, 1, 4, .w1c, 0x0F000000, 0x0F0001FF⟩,  -- WAKE_CAUSE
  ⟨0x05C, 1, 4, .rw, 0x0400000A, 0xFF00007F⟩,  -- PVW
  ⟨0x060, 1, 4, .rw, 0x00000005, 0x000000FF⟩,  -- CANW
  ⟨0x064, 1, 4, .ro, 0x00000000, 0xFFFFFFFF⟩,  -- RTC_LO
  ⟨0x068, 1, 4, .ro, 0x00000000, 0xFFFFFFFF⟩,  -- RTC_HI
  ⟨0x06C, 1, 4, .rw, 0xFFFFFFFF, 0xFFFFFFFF⟩,  -- ALARM_LO
  ⟨0x070, 1, 4, .rw, 0xFFFFFFFF, 0xFFFFFFFF⟩,  -- ALARM_HI
  ⟨0x080, 8, 4, .rw, 0x00000000, 0xFFFFFFFF⟩]  -- RET0 to RET7

def fltDefs : List RegDef := [
  ⟨0x040, 1, 4, .rw, 0x03010010, 0x0FFFFFFF⟩,  -- RETRY
  ⟨0x044, 1, 4, .rw, 0x00000064, 0x0000FFFF⟩,  -- ESC
  ⟨0x048, 1, 4, .rw, 0x03E80064, 0xFFFFFFFF⟩,  -- QUIET
  ⟨0x04C, 1, 4, .wo, 0x00000000, 0xFFFFFFFF⟩,  -- RECOVER
  ⟨0x050, 1, 4, .ro, 0x00000000, 0xFFFFFFFF⟩,  -- REC_STAT
  ⟨0x054, 1, 4, .ro, 0x00000000, 0x0000FFFF⟩,  -- REC_LEFT
  ⟨0x058, 1, 4, .ro, 0x00000000, 0x0000FFFF⟩,  -- RECCNT
  ⟨0x05C, 1, 4, .roc, 0x00000000, 0xFF000000⟩,  -- STAT
  ⟨0x060, 1, 4, .w1c, 0x00000000, 0x0000FFFF⟩,  -- EVT
  ⟨0x064, 1, 4, .rw, 0x00000000, 0x0000FFFF⟩,  -- IEN
  ⟨0x068, 1, 4, .wo, 0x00000000, 0x00000003⟩,  -- CMD
  ⟨0x06C, 1, 4, .ro, 0x00000000, 0xFFFFFFFF⟩,  -- ECCADDR
  ⟨0x070, 1, 4, .ro, 0x00000000, 0xFFFFFFFF⟩,  -- FIRST_LO
  ⟨0x074, 1, 4, .ro, 0x00000000, 0xFFFFFFFF⟩,  -- FIRST_HI
  ⟨0x078, 1, 4, .ro, 0x00000000, 0xFFFFFFFF⟩,  -- FIRST_TICK_LO
  ⟨0x07C, 1, 4, .ro, 0x00000000, 0xFFFFFFFF⟩,  -- FIRST_TICK_HI
  ⟨0x080, 1, 4, .rc, 0x00000000, 0xFFFFFFFF⟩,  -- TALLY_LO
  ⟨0x084, 1, 4, .ro, 0x00000000, 0xFFFFFFFF⟩,  -- TALLY_HI
  ⟨0x088, 1, 4, .ro, 0x00000000, 0xFFFF007F⟩,  -- TSTAT
  ⟨0x08C, 1, 4, .rw, 0x00000000, 0xFFFFFFFF⟩,  -- INJ_CTL
  ⟨0x090, 1, 4, .rw, 0x00000000, 0xFFFFFFFF⟩,  -- INJ_ADDR
  ⟨0x094, 1, 4, .rw, 0x000003E8, 0x0000FFFF⟩,  -- INJ_TO
  ⟨0x098, 1, 4, .ro, 0x00000000, 0xFFFFFFFF⟩,  -- INJ_STAT
  ⟨0x09C, 1, 4, .rc, 0x00000000, 0x0000FFFF⟩,  -- INJCNT
  ⟨0x100, 32, 4, .rw, 0x00000100, 0x00000107⟩,  -- CLSCFG0 to CLSCFG31
  ⟨0x180, 32, 4, .rc, 0x00000000, 0x0000FFFF⟩]  -- CLSCNT0 to CLSCNT31

def authDefs : List RegDef := [
  ⟨0x040, 1, 4, .roc, 0x00000000, 0xF0F30301⟩,  -- STATE
  ⟨0x044, 1, 4, .wo, 0x00000000, 0xFFFFFFFF⟩,  -- HCMD
  ⟨0x048, 1, 4, .wo, 0x00000000, 0xFFFFFFFF⟩,  -- DCMD
  ⟨0x04C, 1, 4, .wo, 0x00000000, 0xFFFFFFFF⟩,  -- HBEAT
  ⟨0x050, 1, 4, .wo, 0x00000000, 0xFFFFFFFF⟩,  -- DBEAT
  ⟨0x054, 1, 4, .roc, 0x00000000, 0xFFFFFFFF⟩,  -- BEAT_AGE
  ⟨0x058, 1, 4, .ro, 0x00000000, 0xFFFFFFFF⟩,  -- REQ
  ⟨0x05C, 1, 4, .w1c, 0x00000000, 0x000003FF⟩,  -- EVT
  ⟨0x060, 1, 4, .rw, 0x00000000, 0x000003FF⟩,  -- IEN
  ⟨0x064, 1, 4, .ro, 0x00000000, 0xFFFFFFFF⟩,  -- CONFLICT
  ⟨0x068, 1, 4, .ro, 0x00000000, 0xFFFFFFFF⟩,  -- BLKLOG
  ⟨0x06C, 1, 4, .rc, 0x00000000, 0xFFFFFFFF⟩,  -- COUNT
  ⟨0x070, 1, 4, .rw, 0x00000000, 0xFFFFFFFF⟩,  -- DWDT
  ⟨0x074, 1, 4, .wo, 0x00000000, 0xFFFFFFFF⟩,  -- DKICK
  ⟨0x078, 1, 4, .w1s, 0x00000000, 0xFFFFFFFF⟩]  -- DBG

def arbDefs : List RegDef := [
  ⟨0x100, 8, 16, .rw, 0x00000000, 0xFFFFFFF0⟩,  -- DMA_DESC
  ⟨0x104, 8, 16, .wo, 0x00000000, 0x00000003⟩,  -- DMA_CTL
  ⟨0x108, 8, 16, .ro, 0x00000000, 0xF0000000⟩,  -- DMA_STAT
  ⟨0x10C, 8, 16, .ro, 0x00000000, 0xFFFFFFFF⟩,  -- DMA_CUR
  ⟨0x040, 1, 4, .rw, 0x00000040, 0x8000FFFF⟩,  -- CTL
  ⟨0x044, 1, 4, .rw, 0x00000100, 0x0000FFFF⟩,  -- STARVE
  ⟨0x048, 1, 4, .rw, 0x00000000, 0x0001FFFF⟩,  -- SBMASK
  ⟨0x04C, 1, 4, .rw, 0x31664444, 0x77777777⟩,  -- PRIO0
  ⟨0x050, 1, 4, .rw, 0x22222223, 0x77777777⟩,  -- PRIO1
  ⟨0x054, 1, 4, .rw, 0x00000002, 0x00000007⟩,  -- PRIO2
  ⟨0x058, 1, 4, .roc, 0x1F1F0000, 0x9F1F0000⟩,  -- GSTAT
  ⟨0x05C, 1, 4, .roc, 0x00000000, 0x0001FFFF⟩,  -- WAITING
  ⟨0x060, 1, 4, .w1c, 0x00000000, 0x00000070⟩,  -- STARVED
  ⟨0x064, 1, 4, .w1c, 0x00000000, 0x0000001F⟩,  -- EVT
  ⟨0x068, 1, 4, .rw, 0x00000000, 0x0000001F⟩,  -- IEN
  ⟨0x06C, 1, 4, .rc, 0x00000000, 0xF800FFFF⟩,  -- MAXAGE
  ⟨0x070, 1, 4, .rc, 0x00000000, 0xF8FFFFFF⟩]  -- LONGEST

def nvDefs : List RegDef := [
  ⟨0x040, 1, 4, .rw, 0x80000040, 0x800000FF⟩,  -- NVSK
  ⟨0x044, 1, 4, .ro, 0x20000000, 0xFFFFFFFF⟩,  -- NVSK_POS
  ⟨0x048, 1, 4, .rc, 0x00000000, 0xFFFFFFFF⟩,  -- NVSK_CNT
  ⟨0x04C, 1, 4, .ro, 0x00000000, 0x0000FFFF⟩,  -- NVSK_PASS
  ⟨0x050, 1, 4, .roc, 0x00000000, 0xC0000FFF⟩,  -- JSTAT
  ⟨0x054, 1, 4, .wo, 0x00000000, 0x00000001⟩,  -- JCMD
  ⟨0x058, 1, 4, .rc, 0x00000000, 0xFFFFFFFF⟩,  -- JCNT
  ⟨0x060, 8, 4, .roc, 0x00000000, 0xFFFFFFFF⟩,  -- JMAP0 to JMAP7
  ⟨0x080, 1, 4, .w1c, 0x00000000, 0x00000007⟩,  -- EVT
  ⟨0x084, 1, 4, .rw, 0x00000000, 0x00000007⟩,  -- IEN
  ⟨0x100, 1, 4, .wo, 0x00000000, 0x00000003⟩,  -- UPD_CTL
  ⟨0x104, 1, 4, .ro, 0x00000000, 0xF0000003⟩,  -- UPD_STAT
  ⟨0x108, 1, 4, .ro, 0x00000000, 0xFFFFFFFF⟩,  -- UPD_PROG
  ⟨0x10C, 1, 4, .w1c, 0x00000000, 0x00000003⟩]  -- UPD_EVT

def bgDefs : List RegDef := [
  ⟨0x040, 1, 4, .rw, 0xC0000010, 0xC00000FF⟩,  -- SKCFG
  ⟨0x044, 1, 4, .ro, 0x10000000, 0xFFFFFFFF⟩,  -- SKPOS_S
  ⟨0x048, 1, 4, .ro, 0x18000000, 0xFFFFFFFF⟩,  -- SKPOS_D
  ⟨0x04C, 1, 4, .ro, 0x00000000, 0xFFFFFFFF⟩,  -- SKPASS
  ⟨0x050, 1, 4, .rc, 0x00000000, 0xFFFFFFFF⟩,  -- SKCNT
  ⟨0x054, 1, 4, .rw, 0x000003E8, 0x80FFFFFF⟩,  -- TCFG
  ⟨0x058, 1, 4, .rw, 0x23222120, 0x3F3F3F3F⟩,  -- TIN0
  ⟨0x05C, 1, 4, .rw, 0x27262524, 0x3F3F3F3F⟩,  -- TIN1
  ⟨0x060, 1, 4, .rw, 0x10000000, 0xFFFFFFFF⟩,  -- TBASE
  ⟨0x064, 1, 4, .rw, 0x00000040, 0x0000FFFF⟩,  -- TLEN
  ⟨0x068, 1, 4, .ro, 0x00000000, 0x0000FFFF⟩,  -- TSEQ
  ⟨0x06C, 1, 4, .rw, 0x00000000, 0xBF3FFFFF⟩,  -- DCFG
  ⟨0x070, 1, 4, .rw, 0x00000064, 0x0000FFFF⟩,  -- DSETTLE
  ⟨0x074, 1, 4, .rw, 0x03E801F4, 0xFFFFFFFF⟩,  -- DRA
  ⟨0x078, 1, 4, .rw, 0x00000000, 0xFFFFFFFF⟩,  -- DK
  ⟨0x07C, 1, 4, .rw, 0x01F40064, 0xFFFFFFFF⟩,  -- DLVL
  ⟨0x080, 1, 4, .roc, 0x00000000, 0x8000FFFF⟩,  -- DRES
  ⟨0x084, 1, 4, .roc, 0x00000000, 0x3800FFFF⟩,  -- DSTAT
  ⟨0x088, 1, 4, .w1c, 0x00000000, 0x0000001F⟩,  -- EVT
  ⟨0x08C, 1, 4, .rw, 0x00000000, 0x0000001F⟩]  -- IEN

def linkDefs : List RegDef := [
  ⟨0x040, 1, 4, .rw, 0x00000000, 0xF0003FFF⟩,  -- CFG
  ⟨0x044, 1, 4, .rw, 0x00000001, 0x3FFF3FFF⟩,  -- ROUTE_A
  ⟨0x048, 1, 4, .rw, 0x00000001, 0x3FFF3FFF⟩,  -- ROUTE_B
  ⟨0x04C, 1, 4, .rw, 0x000803E8, 0x00FFFFFF⟩,  -- SYNC
  ⟨0x050, 1, 4, .roc, 0x00000000, 0xCF000FFF⟩,  -- PSTAT
  ⟨0x054, 1, 4, .roc, 0x00000000, 0x0000FFFF⟩,  -- TSERR
  ⟨0x058, 1, 4, .roc, 0x00000000, 0x0000FFFF⟩,  -- DELAY
  ⟨0x05C, 2, 4, .roc, 0x00000000, 0xFFFFFFFF⟩,  -- OFS_LO/HI
  ⟨0x064, 1, 4, .w1c, 0x00000000, 0x0000007F⟩,  -- EVT
  ⟨0x068, 1, 4, .rw, 0x00000000, 0x0000007F⟩,  -- IEN
  ⟨0x06C, 1, 4, .rc, 0x00000000, 0xFFFFFFFF⟩,  -- COUNT
  ⟨0x070, 1, 4, .ro, 0x00000000, 0x830F3FFF⟩,  -- ERRLOG
  ⟨0x074, 1, 4, .wo, 0x00000000, 0xFFFFF0FF⟩,  -- TXCTL
  ⟨0x078, 1, 4, .ro, 0x00000000, 0xC0000000⟩,  -- TXSTAT
  ⟨0x07C, 1, 4, .ro, 0x00000000, 0x8FFFFFFF⟩,  -- RXSTAT
  ⟨0x080, 1, 4, .wo, 0x00000000, 0x00000001⟩,  -- RXCTL
  ⟨0x400, 64, 4, .rw, 0x00000000, 0xFFFFFFFF⟩,  -- TXBUF
  ⟨0x500, 64, 4, .ro, 0x00000000, 0xFFFFFFFF⟩]  -- RXBUF

def spiDefs : List RegDef := [
  ⟨0x040, 1, 4, .rw, 0x00000014, 0x0000FFFF⟩,  -- CFG
  ⟨0x044, 1, 4, .w1c, 0x00000000, 0x0000001F⟩,  -- EVT
  ⟨0x048, 1, 4, .rw, 0x00000000, 0x0000001F⟩,  -- IEN
  ⟨0x04C, 1, 4, .rc, 0x00000000, 0xFFFFFFFF⟩,  -- COUNT
  ⟨0x050, 1, 4, .ro, 0x00000000, 0x8F1F00FF⟩,  -- ERRLOG
  ⟨0x054, 1, 4, .ro, 0x00000000, 0xFFFFFFFF⟩]  -- ERRADDR

def canDefs : List RegDef := [
  ⟨0x040, 1, 4, .rw, 0x00000000, 0xF0000F00⟩,  -- MODE
  ⟨0x044, 1, 4, .rw, 0x004F878F, 0x7FFFFFFF⟩,  -- ARBTIME
  ⟨0x048, 1, 4, .rw, 0x00001E77, 0x001F1FFF⟩,  -- DATATIME
  ⟨0x04C, 1, 4, .rw, 0x00000000, 0x800000FF⟩,  -- XDC
  ⟨0x050, 1, 4, .roc, 0x00000000, 0xE700FFFF⟩,  -- STAT
  ⟨0x054, 1, 4, .w1c, 0x00000000, 0x000000FF⟩,  -- EVT
  ⟨0x058, 1, 4, .rw, 0x00000000, 0x000000FF⟩,  -- IEN
  ⟨0x05C, 1, 4, .w1s, 0x00000000, 0x0000FFFF⟩,  -- SEND
  ⟨0x060, 1, 4, .w1s, 0x00000000, 0x0000FFFF⟩,  -- ABORT
  ⟨0x064, 1, 4, .ro, 0x00000000, 0x0000FFFF⟩,  -- QUEUED
  ⟨0x068, 1, 4, .w1c, 0x00000000, 0x0000FFFF⟩,  -- SENT
  ⟨0x06C, 1, 4, .ro, 0x00000000, 0x0000003F⟩,  -- RXLEVEL
  ⟨0x070, 1, 4, .wo, 0x00000000, 0x00000001⟩,  -- RXNEXT
  ⟨0x074, 1, 4, .ro, 0x00000000, 0xFFFFFFFF⟩,  -- RXTIME_LO
  ⟨0x078, 1, 4, .ro, 0x00000000, 0xFFFFFFFF⟩,  -- RXTIME_HI
  ⟨0x07C, 1, 4, .rc, 0x00000000, 0xFFFFFFFF⟩,  -- COUNT
  ⟨0x100, 32, 8, .rw, 0x00000000, 0xBFFFFFFF⟩,  -- ACCEPT0 to ACCEPT31, W0
  ⟨0x104, 32, 8, .rw, 0x00000000, 0x1FFFFFFF⟩,  -- ACCEPT0 to ACCEPT31, W1
  ⟨0x200, 16, 72, .rw, 0x00000000, 0xF8F00000⟩,  -- MBOX0 to MBOX15, W0
  ⟨0x204, 16, 72, .rw, 0x00000000, 0x1FFFFFFF⟩,  -- MBOX0 to MBOX15, W1
  ⟨0x208, 16, 72, .rw, 0x00000000, 0xFFFFFFFF⟩,  -- MBOX0 to MBOX15, W2
  ⟨0x20C, 16, 72, .rw, 0x00000000, 0xFFFFFFFF⟩,  -- MBOX0 to MBOX15, W3
  ⟨0x210, 16, 72, .rw, 0x00000000, 0xFFFFFFFF⟩,  -- MBOX0 to MBOX15, W4
  ⟨0x214, 16, 72, .rw, 0x00000000, 0xFFFFFFFF⟩,  -- MBOX0 to MBOX15, W5
  ⟨0x218, 16, 72, .rw, 0x00000000, 0xFFFFFFFF⟩,  -- MBOX0 to MBOX15, W6
  ⟨0x21C, 16, 72, .rw, 0x00000000, 0xFFFFFFFF⟩,  -- MBOX0 to MBOX15, W7
  ⟨0x220, 16, 72, .rw, 0x00000000, 0xFFFFFFFF⟩,  -- MBOX0 to MBOX15, W8
  ⟨0x224, 16, 72, .rw, 0x00000000, 0xFFFFFFFF⟩,  -- MBOX0 to MBOX15, W9
  ⟨0x228, 16, 72, .rw, 0x00000000, 0xFFFFFFFF⟩,  -- MBOX0 to MBOX15, W10
  ⟨0x22C, 16, 72, .rw, 0x00000000, 0xFFFFFFFF⟩,  -- MBOX0 to MBOX15, W11
  ⟨0x230, 16, 72, .rw, 0x00000000, 0xFFFFFFFF⟩,  -- MBOX0 to MBOX15, W12
  ⟨0x234, 16, 72, .rw, 0x00000000, 0xFFFFFFFF⟩,  -- MBOX0 to MBOX15, W13
  ⟨0x238, 16, 72, .rw, 0x00000000, 0xFFFFFFFF⟩,  -- MBOX0 to MBOX15, W14
  ⟨0x23C, 16, 72, .rw, 0x00000000, 0xFFFFFFFF⟩,  -- MBOX0 to MBOX15, W15
  ⟨0x240, 16, 72, .rw, 0x00000000, 0xFFFFFFFF⟩,  -- MBOX0 to MBOX15, W16
  ⟨0x244, 16, 72, .rw, 0x00000000, 0xFFFFFFFF⟩,  -- MBOX0 to MBOX15, W17
  ⟨0x680, 1, 4, .ro, 0x00000000, 0xF8F0001F⟩,  -- RXFRAME, W0
  ⟨0x684, 1, 4, .ro, 0x00000000, 0x1FFFFFFF⟩,  -- RXFRAME, W1
  ⟨0x688, 16, 4, .ro, 0x00000000, 0xFFFFFFFF⟩]  -- RXFRAME, W2 to W17

def uartDefs : List RegDef := [
  ⟨0x040, 1, 4, .rw, 0x00000364, 0xB80FFFFF⟩,  -- CFG
  ⟨0x044, 1, 4, .rc, 0x00000000, 0x800006FF⟩,  -- DATA
  ⟨0x048, 1, 4, .roc, 0x00000000, 0x003F003F⟩,  -- STAT
  ⟨0x04C, 1, 4, .w1c, 0x00000000, 0x0000001F⟩,  -- EVT
  ⟨0x050, 1, 4, .rw, 0x00000000, 0x0000001F⟩]  -- IEN

def i2cDefs : List RegDef := [
  ⟨0x040, 1, 4, .rw, 0x000061A8, 0x8380FFFF⟩,  -- CFG
  ⟨0x044, 1, 4, .wo, 0x00000000, 0x807F3F3F⟩,  -- CMD
  ⟨0x048, 1, 4, .ro, 0x00000000, 0xCF00003F⟩,  -- STAT
  ⟨0x04C, 1, 4, .w1c, 0x00000000, 0x00000007⟩,  -- EVT
  ⟨0x050, 1, 4, .rw, 0x00000000, 0x00000007⟩,  -- IEN
  ⟨0x080, 8, 4, .rw, 0x00000000, 0xFFFFFFFF⟩,  -- WBUF
  ⟨0x0A0, 8, 4, .ro, 0x00000000, 0xFFFFFFFF⟩]  -- RBUF

def gpioDefs : List RegDef := [
  ⟨0x040, 1, 4, .rw, 0x00000000, 0xFFFFFFFF⟩,  -- DIR_LO
  ⟨0x044, 1, 4, .rw, 0x00000000, 0x0000FFFF⟩,  -- DIR_HI
  ⟨0x048, 1, 4, .rw, 0x00000000, 0xFFFFFFFF⟩,  -- OUT_LO
  ⟨0x04C, 1, 4, .rw, 0x00000000, 0x0000FFFF⟩,  -- OUT_HI
  ⟨0x050, 1, 4, .ro, 0x00000000, 0xFFFFFFFF⟩,  -- IN_LO
  ⟨0x054, 1, 4, .ro, 0x00000000, 0x0000FFFF⟩,  -- IN_HI
  ⟨0x058, 1, 4, .rw, 0x00000000, 0xFFFFFFFF⟩,  -- PUP_LO
  ⟨0x05C, 1, 4, .rw, 0x00000000, 0x0000FFFF⟩,  -- PUP_HI
  ⟨0x060, 1, 4, .ro, 0x00000000, 0xFFFFFFFF⟩,  -- OWNED_LO
  ⟨0x064, 1, 4, .ro, 0x00000000, 0x0000FFFF⟩,  -- OWNED_HI
  ⟨0x068, 3, 4, .rw, 0x00000000, 0xFFFFFFFF⟩,  -- ECFG0 to ECFG2
  ⟨0x074, 1, 4, .w1c, 0x00000000, 0xFFFFFFFF⟩,  -- EVT_LO
  ⟨0x078, 1, 4, .w1c, 0x00000000, 0x0000FFFF⟩,  -- EVT_HI
  ⟨0x07C, 1, 4, .rw, 0x00000000, 0xFFFFFFFF⟩,  -- IEN_LO
  ⟨0x080, 1, 4, .rw, 0x00000000, 0x0000FFFF⟩,  -- IEN_HI
  ⟨0x084, 1, 4, .w1c, 0x00000000, 0x000007FF⟩,  -- GEVT
  ⟨0x088, 1, 4, .rw, 0x00000000, 0x000007FF⟩,  -- GIEN
  ⟨0x100, 8, 16, .rw, 0x00000000, 0xF000003F⟩,  -- TMRk_CFG
  ⟨0x104, 8, 16, .rw, 0x0000FFFF, 0xFFFFFFFF⟩,  -- TMRk_PERIOD
  ⟨0x108, 8, 16, .rw, 0x00000000, 0xFFFFFFFF⟩,  -- TMRk_CMP
  ⟨0x10C, 8, 16, .ro, 0x00000000, 0xFFFFFFFF⟩,  -- TMRk_CAP
  ⟨0x200, 1, 4, .rw, 0x00000000, 0x80FFFFFF⟩,  -- TAMPCFG
  ⟨0x204, 1, 4, .w1c, 0x000F0000, 0x000F00FF⟩,  -- TAMPSTAT
  ⟨0x208, 2, 4, .ro, 0x00000000, 0xFFFFFFFF⟩]  -- TAMPSTAMP_LO/HI

def adcDefs : List RegDef := [
  ⟨0x040, 1, 4, .rww, 0x00000000, 0x00000003⟩,  -- CFG
  ⟨0x044, 1, 4, .rww, 0x00000000, 0x000000BF⟩,  -- MANRES
  ⟨0x048, 1, 4, .wo, 0x00000000, 0xFFFF3F01⟩,  -- MAN
  ⟨0x04C, 1, 4, .wo, 0x00000000, 0x0FFF3F03⟩,  -- TDCMD
  ⟨0x050, 1, 4, .rww, 0x00000020, 0x000000FF⟩,  -- TDTOL
  ⟨0x054, 1, 4, .ro, 0x00000000, 0xFFFF3FFF⟩,  -- TDRES
  ⟨0x058, 1, 4, .roc, 0x0FF00000, 0xFFF3000F⟩,  -- STAT
  ⟨0x05C, 1, 4, .w1c, 0x00000000, 0x0000007F⟩,  -- EVT
  ⟨0x060, 1, 4, .rw, 0x00000000, 0x0000007F⟩,  -- IEN
  ⟨0x064, 1, 4, .rc, 0x00000000, 0xFFFFFFFF⟩,  -- COUNT
  ⟨0x068, 1, 4, .rc, 0x00000000, 0xFFFF0000⟩,  -- COUNT2
  ⟨0x100, 64, 4, .rww, 0x00000000, 0x8F0000FF⟩]  -- GUARD0 to GUARD63

def resDefs : List RegDef := [
  ⟨0x040, 1, 4, .w1c, 0x00000000, 0xFFFFFFFF⟩,  -- EVT_LO
  ⟨0x044, 1, 4, .w1c, 0x00000000, 0xFFFFFFFF⟩,  -- EVT_HI
  ⟨0x048, 1, 4, .rw, 0x00000000, 0xFFFFFFFF⟩,  -- IEN_LO
  ⟨0x04C, 1, 4, .rw, 0x00000000, 0xFFFFFFFF⟩,  -- IEN_HI
  ⟨0x050, 1, 4, .ro, 0x00000000, 0xFFFFFFFF⟩,  -- WSTAT_LO
  ⟨0x054, 1, 4, .ro, 0x00000000, 0xFFFFFFFF⟩,  -- WSTAT_HI
  ⟨0x100, 128, 4, .ro, 0x00000000, 0xFFFFFFFF⟩,  -- RESULT0 to RESULT63
  ⟨0x300, 64, 4, .rw, 0x3FFF0000, 0x3FFF3FFF⟩,  -- WINLIM0 to WINLIM63
  ⟨0x400, 64, 4, .rw, 0x00000000, 0xB3000000⟩]  -- WINCFG0 to WINCFG63

def engDefs : List RegDef := [
  ⟨0x040, 1, 4, .roc, 0x00000000, 0x0FFFF00F⟩,  -- STAT
  ⟨0x044, 1, 4, .w1c, 0x00000000, 0x000003FF⟩,  -- EVT
  ⟨0x048, 1, 4, .rw, 0x00000000, 0x000003FF⟩,  -- IEN
  ⟨0x04C, 1, 4, .wo, 0x00000000, 0x0000FF01⟩,  -- CTXCMD
  ⟨0x050, 1, 4, .ro, 0x00000000, 0xF0FF0FFF⟩,  -- VERR
  ⟨0x054, 1, 4, .ro, 0x00000000, 0xF8FF0FFF⟩,  -- EVTLOG
  ⟨0x058, 1, 4, .rc, 0x00000000, 0xFFFFFFFF⟩,  -- COUNT
  ⟨0x05C, 1, 4, .rc, 0x00000000, 0xFFFFFFFF⟩,  -- COUNT2
  ⟨0x060, 1, 4, .ro, 0x00000000, 0xFFFFFFFF⟩,  -- CYC_LO
  ⟨0x064, 1, 4, .ro, 0x00000000, 0xFFFFFFFF⟩,  -- CYC_HI
  ⟨0x100, 192, 4, .rww, 0x00000000, 0xE0FFFFFF⟩,  -- CHAIN0 to CHAIN191
  ⟨0x400, 192, 4, .roc, 0x00000000, 0xFFFF0FFF⟩]  -- CSTAT0 to CSTAT191

def rostDefs : List RegDef := [
  ⟨0x044, 1, 4, .roc, 0x00000000, 0xFFFF0001⟩,  -- BANK
  ⟨0x048, 1, 4, .wo, 0x00000000, 0x00000003⟩,  -- CMD
  ⟨0x04C, 1, 4, .ro, 0x00000000, 0xF00F3FFF⟩,  -- VERR
  ⟨0x050, 1, 4, .ro, 0x00000000, 0x0000FFFF⟩,  -- LOAD_SLICE
  ⟨0x054, 1, 4, .ro, 0x00000000, 0x0000FFFF⟩,  -- LOAD_ENG
  ⟨0x058, 1, 4, .w1c, 0x00000000, 0x000001FF⟩,  -- EVT
  ⟨0x05C, 1, 4, .rw, 0x00000000, 0x000001FF⟩,  -- IEN
  ⟨0x060, 1, 4, .rc, 0x00000000, 0xFFFFFFFF⟩,  -- COUNT
  ⟨0x064, 1, 4, .rc, 0x00000000, 0xFFFFFFFF⟩,  -- COUNT2
  ⟨0x068, 1, 4, .ro, 0x00000000, 0xFFFFFFFF⟩,  -- JOBLOG
  ⟨0x06C, 1, 4, .ro, 0x00000000, 0xFFFFFFFF⟩,  -- LIVELOG
  ⟨0x070, 1, 4, .ro, 0x00000000, 0xFFFFFFFF⟩,  -- MARKLOG
  ⟨0x074, 1, 4, .ro, 0x00000000, 0xFFFFFFFF⟩,  -- MARK_TICK_LO
  ⟨0x078, 1, 4, .ro, 0x00000000, 0xFFFFFFFF⟩]  -- MARK_TICK_HI

def mtimeDefs : List RegDef := [
  ⟨0x000, 1, 4, .ro, 0x00000000, 0xFFFFFFFF⟩,  -- TIME_LO
  ⟨0x004, 1, 4, .ro, 0x00000000, 0xFFFFFFFF⟩,  -- TIME_HI
  ⟨0x010, 5, 16, .rw, 0xFFFFFFFF, 0xFFFFFFFF⟩,  -- CMPh_LO
  ⟨0x014, 5, 16, .rw, 0xFFFFFFFF, 0xFFFFFFFF⟩,  -- CMPh_HI
  ⟨0x018, 5, 16, .rw, 0x00000000, 0x00000001⟩]  -- SWIh

/-- Base address, number of instances and TYPE code of each page (R10, R436). -/
structure PageRow where
  page : Page
  base : Nat
  count : Nat
  type : Nat
deriving DecidableEq, Repr

/-- R436. The block pages lie on a 4 KiB grid from 0x4100_0000 without gaps. -/
def blockPages : List PageRow := [
  ⟨.leg, 0x41000000, 256, 0x01⟩, ⟨.gang, 0x41100000, 64, 0x02⟩, ⟨.frame, 0x41140000, 16, 0x03⟩,
  ⟨.axis, 0x41150000, 16, 0x04⟩, ⟨.conv, 0x41160000, 16, 0x05⟩, ⟨.fb, 0x41170000, 16, 0x06⟩,
  ⟨.slice, 0x41180000, 12, 0x07⟩, ⟨.ddie, 0x42000000, 4, 0x08⟩]

/-- R436. The system pages, and R442's machine timer, which is no page and has no TYPE. -/
def systemPages : List PageRow := [
  ⟨.top, 0x40000000, 1, 0x10⟩, ⟨.clk, 0x40001000, 1, 0x11⟩, ⟨.pwr, 0x40002000, 1, 0x12⟩,
  ⟨.flt, 0x40003000, 1, 0x13⟩, ⟨.auth, 0x40004000, 1, 0x14⟩, ⟨.arb, 0x40005000, 1, 0x15⟩,
  ⟨.nv, 0x40006000, 1, 0x16⟩, ⟨.bg, 0x40007000, 1, 0x17⟩, ⟨.link, 0x40008000, 1, 0x18⟩,
  ⟨.spi, 0x40009000, 1, 0x19⟩, ⟨.can, 0x4000A000, 2, 0x1A⟩, ⟨.uart, 0x4000C000, 2, 0x1B⟩,
  ⟨.i2c, 0x4000E000, 1, 0x1C⟩, ⟨.gpio, 0x4000F000, 1, 0x1D⟩, ⟨.adc, 0x40010000, 1, 0x1E⟩,
  ⟨.res, 0x40011000, 1, 0x1F⟩, ⟨.eng, 0x40012000, 1, 0x20⟩, ⟨.rost, 0x40013000, 1, 0x21⟩,
  ⟨.vuy, 0x40014000, 1, 0x22⟩, ⟨.mtime, 0x02000000, 1, 0x00⟩]

/-- The register table of a page (R36, R78: the header first). -/
def pageDefs : Page → List RegDef
  | .leg => headerDefs ++ legDefs
  | .gang => headerDefs ++ gangDefs
  | .frame => headerDefs ++ frameDefs
  | .axis => headerDefs ++ axisDefs
  | .conv => headerDefs ++ convDefs
  | .fb => headerDefs ++ fbDefs
  | .slice => headerDefs ++ sliceDefs
  | .ddie => headerDefs ++ ddieDefs
  | .top => headerDefs ++ topDefs
  | .clk => headerDefs ++ clkDefs
  | .pwr => headerDefs ++ pwrDefs
  | .flt => headerDefs ++ fltDefs
  | .auth => headerDefs ++ authDefs
  | .arb => headerDefs ++ arbDefs
  | .nv => headerDefs ++ nvDefs
  | .bg => headerDefs ++ bgDefs
  | .link => headerDefs ++ linkDefs
  | .spi => headerDefs ++ spiDefs
  | .can => headerDefs ++ canDefs
  | .uart => headerDefs ++ uartDefs
  | .i2c => headerDefs ++ i2cDefs
  | .gpio => headerDefs ++ gpioDefs
  | .adc => headerDefs ++ adcDefs
  | .res => headerDefs ++ resDefs
  | .eng => headerDefs ++ engDefs
  | .rost => headerDefs ++ rostDefs
  | .vuy => headerDefs
  | .mtime => mtimeDefs

/-- The page that an address lies in, with its row and instance; none where no page is (R435). -/
def pageAt (a : Nat) : Option (PageRow × Nat) :=
  let rows := if a < 0x41000000 then systemPages else blockPages
  (rows.find? fun r => decide (r.base ≤ a) && decide (a < r.base + r.count * 0x1000)).map
    fun r => (r, (a - r.base) / 0x1000)

/-- The row of a register table that an offset falls on, if any (R9). -/
def RegDef.hits (r : RegDef) (off : Nat) : Bool :=
  decide (r.off ≤ off) && decide ((off - r.off) % r.stride = 0) && decide ((off - r.off) / r.stride < r.n)

def defAt (p : Page) (off : Nat) : Option RegDef := (pageDefs p).find? (·.hits off)

/-- SRC code of the page at a base address (R409). -/
def srcOf (base : Nat) : Nat :=
  if base < 0x41000000 then 0x200 + (base - 0x40000000) / 0x1000
  else if base < 0x42000000 then (base - 0x41000000) / 0x1000
  else 0x190 + (base - 0x42000000) / 0x1000

/-- PAGE_ID (R37): TYPE, SRC and INST. -/
def pageId (r : PageRow) (inst : Nat) : Nat :=
  r.type * 2 ^ 24 + srcOf (r.base + inst * 0x1000) * 2 ^ 12 + inst

/-- Reset value of DOMAIN (R39, R41). -/
def domainReset : Page → Nat → Nat
  | .frame, f => 4 * f
  | .gang, _ => 0 | .leg, _ => 0 | .axis, _ => 0 | .conv, _ => 0 | .fb, _ => 0
  | .rost, _ => 64
  | .adc, _ => 65 | .slice, _ => 65
  | .eng, _ => 66
  | _, _ => 127

/-- The word a register holds at reset: the register tables' value, and 0 where no table defines the offset (R9). -/
def resetWord (a : Nat) : Word :=
  match pageAt a with
  | none => 0
  | some (r, inst) =>
    let off := a % 0x1000
    if r.page = .mtime then BitVec.ofNat 32 (((defAt .mtime off).map (·.reset)).getD 0)
    else if off = 0x000 then BitVec.ofNat 32 (pageId r inst)
    else if off = 0x008 then BitVec.ofNat 32 (domainReset r.page inst)
    else if r.page = .top ∧ off = 0x040 then Config.topId
    else if r.page = .pwr ∧ off = 0x048 then Config.tempWarnReset
    else BitVec.ofNat 32 (((defAt r.page off).map (·.reset)).getD 0)

end Sys2Proof.Machine
end

