-- ==== Sys2Proof/Machine/Fields.lean ====
section
/-!
DEFINITION. The fields of the registers, each under the spec's own name PAGE.REGISTER.FIELD: its offset in the page, its
lowest bit and its width, from the field tables of the chapters (R36 to R552).
-/

namespace Sys2Proof.Machine

/-- A field of a register: offset of the register in its page, lowest bit, width. -/
structure Fld where
  off : Nat
  lo : Nat
  n : Nat
deriving DecidableEq, Repr

def HDR.PAGE_STAT.DMN_IGN : Fld := ⟨0x004, 2, 1⟩
def HDR.PAGE_STAT.COAT2 : Fld := ⟨0x004, 1, 1⟩
def HDR.PAGE_STAT.WET : Fld := ⟨0x004, 0, 1⟩
def HDR.COMMIT_STAT.SLIP : Fld := ⟨0x010, 7, 1⟩
def HDR.COMMIT_STAT.DISC_IGN : Fld := ⟨0x010, 6, 1⟩
def HDR.COMMIT_STAT.GO_IGN : Fld := ⟨0x010, 5, 1⟩
def HDR.CAST_STAT.SEQ : Fld := ⟨0x020, 16, 16⟩
def HDR.CAST_STAT.BUSY : Fld := ⟨0x020, 0, 1⟩
def HDR.PROG.RUN : Fld := ⟨0x02C, 31, 1⟩
def HDR.PROG.DONE : Fld := ⟨0x02C, 30, 1⟩
def HDR.PROG.FAIL : Fld := ⟨0x02C, 29, 1⟩
def HDR.PROG.UNIT : Fld := ⟨0x02C, 28, 1⟩
def HDR.PROG.VALUE : Fld := ⟨0x02C, 0, 24⟩
def GANG.CFG.EN : Fld := ⟨0x040, 31, 1⟩
def GANG.CFG.FRAME : Fld := ⟨0x040, 24, 4⟩
def GANG.CFG.SPREF_OFF : Fld := ⟨0x040, 23, 1⟩
def GANG.CFG.DIE : Fld := ⟨0x040, 20, 2⟩
def GANG.CFG.ROT : Fld := ⟨0x040, 16, 2⟩
def GANG.CFG.PHASE : Fld := ⟨0x040, 0, 16⟩
def GANG.ROLE.KIND : Fld := ⟨0x044, 28, 4⟩
def GANG.ROLE.OWNER : Fld := ⟨0x044, 16, 4⟩
def GANG.ROLE.MIN_LIVE : Fld := ⟨0x044, 8, 6⟩
def GANG.ROLE.PHASE_IX : Fld := ⟨0x044, 0, 4⟩
def GANG.SHED.EN : Fld := ⟨0x048, 31, 1⟩
def GANG.SHED.MIN_ACTIVE : Fld := ⟨0x048, 24, 6⟩
def GANG.SHED.DWELL : Fld := ⟨0x048, 16, 8⟩
def GANG.SHED.HOLDOFF : Fld := ⟨0x048, 0, 16⟩
def GANG.SHED_LVL.ADD_AT : Fld := ⟨0x04C, 16, 16⟩
def GANG.SHED_LVL.SHED_AT : Fld := ⟨0x04C, 0, 16⟩
def GANG.FF.EN : Fld := ⟨0x050, 31, 1⟩
def GANG.FF.SRC : Fld := ⟨0x050, 28, 3⟩
def GANG.FF.INDEX : Fld := ⟨0x050, 16, 6⟩
def GANG.FF.DUTY_MIN : Fld := ⟨0x050, 8, 8⟩
def GANG.SLOT0.VALID : Fld := ⟨0x058, 7, 1⟩
def GANG.SLOT0.LEG : Fld := ⟨0x058, 0, 6⟩
def GANG.SPARE.VALID : Fld := ⟨0x078, 7, 1⟩
def GANG.SPARE.LEG : Fld := ⟨0x078, 0, 6⟩
def GANG.LIVE.SCALE : Fld := ⟨0x080, 23, 9⟩
def GANG.LIVE.SPARES_LEFT : Fld := ⟨0x080, 20, 3⟩
def GANG.LIVE.ACTIVE : Fld := ⟨0x080, 12, 6⟩
def GANG.LIVE.LIVE : Fld := ⟨0x080, 6, 6⟩
def GANG.LIVE.ASSIGNED : Fld := ⟨0x080, 0, 6⟩
def GANG.STAT.ROT : Fld := ⟨0x084, 16, 5⟩
def GANG.STAT.SHUT : Fld := ⟨0x084, 7, 1⟩
def GANG.STAT.REGANG_PEND : Fld := ⟨0x084, 6, 1⟩
def GANG.STAT.FF_NOW : Fld := ⟨0x084, 5, 1⟩
def GANG.STAT.HOLDOFF : Fld := ⟨0x084, 4, 1⟩
def GANG.STAT.SHED_PEND : Fld := ⟨0x084, 3, 1⟩
def GANG.STAT.LOAD_STALE : Fld := ⟨0x084, 2, 1⟩
def GANG.STAT.DERATED : Fld := ⟨0x084, 1, 1⟩
def GANG.STAT.RUN : Fld := ⟨0x084, 0, 1⟩
def GANG.MAP0.LIVE : Fld := ⟨0x088, 7, 1⟩
def GANG.MAP0.SUB : Fld := ⟨0x088, 6, 1⟩
def GANG.MAP0.LEG : Fld := ⟨0x088, 0, 6⟩
def GANG.EVT.UNDERSTRENGTH : Fld := ⟨0x0AC, 5, 1⟩
def GANG.EVT.SLOT_LOST : Fld := ⟨0x0AC, 4, 1⟩
def GANG.EVT.SPARE_JOINED : Fld := ⟨0x0AC, 3, 1⟩
def GANG.EVT.FF : Fld := ⟨0x0AC, 2, 1⟩
def GANG.EVT.SHED_ABANDONED : Fld := ⟨0x0AC, 1, 1⟩
def GANG.EVT.LOAD_STALE : Fld := ⟨0x0AC, 0, 1⟩
def GANG.IEN.UNDERSTRENGTH : Fld := ⟨0x0B0, 5, 1⟩
def GANG.IEN.SLOT_LOST : Fld := ⟨0x0B0, 4, 1⟩
def GANG.IEN.SPARE_JOINED : Fld := ⟨0x0B0, 3, 1⟩
def GANG.IEN.FF : Fld := ⟨0x0B0, 2, 1⟩
def GANG.IEN.SHED_ABANDONED : Fld := ⟨0x0B0, 1, 1⟩
def GANG.IEN.LOAD_STALE : Fld := ⟨0x0B0, 0, 1⟩
def LEG.DEAD.DT_LH : Fld := ⟨0x040, 8, 8⟩
def LEG.DEAD.DT_HL : Fld := ⟨0x040, 0, 8⟩
def LEG.THRESH.HARD : Fld := ⟨0x048, 16, 8⟩
def LEG.THRESH.SOFT : Fld := ⟨0x048, 8, 8⟩
def LEG.THRESH.PRES : Fld := ⟨0x048, 0, 8⟩
def LEG.GATE.FIXED : Fld := ⟨0x04C, 31, 1⟩
def LEG.GATE.TTRAN : Fld := ⟨0x04C, 16, 7⟩
def LEG.GATE.SRC_INIT : Fld := ⟨0x04C, 8, 5⟩
def LEG.GATE.SNK_INIT : Fld := ⟨0x04C, 0, 5⟩
def LEG.CMD.RETIRE : Fld := ⟨0x054, 1, 1⟩
def LEG.CMD.RETURN : Fld := ⟨0x054, 0, 1⟩
def LEG.LSTAT.STATE : Fld := ⟨0x058, 28, 4⟩
def LEG.LSTAT.SLOT : Fld := ⟨0x058, 16, 6⟩
def LEG.LSTAT.GANG : Fld := ⟨0x058, 8, 6⟩
def LEG.LSTAT.STRONG : Fld := ⟨0x058, 7, 1⟩
def LEG.LSTAT.FW_RET : Fld := ⟨0x058, 1, 1⟩
def LEG.LSTAT.LISTED : Fld := ⟨0x058, 0, 1⟩
def LEG.TRIP.CLR_REFUSED : Fld := ⟨0x05C, 5, 1⟩
def LEG.TRIP.BST_UV : Fld := ⟨0x05C, 4, 1⟩
def LEG.TRIP.PRES_MISS : Fld := ⟨0x05C, 3, 1⟩
def LEG.TRIP.HARD_LAT : Fld := ⟨0x05C, 2, 1⟩
def LEG.TRIP.SOFT_LAT : Fld := ⟨0x05C, 1, 1⟩
def LEG.STRENGTH.TMEAS : Fld := ⟨0x060, 16, 7⟩
def LEG.STRENGTH.SRC : Fld := ⟨0x060, 8, 5⟩
def LEG.STRENGTH.SNK : Fld := ⟨0x060, 0, 5⟩
def LEG.EVT.JOINED : Fld := ⟨0x064, 2, 1⟩
def LEG.EVT.RETIRED : Fld := ⟨0x064, 1, 1⟩
def LEG.EVT.CMD_IGN : Fld := ⟨0x064, 0, 1⟩
def DDIE.CFG.PRES_MIN : Fld := ⟨0x040, 24, 8⟩
def DDIE.CFG.INTLK_TO : Fld := ⟨0x040, 16, 8⟩
def DDIE.CFG.SOFT_FILT : Fld := ⟨0x040, 8, 4⟩
def DDIE.CFG.MODE : Fld := ⟨0x040, 0, 2⟩
def DDIE.DSTAT.VDRV : Fld := ⟨0x048, 24, 8⟩
def DDIE.DSTAT.TEMP : Fld := ⟨0x048, 16, 8⟩
def DDIE.DSTAT.HOLDER : Fld := ⟨0x048, 8, 2⟩
def DDIE.DSTAT.VDRV_OV : Fld := ⟨0x048, 4, 1⟩
def DDIE.DSTAT.WD_SAFE : Fld := ⟨0x048, 3, 1⟩
def DDIE.DSTAT.VDRV_UV : Fld := ⟨0x048, 2, 1⟩
def DDIE.DSTAT.HARDSAFE : Fld := ⟨0x048, 1, 1⟩
def DDIE.DSTAT.READY : Fld := ⟨0x048, 0, 1⟩
def DDIE.EVT.ST_DONE : Fld := ⟨0x04C, 9, 1⟩
def DDIE.EVT.CFG_IGN : Fld := ⟨0x04C, 8, 1⟩
def DDIE.EVT.MODE_IGN : Fld := ⟨0x04C, 7, 1⟩
def DDIE.EVT.AUTH_DISCARD : Fld := ⟨0x04C, 6, 1⟩
def DDIE.EVT.STRENGTH_LIMIT : Fld := ⟨0x04C, 5, 1⟩
def DDIE.EVT.INTLK_TIMEOUT : Fld := ⟨0x04C, 4, 1⟩
def DDIE.EVT.VDRV_OV : Fld := ⟨0x04C, 3, 1⟩
def DDIE.EVT.HARDSAFE : Fld := ⟨0x04C, 2, 1⟩
def DDIE.EVT.WD_SAFE : Fld := ⟨0x04C, 1, 1⟩
def DDIE.EVT.VDRV_UV : Fld := ⟨0x04C, 0, 1⟩
def DDIE.IEN.ST_DONE : Fld := ⟨0x050, 9, 1⟩
def DDIE.IEN.CFG_IGN : Fld := ⟨0x050, 8, 1⟩
def DDIE.IEN.MODE_IGN : Fld := ⟨0x050, 7, 1⟩
def DDIE.IEN.AUTH_DISCARD : Fld := ⟨0x050, 6, 1⟩
def DDIE.IEN.STRENGTH_LIMIT : Fld := ⟨0x050, 5, 1⟩
def DDIE.IEN.INTLK_TIMEOUT : Fld := ⟨0x050, 4, 1⟩
def DDIE.IEN.VDRV_OV : Fld := ⟨0x050, 3, 1⟩
def DDIE.IEN.HARDSAFE : Fld := ⟨0x050, 2, 1⟩
def DDIE.IEN.WD_SAFE : Fld := ⟨0x050, 1, 1⟩
def DDIE.IEN.VDRV_UV : Fld := ⟨0x050, 0, 1⟩
def DDIE.ST_CMD.MARGIN : Fld := ⟨0x060, 8, 8⟩
def DDIE.ST_CMD.ABORT : Fld := ⟨0x060, 1, 1⟩
def DDIE.ST_CMD.START : Fld := ⟨0x060, 0, 1⟩
def DDIE.ST_FIRST.VALID : Fld := ⟨0x07C, 31, 1⟩
def DDIE.ST_FIRST.LEG : Fld := ⟨0x07C, 8, 6⟩
def DDIE.ST_FIRST.COMP : Fld := ⟨0x07C, 4, 2⟩
def DDIE.ST_FIRST.LEVEL : Fld := ⟨0x07C, 0, 1⟩
def FRAME.CFG.RUN : Fld := ⟨0x040, 31, 1⟩
def FRAME.CFG.PERIOD : Fld := ⟨0x040, 0, 16⟩
def FRAME.SYNC.MODE : Fld := ⟨0x044, 30, 2⟩
def FRAME.SYNC.MASTER : Fld := ⟨0x044, 24, 4⟩
def FRAME.SYNC.PHASE : Fld := ⟨0x044, 0, 16⟩
def FRAME.REFR.EN : Fld := ⟨0x04C, 31, 1⟩
def FRAME.REFR.DMAX : Fld := ⟨0x04C, 0, 16⟩
def FRAME.STAT.PCOUNT : Fld := ⟨0x060, 24, 8⟩
def FRAME.STAT.DITH : Fld := ⟨0x060, 20, 4⟩
def FRAME.STAT.HALTED : Fld := ⟨0x060, 18, 1⟩
def FRAME.STAT.LOCKED : Fld := ⟨0x060, 17, 1⟩
def FRAME.STAT.RUN : Fld := ⟨0x060, 16, 1⟩
def FRAME.STAT.PEFF : Fld := ⟨0x060, 0, 16⟩
def FRAME.EVT.STARVED : Fld := ⟨0x068, 6, 1⟩
def FRAME.EVT.LOCK_LOST : Fld := ⟨0x068, 5, 1⟩
def FRAME.EVT.FORCED_REFR : Fld := ⟨0x068, 4, 1⟩
def FRAME.EVT.DUTY_HELD : Fld := ⟨0x068, 3, 1⟩
def FRAME.EVT.DUTY_SLIP : Fld := ⟨0x068, 2, 1⟩
def FRAME.EVT.DUTY_AHEAD : Fld := ⟨0x068, 1, 1⟩
def FRAME.EVT.DUTY_LATE : Fld := ⟨0x068, 0, 1⟩
def FRAME.LATELOG.VALID : Fld := ⟨0x070, 31, 1⟩
def FRAME.LATELOG.KIND : Fld := ⟨0x070, 30, 1⟩
def FRAME.LATELOG.GANG : Fld := ⟨0x070, 24, 6⟩
def FRAME.LATELOG.TAG : Fld := ⟨0x070, 16, 8⟩
def FRAME.LATELOG.AT : Fld := ⟨0x070, 0, 16⟩
def FRAME.SDUTY.VALID : Fld := ⟨0x200, 31, 1⟩
def FRAME.SDUTY.SRC : Fld := ⟨0x200, 30, 1⟩
def FRAME.SDUTY.HELD : Fld := ⟨0x200, 29, 1⟩
def FRAME.SDUTY.REFR : Fld := ⟨0x200, 28, 1⟩
def FRAME.SDUTY.DUTY : Fld := ⟨0x200, 0, 20⟩
def ROST.BANK.PEND : Fld := ⟨0x044, 16, 16⟩
def ROST.BANK.ACTIVE : Fld := ⟨0x044, 0, 1⟩
def ROST.CMD.CLEAR : Fld := ⟨0x048, 1, 1⟩
def ROST.CMD.COPY : Fld := ⟨0x048, 0, 1⟩
def ROST.VERR.CHECK : Fld := ⟨0x04C, 28, 4⟩
def ROST.VERR.FRAME : Fld := ⟨0x04C, 16, 4⟩
def ROST.VERR.ENTRY : Fld := ⟨0x04C, 0, 14⟩
def ROST.EVT.CMD_IGN : Fld := ⟨0x058, 8, 1⟩
def ROST.EVT.NO_EFFECT : Fld := ⟨0x058, 7, 1⟩
def ROST.EVT.SWAPPED : Fld := ⟨0x058, 6, 1⟩
def ROST.EVT.MARK : Fld := ⟨0x058, 5, 1⟩
def ROST.EVT.BEYOND : Fld := ⟨0x058, 4, 1⟩
def ROST.EVT.DISP_LATE : Fld := ⟨0x058, 3, 1⟩
def ROST.EVT.JOB_OVERRUN : Fld := ⟨0x058, 2, 1⟩
def ROST.EVT.JOB_DROP : Fld := ⟨0x058, 1, 1⟩
def ROST.EVT.LIVE_WRITE : Fld := ⟨0x058, 0, 1⟩
def ADC.MAN.GAIN : Fld := ⟨0x048, 29, 3⟩
def ADC.MAN.ACQ : Fld := ⟨0x048, 22, 7⟩
def ADC.MAN.RES : Fld := ⟨0x048, 16, 6⟩
def ADC.MAN.INPUT : Fld := ⟨0x048, 8, 6⟩
def ADC.MAN.GO : Fld := ⟨0x048, 0, 1⟩
def ADC.TDCMD.CODE : Fld := ⟨0x04C, 16, 12⟩
def ADC.TDCMD.INPUT : Fld := ⟨0x04C, 8, 6⟩
def ADC.TDCMD.ABORT : Fld := ⟨0x04C, 1, 1⟩
def ADC.TDCMD.GO : Fld := ⟨0x04C, 0, 1⟩
def ADC.STAT.READY : Fld := ⟨0x058, 31, 1⟩
def ADC.STAT.PLUMB_OFF : Fld := ⟨0x058, 30, 1⟩
def ADC.STAT.TD : Fld := ⟨0x058, 28, 2⟩
def ADC.STAT.PLUMB : Fld := ⟨0x058, 24, 4⟩
def ADC.STAT.WDRAWN : Fld := ⟨0x058, 20, 4⟩
def ADC.STAT.DACOWN : Fld := ⟨0x058, 16, 2⟩
def ADC.STAT.ONSHIFT : Fld := ⟨0x058, 0, 4⟩
def ADC.EVT.SLICE_WITHDRAWN : Fld := ⟨0x05C, 6, 1⟩
def ADC.EVT.TD_TIMEOUT : Fld := ⟨0x05C, 5, 1⟩
def ADC.EVT.TD_FAIL : Fld := ⟨0x05C, 4, 1⟩
def ADC.EVT.TD_DONE : Fld := ⟨0x05C, 3, 1⟩
def ADC.EVT.MAN_DONE : Fld := ⟨0x05C, 2, 1⟩
def ADC.EVT.MAN_IGN : Fld := ⟨0x05C, 1, 1⟩
def ADC.EVT.STALE : Fld := ⟨0x05C, 0, 1⟩
def RES.WINCFG.EN : Fld := ⟨0x400, 31, 1⟩
def RES.WINCFG.MODE : Fld := ⟨0x400, 28, 2⟩
def RES.WINCFG.CNT : Fld := ⟨0x400, 24, 2⟩
def ENG.STAT.QDEPTH : Fld := ⟨0x040, 20, 8⟩
def ENG.STAT.SPEC : Fld := ⟨0x040, 12, 8⟩
def ENG.STAT.BUSY : Fld := ⟨0x040, 0, 4⟩
def ENG.EVT.FRAME_MISMATCH : Fld := ⟨0x044, 9, 1⟩
def ENG.EVT.NOCHAIN : Fld := ⟨0x044, 8, 1⟩
def ENG.EVT.RESET_DONE : Fld := ⟨0x044, 7, 1⟩
def ENG.EVT.CMD_IGN : Fld := ⟨0x044, 6, 1⟩
def ENG.EVT.STAGE_LIVE_WRITE : Fld := ⟨0x044, 5, 1⟩
def ENG.EVT.CTX_LIVE_WRITE : Fld := ⟨0x044, 4, 1⟩
def ENG.EVT.CMP : Fld := ⟨0x044, 3, 1⟩
def ENG.EVT.SAT : Fld := ⟨0x044, 2, 1⟩
def ENG.EVT.SQUASH : Fld := ⟨0x044, 1, 1⟩
def ENG.EVT.DEADLINE_MISS : Fld := ⟨0x044, 0, 1⟩
def ENG.VERR.CHECK : Fld := ⟨0x050, 28, 4⟩
def ENG.VERR.CTX : Fld := ⟨0x050, 16, 8⟩
def ENG.VERR.SLOT : Fld := ⟨0x050, 0, 12⟩
def ENG.CHAIN.EN : Fld := ⟨0x100, 31, 1⟩
def ENG.CHAIN.RA : Fld := ⟨0x100, 30, 1⟩
def ENG.CHAIN.BIND : Fld := ⟨0x100, 29, 1⟩
def ENG.CHAIN.NST : Fld := ⟨0x100, 18, 6⟩
def ENG.CHAIN.TOL : Fld := ⟨0x100, 12, 6⟩
def ENG.CHAIN.FIRST : Fld := ⟨0x100, 0, 12⟩
def ENG.CSTAT.STATE : Fld := ⟨0x400, 28, 4⟩
def ENG.CSTAT.TAG : Fld := ⟨0x400, 20, 8⟩
def ENG.CSTAT.SAT : Fld := ⟨0x400, 19, 1⟩
def ENG.CSTAT.MISS : Fld := ⟨0x400, 18, 1⟩
def ENG.CSTAT.SQUASHED : Fld := ⟨0x400, 17, 1⟩
def ENG.CSTAT.PRED : Fld := ⟨0x400, 16, 1⟩
def ENG.CSTAT.SLACK : Fld := ⟨0x400, 0, 12⟩
def AXIS.CFG.EN : Fld := ⟨0x040, 31, 1⟩
def AXIS.CFG.SIX : Fld := ⟨0x040, 30, 1⟩
def AXIS.CFG.SENSE : Fld := ⟨0x040, 28, 2⟩
def AXIS.CFG.FRAME : Fld := ⟨0x040, 24, 4⟩
def AXIS.CFG.CTX : Fld := ⟨0x040, 16, 8⟩
def AXIS.CFG.FB_EN : Fld := ⟨0x040, 15, 1⟩
def AXIS.CFG.COMM_SRC : Fld := ⟨0x040, 14, 1⟩
def AXIS.CFG.FB : Fld := ⟨0x040, 8, 4⟩
def AXIS.CFG.SAFE : Fld := ⟨0x040, 6, 2⟩
def AXIS.CFG.PARK : Fld := ⟨0x040, 4, 2⟩
def AXIS.DCR.EN_A : Fld := ⟨0x074, 31, 1⟩
def AXIS.DCR.IN_A : Fld := ⟨0x074, 24, 6⟩
def AXIS.DCR.EN_B : Fld := ⟨0x074, 23, 1⟩
def AXIS.DCR.IN_B : Fld := ⟨0x074, 16, 6⟩
def AXIS.DCR.DET_MIN : Fld := ⟨0x074, 8, 8⟩
def AXIS.DCR.PRED_MAX : Fld := ⟨0x074, 0, 8⟩
def AXIS.CMD.FO_RESET : Fld := ⟨0x08C, 3, 1⟩
def AXIS.CMD.COAST : Fld := ⟨0x08C, 2, 1⟩
def AXIS.CMD.STOP : Fld := ⟨0x08C, 1, 1⟩
def AXIS.CMD.START : Fld := ⟨0x08C, 0, 1⟩
def AXIS.ASTAT.STATE : Fld := ⟨0x090, 28, 4⟩
def AXIS.ASTAT.SETB_DROP : Fld := ⟨0x090, 22, 1⟩
def AXIS.ASTAT.FO_B : Fld := ⟨0x090, 21, 1⟩
def AXIS.ASTAT.FO_A : Fld := ⟨0x090, 20, 1⟩
def AXIS.ASTAT.PRED_NOW : Fld := ⟨0x090, 19, 1⟩
def AXIS.ASTAT.LR_ARMED : Fld := ⟨0x090, 18, 1⟩
def AXIS.ASTAT.SPDLIM : Fld := ⟨0x090, 17, 1⟩
def AXIS.ASTAT.VSAT : Fld := ⟨0x090, 16, 1⟩
def AXIS.ASTAT.MINSCALE : Fld := ⟨0x090, 0, 9⟩
def AXIS.EVT.SLOT_TYPE : Fld := ⟨0x0A8, 8, 1⟩
def AXIS.EVT.CMD_IGN : Fld := ⟨0x0A8, 7, 1⟩
def AXIS.EVT.LOCKED : Fld := ⟨0x0A8, 6, 1⟩
def AXIS.EVT.SENS_LOST : Fld := ⟨0x0A8, 5, 1⟩
def AXIS.EVT.FAILOVER : Fld := ⟨0x0A8, 4, 1⟩
def AXIS.EVT.RANGE : Fld := ⟨0x0A8, 3, 1⟩
def AXIS.EVT.SUM : Fld := ⟨0x0A8, 2, 1⟩
def AXIS.EVT.SPDLIM : Fld := ⟨0x0A8, 1, 1⟩
def AXIS.EVT.VSAT : Fld := ⟨0x0A8, 0, 1⟩
def AXIS.HSTAT.RUNREQ : Fld := ⟨0x0F4, 31, 1⟩
def AXIS.HSTAT.LOST : Fld := ⟨0x0F4, 30, 1⟩
def AXIS.HSTAT.HOLD : Fld := ⟨0x0F4, 28, 2⟩
def AXIS.HSTAT.DROP : Fld := ⟨0x0F4, 26, 2⟩
def AXIS.HSTAT.FORCED : Fld := ⟨0x0F4, 25, 1⟩
def AXIS.HSTAT.CFAILS : Fld := ⟨0x0F4, 16, 4⟩
def AXIS.HSTAT.UHAT : Fld := ⟨0x0F4, 0, 16⟩
def AXIS.EVT2.ROLL : Fld := ⟨0x100, 7, 1⟩
def AXIS.EVT2.BUS_LOST : Fld := ⟨0x100, 6, 1⟩
def AXIS.EVT2.BUS_OV : Fld := ⟨0x100, 5, 1⟩
def AXIS.EVT2.SET_DROP : Fld := ⟨0x100, 4, 1⟩
def AXIS.EVT2.PHASE_OPEN : Fld := ⟨0x100, 3, 1⟩
def AXIS.EVT2.OBS_LOST : Fld := ⟨0x100, 2, 1⟩
def AXIS.EVT2.CATCH_FAIL : Fld := ⟨0x100, 1, 1⟩
def AXIS.EVT2.SOUND_FAIL : Fld := ⟨0x100, 0, 1⟩
def AXIS.IEN2.ROLL : Fld := ⟨0x104, 7, 1⟩
def AXIS.IEN2.BUS_LOST : Fld := ⟨0x104, 6, 1⟩
def AXIS.IEN2.BUS_OV : Fld := ⟨0x104, 5, 1⟩
def AXIS.IEN2.SET_DROP : Fld := ⟨0x104, 4, 1⟩
def AXIS.IEN2.PHASE_OPEN : Fld := ⟨0x104, 3, 1⟩
def AXIS.IEN2.OBS_LOST : Fld := ⟨0x104, 2, 1⟩
def AXIS.IEN2.CATCH_FAIL : Fld := ⟨0x104, 1, 1⟩
def AXIS.IEN2.SOUND_FAIL : Fld := ⟨0x104, 0, 1⟩
def FB.CFG.EN : Fld := ⟨0x040, 31, 1⟩
def FB.CFG.REV : Fld := ⟨0x040, 30, 1⟩
def FB.CFG.MODE : Fld := ⟨0x040, 28, 2⟩
def FB.CFG.IDX_POL : Fld := ⟨0x040, 26, 2⟩
def FB.CFG.IDX_EN : Fld := ⟨0x040, 25, 1⟩
def FB.CFG.FILT : Fld := ⟨0x040, 16, 8⟩
def FB.CFG.PP : Fld := ⟨0x040, 8, 6⟩
def FB.CFG.IQ_B : Fld := ⟨0x040, 1, 1⟩
def FB.CFG.IQ_A : Fld := ⟨0x040, 0, 1⟩
def FB.ABS.PBITS : Fld := ⟨0x05C, 26, 6⟩
def FB.ABS.SBITS : Fld := ⟨0x05C, 23, 3⟩
def FB.ABS.CHK : Fld := ⟨0x05C, 21, 2⟩
def FB.ABS.GRAY : Fld := ⟨0x05C, 20, 1⟩
def FB.ABS.LEAD : Fld := ⟨0x05C, 18, 2⟩
def FB.ABS.DIV : Fld := ⟨0x05C, 8, 8⟩
def FB.ABS.LAT : Fld := ⟨0x05C, 0, 8⟩
def FB.FSTAT.SECTOR : Fld := ⟨0x08C, 29, 3⟩
def FB.FSTAT.HOMED : Fld := ⟨0x08C, 28, 1⟩
def FB.FSTAT.FAILED : Fld := ⟨0x08C, 27, 1⟩
def FB.FSTAT.METHOD : Fld := ⟨0x08C, 26, 1⟩
def FB.FSTAT.DIR : Fld := ⟨0x08C, 25, 1⟩
def FB.FSTAT.MOVING : Fld := ⟨0x08C, 24, 1⟩
def FB.FSTAT.LINES : Fld := ⟨0x08C, 20, 3⟩
def FB.FSTAT.ERRCNT : Fld := ⟨0x08C, 8, 8⟩
def FB.FSTAT.MISS : Fld := ⟨0x08C, 0, 3⟩
def FB.EVT.EMU_LAG : Fld := ⟨0x0A4, 6, 1⟩
def FB.EVT.FAILED : Fld := ⟨0x0A4, 5, 1⟩
def FB.EVT.ABS_FAIL : Fld := ⟨0x0A4, 4, 1⟩
def FB.EVT.HOMED : Fld := ⟨0x0A4, 3, 1⟩
def FB.EVT.INDEX_MISSING : Fld := ⟨0x0A4, 2, 1⟩
def FB.EVT.INDEX_MISMATCH : Fld := ⟨0x0A4, 1, 1⟩
def FB.EVT.EDGE : Fld := ⟨0x0A4, 0, 1⟩
def CONV.CFG.EN : Fld := ⟨0x040, 31, 1⟩
def CONV.CFG.ROLE : Fld := ⟨0x040, 28, 3⟩
def CONV.CFG.FRAME : Fld := ⟨0x040, 24, 4⟩
def CONV.CFG.CTX : Fld := ⟨0x040, 16, 8⟩
def CONV.CFG.NPH : Fld := ⟨0x040, 13, 3⟩
def CONV.CFG.AUTO : Fld := ⟨0x040, 12, 1⟩
def CONV.CFG.LFR_EN : Fld := ⟨0x040, 11, 1⟩
def CONV.CFG.REFEXP : Fld := ⟨0x040, 0, 8⟩
def CONV.CSTAT.STATE : Fld := ⟨0x084, 28, 4⟩
def CONV.CSTAT.CTC : Fld := ⟨0x084, 27, 1⟩
def CONV.CSTAT.FOLD : Fld := ⟨0x084, 26, 1⟩
def CONV.CSTAT.PAUSE : Fld := ⟨0x084, 25, 1⟩
def CONV.CSTAT.PACK : Fld := ⟨0x084, 24, 1⟩
def CONV.CSTAT.FTRIPS : Fld := ⟨0x084, 20, 4⟩
def CONV.CSTAT.MINSCALE : Fld := ⟨0x084, 0, 9⟩
def CONV.EVT.SS_DONE : Fld := ⟨0x094, 11, 1⟩
def CONV.EVT.CMD_IGN : Fld := ⟨0x094, 10, 1⟩
def CONV.EVT.LF_LOST : Fld := ⟨0x094, 9, 1⟩
def CONV.EVT.LF_WRITTEN : Fld := ⟨0x094, 8, 1⟩
def CONV.EVT.DUMP_ON : Fld := ⟨0x094, 7, 1⟩
def CONV.EVT.PACK_LOST : Fld := ⟨0x094, 6, 1⟩
def CONV.EVT.PC_DONE : Fld := ⟨0x094, 5, 1⟩
def CONV.EVT.PC_TIMEOUT : Fld := ⟨0x094, 4, 1⟩
def CONV.EVT.OV : Fld := ⟨0x094, 3, 1⟩
def CONV.EVT.OVERLOAD : Fld := ⟨0x094, 2, 1⟩
def CONV.EVT.SHORT : Fld := ⟨0x094, 1, 1⟩
def CONV.EVT.FAST : Fld := ⟨0x094, 0, 1⟩
def FLT.RETRY.RETRY_MAX : Fld := ⟨0x040, 24, 4⟩
def FLT.RETRY.RETRY_DLY : Fld := ⟨0x040, 16, 8⟩
def FLT.RETRY.RETRY_WINDOW : Fld := ⟨0x040, 0, 16⟩
def FLT.STAT.LEVEL : Fld := ⟨0x05C, 29, 3⟩
def FLT.STAT.HARDSAFE : Fld := ⟨0x05C, 28, 1⟩
def FLT.STAT.DIES : Fld := ⟨0x05C, 24, 4⟩
def FLT.TALLY_HI.LEVEL : Fld := ⟨0x084, 29, 3⟩
def FLT.TALLY_HI.ESC : Fld := ⟨0x084, 28, 1⟩
def FLT.TALLY_HI.INJ : Fld := ⟨0x084, 27, 1⟩
def FLT.TALLY_HI.INJ_ACTIVE : Fld := ⟨0x084, 26, 1⟩
def FLT.TALLY_HI.USEC : Fld := ⟨0x084, 0, 26⟩
def FLT.EVT.CFG_IGN : Fld := ⟨0x060, 15, 1⟩
def FLT.EVT.JRNL_FAIL : Fld := ⟨0x060, 14, 1⟩
def FLT.EVT.CLASS : Fld := ⟨0x060, 13, 1⟩
def FLT.EVT.INJ_ABORT : Fld := ⟨0x060, 12, 1⟩
def FLT.EVT.INJ_DONE : Fld := ⟨0x060, 11, 1⟩
def FLT.EVT.REC_IGN : Fld := ⟨0x060, 10, 1⟩
def FLT.EVT.REC_REFUSED : Fld := ⟨0x060, 9, 1⟩
def FLT.EVT.REC_DONE : Fld := ⟨0x060, 8, 1⟩
def FLT.EVT.TALLY_OVF : Fld := ⟨0x060, 7, 1⟩
def FLT.EVT.RETIRED : Fld := ⟨0x060, 6, 1⟩
def FLT.EVT.ESCALATED : Fld := ⟨0x060, 5, 1⟩
def FLT.CLSCFG.IRQ : Fld := ⟨0x100, 8, 1⟩
def FLT.CLSCFG.LVL_MIN : Fld := ⟨0x100, 0, 3⟩
def AUTH.STATE.PHASE : Fld := ⟨0x040, 28, 4⟩
def AUTH.STATE.ACK : Fld := ⟨0x040, 20, 4⟩
def AUTH.STATE.DCLAIM : Fld := ⟨0x040, 17, 1⟩
def AUTH.STATE.HCLAIM : Fld := ⟨0x040, 16, 1⟩
def AUTH.STATE.HOLDER : Fld := ⟨0x040, 8, 2⟩
def AUTH.STATE.ARMED : Fld := ⟨0x040, 0, 1⟩
def AUTH.EVT.WR_IGN : Fld := ⟨0x05C, 9, 1⟩
def AUTH.EVT.BLOCKED : Fld := ⟨0x05C, 8, 1⟩
def AUTH.EVT.CONFLICT : Fld := ⟨0x05C, 7, 1⟩
def AUTH.EVT.REQ_TIMEOUT : Fld := ⟨0x05C, 6, 1⟩
def AUTH.EVT.DENIED : Fld := ⟨0x05C, 5, 1⟩
def AUTH.EVT.TAKEN : Fld := ⟨0x05C, 4, 1⟩
def AUTH.EVT.SWITCHED : Fld := ⟨0x05C, 3, 1⟩
def AUTH.EVT.REQ_LOST : Fld := ⟨0x05C, 2, 1⟩
def AUTH.EVT.REQUEST : Fld := ⟨0x05C, 1, 1⟩
def AUTH.EVT.BEAT_LATE : Fld := ⟨0x05C, 0, 1⟩
def GANG.PRES.PRES_LEVEL : Fld := ⟨0x054, 0, 16⟩
def GANG.COUNT.FF_COUNT : Fld := ⟨0x0B4, 16, 16⟩
def GANG.COUNT.SHED_COUNT : Fld := ⟨0x0B4, 0, 16⟩
def GANG.REGANG.REGANG_COUNT : Fld := ⟨0x0B8, 0, 16⟩
def LEG.BLANK.BLANK : Fld := ⟨0x044, 0, 8⟩
def LEG.BSTUV.BST : Fld := ⟨0x050, 0, 8⟩
def LEG.COUNT.TRIPS : Fld := ⟨0x068, 16, 16⟩
def LEG.COUNT.PRES_MISSES : Fld := ⟨0x068, 0, 16⟩
def DDIE.VDRV_UV.THRESH : Fld := ⟨0x044, 0, 8⟩
def DDIE.LINKCNT.CHECK_FAIL : Fld := ⟨0x054, 16, 16⟩
def DDIE.LINKCNT.AUTH_DISC : Fld := ⟨0x054, 0, 16⟩
def DDIE.LEGCNT.INTLK_TO : Fld := ⟨0x058, 16, 16⟩
def DDIE.LEGCNT.BLANK_HITS : Fld := ⟨0x058, 0, 16⟩
def DDIE.STRCNT.STR_LIMIT : Fld := ⟨0x05C, 0, 16⟩
def FRAME.LATE.LATE : Fld := ⟨0x048, 0, 12⟩
def FRAME.DHOLD.HOLD_MAX : Fld := ⟨0x050, 0, 8⟩
def FRAME.COUNT.LATE_COUNT : Fld := ⟨0x074, 16, 16⟩
def FRAME.COUNT.HELD_COUNT : Fld := ⟨0x074, 0, 16⟩
def FRAME.COUNT2.SLIP_COUNT : Fld := ⟨0x078, 16, 16⟩
def FRAME.COUNT2.AHEAD_COUNT : Fld := ⟨0x078, 0, 16⟩
def FRAME.MDUTY.DUTY : Fld := ⟨0x100, 0, 20⟩
def ROST.COUNT.LIVE_WRITES : Fld := ⟨0x060, 16, 16⟩
def ROST.COUNT.JOB_DROPS : Fld := ⟨0x060, 0, 16⟩
def ROST.COUNT2.DISP_LATE : Fld := ⟨0x064, 16, 16⟩
def ROST.COUNT2.BEYOND : Fld := ⟨0x064, 0, 16⟩
def ADC.CFG.TDMON_EN : Fld := ⟨0x040, 1, 1⟩
def ADC.CFG.VREF_EXT : Fld := ⟨0x040, 0, 1⟩
def ADC.MANRES.VALID : Fld := ⟨0x044, 7, 1⟩
def ADC.MANRES.RES : Fld := ⟨0x044, 0, 6⟩
def ADC.TDTOL.TOL : Fld := ⟨0x050, 0, 8⟩
def ADC.TDRES.VALID : Fld := ⟨0x054, 31, 1⟩
def ADC.TDRES.PASS : Fld := ⟨0x054, 30, 1⟩
def ADC.TDRES.EXP : Fld := ⟨0x054, 16, 14⟩
def ADC.TDRES.MEAS : Fld := ⟨0x054, 0, 14⟩
def ADC.COUNT.GUARD_SKIP : Fld := ⟨0x064, 16, 16⟩
def ADC.COUNT.STALE : Fld := ⟨0x064, 0, 16⟩
def ADC.COUNT2.TD_FAIL : Fld := ⟨0x068, 16, 16⟩
def ADC.GUARD.EN : Fld := ⟨0x100, 31, 1⟩
def ADC.GUARD.FRAME : Fld := ⟨0x100, 24, 4⟩
def ADC.GUARD.SETTLE : Fld := ⟨0x100, 0, 8⟩
def SLICE.SSTAT.STATE : Fld := ⟨0x040, 28, 4⟩
def SLICE.SSTAT.FAILS : Fld := ⟨0x040, 24, 2⟩
def SLICE.SSTAT.PLUMBS : Fld := ⟨0x040, 0, 16⟩
def SLICE.OFS.OFS : Fld := ⟨0x044, 0, 10⟩
def SLICE.GAIN.GAIN : Fld := ⟨0x048, 0, 12⟩
def SLICE.SKEW.SKEW : Fld := ⟨0x04C, 0, 6⟩
def SLICE.LASTFAIL.VALID : Fld := ⟨0x058, 31, 1⟩
def SLICE.LASTFAIL.CAUSE : Fld := ⟨0x058, 0, 3⟩
def RES.WINLIM.HI : Fld := ⟨0x300, 16, 14⟩
def RES.WINLIM.LO : Fld := ⟨0x300, 0, 14⟩
def ENG.CTXCMD.CTX : Fld := ⟨0x04C, 8, 8⟩
def ENG.CTXCMD.RESET : Fld := ⟨0x04C, 0, 1⟩
def ENG.EVTLOG.VALID : Fld := ⟨0x054, 31, 1⟩
def ENG.EVTLOG.KIND : Fld := ⟨0x054, 27, 4⟩
def ENG.EVTLOG.CTX : Fld := ⟨0x054, 16, 8⟩
def ENG.EVTLOG.DETAIL : Fld := ⟨0x054, 0, 12⟩
def ENG.COUNT.DEADLINE_MISS : Fld := ⟨0x058, 16, 16⟩
def ENG.COUNT.SQUASH : Fld := ⟨0x058, 0, 16⟩
def ENG.COUNT2.SPEC_COMMIT : Fld := ⟨0x05C, 16, 16⟩
def ENG.COUNT2.SAT : Fld := ⟨0x05C, 0, 16⟩
def AXIS.TAP0.THETA : Fld := ⟨0x044, 24, 8⟩
def AXIS.TAP0.OMEGA : Fld := ⟨0x044, 16, 8⟩
def AXIS.TAP0.ID : Fld := ⟨0x044, 8, 8⟩
def AXIS.TAP0.IQ : Fld := ⟨0x044, 0, 8⟩
def AXIS.TAP1.VD : Fld := ⟨0x048, 24, 8⟩
def AXIS.TAP1.VQ : Fld := ⟨0x048, 16, 8⟩
def AXIS.TAP1.VBUS : Fld := ⟨0x048, 8, 8⟩
def AXIS.TAP1.RESID : Fld := ⟨0x048, 0, 8⟩
def AXIS.VLIM.MI : Fld := ⟨0x04C, 16, 9⟩
def AXIS.VLIM.LC : Fld := ⟨0x04C, 0, 12⟩
def AXIS.VLIM2.PID : Fld := ⟨0x050, 16, 12⟩
def AXIS.VLIM2.PIQ : Fld := ⟨0x050, 0, 12⟩
def AXIS.ILIM.FO_PCT : Fld := ⟨0x054, 24, 8⟩
def AXIS.ILIM.IMAX : Fld := ⟨0x054, 0, 16⟩
def AXIS.TLIM.IQ_MOT : Fld := ⟨0x058, 16, 16⟩
def AXIS.TLIM.IQ_GEN : Fld := ⟨0x058, 0, 16⟩
def AXIS.SLIM.SPD_MAX : Fld := ⟨0x05C, 16, 16⟩
def AXIS.SLIM.SPD_BAND : Fld := ⟨0x05C, 0, 16⟩
def AXIS.REFFMT.EXP : Fld := ⟨0x060, 0, 8⟩
def AXIS.IREQ.IQ_REQ : Fld := ⟨0x088, 16, 16⟩
def AXIS.IREQ.ID_REQ : Fld := ⟨0x088, 0, 16⟩
def AXIS.ZERO.DCZ : Fld := ⟨0x070, 16, 14⟩
def AXIS.ZERO.PHZ : Fld := ⟨0x070, 0, 14⟩
def AXIS.SRNG.HI : Fld := ⟨0x078, 16, 14⟩
def AXIS.SRNG.LO : Fld := ⟨0x078, 0, 14⟩
def AXIS.SSUM.PLAUS_EN : Fld := ⟨0x07C, 31, 1⟩
def AXIS.SSUM.SUM_MAX : Fld := ⟨0x07C, 0, 16⟩
def AXIS.LR.LR_IQ : Fld := ⟨0x080, 16, 16⟩
def AXIS.LR.LR_TIME : Fld := ⟨0x080, 0, 16⟩
def AXIS.SOUND.WIN : Fld := ⟨0x084, 16, 16⟩
def AXIS.SOUND.CATCH_MAX : Fld := ⟨0x084, 0, 16⟩
def AXIS.IEFF.IEFF : Fld := ⟨0x094, 16, 16⟩
def AXIS.IEFF.IQREF : Fld := ⟨0x094, 0, 16⟩
def AXIS.SPEED.FE : Fld := ⟨0x098, 16, 16⟩
def AXIS.SPEED.NOCOMM : Fld := ⟨0x098, 0, 16⟩
def AXIS.VSTAT.LIM : Fld := ⟨0x09C, 16, 16⟩
def AXIS.VSTAT.VMAG : Fld := ⟨0x09C, 0, 16⟩
def AXIS.RECON_A.IU : Fld := ⟨0x0A0, 16, 16⟩
def AXIS.RECON_A.IV : Fld := ⟨0x0A0, 0, 16⟩
def AXIS.RECON_B.IU : Fld := ⟨0x0A4, 16, 16⟩
def AXIS.RECON_B.IV : Fld := ⟨0x0A4, 0, 16⟩
def AXIS.COUNT.PRED_COUNT : Fld := ⟨0x0B0, 16, 16⟩
def AXIS.COUNT.VSAT_COUNT : Fld := ⟨0x0B0, 0, 16⟩
def AXIS.SNDK.VK : Fld := ⟨0x0C8, 0, 24⟩
def AXIS.SNDL.VMIN : Fld := ⟨0x0CC, 16, 16⟩
def AXIS.SNDL.VZ : Fld := ⟨0x0CC, 0, 14⟩
def AXIS.SEED.PLL : Fld := ⟨0x0D0, 16, 12⟩
def AXIS.SEED.OBS : Fld := ⟨0x0D0, 0, 12⟩
def AXIS.CATCH.CATCH_T : Fld := ⟨0x0D4, 24, 8⟩
def AXIS.CATCH.TRIES : Fld := ⟨0x0D4, 16, 4⟩
def AXIS.CATCH.RESOUND : Fld := ⟨0x0D4, 0, 16⟩
def AXIS.RUN.START_HZ : Fld := ⟨0x0D8, 16, 16⟩
def AXIS.RUN.ZERO_HZ : Fld := ⟨0x0D8, 0, 16⟩
def AXIS.DEC.DEC_IQ : Fld := ⟨0x0DC, 16, 16⟩
def AXIS.DEC.OPEN_I : Fld := ⟨0x0DC, 0, 16⟩
def AXIS.BUSW.BUS_HI : Fld := ⟨0x0E4, 16, 16⟩
def AXIS.BUSW.BUS_BAND : Fld := ⟨0x0E4, 0, 16⟩
def AXIS.BUSL.BUS_MAX : Fld := ⟨0x0E8, 16, 16⟩
def AXIS.BUSL.BUS_LO : Fld := ⟨0x0E8, 0, 16⟩
def AXIS.SEL.DUMP_EN : Fld := ⟨0x0EC, 31, 1⟩
def AXIS.SEL.DUMP : Fld := ⟨0x0EC, 24, 4⟩
def AXIS.SEL.KE : Fld := ⟨0x0EC, 0, 24⟩
def AXIS.HOLD.ESC : Fld := ⟨0x0F0, 31, 1⟩
def AXIS.HOLD.ROLL_HZ : Fld := ⟨0x0F0, 0, 16⟩
def AXIS.SNDR.RESULT : Fld := ⟨0x0F8, 28, 4⟩
def AXIS.SNDR.SETS : Fld := ⟨0x0F8, 8, 8⟩
def AXIS.SNDV.FE : Fld := ⟨0x0FC, 16, 16⟩
def AXIS.SNDV.AMP : Fld := ⟨0x0FC, 0, 16⟩
def AXIS.COUNT2.OBS_LOST : Fld := ⟨0x108, 16, 16⟩
def AXIS.COUNT2.CATCH_FAILS : Fld := ⟨0x108, 0, 16⟩
def FB.EDGE.EDGE_MAX : Fld := ⟨0x050, 24, 8⟩
def FB.EDGE.MIN_EDGE : Fld := ⟨0x050, 0, 16⟩
def FB.SPDCFG.GATE : Fld := ⟨0x054, 16, 16⟩
def FB.SPDCFG.CO_HI : Fld := ⟨0x054, 8, 8⟩
def FB.SPDCFG.CO_LO : Fld := ⟨0x054, 0, 8⟩
def FB.ZEROT.ZERO_T : Fld := ⟨0x058, 0, 16⟩
def FB.ABS2.ERR_MASK : Fld := ⟨0x060, 24, 7⟩
def FB.ABS2.ABS_MAX : Fld := ⟨0x060, 16, 8⟩
def FB.ABS2.REC : Fld := ⟨0x060, 0, 16⟩
def FB.EMU.EN : Fld := ⟨0x064, 31, 1⟩
def FB.EMU.ZEN : Fld := ⟨0x064, 30, 1⟩
def FB.EMU.ELINES : Fld := ⟨0x064, 0, 22⟩
def FB.EMU2.EMAX : Fld := ⟨0x068, 16, 16⟩
def FB.EMU2.EMIN : Fld := ⟨0x068, 0, 16⟩
def FB.CAP.EN : Fld := ⟨0x06C, 31, 1⟩
def FB.CAP.FRAME : Fld := ⟨0x06C, 24, 4⟩
def FB.CMD.CLR_FAIL : Fld := ⟨0x070, 2, 1⟩
def FB.CMD.CLR_HOMED : Fld := ⟨0x070, 1, 1⟩
def FB.CMD.SET_POS : Fld := ⟨0x070, 0, 1⟩
def FB.IDXDEV.VALID : Fld := ⟨0x094, 31, 1⟩
def FB.IDXDEV.MATCH : Fld := ⟨0x094, 30, 1⟩
def FB.ABSSTAT.VALID : Fld := ⟨0x09C, 31, 1⟩
def FB.ABSSTAT.CAUSE : Fld := ⟨0x09C, 28, 2⟩
def FB.ABSSTAT.STATUS : Fld := ⟨0x09C, 16, 7⟩
def FB.COUNT.EDGE : Fld := ⟨0x0AC, 16, 16⟩
def FB.COUNT.MISMATCH : Fld := ⟨0x0AC, 0, 16⟩
def FB.COUNT2.ABS_FAIL : Fld := ⟨0x0B0, 16, 16⟩
def FB.COUNT2.EMU_LAG : Fld := ⟨0x0B0, 0, 16⟩
def CONV.TAP.VIN : Fld := ⟨0x044, 24, 8⟩
def CONV.TAP.VOUT : Fld := ⟨0x044, 16, 8⟩
def CONV.TAP.IL : Fld := ⟨0x044, 8, 8⟩
def CONV.VREF.VTGT : Fld := ⟨0x048, 16, 16⟩
def CONV.VREF.OV_V : Fld := ⟨0x048, 0, 16⟩
def CONV.SS.FOLD_STEP : Fld := ⟨0x04C, 16, 16⟩
def CONV.SS.SS_STEP : Fld := ⟨0x04C, 0, 16⟩
def CONV.ILIM.FOLD_I : Fld := ⟨0x050, 16, 16⟩
def CONV.ILIM.OL_I : Fld := ⟨0x050, 0, 16⟩
def CONV.OLT.OL_TIME : Fld := ⟨0x054, 0, 16⟩
def CONV.FAST.RES : Fld := ⟨0x058, 24, 6⟩
def CONV.FAST.IZ : Fld := ⟨0x058, 0, 14⟩
def CONV.FASTK.IK : Fld := ⟨0x05C, 0, 24⟩
def CONV.FASTL.FAST_I : Fld := ⟨0x060, 16, 16⟩
def CONV.FASTL.FAST_OFF : Fld := ⟨0x060, 8, 8⟩
def CONV.FASTL.FAST_MAX : Fld := ⟨0x060, 0, 8⟩
def CONV.FASTW.FAST_WIN : Fld := ⟨0x064, 0, 16⟩
def CONV.PCHG.PC_I : Fld := ⟨0x068, 16, 16⟩
def CONV.PCHG.PC_DONE : Fld := ⟨0x068, 0, 16⟩
def CONV.PCHG2.PC_TMAX : Fld := ⟨0x06C, 16, 16⟩
def CONV.PCHG2.CT_DLY : Fld := ⟨0x06C, 0, 16⟩
def CONV.PACK.CTC_EN : Fld := ⟨0x070, 31, 1⟩
def CONV.PACK.CTC_PIN : Fld := ⟨0x070, 16, 8⟩
def CONV.PACK.PACK_MIN : Fld := ⟨0x070, 0, 16⟩
def CONV.DUMP.DUMP_ON : Fld := ⟨0x074, 16, 16⟩
def CONV.DUMP.DUMP_OFF : Fld := ⟨0x074, 0, 16⟩
def CONV.LFCFG.NEXT : Fld := ⟨0x07C, 16, 16⟩
def CONV.LFCFG.LFN : Fld := ⟨0x07C, 0, 4⟩
def CONV.CMD.STOP : Fld := ⟨0x080, 1, 1⟩
def CONV.CMD.START : Fld := ⟨0x080, 0, 1⟩
def CONV.VSTAT.VSS : Fld := ⟨0x088, 16, 16⟩
def CONV.VSTAT.OLCNT : Fld := ⟨0x088, 0, 16⟩
def CONV.MEAS.VOUT : Fld := ⟨0x08C, 16, 16⟩
def CONV.MEAS.IL : Fld := ⟨0x08C, 0, 16⟩
def CONV.MEAS2.VIN : Fld := ⟨0x090, 16, 16⟩
def CONV.COUNT.FAST_TRIPS : Fld := ⟨0x09C, 16, 16⟩
def CONV.COUNT.FOLDS : Fld := ⟨0x09C, 0, 16⟩
def CONV.LFSTAT.SEQ : Fld := ⟨0x0A0, 16, 16⟩
def CONV.LFSTAT.STAT : Fld := ⟨0x0A0, 0, 2⟩
def FLT.ESC.ESC_WIN : Fld := ⟨0x044, 0, 16⟩
def FLT.QUIET.Q34 : Fld := ⟨0x048, 16, 16⟩
def FLT.QUIET.Q2 : Fld := ⟨0x048, 0, 16⟩
def FLT.CMD.CLR_TALLY : Fld := ⟨0x068, 1, 1⟩
def FLT.CMD.CLR_FIRST : Fld := ⟨0x068, 0, 1⟩
def FLT.TSTAT.OVF : Fld := ⟨0x088, 16, 16⟩
def FLT.TSTAT.DEPTH : Fld := ⟨0x088, 0, 7⟩
def ARB.CTL.FREEZE : Fld := ⟨0x040, 31, 1⟩
def ARB.CTL.RES_AGE : Fld := ⟨0x040, 0, 16⟩
def ARB.STARVE.STARVE_LIM : Fld := ⟨0x044, 0, 16⟩
def ARB.GSTAT.FROZEN : Fld := ⟨0x058, 31, 1⟩
def ARB.GSTAT.HOLDER : Fld := ⟨0x058, 24, 5⟩
def ARB.GSTAT.RESERVED : Fld := ⟨0x058, 16, 5⟩
def ARB.EVT.WR_IGN : Fld := ⟨0x064, 4, 1⟩
def ARB.EVT.DMA_ERR : Fld := ⟨0x064, 3, 1⟩
def ARB.EVT.DMA_DONE : Fld := ⟨0x064, 2, 1⟩
def ARB.EVT.RESERVED : Fld := ⟨0x064, 1, 1⟩
def ARB.EVT.STARVED : Fld := ⟨0x064, 0, 1⟩
def BG.SKPASS.S : Fld := ⟨0x04C, 16, 16⟩
def BG.SKPASS.D : Fld := ⟨0x04C, 0, 16⟩
def BG.SKCNT.CE : Fld := ⟨0x050, 16, 16⟩
def BG.SKCNT.UE : Fld := ⟨0x050, 0, 16⟩
def NV.NVSK_CNT.CE : Fld := ⟨0x048, 16, 16⟩
def NV.NVSK_CNT.UE : Fld := ⟨0x048, 0, 16⟩
def NV.JCNT.APPENDS : Fld := ⟨0x058, 16, 16⟩
def NV.JCNT.COPIES : Fld := ⟨0x058, 0, 16⟩
def BG.DSTAT.N : Fld := ⟨0x084, 0, 16⟩
def BG.DCFG.C : Fld := ⟨0x06C, 24, 6⟩
def BG.DCFG.B : Fld := ⟨0x06C, 16, 6⟩
def BG.TSEQ.SEQ : Fld := ⟨0x068, 0, 16⟩
def BG.TLEN.TLEN : Fld := ⟨0x064, 0, 16⟩
def BG.SKCFG.EN_S : Fld := ⟨0x040, 31, 1⟩
def BG.SKCFG.EN_D : Fld := ⟨0x040, 30, 1⟩
def BG.SKCFG.GAP_S : Fld := ⟨0x040, 0, 8⟩
def BG.TCFG.EN : Fld := ⟨0x054, 31, 1⟩
def BG.TCFG.MASK : Fld := ⟨0x054, 16, 8⟩
def BG.TCFG.TPERIOD : Fld := ⟨0x054, 0, 16⟩
def BG.DCFG.EN : Fld := ⟨0x06C, 31, 1⟩
def BG.DCFG.DPERIOD : Fld := ⟨0x06C, 0, 16⟩
def BG.DSETTLE.DSETTLE : Fld := ⟨0x070, 0, 16⟩
def BG.DRA.RA : Fld := ⟨0x074, 16, 16⟩
def BG.DRA.RS : Fld := ⟨0x074, 0, 16⟩
def BG.DK.KD : Fld := ⟨0x078, 16, 16⟩
def BG.DK.KB : Fld := ⟨0x078, 0, 16⟩
def BG.DLVL.RWARN : Fld := ⟨0x07C, 16, 16⟩
def BG.DLVL.RLOW : Fld := ⟨0x07C, 0, 16⟩
def BG.DRES.VALID : Fld := ⟨0x080, 31, 1⟩
def BG.DRES.RISO : Fld := ⟨0x080, 0, 16⟩
def BG.DSTAT.STEP : Fld := ⟨0x084, 28, 2⟩
def BG.DSTAT.SW : Fld := ⟨0x084, 27, 1⟩
def BG.EVT.CFG_IGN : Fld := ⟨0x088, 4, 1⟩
def BG.EVT.DAMP_ABANDON : Fld := ⟨0x088, 3, 1⟩
def BG.EVT.DAMP : Fld := ⟨0x088, 2, 1⟩
def BG.EVT.TREC : Fld := ⟨0x088, 1, 1⟩
def BG.EVT.SKWRAP : Fld := ⟨0x088, 0, 1⟩
def NV.NVSK.EN_M : Fld := ⟨0x040, 31, 1⟩
def NV.NVSK.GAP_M : Fld := ⟨0x040, 0, 8⟩
def NV.NVSK_PASS.MRAM : Fld := ⟨0x04C, 0, 16⟩
def NV.JSTAT.READY : Fld := ⟨0x050, 31, 1⟩
def NV.JSTAT.RECLAIM : Fld := ⟨0x050, 30, 1⟩
def NV.JSTAT.HEAD : Fld := ⟨0x050, 0, 12⟩
def NV.JCMD.FORMAT : Fld := ⟨0x054, 0, 1⟩
def NV.EVT.CMD_IGN : Fld := ⟨0x080, 2, 1⟩
def NV.EVT.RECLAIM : Fld := ⟨0x080, 1, 1⟩
def NV.EVT.SKWRAP : Fld := ⟨0x080, 0, 1⟩
def TOP.MODE.PREV : Fld := ⟨0x044, 4, 4⟩
def TOP.MODE.MODE : Fld := ⟨0x044, 0, 4⟩
def TOP.MODE_REQ.TARGET : Fld := ⟨0x048, 0, 4⟩
def TOP.MODE_STAT.VALID : Fld := ⟨0x04C, 31, 1⟩
def TOP.MODE_STAT.TARGET : Fld := ⟨0x04C, 16, 4⟩
def TOP.MODE_STAT.REASON : Fld := ⟨0x04C, 8, 4⟩
def TOP.RST.KEY : Fld := ⟨0x050, 24, 8⟩
def TOP.RST.HEWER : Fld := ⟨0x050, 1, 1⟩
def TOP.RST.DEVICE : Fld := ⟨0x050, 0, 1⟩
def TOP.EVT.CFG_IGN : Fld := ⟨0x068, 2, 1⟩
def TOP.EVT.MODE_REFUSED : Fld := ⟨0x068, 1, 1⟩
def TOP.EVT.MODE_CHANGED : Fld := ⟨0x068, 0, 1⟩
def CLK.CFG.SPREAD_EN : Fld := ⟨0x040, 31, 1⟩
def CLK.CFG.DEPTH : Fld := ⟨0x040, 0, 4⟩
def CLK.STAT.LOCKED : Fld := ⟨0x044, 31, 1⟩
def CLK.STAT.SPREADING : Fld := ⟨0x044, 30, 1⟩
def CLK.STAT.MON : Fld := ⟨0x044, 28, 2⟩
def CLK.STAT.CLK_PER : Fld := ⟨0x044, 0, 16⟩
def CLK.EVT.CFG_IGN : Fld := ⟨0x048, 2, 1⟩
def CLK.EVT.RELOCK : Fld := ⟨0x048, 1, 1⟩
def CLK.EVT.LOSS : Fld := ⟨0x048, 0, 1⟩
def PWR.RAIL.VKA_OK : Fld := ⟨0x040, 31, 1⟩
def PWR.TEMPCFG.WARN : Fld := ⟨0x048, 0, 8⟩
def PWR.EVT.TEMP_SHUT : Fld := ⟨0x04C, 3, 1⟩
def PWR.EVT.TEMP_WARN : Fld := ⟨0x04C, 2, 1⟩
def PWR.EVT.RAIL_OV : Fld := ⟨0x04C, 1, 1⟩
def PWR.EVT.RAIL_UV : Fld := ⟨0x04C, 0, 1⟩
def PWR.WAKE_EN.POL : Fld := ⟨0x054, 16, 2⟩
def PWR.WAKE_CAUSE.FIRST : Fld := ⟨0x058, 24, 4⟩
def PWR.PVW.CNT : Fld := ⟨0x05C, 24, 8⟩
def PWR.PVW.TH : Fld := ⟨0x05C, 0, 7⟩
def PWR.CANW.FILT : Fld := ⟨0x060, 0, 8⟩
def NV.UPD_CTL.VERIFY : Fld := ⟨0x100, 1, 1⟩
def NV.UPD_CTL.ERASE : Fld := ⟨0x100, 0, 1⟩
def NV.UPD_STAT.STATE : Fld := ⟨0x104, 30, 2⟩
def NV.UPD_STAT.ACTIVE : Fld := ⟨0x104, 29, 1⟩
def NV.UPD_STAT.BOOTED : Fld := ⟨0x104, 28, 1⟩
def NV.UPD_STAT.VALID_B : Fld := ⟨0x104, 1, 1⟩
def NV.UPD_STAT.VALID_A : Fld := ⟨0x104, 0, 1⟩
def NV.UPD_EVT.DONE : Fld := ⟨0x10C, 1, 1⟩
def NV.UPD_EVT.WR_IGN : Fld := ⟨0x10C, 0, 1⟩
def SPI.CFG.TMO : Fld := ⟨0x040, 0, 16⟩
def SPI.EVT.BUSY_REJ : Fld := ⟨0x044, 4, 1⟩
def SPI.EVT.TIMEOUT : Fld := ⟨0x044, 3, 1⟩
def SPI.EVT.FRAME : Fld := ⟨0x044, 2, 1⟩
def SPI.EVT.ACCESS : Fld := ⟨0x044, 1, 1⟩
def SPI.EVT.CRC : Fld := ⟨0x044, 0, 1⟩
def SPI.COUNT.CRC : Fld := ⟨0x04C, 16, 16⟩
def SPI.ERRLOG.VALID : Fld := ⟨0x050, 31, 1⟩
def SPI.ERRLOG.CMD : Fld := ⟨0x050, 0, 8⟩
def CAN.MODE.OPMODE : Fld := ⟨0x040, 28, 4⟩
def CAN.MODE.ONESHOT : Fld := ⟨0x040, 11, 1⟩
def CAN.MODE.AUTO_REJOIN : Fld := ⟨0x040, 10, 1⟩
def CAN.MODE.RATE_SW : Fld := ⟨0x040, 9, 1⟩
def CAN.MODE.FD_EN : Fld := ⟨0x040, 8, 1⟩
def CAN.ARBTIME.PRESC : Fld := ⟨0x044, 22, 9⟩
def CAN.ARBTIME.SEG1 : Fld := ⟨0x044, 14, 8⟩
def CAN.ARBTIME.SEG2 : Fld := ⟨0x044, 7, 7⟩
def CAN.ARBTIME.JUMP : Fld := ⟨0x044, 0, 7⟩
def CAN.DATATIME.PRESC : Fld := ⟨0x048, 16, 5⟩
def CAN.DATATIME.SEG1 : Fld := ⟨0x048, 8, 5⟩
def CAN.DATATIME.SEG2 : Fld := ⟨0x048, 4, 4⟩
def CAN.DATATIME.JUMP : Fld := ⟨0x048, 0, 4⟩
def CAN.XDC.EN : Fld := ⟨0x04C, 31, 1⟩
def CAN.XDC.SSP_OFS : Fld := ⟨0x04C, 0, 8⟩
def CAN.STAT.STATE : Fld := ⟨0x050, 29, 3⟩
def CAN.STAT.LASTERR : Fld := ⟨0x050, 24, 3⟩
def CAN.STAT.TXERR : Fld := ⟨0x050, 8, 8⟩
def CAN.STAT.RXERR : Fld := ⟨0x050, 0, 8⟩
def CAN.EVT.SPREAD : Fld := ⟨0x054, 7, 1⟩
def CAN.EVT.BUSOFF : Fld := ⟨0x054, 6, 1⟩
def CAN.EVT.PASSIVE : Fld := ⟨0x054, 5, 1⟩
def CAN.EVT.RX_OVF : Fld := ⟨0x054, 4, 1⟩
def CAN.EVT.RX : Fld := ⟨0x054, 3, 1⟩
def CAN.EVT.TX_DONE : Fld := ⟨0x054, 2, 1⟩
def CAN.EVT.TX_ABORTED : Fld := ⟨0x054, 1, 1⟩
def CAN.EVT.CFG_IGN : Fld := ⟨0x054, 0, 1⟩
def CAN.RXLEVEL.FIFO : Fld := ⟨0x06C, 0, 6⟩
def CAN.COUNT.RX : Fld := ⟨0x07C, 16, 16⟩
def CAN.ACCEPT0.EN : Fld := ⟨0x100, 31, 1⟩
def CAN.ACCEPT0.EXT : Fld := ⟨0x100, 29, 1⟩
def CAN.ACCEPT0.CODE : Fld := ⟨0x100, 0, 29⟩
def CAN.ACCEPT0.MASK : Fld := ⟨0x100, 0, 29⟩
def UART.CFG.EN : Fld := ⟨0x040, 31, 1⟩
def UART.CFG.STOP2 : Fld := ⟨0x040, 27, 1⟩
def UART.CFG.DI : Fld := ⟨0x040, 4, 16⟩
def UART.CFG.DF : Fld := ⟨0x040, 0, 4⟩
def UART.DATA.VALID : Fld := ⟨0x044, 31, 1⟩
def UART.DATA.PERR : Fld := ⟨0x044, 10, 1⟩
def UART.DATA.FERR : Fld := ⟨0x044, 9, 1⟩
def UART.STAT.RX : Fld := ⟨0x048, 16, 6⟩
def UART.STAT.TX : Fld := ⟨0x048, 0, 6⟩
def UART.EVT.BREAK : Fld := ⟨0x04C, 4, 1⟩
def UART.EVT.OVF : Fld := ⟨0x04C, 3, 1⟩
def UART.EVT.ERR : Fld := ⟨0x04C, 2, 1⟩
def UART.EVT.RX : Fld := ⟨0x04C, 1, 1⟩
def UART.EVT.TX_EMPTY : Fld := ⟨0x04C, 0, 1⟩
def I2C.CFG.EN : Fld := ⟨0x040, 31, 1⟩
def I2C.CFG.SPEED : Fld := ⟨0x040, 24, 2⟩
def I2C.CFG.PEC : Fld := ⟨0x040, 23, 1⟩
def I2C.CFG.STRETCH_TMO : Fld := ⟨0x040, 0, 16⟩
def I2C.CMD.GO : Fld := ⟨0x044, 31, 1⟩
def I2C.CMD.WLEN : Fld := ⟨0x044, 8, 6⟩
def I2C.CMD.RLEN : Fld := ⟨0x044, 0, 6⟩
def I2C.STAT.STATE : Fld := ⟨0x048, 30, 2⟩
def I2C.STAT.CAUSE : Fld := ⟨0x048, 24, 4⟩
def I2C.EVT.CFG_IGN : Fld := ⟨0x04C, 2, 1⟩
def I2C.EVT.ERROR : Fld := ⟨0x04C, 1, 1⟩
def I2C.EVT.DONE : Fld := ⟨0x04C, 0, 1⟩
def GPIO.GEVT.TAMPER : Fld := ⟨0x084, 2, 1⟩
def GPIO.GEVT.CFG_IGN : Fld := ⟨0x084, 1, 1⟩
def GPIO.GEVT.OUT_IGN : Fld := ⟨0x084, 0, 1⟩
def GPIO.TAMPCFG.LOOP : Fld := ⟨0x200, 31, 1⟩
def GPIO.TAMPCFG.EN : Fld := ⟨0x200, 5, 1⟩
def GPIO.TAMPCFG.LVL : Fld := ⟨0x200, 4, 1⟩
def GPIO.TAMPCFG.WIPE : Fld := ⟨0x200, 3, 1⟩
def GPIO.TAMPCFG.FILT : Fld := ⟨0x200, 0, 3⟩
def GPIO.TAMPSTAT.FIRST : Fld := ⟨0x204, 16, 4⟩
def LINK.CFG.EN_UP : Fld := ⟨0x040, 31, 1⟩
def LINK.CFG.EN_A : Fld := ⟨0x040, 30, 1⟩
def LINK.CFG.EN_B : Fld := ⟨0x040, 29, 1⟩
def LINK.CFG.ROOT : Fld := ⟨0x040, 28, 1⟩
def LINK.CFG.ID : Fld := ⟨0x040, 0, 14⟩
def LINK.ROUTE_A.HI : Fld := ⟨0x044, 16, 14⟩
def LINK.ROUTE_A.LO : Fld := ⟨0x044, 0, 14⟩
def LINK.SYNC.DREQ_DIV : Fld := ⟨0x04C, 16, 8⟩
def LINK.SYNC.SYNC_INT : Fld := ⟨0x04C, 0, 16⟩
def LINK.PSTAT.LOCKED : Fld := ⟨0x050, 31, 1⟩
def LINK.PSTAT.ROOT_ACT : Fld := ⟨0x050, 30, 1⟩
def LINK.PSTAT.HOPS : Fld := ⟨0x050, 24, 4⟩
def LINK.PSTAT.UP : Fld := ⟨0x050, 8, 4⟩
def LINK.PSTAT.DNA : Fld := ⟨0x050, 4, 4⟩
def LINK.PSTAT.DNB : Fld := ⟨0x050, 0, 4⟩
def LINK.EVT.TX_DONE : Fld := ⟨0x064, 6, 1⟩
def LINK.EVT.RX : Fld := ⟨0x064, 5, 1⟩
def LINK.EVT.LOCKED : Fld := ⟨0x064, 4, 1⟩
def LINK.EVT.UNLOCKED : Fld := ⟨0x064, 3, 1⟩
def LINK.EVT.PORT_DOWN : Fld := ⟨0x064, 2, 1⟩
def LINK.EVT.PORT_UP : Fld := ⟨0x064, 1, 1⟩
def LINK.EVT.ERR : Fld := ⟨0x064, 0, 1⟩
def LINK.ERRLOG.VALID : Fld := ⟨0x070, 31, 1⟩
def LINK.ERRLOG.SRC : Fld := ⟨0x070, 0, 14⟩
def LINK.TXCTL.GO : Fld := ⟨0x074, 31, 1⟩
def LINK.TXCTL.BARRIER : Fld := ⟨0x074, 30, 1⟩
def LINK.TXCTL.DST : Fld := ⟨0x074, 16, 14⟩
def LINK.TXCTL.BCAST : Fld := ⟨0x074, 15, 1⟩
def LINK.TXCTL.TYPE : Fld := ⟨0x074, 12, 3⟩
def LINK.TXCTL.LEN : Fld := ⟨0x074, 0, 8⟩
def LINK.RXSTAT.VALID : Fld := ⟨0x07C, 31, 1⟩
def LINK.RXSTAT.LEN : Fld := ⟨0x07C, 16, 8⟩
def LINK.RXSTAT.SRC : Fld := ⟨0x07C, 0, 14⟩
def LINK.RXCTL.POP : Fld := ⟨0x080, 0, 1⟩
def GANG.LOAD.LOAD : Fld := ⟨0x0A8, 0, 16⟩

end Sys2Proof.Machine
end

