-- ==== Sys2Proof/Machine/Flags.lean ====
section
/-!
DEFINITION. Bit fields, byte order, signed values, saturating counts: the small arithmetic every register uses.
-/

namespace Sys2Proof.Machine

/-- The field of `n` bits of a word from bit `lo` up. -/
def bits (w : Word) (lo n : Nat) : Nat := (w.toNat >>> lo) % 2 ^ n

/-- The word of ones in the `n` bits from `lo` up. -/
def fieldMask (lo n : Nat) : Word := BitVec.ofNat 32 ((2 ^ n - 1) <<< lo)

/-- A word with one field replaced; every other bit stays. -/
def setBits (w : Word) (lo n v : Nat) : Word :=
  (w &&& ~~~(fieldMask lo n)) ||| (BitVec.ofNat 32 (v <<< lo) &&& fieldMask lo n)

/-- One bit of a word. -/
def bitOf (w : Word) (i : Nat) : Bool := w.getLsbD i

/-- A field read as a signed number of `n` bits. -/
def signedOf (n v : Nat) : Int := if v < 2 ^ (n - 1) then (v : Int) else (v : Int) - 2 ^ n

/-- A signed number as the `n` bits that hold it, wrapped. -/
def wrapTo (n : Nat) (x : Int) : Nat := (x % 2 ^ n).toNat

/-- A signed number held to the range of `n` bits. -/
def satTo (n : Nat) (x : Int) : Int := max (-(2 ^ (n - 1) : Int)) (min (2 ^ (n - 1) - 1 : Int) x)

/-- A number held to an unsigned range of `n` bits. -/
def satU (n : Nat) (x : Int) : Nat := min (2 ^ n - 1) x.toNat

/-- A count that stops at the top of its `n` bits. -/
def satInc (n v : Nat) : Nat := min (2 ^ n - 1) (v + 1)

/-- Division rounded to nearest, a half goes up: floor (a/b + 1/2) (log 61). -/
def roundDiv (a b : Int) : Int := (2 * a + b).fdiv (2 * b)

/-- The four bytes of a word, lowest first (R7: little-endian). -/
def wordBytes (w : Word) : List Byte :=
  [w.extractLsb' 0 8, w.extractLsb' 8 8, w.extractLsb' 16 8, w.extractLsb' 24 8]

/-- A word from its bytes, lowest first; missing bytes count as 0. -/
def bytesWord : List Byte → Word
  | [] => 0
  | b :: rest => (b.setWidth 32) ||| (bytesWord rest <<< 8)

/-- 1 for true. -/
def b2n (b : Bool) : Nat := if b then 1 else 0

/-- One bit of the IEEE 802.3 CRC-32, reflected (R75). -/
def crcBit (c : Word) : Word := if c.getLsbD 0 then (c >>> 1) ^^^ 0xEDB88320#32 else c >>> 1

/-- CRC-32 (R75): initial value all ones, output inverted. -/
def crc32 (bs : List Byte) : Word :=
  ~~~(bs.foldl (fun c b => crcBit (crcBit (crcBit (crcBit (crcBit (crcBit (crcBit (crcBit (c ^^^ b.setWidth 32))))))))) 0xFFFFFFFF#32)

/-- One bit of the CRC-8 of R521: x⁸ + x² + x + 1, most significant bit first. -/
def crc8Bit (c : Byte) : Byte := if c.getLsbD 7 then (c <<< 1) ^^^ 0x07#8 else c <<< 1

/-- CRC-8 from an initial value: 0xFF in R521. -/
def crc8 (start : Byte) (bs : List Byte) : Byte :=
  bs.foldl (fun c b => crc8Bit (crc8Bit (crc8Bit (crc8Bit (crc8Bit (crc8Bit (crc8Bit (crc8Bit (c ^^^ b))))))))) start

/-- Bytes of a word, most significant first (R519). -/
def wordBytesHigh (w : Word) : List Byte := (wordBytes w).reverse

/-- The `k` low bytes of a number, lowest first. -/
def natBytes (k v : Nat) : List Byte := (List.range k).map fun i => BitVec.ofNat 8 (v / 256 ^ i)

end Sys2Proof.Machine
end

