-- ==== Sys2Proof/Machine/State.lean ====
section
/-!
DEFINITION. What the device holds. Plain data throughout.
Registers that software sees live in `regs` under their addresses, with every word that differs from its reset value
(log 4); what the spec keeps behind the registers lives in the records below, one per subsystem.
-/

namespace Sys2Proof.Machine

/-- Sparse data by number: pairs with rising keys, none equal to what an unlisted key reads as. -/
abbrev SMap (α : Type) := List (Nat × α)

/-- The device modes (R5), in the order of their codes in `TOP.MODE`. -/
inductive Mode where
  | powerUp | boot | configure | standby | run | limp | park | safe | sleep | test | halt | update
deriving DecidableEq, Repr

/-- A commit on its way: its own domain, its union (R50), the busy sibling that refuses it, the CLK_SYS cycle of its GO
(R53), and, once armed, the tick it armed on, whether a COMMIT_POINT has acted since, and whether it slips (R47, R48). -/
structure Commit where
  dom : Nat
  union : List Nat
  bad : Option Nat
  cycle : Nat
  armedAt : Nat
  ready : Bool
  slip : Bool
deriving DecidableEq, Repr

/-- STATE of COMMIT_STAT (R54); VALIDATING never outlasts a step. -/
inductive DomState where
  | idle | queued | validating | armed | set | refused
deriving DecidableEq, Repr

/-- What a commit domain reports in COMMIT_STAT, COMMIT_ERR and COMMIT_ERR_AT (R54, R55). -/
structure DomRec where
  st : DomState
  tag : Nat
  count : Nat
  slip : Bool
  discIgn : Bool
  goIgn : Bool
  err : Word
  errAt : Word
  /-- the flags of COMMIT_STAT set on the latest CLK_SYS cycle that set one, and that cycle (R13) -/
  flagCycle : Nat
  flagBits : Nat
deriving DecidableEq, Repr

/-- The drive die's own copies of BLANK, THRESH, GATE and BSTUV of a leg (R116), as the drive link has last brought them. -/
structure LegSet where
  blank : Word
  thresh : Word
  gate : Word
  bstuv : Word
deriving DecidableEq, Repr

/-- A leg: what the core die keeps of it and what its drive die keeps of it (R102, R121, R128 to R149). -/
structure LegRec where
  /-- retired, by whom, and its slot not yet re-formed (R102, R113) -/
  retired : Bool
  fwRet : Bool
  dark : Bool
  /-- CLK_SYS cycle of the retirement (R113) -/
  retCycle : Option Nat
  /-- the hold of a reaction or a shut gang on the core die, and the hold the drive die has latched (R28) -/
  safe : Hold
  dieHold : Hold
  dieRetired : Bool
  /-- gate outputs, and the gate that waits for the interlock with the tick of its turn-on command (R134) -/
  gh : Bool
  gl : Bool
  wait : Option (Gate × Nat)
  /-- latest turn-ons and turn-offs at the gate outputs, latest first (R130) -/
  outs : List (Nat × Bool)
  /-- end of the running blanking window (R141) -/
  blankEnd : Nat
  /-- presence: the mark the next first edge of a period carries, the tick from which that first edge leaves the modulator
  while it is still to come, the mark and the sighting of the period under way on the die (R146) -/
  presMark : Bool
  firstEdge : Option Nat
  presQual : Bool
  presSeen : Bool
  /-- reloads left of fixed strong drive (R128), and whether adaptive drive runs -/
  strongLeft : Nat
  adaptive : Bool
  /-- the leg counts as switching since the latest reload (R128) -/
  sw : Bool
  /-- latest qualified transition of the cycle per step, and cycles at a limit per step (R131, R132) -/
  srcMeas : Option Nat
  snkMeas : Option Nat
  srcLim : Nat
  snkLim : Nat
  /-- a forced refresh pulse is owed after BST_UV or at a REFRESH (R137, R183) -/
  refreshOwed : Bool
  /-- the settings that the drive die works with (R17, R116) -/
  own : LegSet
deriving DecidableEq, Repr

/-- A drive die (R120 to R163): its latched holder, lines, supplies, own settings, and what it has not yet refreshed. -/
structure DieRec where
  holder : Nat
  /-- a holder command on its way: old and new holder (R457) -/
  holderCmd : Option (Nat × Nat)
  /-- whether the link works, the hard-safe line, WD_SAFE and its message still to be sent, supply faults and the hold they
  leave until recovery, latest VDRV and temperature codes, ticks of the latest command accepted and of the latest sent (R17,
  R19, R125, R161, R162, R163) -/
  link : Bool
  hardsafe : Bool
  wdSafe : Bool
  wdPend : Bool
  vdrvUv : Bool
  vdrvOv : Bool
  supHold : Bool
  vdrv : Nat
  temp : Nat
  lastValid : Nat
  lastSent : Nat
  /-- fault messages held while the link is down, with the tick of each (R151) -/
  held : List (Nat × FaultMsg)
  /-- the die's own copies of CFG, VDRV_UV and ST_MASK (R163) -/
  cfg : Word
  uvTh : Word
  /-- the latest changes of SOFT_FILT, latest first, with the tick of each: a filter keeps the time it started with (R163) -/
  filts : List (Nat × Nat)
  /-- the die's own copy of ST_MASK (R163) -/
  maskLo : Word
  maskHi : Word
  /-- events and counts since the last refresh (R163) -/
  evt : Word
  checkFail : Nat
  authDisc : Nat
  intlkTo : Nat
  blankHits : Nat
  strLimit : Nat
  /-- self-test: running, the test of the leg at the head of the list under way, the level injected in threshold codes,
  margin, legs still to test, step of the leg under test, an abort asked for, results (R154 to R158) -/
  stRun : Bool
  stOn : Bool
  stLevel : Nat
  stMargin : Nat
  stLegs : List Nat
  stStep : Nat
  stAbort : Bool
  stFail : Nat
  stSkip : Nat
  stFirst : Word
  stValue : Nat
  stTotal : Nat
  stDone : Bool
  stAborted : Bool
  /-- TEMP_WARN and TEMP_SHUT sent and not re-armed; a present TEMP_SHUT condition (R499) -/
  warnSent : Bool
  shutSent : Bool
deriving DecidableEq, Repr

/-- The present occupant of a gang's slot: its leg on the die, whether a spare took the slot, whether the slot left the
live list (R104). -/
structure Occ where
  leg : Nat
  sub : Bool
  lost : Bool
deriving DecidableEq, Repr

/-- A decision that takes effect at the next reload (R94). -/
inductive Pend where
  | none | shed | add
deriving DecidableEq, Repr

/-- When a re-gang or a dark slot waits for its point, as a commit would (R103). -/
structure Arm where
  at_ : Nat
  ready : Bool
  slip : Bool
deriving DecidableEq, Repr

/-- What the gang manager keeps of a gang beside its registers (R89 to R104, R152). -/
structure GangRec where
  occ : List Occ
  regang : Option Arm
  /-- reloads since the latest load measure, and whether one has arrived since the last reload (R93) -/
  loadAge : Nat
  loadNew : Bool
  pend : Pend
  /-- A, the count of ranks that fire (R90); LIVE.ACTIVE shows the live legs among them (R89) -/
  act : Nat
  /-- reloads in a row at which the shed condition held, and reloads left of the hold-off (R94, R100) -/
  dwell : Nat
  holdoff : Nat
  /-- tick of the latest full-face trigger, and of a COMPARE_EVT or window that raised it (R97, R98) -/
  ffTrig : Option Nat
  rotate : Bool
  /-- HARD and SOFT trips attributed of late: detection tick and leg; the detection tick of the trip that shut the gang (R152) -/
  trips : List (Nat × Nat)
  shutTrip : Option Nat
  /-- wet engine duty for the next reload (R172), the held-duty count (R174), the refresh pointer, REFRESH entries for the next
  period (R183, R184, R204) -/
  engWet : Option Nat
  held : Nat
  refPtr : Nat
  refreshNext : Nat
  /-- no period of the gang has ended yet: it was enabled, or its frame started, at the coming reload (R93) -/
  fresh : Bool
  /-- the hold of a FAULTED owner from which a commit has taken the gang away: only recovery ends it (R323) -/
  collHold : Hold
deriving DecidableEq, Repr

/-- The gates a leg has been commanded to, and the edges laid out for it (R178 to R184): state after every edge before the
latest reload; edges (tick, gate, on) and whether it is active in the period or shed, as the reload fixed them (R92); edges
that have not reached the drive die (R21); whether the leg has stopped since the reload (R92, R150) (log 46); the tick from which
edges act: what was issued before it belongs to a period in which the leg has stopped (R150). -/
structure LegPlan where
  gh : Bool
  gl : Bool
  edges : List (Nat × Gate × Bool)
  active : Bool
  shed : Bool
  due : List (Nat × Gate × Bool)
  stop : Bool
  since : Nat
deriving DecidableEq, Repr

/-- A frame (R164 to R168): the tick of its latest reload and of its next one, whether it waits for its first reload, the
tick of its latest COMMIT_POINT entry. -/
structure FrameRec where
  reload : Nat
  next : Nat
  starting : Bool
  lastCp : Option Nat
  /-- bank B is the frame's active bank (R197); entries that have acted in the period (R196); earlier reloads, latest first,
  for stamps whose hold tick lies before the latest reload (R229) -/
  bank : Bool
  acted : List Nat
  past : List Nat
  /-- the tick on which it last stopped (R166) -/
  stopped : Nat
deriving DecidableEq, Repr

/-- The commit unit (R39 to R55): what each domain reports, commits queued in order, commits armed. -/
structure CommitRec where
  doms : SMap DomRec
  queue : List Commit
  armed : List Commit
deriving DecidableEq, Repr

/-- A shunt sample of a set (R305, R306): delivery tick, CODE − DCZ, legs on and active legs of each phase. -/
structure Shunt where
  at_ : Nat
  code : Int
  on : List Nat
  act : List Nat
deriving DecidableEq, Repr

/-- A voltage set (R328): hold tick, 2u − v − w and v − w in codes, the scale VK, the angle φ in 2^−60 turn. -/
structure VoltSet where
  tick : Nat
  a3 : Int
  b1 : Int
  vk : Nat
  phi : Int
deriving DecidableEq, Repr

/-- A set of phases of an axis (R304 to R314, R340, R341, R343). -/
structure SetRec where
  /-- reload that began the period, phases delivered in it as a mask, whether one was predicted or replaced, deliveries and
  predicted deliveries, codes delivered -/
  period : Nat
  got : Nat
  repl : Bool
  dels : Nat
  preds : Nat
  codes : List Nat
  /-- runs: range failures per phase, periods that failed the sum check, predicted periods, commits with an open phase -/
  rangeRun : List Nat
  sumRun : Nat
  predRun : Nat
  openRun : List Nat
  /-- phases whose delivery on a tick reached IN as it was, with their codes, and that tick (R313) -/
  rawAt : Nat
  raws : List (Nat × Nat)
  /-- latest shunt samples (R307) and voltage set -/
  shunts : List Shunt
  volts : Option VoltSet
  /-- hold of a dropped set and periods since it chose SHORT -/
  hold : Hold
  shortFor : Nat
  /-- angle of the current vector and its tick, and the frequency tracked from it in 2^−60 Hz -/
  track : Option (Int × Nat)
  trackF : Int
deriving DecidableEq, Repr

/-- A sounding window (R329, R330): its start reload once it has come, its end, its set, voltage sets formed, the sum of
√(a3² + 3·b1²) over them in 2^−20 code, first and last set, the unwrapped angle between them in 2^−60 turn, and the words of
SOUND, SNDA or SNDB, SNDK, SNDL and CATCH set at its start. -/
structure Window where
  start : Option Nat
  stop : Nat
  setB : Bool
  sets : Nat
  sum : Nat
  first : Nat
  last : Option VoltSet
  turn : Int
  par : List Word
deriving DecidableEq, Repr

/-- An axis beside its registers (R290 to R351). -/
structure AxisRec where
  /-- `CFG.EN` as the axis last saw it -/
  en : Bool
  /-- the hold the axis applies to its gangs, whether SPEED_SELECT chooses it (R340), and periods since it chose SHORT -/
  hold : Hold
  select : Bool
  shortFor : Nat
  /-- tick of the latest cause taken; what waits for the next tick (R324): CMD writes, an L2 fault or the entry to SAFE or HALT,
  the entry to PARK or its end, the end of a window, a catch or the observer-loss ramp -/
  cause : Option Nat
  late : List Word
  owedFault : Bool
  owedPark : Bool
  owedOwn : Bool
  /-- the collector holds the axis's gangs since it entered FAULTED, until recovery (R323) -/
  faultHeld : Bool
  /-- sets A and B, the sounding window that is open (R304, R329) -/
  sets : List SetRec
  window : Option Window
  /-- a catch (R331, R332): the window that seeds it with its FE in 2^−60 Hz, whether the seed is written, its first reload,
  RESID over OBSL in so many commits -/
  seed : Option (Window × Int)
  seeded : Bool
  catchAt : Option Nat
  residRun : Nat
  /-- commits in a row with Vb below BUS_LO, 9 once the axis has acted on them (R337), 10 since it has acted on Vb over BUS_MAX
  (R336); phases whose gang is lost, as a mask, since
  the axis last looked (R341) -/
  busRun : Nat
  lostGangs : Nat
  /-- a commit's tests are owed again, since another cause was taken on its tick (R324) -/
  redo : Bool
  /-- latest REF0 that the axis wrote; observer-loss ramp: tick of the loss, REF0 then, saved P0 and P1 and the slot they came
  from (R345, R346) -/
  iq : Word
  lostAt : Nat
  lostIq : Word
  gains : Nat × Nat
  lossSlot : Nat
  /-- locked rotor: start of the count, whether LOCKED_ROTOR was sent for it, sector of the previous commit (R316, R317) -/
  lrAt : Option Nat
  lrSent : Bool
  sector : Option Int
  /-- sign of FE on entry to DECELERATING (R325), tick from which the next resound may start (R339), AX_ROLL sent (R348) -/
  decSign : Int
  resoundAt : Nat
  rolled : Bool
  /-- HOLD.ESC changed the hold of this HOLDING to SHORT (R348) -/
  escaped : Bool
deriving DecidableEq, Repr

/-- A converter beside its registers (R380 to R407). -/
structure ConvRec where
  /-- the hold the converter applies to its gangs -/
  hold : Hold
  /-- last-fault records under way (R399, R401): SEQ and bytes; the first is being written -/
  lf : List (Nat × List (BitVec 8))
  /-- VSS in 2^−16 V (R390) -/
  vss : Nat
  /-- tick of the latest fast trip, reloads since it (R388, R392) -/
  tripAt : Nat
  pause : Nat
  /-- runs of commits: PACK = 1 in IDLE or PACK = 0 in RUNNING (R388), VOUT over OV_V (R394) -/
  packRun : Nat
  ovRun : Nat
  /-- tick of entry to STARTING, tick of the contactor's assertion under R396, latest 0.1 ms step (R393) -/
  startAt : Nat
  ctcAt : Option Nat
  stepAt : Nat
  /-- `CFG.EN` as the converter last saw it; signal words VIN, VOUT and IL of the latest commit (R385); fast trips in the
  window (R392), whether CONV_PRECHARGE was sent for this STARTING (R396) -/
  en : Bool
  taps : List Word
  trips : Nat
  pcSent : Bool
  /-- tick of the latest cause taken, its place in R324, and the state its tick began with (R388) -/
  cause : Option Nat
  rank : Nat
  was : Nat
  /-- what another cause of the tick has shut out until the next: CMD writes; the end of a pause, the contactor's delay, the tests
  of a commit and a change of the device's mode -/
  late : List Word
  owedPause : Bool
  owedDelay : Bool
  owedCommit : Bool
  owedMode : Bool
  /-- the collector still holds the gangs of a converter that was FAULTED (R323, R387) -/
  faultHeld : Bool
deriving DecidableEq, Repr

/-- A feedback channel beside its registers (R352 to R379). -/
structure FbRec where
  /-- tick of the latest accepted change of A, B and Z -/
  change : List (Option Nat)
  /-- index of the last legal hall state (R356) -/
  hall : Option Nat
  /-- gates in a row without an edge error (R358), whether this gate had one -/
  clean : Nat
  dirty : Bool
  /-- timestamps of the non-dither counts since DIR changed, latest first; a count against DIR that waits (R359, R361) -/
  stamps : List Nat
  against : Option Nat
  /-- position and tick of the last gates, latest first; none where a gate has no good position (R362) -/
  gates : List (Option (Int × Nat))
  /-- net counts of the gate under way and the boundary that began it (R360, R363) -/
  delta : Int
  gateAt : Nat
  /-- index: the qualified state holds, POS at an event not yet handled; direction and counts of the run since the latest
  event (R366, R369) -/
  qual : Bool
  idxDue : Option Int
  runRev : Bool
  run : Nat
  /-- absolute reads: tick of the read under way, previous word, failures in a row (R371 to R373) -/
  readAt : Option Nat
  prev : Option Nat
  fails : Nat
  /-- accepted changes of DATA, latest first, from the one in force when the latest read began (R371) -/
  data : List (Nat × Bool)
  /-- emulation: output count, tick of the latest step, an excursion beyond EMAX has been flagged (R374, R375) -/
  emu : Int
  emuAt : Nat
  lag : Bool
deriving DecidableEq, Repr

/-- What a cause of a later place in R324 has done on its tick, so that a cause of an earlier place finds the tick as it began; the
counts and the index of a feedback channel likewise, for a SET_POS of their tick (R370). The owner: axis (0 to 15), converter (16
to 31) or channel (32 to 47), the tick, the place, and the CMD write it was; registers with their words before and after and those
of their events since the cycle began; slot words; legs with the hold their die had and has, and their plans; the messages sent,
and whether a context reset was begun; the owner's record before it; the accepted levels of a count. -/
structure Turn where
  who : Nat
  tick : Nat
  rank : Nat
  cmd : Option Word
  regs : List (Nat × Word × Word × Word × Word)
  words : List (Nat × Nat × Word × Word)
  legs : List (Nat × Hold × Hold × LegPlan × LegPlan)
  msgs : List FaultMsg
  seeding : Bool
  axis : Option AxisRec
  conv : Option ConvRec
  fb : Option FbRec
  levels : Option (BitVec 3)
deriving DecidableEq, Repr

/-! ### The roster (R191 to R216) -/

/-- A roster entry that acts (R196, R198): frame, key, number of the frame's period and tick of its offset. -/
structure Acting where
  frame : Nat
  key : Nat
  period : Nat
  at_ : Nat
deriving DecidableEq, Repr

/-- A JOB that has acted and waits for its sample set (R201): context, key of its entry, number of its period, tag for its
outputs. -/
structure JobWait where
  ctx : Nat
  key : Nat
  inst : Nat
  frame : Nat
  nowait : Bool
  tag : Nat
deriving DecidableEq, Repr

/-- The roster beside its page. An entry's key is bank × 16,384 + index (log 57). -/
structure RostRec where
  ents : SMap (BitVec 64)
  /-- the inactive bank holds writes (R216) -/
  wet : Bool
  /-- frames that have not swapped, with their arms (R209); whether the first swap has come, whether any swap slipped -/
  swaps : List (Nat × Arm)
  swapped : Bool
  slipped : Bool
  /-- CMD under way: 1 COPY, 2 CLEAR (R215) -/
  cmd : Nat
  /-- entries dispatched on the present tick, and how many of them were deferred; those that still wait, first to go first (R198) -/
  dispAt : Nat
  disp : Nat
  dispDeferred : Nat
  deferred : List Acting
  /-- casts of CAST_POINT entries: the pages, the tick (R204) -/
  casts : List (List Nat × Nat)
  /-- the number of each frame's period, samples delivered: JOB key, number of the JOB's period, SAMPLE key (R200); waiting jobs -/
  periods : SMap Nat
  got : List (Nat × Nat × Nat)
  jobs : List JobWait
deriving DecidableEq, Repr

/-! ### Sampling (R217 to R249) -/

/-- A conversion request (R199, R243, R244). `frame` is 16 for firmware and 17 for the night shift; `target` names the JOB
key and the number of the period whose sample set it belongs to, `entry` its key. -/
structure Req where
  frame : Nat
  entry : Nat
  input : Nat
  gain : Nat
  acq : Nat
  res : Nat
  ctx : Nat
  sidx : Nat
  arrive : Nat
  target : Option (Nat × Nat)
deriving DecidableEq, Repr

/-- A delivery on its way (R223, R226): slice 15 where skipped, test DAC code where it converts the DAC, TDTOL as it stood when
the conversion started (R52), and for a shunt sample, per axis and set, the legs on and the active legs of each phase at hold tick − 24 as the edges then fixed give them
(R306). -/
structure Del where
  req : Req
  at_ : Nat
  hold : Nat
  slice : Nat
  tdac : Option Nat
  tol : Nat
  snap : List (Nat × Nat × List Nat × List Nat)
deriving DecidableEq, Repr

/-- Users of the test DAC beside the plumb cycle (R239). -/
inductive DacUser where
  | diag | comp (die : Nat)
deriving DecidableEq, Repr

structure SampRec where
  reqs : List Req
  dels : List Del
  /-- tick from which each slice is free; acquisitions running: input, gain, end; gain of each PGA -/
  free : SMap Nat
  acqs : List (Nat × Nat × Nat)
  pga : SMap Nat
  /-- test DAC: its holder where it is a self-test, waiting users in order, the plumb cycle waits -/
  comp : Option Nat
  queue : List DacUser
  plumbWait : Bool
  /-- diagnosis: input and DAC code; tick of ARMED (R240) -/
  diag : Option (Nat × Nat)
  armedAt : Nat
  /-- running plumb cycle: its slice, its step 1 to 4, the tick the step ends (R235) -/
  plumb : Option (Nat × Nat × Nat)
  /-- slices that run the initial calibration now (R238) -/
  init : List Nat
  /-- consecutive results meeting the window condition, per result register (R232) -/
  win : SMap Nat
  /-- hold tick of the latest result of a register -/
  holds : SMap Nat
  /-- tick on which the draining slice began to drain or delivered its last result so far (R234) -/
  drainAt : Nat
  /-- background results not yet taken by the night shift: tag, code, tick of the delivery (R244, R491) -/
  bg : List (Nat × Nat × Nat)
deriving DecidableEq, Repr

/-! ### The engine (R250 to R289) -/

/-- A side effect that a speculative run holds (R278). -/
inductive Held where
  | duty (gang v : Nat)
  | load (gang v : Nat)
  | pulse (ev : Nat) (irq : Bool)
deriving DecidableEq, Repr

/-- A piece of work (R251): kind 0 rerun, 1 job, 2 speculative run; its JOB's frame, entry key and tag; the ticks it became
ready and began its present stage; what it latched (R255); what it has written (R253); duties on their way (gang, duty,
landing tick). -/
structure Work where
  ctx : Nat
  kind : Nat
  frame : Nat
  key : Nat
  tag : Nat
  /-- inputs of its JOB's sample set -/
  inputs : List Nat
  readyAt : Nat
  lane : Option Nat
  idx : Nat
  began : Nat
  first : Nat
  nst : Nat
  slot : List Word
  ins : List Word
  refs : List Word
  live : Nat
  pred : Bool
  written : SMap Word
  sat : Option Nat
  held : List Held
  land : List (Nat × Nat × Nat)
  /-- OFFSET of its JOB entry; whether it has sent a duty -/
  off : Nat
  duty : Bool
  /-- the slack of its latest duty; whether its stages are done, it has passed its verification as a speculative run, it is discarded -/
  slack : Nat
  done : Bool
  passed : Bool
  dead : Bool
deriving DecidableEq, Repr

/-- A verification (R279): its JOB, the inputs of the sample set, its tick V. -/
structure Verif where
  ctx : Nat
  frame : Nat
  key : Nat
  tag : Nat
  inputs : List Nat
  /-- OFFSET of the JOB entry -/
  off : Nat
  /-- its JOB does not wait for the set, and every run passes (R279); the tick V -/
  always : Bool
  at_ : Nat
deriving DecidableEq, Repr

/-- A context reset (R287, R331): whether it has begun, and the axis whose seed it writes. -/
structure CtxReset where
  ctx : Nat
  begun : Bool
  axis : Option Nat
deriving DecidableEq, Repr

/-- The engine beside its page: context words by context × 128 + word of the set half, slot words by slot × 8 + word, words
of slots written on the present tick with what they held before (R258). -/
structure EngRec where
  words : SMap Word
  slots : SMap Word
  fresh : List (Nat × Nat × Word)
  works : List Work
  verifs : List Verif
  resets : List CtxReset
deriving DecidableEq, Repr

/-- The conflict of a stale heartbeat, which a beat of the same CLK_SYS cycle undoes (R461): the cycle; registers of the AUTH page
with their words before and after and those of their events; the messages; the heartbeat and a switch that was due before it; the
holder commands, wet sets and second coats before and after; whether an L4 fault stood. -/
structure Stale where
  cycle : Nat
  regs : List (Nat × Word × Word × Word × Word)
  msgs : List FaultMsg
  lastBeat : Nat
  late : Bool
  due : Option (Nat × Nat)
  conflict : Option Nat
  cmds : List (Option (Nat × Nat) × Option (Nat × Nat))
  wets : SMap (Option Word) × SMap (Option Word)
  coats : SMap (Option Word) × SMap (Option Word)
  l4 : Bool
deriving DecidableEq, Repr

/-- Authority beside the AUTH page's registers (R453 to R461): ticks of the holder's last beat and of the pending request,
whether BEAT_LATE was set for this silence, and the Deputy watchdog's latest kick (R446). -/
structure AuthRec where
  lastBeat : Nat
  late : Bool
  reqAt : Nat
  kickAt : Nat
  /-- a switch that is due: the cycle of its command, the new holder (R457) -/
  due : Option (Nat × Nat)
  /-- cycle of the latest command write, with STATE and REQ before it; cycle of the latest timeout and the request it cleared;
  cycle of the latest conflict (R461) -/
  before : Option (Nat × Word × Word)
  expired : Option (Nat × Word)
  conflict : Option Nat
  /-- what the conflict of a stale heartbeat has done on its cycle (R461) -/
  stale : Option Stale
deriving DecidableEq, Repr

/-- What a fault's reaction covers, and what a recovery releases (R417, R427). -/
inductive Scope where
  | gang (g : Nat) | axis (a : Nat) | conv (c : Nat) | die (k : Nat) | hewer | device
deriving DecidableEq, Repr

/-- One occurrence toward retirement (R422): its leg, class, arrival and detection ticks; whether it is a trip message, not a
refusal of a clear. -/
structure Occurrence where
  leg : Nat
  cls : Nat
  arrival : Nat
  detected : Nat
  trip : Bool
deriving DecidableEq, Repr

/-- A clear that the collector owes (R423): leg, whether of its SOFT latch, the tick it is due, the detection tick. -/
structure Retry where
  leg : Nat
  soft : Bool
  due : Nat
  detected : Nat
deriving DecidableEq, Repr

/-- A recovery request that waits (R427): its scope and whether the Deputy wrote it. -/
structure RecWait where
  scope : Scope
  deputy : Bool
deriving DecidableEq, Repr

/-- A journal record that waits to be written (R424): leg, kind, tick of the decision, whether it is a return. -/
structure JournalRec where
  leg : Nat
  kind : Nat
  tick : Nat
  ret : Bool
deriving DecidableEq, Repr

/-- The collector (R408 to R433) behind its registers (log 52). -/
structure FltRec where
  /-- messages sent and not arrived; messages arrived and not decided, with their arrival ticks; the CLK_SYS cycle of the latest
  decision and how many fell on it (R415) -/
  inflight : List FaultMsg
  waiting : List (FaultMsg × Nat)
  decCycle : Nat
  decided : Nat
  /-- how many entries that cycle has put into the tally (R13, R425) -/
  tallied : Nat
  /-- occurrences that count toward a leg's retirement (R422) -/
  occ : List Occurrence
  /-- decisions that can escalate another: class, instance, tick (R418) -/
  recent : List (Nat × Nat × Nat)
  /-- clears the collector owes (R423) -/
  retry : List Retry
  /-- decided messages, oldest first: low and high word (R425) -/
  tally : List (Word × Word)
  /-- FIRST is taken, and the CLK_SYS cycle of the latest CLR_FIRST (R426) -/
  firstTaken : Bool
  firstClr : Nat
  /-- faults at L2 and above whose scope is not yet recovered (R433, LEVEL) -/
  open_ : List (Scope × Nat)
  /-- per scope, the tick of its latest fault (R427) -/
  lastFault : List (Scope × Nat)
  /-- the recovery request that waits for its quiet period (R427) -/
  wait : Option RecWait
  /-- an L4 fault has been decided since the latest DEVICE recovery (R460), and since the device entered SAFE (R428) -/
  l4 : Bool
  l4Safe : Bool
  /-- tick of ARM of an injection session, and whether its injected read has been made (R430) -/
  injAt : Nat
  injRead : Bool
  /-- records that wait to be written to the journal (R424, R487) -/
  journal : List JournalRec
deriving DecidableEq, Repr

/-! ### The night shift (R479 to R493) -/

/-- A telemetry period under way: its start, length in ticks, mask, the tag of its first request (R491). -/
structure Telem where
  start : Nat
  len : Nat
  mask : Nat
  tag : Nat
deriving DecidableEq, Repr

/-- A damp measurement under way (R403): averaging or settling, tick of the start of that, tag of its first request, DCFG as
it began, sums of the codes of the open step. -/
structure Damp where
  avg : Bool
  since : Nat
  tag : Nat
  cfg : Word
  c0 : Nat
  b0 : Nat
deriving DecidableEq, Repr

structure NightRec where
  /-- the journal has been scanned; the block to reclaim before the next append (R488, R489) -/
  scanned : Bool
  reclaim : Option Nat
  /-- tick of the latest skim of Hewer SRAM, MRAM and Deputy SRAM -/
  skim : List (Option Nat)
  /-- tag of the next background request -/
  tag : Nat
  /-- the telemetry record and the damp measurement under way (R491, R403) -/
  telem : Option Telem
  damp : Option Damp
  /-- start of the latest measurement and the ticks of its DPERIOD; DAMP_WARN and DAMP_LOW sent since a measurement at or above their levels (R404) -/
  dampAt : Option Nat
  dampLen : Nat
  warned : Bool
  lowed : Bool
deriving DecidableEq, Repr

/-! ### Clocks, supplies, resets, cores as the block sees them (R434 to R471, R494 to R518) -/

structure SysRec where
  /-- the derived clocks are stopped after a loss of the root (R497) -/
  stopped : Bool
  /-- an accepted CLK.CFG that takes effect at the bottom of the triangle (R495) -/
  spread : Option Word
  /-- the setting in force -/
  spreadNow : Word
  /-- harts in debug halt; harts whose machine timer interrupt is pending (R442, R451) -/
  halted : List Nat
  mtip : List Nat
  /-- per Hewer core: reserved granule with the tick of its LR; result of its latest SC (R441) -/
  resv : List (Option (Nat × Nat))
  scOk : List Bool
  /-- per Hewer core: tick of the latest kick, HEWER_WDT sent since (R504); the same of the Deputy is `AuthRec` -/
  kicks : List Nat
  wdtSent : List Bool
  depSent : Bool
  /-- CLK_SYS cycle of the latest mode change by a fault or a debug halt, and of the latest MODE_REQ write (R507) -/
  modeCycle : Option Nat
  /-- a mode change of a cycle that a stronger event of it displaces (R507): the cycle, the target where it was a request, the
  mode and the MODE register before it -/
  modeWas : Option (Nat × Option Nat × Mode × Word)
  reqCycle : Option Nat
  /-- PWREN, the tamper loop's LFSR and its misreads in a row (R509, R536); always-on -/
  pwren : Bool
  /-- core rails below their reset thresholds, and below their CORE_SUPPLY limits (R498); wake events that wait for the end of the entry
  to SLEEP (R510) -/
  coreLow : List Nat
  railUv : List Nat
  wakes : List Nat
  lfsr : BitVec 16
  misreads : Nat
  /-- interrupt controllers: words written to them, sources in service per context (R448, R449) -/
  plic : SMap Word
  service : List (Nat × Nat)
  /-- operation of UPD_CTL under way: 0 none, 1 ERASE, 2 VERIFY (R513) -/
  upd : Nat
  /-- the debug module (R450, R452): the TAP's instruction, the abstract data, the program buffer, per hart its trigger select and
  its four triggers (tdata1, tdata2), CMDERR of the latest abstract command, whether the latest DMI access was refused -/
  tap : TapInstr
  dmData : Word
  progbuf : List Word
  tselect : List Nat
  triggers : List (Word × Word)
  cmdErr : Nat
  dmiErr : Bool
  /-- the bytes that the I²C host sends in the transaction under way or the latest one (R530) -/
  i2cWire : List Byte
  /-- RTC count at the latest step of the tamper loop (R536); tick on which a setting of the spread was accepted (R495) -/
  loopAt : Nat
  spreadFrom : Nat
deriving DecidableEq, Repr

/-- An access that a masked Hewer core has presented and that stalls (R469). -/
inductive CoreOp where
  | read (addr : Word) | write (addr val : Word) | lr (addr : Word) | sc (addr val : Word) | amo (op : AmoOp) (addr val : Word)
deriving DecidableEq, Repr

/-- The Banksman beside its page (R462 to R471): ages of waiting requesters, beats of the grant under way. -/
structure ArbRec where
  ages : SMap Nat
  beats : Nat
  /-- cycle of the latest phase; FREEZE ends the running grant at its next beat boundary (R470); privileged requesters whose
  STARVED bit this wait has set (R467) -/
  phaseAt : Option Nat
  cut : Bool
  flagged : List Nat
  /-- SBMASK as of the latest phase; accesses of masked cores that stall, in order (R469) -/
  mask : Nat
  stalls : List (Fin 4 × CoreOp)
deriving DecidableEq, Repr

/-- The SPI target: a timed-out access that has not completed, and the latest response: whether it reached the host, STATUS
and data (R520 to R524). -/
structure SpiRec where
  /-- the bytes of the latest response, from 0x5A to its CRC (R520) -/
  resp : List Byte
  busy : Option SpiReq
  sent : Bool
  status : Nat
  data : List Word
deriving DecidableEq, Repr

/-- A CAN controller beside its page: the FIFO (element, device tick of its SOF), the mailbox on the bus, its abort asked
for, the transmit error counter beyond its field (R527, R528). -/
structure CanRec where
  fifo : List (List Word × Nat)
  bus : Option Nat
  abort : Bool
  tec : Nat
deriving DecidableEq, Repr

structure UartRec where
  tx : List Byte
  rx : List Word
  /-- the CLK_SYS cycle of the latest reception, and the words received on it (R13) -/
  rxCycle : Nat
  rxNew : Nat
deriving DecidableEq, Repr

/-- A frame on a port's way out: resends so far, tick of its latest sending, whether TXCTL sent it (R541). -/
structure LinkOut where
  frame : LinkFrame
  resends : Nat
  at_ : Nat
  mine : Bool
deriving DecidableEq, Repr

/-- The link beside its page. Times are in 1/65,536 tick (R543). -/
structure LinkRec where
  /-- frames out on ports UP, DNA, DNB, oldest first; received frames -/
  out : List (List LinkOut)
  rx : List LinkFrame
  /-- per port the sequence number of the next frame (R539); the latest acknowledgement or refusal sent: port, SEQ, accepted (R541) -/
  seqs : List Nat
  sentAck : Option (Nat × Byte × Bool)
  /-- latest SYNC and DREQ: t1, t2, t3; latest times sent as a parent: t1 of a SYNC, port and t4 of a DRESP -/
  t1 : Option Nat
  t2 : Nat
  t3 : Option Nat
  sentSync : Option Nat
  sentDresp : Option (Nat × Nat)
  /-- tick of the latest SYNC received and of the latest sent; SYNCs since the latest DREQ; a DREQ is due -/
  syncAt : Option Nat
  sendAt : Nat
  syncs : Nat
  dreqDue : Bool
  /-- latest offset, SYNCs in a row with it within 2 ticks (R544) -/
  offset : Option Int
  near : Nat
deriving DecidableEq, Repr

/-- The device. -/
@[ext] structure Dev where
  /-- device tick count (R60) -/
  now : Nat
  /-- free values drawn so far (the model's own field, log 2) -/
  free : Nat
  mode : Mode
  /-- registers, wet values, second coats, cast values (R12, R45, R46, R62), by address -/
  regs : SMap Word
  /-- what hardware did to status registers on the present CLK_SYS cycle (R13): the cycle, the register, its word before, and
  the word that the same events leave in a cleared register -/
  events : List (Nat × Nat × Word × Word)
  wet : SMap (Option Word)
  coat2 : SMap (Option Word)
  cast : SMap Word
  /-- memory bytes (R434) -/
  mem : List Host.Cell
  /-- per requester (R463): pair shadow, oldest first (R64, R65); low words held for a 64-bit write (R67), keyed by
  requester and address; NEWER (R66), keyed by requester and result register: 0 never read, 1 read, 2 written since -/
  pairs : SMap (List (Nat × Word))
  lows : SMap (Option Word)
  newer : SMap Nat
  /-- per requester: the word its latest read returned, and whether its latest access ended in an access fault (R435) -/
  resp : SMap Word
  afault : SMap Bool
  commit : CommitRec
  legs : SMap LegRec
  plans : SMap LegPlan
  dies : SMap DieRec
  gangs : SMap GangRec
  frames : SMap FrameRec
  axes : SMap AxisRec
  convs : SMap ConvRec
  /-- what this CLK_SYS cycle has done that an event of an earlier place may still undo (R324, R370, R395) -/
  turns : List Turn
  auth : AuthRec
  flt : FltRec
  fbs : SMap FbRec
  rost : RostRec
  samp : SampRec
  eng : EngRec
  night : NightRec
  sys : SysRec
  arb : ArbRec
  spi : SpiRec
  cans : SMap CanRec
  uarts : SMap UartRec
  link : LinkRec
  /-- per timer channel, the tick from which its count runs (R534) -/
  timers : SMap Nat
deriving DecidableEq, Repr

/-! ### Reset -/

def AuthRec.reset : AuthRec := ⟨0, false, 0, 0, none, none, none, none, none⟩

def FltRec.reset : FltRec :=
  { inflight := [], waiting := [], decCycle := 0, decided := 0, tallied := 0, occ := [], recent := [], retry := [], tally := [],
    firstTaken := false, firstClr := 0, open_ := [], lastFault := [], wait := none, l4 := false, l4Safe := false, injAt := 0, injRead := false, journal := [] }

def RostRec.reset : RostRec :=
  { ents := [], wet := false, swaps := [], swapped := false, slipped := false, cmd := 0, dispAt := 0, disp := 0, dispDeferred := 0,
    deferred := [], casts := [], periods := [], got := [], jobs := [] }

/-- After reset slices 0 to 11 run their initial calibration, slice 0's cycle at its first step (R235, R238). -/
def SampRec.reset : SampRec :=
  { reqs := [], dels := [], free := [], acqs := [], pga := [], comp := none, queue := [], plumbWait := false, diag := none,
    armedAt := 0, plumb := some (15, 1, 49152), init := List.range 12, win := [], holds := [], drainAt := 0, bg := [] }

def EngRec.reset : EngRec := { words := [], slots := [], fresh := [], works := [], verifs := [], resets := [] }

def NightRec.reset : NightRec :=
  { scanned := false, reclaim := none, skim := [none, none, none], tag := 0, telem := none, damp := none, dampAt := none, dampLen := 0,
    warned := false, lowed := false }

/-- The always-on LFSR's seed is not given: 1 (log 6). PWREN is high while the device runs. -/
def SysRec.reset : SysRec :=
  { stopped := false, spread := none, spreadNow := 0, halted := [], mtip := [], resv := List.replicate 4 none,
    scOk := List.replicate 4 false, kicks := List.replicate 4 0, wdtSent := List.replicate 4 false, depSent := false,
    modeCycle := none, modeWas := none, reqCycle := none, pwren := true, coreLow := [], railUv := [], wakes := [], lfsr := 1, misreads := 0, plic := [], service := [], upd := 0,
    tap := .idcode, dmData := 0, progbuf := List.replicate 8 0, tselect := List.replicate 5 0, triggers := List.replicate 20 (0x20000000, 0), cmdErr := 0, dmiErr := false, i2cWire := [], loopAt := 0, spreadFrom := 0 }

def LinkRec.reset : LinkRec :=
  { out := [[], [], []], rx := [], seqs := [0, 0, 0], sentAck := none, t1 := none, t2 := 0, t3 := none, sentSync := none, sentDresp := none, syncAt := none,
    sendAt := 0, syncs := 0, dreqDue := false, offset := none, near := 0 }

def ArbRec.reset : ArbRec := { ages := [], beats := 0, phaseAt := none, cut := false, flagged := [], mask := 0, stalls := [] }

/-- The device right after reset. -/
def Dev.reset : Dev :=
  { now := 0, free := 0, mode := .powerUp, regs := [], events := [], wet := [], coat2 := [], cast := [], mem := [], pairs := [],
    lows := [], newer := [], resp := [], afault := [], commit := ⟨[], [], []⟩, legs := [], plans := [], dies := [],
    gangs := [], frames := [], axes := [], convs := [], turns := [], auth := .reset, flt := .reset, fbs := [], rost := .reset,
    samp := .reset, eng := .reset, night := .reset, sys := .reset, arb := .reset, spi := ⟨[], none, false, 0, []⟩, cans := [],
    uarts := [], link := .reset, timers := [] }

/-- The block: the device, and the commands that wait, first in, first out (log 1). -/
structure State where
  dev : Dev
  pending : List Instr
deriving DecidableEq, Repr

/-- R501, R506: the device after reset, in POWER_UP, with no command waiting (log 93). -/
def State.reset : State := ⟨.reset, []⟩

/-- Why a command stops the model. `illFormed`: the operands are no command of the spec (`WellFormed`); raised by every
meaning whose operands can be so. Safe: nothing follows from it. -/
inductive Fault where
  | illFormed
deriving DecidableEq, Repr

/-- `notModelled`: a command without a meaning yet, raised by `exec`'s arm alone. Safe: nothing follows from it. -/
inductive Refusal where
  | notModelled (mnemonic : String)
deriving DecidableEq, Repr

end Sys2Proof.Machine
end

