-- ==== Sys2Proof/Machine/Ops.lean ====
section
/-!
DEFINITION. The named operations that every meaning is built from: sparse maps, registers and their fields, pages and
commit domains, per-instance records, fault messages, the free values.
-/

namespace Sys2Proof.Machine

/-! ### Sparse maps -/

/-- What a key reads as, with `d` for what is not listed. -/
def sget {α : Type} (d : Nat → α) : SMap α → Nat → α
  | [], k => d k
  | (j, v) :: m, k => if j = k then v else sget d m k

/-- Put a pair in its place. -/
def sins {α : Type} (k : Nat) (v : α) : SMap α → SMap α
  | [] => [(k, v)]
  | (j, w) :: m => if k < j then (k, v) :: (j, w) :: m else if k = j then (k, v) :: m else (j, w) :: sins k v m

/-- Write a key; a value that an unlisted key reads as removes the entry. -/
def sput {α : Type} [DecidableEq α] (d : Nat → α) (m : SMap α) (k : Nat) (v : α) : SMap α :=
  if v = d k then m.filter (fun p => p.1 != k) else sins k v m

/-! ### Pages -/

def legP (n : Nat) : Nat := 0x41000000 + n * 0x1000
def gangP (g : Nat) : Nat := 0x41100000 + g * 0x1000
def frameP (f : Nat) : Nat := 0x41140000 + f * 0x1000
def axisP (a : Nat) : Nat := 0x41150000 + a * 0x1000
def convP (c : Nat) : Nat := 0x41160000 + c * 0x1000
def fbP (k : Nat) : Nat := 0x41170000 + k * 0x1000
def sliceP (s : Nat) : Nat := 0x41180000 + s * 0x1000
def ddieP (d : Nat) : Nat := 0x42000000 + d * 0x1000
def topP : Nat := 0x40000000
def clkP : Nat := 0x40001000
def pwrP : Nat := 0x40002000
def fltP : Nat := 0x40003000
def authP : Nat := 0x40004000
def arbP : Nat := 0x40005000
def nvP : Nat := 0x40006000
def bgP : Nat := 0x40007000
def linkP : Nat := 0x40008000
def spiP : Nat := 0x40009000
def canP (n : Nat) : Nat := 0x4000A000 + n * 0x1000
def uartP (n : Nat) : Nat := 0x4000C000 + n * 0x1000
def i2cP : Nat := 0x4000E000
def gpioP : Nat := 0x4000F000
def adcP : Nat := 0x40010000
def resP : Nat := 0x40011000
def engP : Nat := 0x40012000
def rostP : Nat := 0x40013000

/-- The page that holds an address. -/
def pageBase (a : Nat) : Nat := a / 0x1000 * 0x1000

/-! ### Registers -/

/-- The present word of a register: what it holds, live, whatever a cast captured. -/
def Dev.reg (d : Dev) (a : Nat) : Word := sget resetWord d.regs a

def Dev.setReg (d : Dev) (a : Nat) (w : Word) : Dev := { d with regs := sput resetWord d.regs a w }

/-- A field of a page's register. -/
def Dev.fld (d : Dev) (p : Nat) (f : Fld) : Nat := bits (d.reg (p + f.off)) f.lo f.n

def Dev.setFld (d : Dev) (p : Nat) (f : Fld) (v : Nat) : Dev :=
  d.setReg (p + f.off) (setBits (d.reg (p + f.off)) f.lo f.n v)

/-- Whether a one-bit field is 1. -/
def Dev.on (d : Dev) (p : Nat) (f : Fld) : Bool := d.fld p f != 0

/-- What hardware has done to a register on this CLK_SYS cycle: its word before, and what a cleared register would hold. -/
def Dev.eventAt (d : Dev) (a : Nat) : Option (Word × Word) :=
  (d.events.find? fun e => e.1 = d.now / 2 && e.2.1 = a).map (·.2.2)

/-- R13: hardware changes a status register; the change stands beside a write or a read of the same cycle (log 18). -/
def Dev.event (d : Dev) (a : Nat) (f : Word → Word) : Dev :=
  let (old, since) := (d.eventAt a).getD (d.reg a, 0)
  let kept := d.events.filter fun e => e.1 = d.now / 2 && e.2.1 ≠ a
  { d with events := (d.now / 2, a, old, f since) :: kept }.setReg a (f (d.reg a))

/-- R13: the bits of a W1C register that a write clears: a bit that hardware has set on this cycle stays set (log 18). -/
def Dev.wipe (d : Dev) (a : Nat) (w : Word) : Dev :=
  d.setReg a (d.reg a &&& ~~~(w &&& ~~~((d.eventAt a).getD (0, 0)).2))

/-- R13: what a read of an RC register returns: the word before the events of this cycle. -/
def Dev.beforeEvents (d : Dev) (a : Nat) : Word := ((d.eventAt a).getD (d.reg a, 0)).1

/-- R12, R13: such a read clears the register, and the events of this cycle stand after it. -/
def Dev.readClear (d : Dev) (a : Nat) : Dev :=
  match d.eventAt a with
  | none => d.setReg a 0
  | some (_, since) =>
    let kept := d.events.filter fun e => e.1 = d.now / 2 && e.2.1 ≠ a
    { d with events := (d.now / 2, a, 0, since) :: kept }.setReg a since

/-- Set a status or event bit. -/
def Dev.raise (d : Dev) (p : Nat) (f : Fld) : Dev := d.event (p + f.off) fun w => setBits w f.lo f.n 1

/-- Clear a bit or field. -/
def Dev.lower (d : Dev) (p : Nat) (f : Fld) : Dev := d.setFld p f 0

/-- Advance a count that saturates at the top of its field. -/
def Dev.bump (d : Dev) (p : Nat) (f : Fld) : Dev :=
  d.event (p + f.off) fun w => setBits w f.lo f.n (satInc f.n (bits w f.lo f.n))

/-- Advance a count that wraps. -/
def Dev.wrapBump (d : Dev) (p : Nat) (f : Fld) : Dev := d.setFld p f ((d.fld p f + 1) % 2 ^ f.n)

/-- Add to a count that saturates. -/
def Dev.bumpBy (d : Dev) (p : Nat) (f : Fld) (k : Nat) : Dev :=
  d.event (p + f.off) fun w => setBits w f.lo f.n (min (2 ^ f.n - 1) (bits w f.lo f.n + k))

/-- A field read as a signed number. -/
def Dev.sfld (d : Dev) (p : Nat) (f : Fld) : Int := signedOf f.n (d.fld p f)

/-- Event `i` of a 32-bit event register at an address. -/
def Dev.raiseBit (d : Dev) (a i : Nat) : Dev := d.event a fun w => w ||| BitVec.ofNat 32 (2 ^ i)

/-! ### Progress (R73, R74) -/

/-- A long operation starts: UNIT 1 where `pos`. -/
def Dev.progStart (d : Dev) (p : Nat) (pos : Bool) (total : Nat) : Dev :=
  (d.setReg (p + 0x02C) (BitVec.ofNat 32 (2 ^ 31 + (if pos then 2 ^ 28 else 0)))).setReg (p + 0x030) (BitVec.ofNat 32 total)

def Dev.progValue (d : Dev) (p v : Nat) : Dev := d.setReg (p + 0x02C) (setBits (d.reg (p + 0x02C)) 0 24 v)

/-- It ends, in DONE or in FAIL. -/
def Dev.progEnd (d : Dev) (p : Nat) (ok : Bool) : Dev :=
  d.setReg (p + 0x02C) (setBits (d.reg (p + 0x02C)) 29 3 (if ok then 2 else 1))

/-! ### Commit domains (R39 to R41) -/

/-- The commit domain of the page that holds an address; 127 where no page is. -/
def Dev.domAt (d : Dev) (a : Nat) : Nat :=
  match pageAt a with
  | none => 127
  | some (r, i) =>
    match r.page with
    | .gang | .leg | .axis | .conv | .fb => bits (d.reg (pageBase a + 0x008)) 0 7
    | p => domainReset p i

def domReset : Nat → DomRec := fun _ => ⟨.idle, 0, 0, false, false, false, 0, 0, 0, 0⟩

def Dev.dom (d : Dev) (n : Nat) : DomRec := sget domReset d.commit.doms n
def Dev.setDom (d : Dev) (n : Nat) (r : DomRec) : Dev :=
  { d with commit := { d.commit with doms := sput domReset d.commit.doms n r } }

/-- Whether a domain's commit is QUEUED, VALIDATING or ARMED (R54). -/
def DomState.busy : DomState → Bool
  | .queued | .validating | .armed => true
  | _ => false

def Dev.domBusy (d : Dev) (n : Nat) : Bool := (d.dom n).st.busy

/-! ### Wet values -/

def noWord : Nat → Option Word := fun _ => none

def Dev.wetAt (d : Dev) (a : Nat) : Option Word := sget noWord d.wet a
def Dev.setWet (d : Dev) (a : Nat) (w : Option Word) : Dev := { d with wet := sput noWord d.wet a w }
def Dev.coatAt (d : Dev) (a : Nat) : Option Word := sget noWord d.coat2 a
def Dev.setCoat (d : Dev) (a : Nat) (w : Option Word) : Dev := { d with coat2 := sput noWord d.coat2 a w }

/-! ### Per-instance records -/

/-- The settings of a drive die's leg at reset: those of R116. -/
def LegSet.reset : LegSet := ⟨0x00000030, 0x00F0C808, 0x00100F0F, 0x00000026⟩

/-- The word that answers to an offset of the LEG page. -/
def LegSet.word (s : LegSet) (off : Nat) : Word :=
  if off = 0x044 then s.blank else if off = 0x048 then s.thresh else if off = 0x04C then s.gate else s.bstuv

/-- A leg beside its registers at reset (log 93). -/
def legReset : Nat → LegRec := fun _ =>
  { retired := false, fwRet := false, retCycle := none, dark := false, safe := .none, dieHold := .none, dieRetired := false,
    gh := false, gl := false, wait := none, outs := [], blankEnd := 0, presMark := false, firstEdge := none,
    presQual := false, presSeen := false, strongLeft := 0, adaptive := false, sw := false, srcMeas := none, snkMeas := none,
    srcLim := 0, snkLim := 0, refreshOwed := false, own := .reset }

def Dev.leg (d : Dev) (n : Nat) : LegRec := sget legReset d.legs n
def Dev.setLeg (d : Dev) (n : Nat) (r : LegRec) : Dev := { d with legs := sput legReset d.legs n r }

/-- A field of BLANK, THRESH, GATE or BSTUV as the leg's drive die has it (R116). -/
def Dev.own (d : Dev) (n : Nat) (f : Fld) : Nat := bits ((d.leg n).own.word f.off) f.lo f.n

def planReset : Nat → LegPlan := fun _ => ⟨false, false, [], false, false, [], false, 0⟩
def Dev.plan (d : Dev) (n : Nat) : LegPlan := sget planReset d.plans n
def Dev.setPlan (d : Dev) (n : Nat) (r : LegPlan) : Dev := { d with plans := sput planReset d.plans n r }

/-- A drive die beside its registers at reset (log 93). -/
def dieReset : Nat → DieRec := fun _ =>
  { holder := 0, holderCmd := none, link := true, hardsafe := false, wdSafe := false, wdPend := false,
    vdrvUv := false, vdrvOv := false, supHold := false, vdrv := 0, temp := 0, lastValid := 0, lastSent := 0, held := [],
    cfg := 0x0C400300, uvTh := 0x00000023, filts := [], maskLo := 0xFFFFFFFF, maskHi := 0xFFFFFFFF, evt := 0,
    checkFail := 0, authDisc := 0, intlkTo := 0, blankHits := 0, strLimit := 0,
    stRun := false, stOn := false, stLevel := 0, stMargin := 0, stLegs := [], stStep := 0, stAbort := false, stFail := 0, stSkip := 0,
    stFirst := 0, stValue := 0, stTotal := 0, stDone := false, stAborted := false,
    warnSent := false, shutSent := false }

def Dev.die (d : Dev) (n : Nat) : DieRec := sget dieReset d.dies n
def Dev.setDie (d : Dev) (n : Nat) (r : DieRec) : Dev := { d with dies := sput dieReset d.dies n r }

def gangReset : Nat → GangRec := fun _ =>
  { occ := [], regang := none, loadAge := 0, loadNew := false, pend := .none, act := 0, dwell := 0, holdoff := 0,
    ffTrig := none, rotate := false, trips := [], shutTrip := none, engWet := none, held := 0, refPtr := 0,
    refreshNext := 0, fresh := false, collHold := .none }

def Dev.gang (d : Dev) (g : Nat) : GangRec := sget gangReset d.gangs g
def Dev.setGang (d : Dev) (g : Nat) (r : GangRec) : Dev := { d with gangs := sput gangReset d.gangs g r }

def frameReset : Nat → FrameRec := fun _ => ⟨0, 0, false, none, false, [], [], 0⟩
def Dev.frame (d : Dev) (f : Nat) : FrameRec := sget frameReset d.frames f
def Dev.setFrame (d : Dev) (f : Nat) (r : FrameRec) : Dev := { d with frames := sput frameReset d.frames f r }

def setReset : SetRec :=
  { period := 0, got := 0, repl := false, dels := 0, preds := 0, codes := [0, 0, 0], rangeRun := [0, 0, 0], sumRun := 0,
    predRun := 0, openRun := [0, 0, 0], rawAt := 0, raws := [], shunts := [], volts := none, hold := .off, shortFor := 0, track := none,
    trackF := 0 }

def axisReset : Nat → AxisRec := fun _ =>
  { en := false, hold := .off, select := false, shortFor := 0, cause := none, late := [], owedFault := false,
    owedPark := false, owedOwn := false, faultHeld := false, sets := [setReset, setReset],
    window := none, seed := none, seeded := false, catchAt := none, residRun := 0, busRun := 0, lostGangs := 0, redo := false, iq := 0, lostAt := 0,
    lostIq := 0, gains := (0, 0), lossSlot := 0, lrAt := none, lrSent := false, sector := none, decSign := 0, resoundAt := 0,
    rolled := false, escaped := false }
def Dev.axis (d : Dev) (a : Nat) : AxisRec := sget axisReset d.axes a
def Dev.setAxis (d : Dev) (a : Nat) (r : AxisRec) : Dev := { d with axes := sput axisReset d.axes a r }

def convReset : Nat → ConvRec := fun _ =>
  { hold := .off, lf := [], vss := 0, tripAt := 0, pause := 0, packRun := 0, ovRun := 0, startAt := 0, ctcAt := none,
    stepAt := 0, en := false, taps := [0, 0, 0], trips := 0, pcSent := false, cause := none, rank := 0,
    was := 0, late := [], owedPause := false, owedDelay := false, owedCommit := false, owedMode := false,
    faultHeld := false }
def Dev.conv (d : Dev) (c : Nat) : ConvRec := sget convReset d.convs c
def Dev.setConv (d : Dev) (c : Nat) (r : ConvRec) : Dev := { d with convs := sput convReset d.convs c r }

def fbReset : Nat → FbRec := fun _ =>
  { change := [none, none, none], hall := none, clean := 0, dirty := false, stamps := [], against := none, gates := [],
    delta := 0, gateAt := 0, qual := false, idxDue := none, runRev := false, run := 0, readAt := none, prev := none,
    fails := 0, data := [], emu := 0, emuAt := 0, lag := false }
def Dev.fb (d : Dev) (k : Nat) : FbRec := sget fbReset d.fbs k
def Dev.setFb (d : Dev) (k : Nat) (r : FbRec) : Dev := { d with fbs := sput fbReset d.fbs k r }

def Dev.setRost (d : Dev) (f : RostRec → RostRec) : Dev := { d with rost := f d.rost }
def Dev.setSamp (d : Dev) (f : SampRec → SampRec) : Dev := { d with samp := f d.samp }
def Dev.setEng (d : Dev) (f : EngRec → EngRec) : Dev := { d with eng := f d.eng }

/-- A set of an axis: 0 for A, 1 for B. -/
def Dev.phases (d : Dev) (a k : Nat) : SetRec := (d.axis a).sets.getD k setReset
def Dev.setPhases (d : Dev) (a k : Nat) (s : SetRec) : Dev :=
  let r := d.axis a
  d.setAxis a { r with sets := r.sets.set k s }

def Dev.setAuth (d : Dev) (r : AuthRec) : Dev := { d with auth := r }

/-! ### Loops over instances -/

def Dev.setNight (d : Dev) (f : NightRec → NightRec) : Dev := { d with night := f d.night }

def Dev.setSys (d : Dev) (f : SysRec → SysRec) : Dev := { d with sys := f d.sys }
def Dev.setLink (d : Dev) (f : LinkRec → LinkRec) : Dev := { d with link := f d.link }

def canReset : Nat → CanRec := fun _ => ⟨[], none, false, 0⟩
def Dev.can (d : Dev) (n : Nat) : CanRec := sget canReset d.cans n
def Dev.setCan (d : Dev) (n : Nat) (r : CanRec) : Dev := { d with cans := sput canReset d.cans n r }

def uartReset : Nat → UartRec := fun _ => ⟨[], [], 0, 0⟩
def Dev.uart (d : Dev) (n : Nat) : UartRec := sget uartReset d.uarts n
def Dev.setUart (d : Dev) (n : Nat) (r : UartRec) : Dev := { d with uarts := sput uartReset d.uarts n r }

/-- Apply a change for each number of a list, in order. -/
def each {σ : Type} (l : List Nat) (f : Nat → σ → σ) (d : σ) : σ := l.foldl (fun d n => f n d) d

/-! ### Fault messages (R408) -/

/-- A message from the page at `base` (log 51). -/
def faultOf (base kind addr : Nat) : FaultMsg :=
  ⟨srcOf base, kind, addr % 2 ^ 14, BitVec.ofNat 32 addr, false, false, 0⟩

/-- A checker on the core die sends a message to the collector. -/
def Dev.send (d : Dev) (m : FaultMsg) : Dev := { d with flt := { d.flt with inflight := d.flt.inflight ++ [m] } }

/-- The message's 32 bits (R408). -/
def msgWord (m : FaultMsg) : Word := BitVec.ofNat 32 (m.src * 2 ^ 20 + m.kind * 2 ^ 14 + m.addr % 2 ^ 14)

/-- A report of a memory's checker about the word at `addr` (R412) (log 23). -/
def eccMsg (base kind addr : Nat) : FaultMsg :=
  { faultOf base kind (addr / 4 % 2 ^ 14) with full := BitVec.ofNat 32 addr }

/-! ### The Banksman's port, as its requesters see it (R469, R470) -/

def frozen (d : Dev) : Bool := d.on arbP ARB.CTL.FREEZE
def arbHolder (d : Dev) : Nat := d.fld arbP ARB.GSTAT.HOLDER

/-- R469: masked as of the latest phase. -/
def masked (d : Dev) (r : Nat) : Bool := d.arb.mask.testBit r

/-- Whether requester 5 is masked, and has no grant running (R469); a freeze does not shut it out (R470). -/
def recordShut (d : Dev) : Bool := masked d 5 && arbHolder d ≠ 5

/-! ### Injection sessions (R430) -/

def INJ_CTL : Nat := fltP + 0x08C
def INJ_STAT : Nat := fltP + 0x098
def injArmed (d : Dev) : Bool := bits (d.reg INJ_STAT) 28 4 == 1
def injBits (d : Dev) : Nat := bits (d.reg INJ_CTL) 16 2
def injSyn (d : Dev) : Nat := if injBits d = 1 then 0x01 else 0x03

/-- Whether the word of an armed session, not read yet, lies in the `n` bytes from `a` up. -/
def injHit (d : Dev) (a n : Nat) : Bool :=
  let w := (d.reg (fltP + 0x090)).toNat
  injArmed d && !d.flt.injRead && decide (a ≤ w) && decide (w < a + n)

/-- The injected read is made, and its checker reports it with the message `m`. -/
def injSend (m : FaultMsg) (d : Dev) : Dev :=
  let syn := injSyn d
  ({ d with flt := { d.flt with injRead := true } }).send { m with onInjected := true, syn := syn }

/-- What a checker finds on the injected read. -/
def injEcc (d : Dev) : Ecc := if injBits d = 1 then .corrected else .uncorrectable

/-! ### Words of contexts and slots (R252, R257) -/

def noWord0 : Nat → Word := fun _ => 0

def ctxWord (d : Dev) (c w : Nat) : Word := sget noWord0 d.eng.words (c * 128 + w)
def setCtxWord (c w : Nat) (v : Word) (d : Dev) : Dev :=
  d.setEng fun r => { r with words := sput noWord0 r.words (c * 128 + w) v }

def slotWord (d : Dev) (s i : Nat) : Word := sget noWord0 d.eng.slots (s * 8 + i)
def slotWords (d : Dev) (s : Nat) : List Word := (List.range 8).map (slotWord d s)

/-- A slot as an execution that begins now reads it: a write that landed on this tick acts from the next one (R258). -/
def slotNow (d : Dev) (s : Nat) : List Word :=
  (List.range 8).map fun i => match d.eng.fresh.find? fun e => e.1 = s * 8 + i && e.2.1 = d.now with
    | some e => e.2.2
    | none => slotWord d s i

def putSlot (s i : Nat) (v : Word) (d : Dev) : Dev :=
  d.setEng fun r =>
    let kept := r.fresh.filter fun e => e.2.1 = d.now
    let fresh := if kept.any fun e => e.1 = s * 8 + i then kept else (s * 8 + i, d.now, sget noWord0 r.slots (s * 8 + i)) :: kept
    { r with slots := sput noWord0 r.slots (s * 8 + i) v, fresh := fresh }

/-! ### Free values (log 2) -/

/-- Draw the next free value. -/
def Dev.draw (d : Dev) : BitVec 64 × Dev := (Config.freeValue d.free, { d with free := d.free + 1 })

end Sys2Proof.Machine
end

