-- ==== Sys2Proof/Machine/Legs.lean ====
section
/-!
DEFINITION. Legs and gangs: who lists whom, what holds a leg, live counts, shutting a gang, retirement and re-ganging
(R79 to R119), and the device mode's LIMP condition (R112).
-/

namespace Sys2Proof.Machine

/-! ### Device mode -/

def Mode.code : Mode → Nat
  | .powerUp => 0 | .boot => 1 | .configure => 2 | .standby => 3 | .run => 4 | .limp => 5
  | .park => 6 | .safe => 7 | .sleep => 8 | .test => 9 | .halt => 10 | .update => 11

def Mode.ofCode : Nat → Option Mode
  | 0 => some .powerUp | 1 => some .boot | 2 => some .configure | 3 => some .standby | 4 => some .run
  | 5 => some .limp | 6 => some .park | 7 => some .safe | 8 => some .sleep | 9 => some .test
  | 10 => some .halt | 11 => some .update | _ => none

/-- R507, R509: the entry to SLEEP is complete. On the CLK_SYS cycle of the request the device still runs. -/
def asleep (d : Dev) : Bool := d.mode == .sleep && !d.sys.pwren

/-- R497, R498, R509: the derived clocks run and the core die is not held in reset (log 17). -/
def awake (d : Dev) : Bool := !d.sys.stopped && !asleep d && d.sys.coreLow.isEmpty

def TOP_MODE_CHANGES : Fld := ⟨0x044, 16, 16⟩
def TOP_MODE_PREV : Fld := ⟨0x044, 4, 4⟩

/-- R505, R515: a change of mode records the previous mode, counts and sets EVT.MODE_CHANGED; no L4 fault has been decided
since an entry to SAFE as it begins (R428). -/
def Dev.enter (d : Dev) (m : Mode) : Dev :=
  if d.mode = m then d
  else
    let d := ((d.setFld topP TOP_MODE_PREV d.mode.code).bump topP TOP_MODE_CHANGES).raise topP TOP.EVT.MODE_CHANGED
    { d with mode := m, flt := { d.flt with l4Safe := false } }

/-- A refused MODE_REQ (R505). -/
def modeRefuse (target reason : Nat) (d : Dev) : Dev :=
  (d.setReg (topP + 0x04C) (BitVec.ofNat 32 (2 ^ 31 + target * 2 ^ 16 + reason * 2 ^ 8))).raise topP TOP.EVT.MODE_REFUSED

/-- R507: a mode change that a stronger event of the same cycle may displace; `target`: the request's. -/
def noteMode (target : Option Nat) (d : Dev) : Dev :=
  d.setSys fun r => { r with modeWas := some (d.now / 2, target, d.mode, d.reg (topP + 0x044)) }

/-- R507: a debug halt comes before a fault and a fault before a request: what came earlier on this cycle gives way, and a
request is refused with REASON 5. -/
def displaceMode (d : Dev) : Dev :=
  match d.sys.modeWas with
  | none => d
  | some (c, target, m, w) =>
    let d := d.setSys fun r => { r with modeWas := none }
    if c ≠ d.now / 2 then d
    else
      let d := { d with mode := m }.setReg (topP + 0x044) w
      match target with
      | some t => modeRefuse t 5 d
      | none => d

/-! ### Lists of a gang (R79 to R82, R115) -/

/-- The byte of a slot entry. -/
def slotByte (d : Dev) (g i : Nat) : Nat := bits (d.reg (gangP g + 0x058 + i / 4 * 4)) (8 * (i % 4)) 8

/-- The byte of a spare entry. -/
def spareByte (d : Dev) (g i : Nat) : Nat := bits (d.reg (gangP g + 0x078)) (8 * i) 8

/-- An entry's leg where it is valid (R115). -/
def entryLeg (b : Nat) : Option Nat := if 128 ≤ b then some (b % 64) else none

/-- The assigned legs of a gang, in slot order (R81: contiguous from slot 0). -/
def slotLegs (d : Dev) (g : Nat) : List Nat := (List.range 32).filterMap fun i => entryLeg (slotByte d g i)

/-- The valid spare entries: entry number and leg. -/
def spareLegs (d : Dev) (g : Nat) : List (Nat × Nat) :=
  (List.range 4).filterMap fun i => (entryLeg (spareByte d g i)).map fun l => (i, l)

def gangEn (d : Dev) (g : Nat) : Bool := d.on (gangP g) GANG.CFG.EN
def gangFrame (d : Dev) (g : Nat) : Nat := d.fld (gangP g) GANG.CFG.FRAME
def gangDie (d : Dev) (g : Nat) : Nat := d.fld (gangP g) GANG.CFG.DIE

/-- The enabled gangs. -/
def enabledGangs (d : Dev) : List Nat := (List.range 64).filter (gangEn d)

/-- The enabled gangs of a frame. -/
def gangsOn (d : Dev) (f : Nat) : List Nat := (enabledGangs d).filter fun g => gangFrame d g = f

/-- R80: the global number of a gang's local leg. -/
def globalLeg (d : Dev) (g l : Nat) : Nat := 64 * gangDie d g + l

/-- Every leg that a gang lists, assigned or spare, with the occupants that spares hold. -/
def gangLegs (d : Dev) (g : Nat) : List Nat :=
  ((slotLegs d g) ++ (spareLegs d g).map (·.2)).map (globalLeg d g)

/-- The gang that lists a leg, whatever its EN, and the leg's place: its slot, or 32 + spare entry (R116, LSTAT). -/
def placeIn (d : Dev) (g n : Nat) : Option Nat :=
  if gangDie d g ≠ n / 64 then none
  else
    let l := n % 64
    match (List.range 32).find? (fun i => entryLeg (slotByte d g i) == some l) with
    | some i => some i
    | none =>
      match ((d.gang g).occ.zipIdx).find? (fun p => p.1.sub && p.1.leg == l) with
      | some p => some p.2
      | none => ((spareLegs d g).find? (fun p => p.2 == l)).map fun p => 32 + p.1

/-- The enabled gang that lists a leg in a valid entry, with the leg's place. -/
def listedIn (d : Dev) (n : Nat) : Option (Nat × Nat) :=
  (enabledGangs d).findSome? fun g => (placeIn d g n).map fun i => (g, i)

/-- Any gang that lists a leg, enabled or not. -/
def anyGangOf (d : Dev) (n : Nat) : Option (Nat × Nat) :=
  match listedIn d n with
  | some x => some x
  | none => (List.range 64).findSome? fun g => (placeIn d g n).map fun i => (g, i)

/-! ### What holds a leg -/

/-- Whether a trip latch is set (R147). -/
def latched (d : Dev) (n : Nat) : Bool := d.on (legP n) LEG.TRIP.HARD_LAT || d.on (legP n) LEG.TRIP.SOFT_LAT

/-- R417: a die that an L3 fault has marked in STAT.DIES, held until its recovery. -/
def dieMarked (d : Dev) (k : Nat) : Bool := (d.fld fltP FLT.STAT.DIES).testBit k

/-- R417: a gang whose owner is FAULTED stands under that owner's own policy. -/
def ownerFaulted (d : Dev) (g : Nat) : Bool :=
  let o := d.fld (gangP g) GANG.ROLE.OWNER
  match d.fld (gangP g) GANG.ROLE.KIND with
  | 1 => d.fld (axisP o) AXIS.ASTAT.STATE = 8
  | 2 | 3 | 4 => d.fld (convP o) CONV.CSTAT.STATE = 8
  | _ => false

/-- R323: a gang whose legs the collector holds through its owner's FAULTED state, or has held so since a commit took it away. -/
def ownerFaultHeld (d : Dev) (g : Nat) : Bool :=
  let o := d.fld (gangP g) GANG.ROLE.OWNER
  (d.gang g).collHold ≠ .none ||
    (match d.fld (gangP g) GANG.ROLE.KIND with
     | 1 => (d.axis o).faultHeld
     | 2 | 3 | 4 => (d.conv o).faultHeld
     | _ => false)

/-- What holds a leg safe beside its latches: a hold of its own, a hard-safe line, its die's watchdog, its gang's shutdown or its
owner's die. -/
def heldApart (d : Dev) (n : Nat) : Bool :=
  (d.leg n).safe != .none || (d.die (n / 64)).hardsafe || (d.die (n / 64)).wdSafe ||
    (match listedIn d n with
     | some (g, _) => d.on (gangP g) GANG.STAT.SHUT || (dieMarked d (n / 64) && !ownerFaulted d g)
     | none => dieMarked d (n / 64))

/-- R118, point 3: held safe by a protection or fault path; R417: an L3 hold of the die takes every leg that no owner's policy
holds. -/
def heldSafe (d : Dev) (n : Nat) : Bool := latched d n || heldApart d n

/-- A slot's occupant counts as live: neither retired, dark nor held safe (R89). -/
def legLive (d : Dev) (n : Nat) : Bool := !(d.leg n).retired && !heldSafe d n

/-- The live list: slot number and global leg, ascending (R89). -/
def liveList (d : Dev) (g : Nat) : List (Nat × Nat) :=
  ((d.gang g).occ.zipIdx).filterMap fun (o, i) =>
    if !o.lost && legLive d (globalLeg d g o.leg) then some (i, globalLeg d g o.leg) else none

/-- R85, R118: the hold that a gang's owner applies to it, for a dropped set its own (R343); a gang of KIND 0 has no owner. What
lies on a gang taken away from a FAULTED owner stays (R323). -/
def ownerHold (d : Dev) (g : Nat) : Hold :=
  let p := gangP g
  if (d.gang g).collHold ≠ .none then (d.gang g).collHold
  else match d.fld p GANG.ROLE.KIND with
  | 1 =>
    let a := d.fld p GANG.ROLE.OWNER
    let k := d.fld p GANG.ROLE.PHASE_IX / 3
    if (d.fld (axisP a) AXIS.HSTAT.DROP).testBit k then (d.phases a k).hold else (d.axis a).hold
  | 2 | 3 | 4 => (d.conv (d.fld p GANG.ROLE.OWNER)).hold
  | _ => .none

/-- Whether a mode lets the gang manager issue edges (R88) (log 32, 40). -/
def Mode.switches : Mode → Bool
  | .run | .limp | .park => true
  | _ => false

/-- The modes in which a gang of KIND 0, which no hold policy lets switch in PARK, switches (R88) (log 40). -/
def Mode.ownSwitches : Mode → Bool
  | .run | .limp => true
  | _ => false

/-- Whether a gang is its own owner: KIND 0, and the reserved kinds (log 32). -/
def ownGang (d : Dev) (g : Nat) : Bool :=
  let k := d.fld (gangP g) GANG.ROLE.KIND
  k == 0 || decide (5 ≤ k)

/-- R88: whether a gang's legs switch; in PARK only under an owner, whose hold policy may let them (log 40, 49). -/
def gangSwitching (d : Dev) (g : Nat) : Bool :=
  gangEn d g && (if ownGang d g then d.mode.ownSwitches else d.mode.switches) && !dieMarked d (gangDie d g) &&
    d.on (frameP (gangFrame d g)) FRAME.STAT.RUN &&
    !d.on (gangP g) GANG.STAT.SHUT && ownerHold d g == .none

/-- R121, R163: READY of a drive die. -/
def dieReady (d : Dev) (k : Nat) : Bool :=
  let r := d.die k
  bits r.cfg 0 2 != 0 && !r.vdrvUv && !r.vdrvOv && !r.hardsafe && !r.wdSafe

/-- R121, R125: a die whose legs may switch: READY, and no VDRV condition still waits for its recovery. -/
def dieFree (d : Dev) (k : Nat) : Bool := dieReady d k && !(d.die k).supHold

/-- R121, R150, R417: whether the drive die lets a leg's gates move on an edge command; a leg that has stopped since the
latest reload of its frame starts at the next one. -/
def gatesFree (d : Dev) (n : Nat) : Bool :=
  let r := d.leg n
  (listedIn d n).isSome && !latched d n && !r.retired && !r.dieRetired && r.safe == .none && r.dieHold == .none &&
    dieFree d (n / 64) && !dieMarked d (n / 64) && !(d.plan n).stop

/-- R128: fixed strong drive. -/
def strong (d : Dev) (n : Nat) : Bool :=
  d.mode == .powerUp || d.mode == .test || d.own n LEG.GATE.FIXED != 0 || !gatesFree d n ||
    !(d.leg n).adaptive

/-- R118, point 3: the leg's gang is held by a reaction at L2 or above through its owner. Such legs stay in their gang's live list,
where they differ from the legs of `heldSafe` (log 45). -/
def reactionHeld (d : Dev) (n : Nat) : Bool :=
  match listedIn d n with
  | some (g, _) => ownerFaultHeld d g
  | none => false

/-- R118: STATE of LSTAT. -/
def legState (d : Dev) (n : Nat) : Nat :=
  let r := d.leg n
  if r.dark then 4
  else if r.retired then 5
  else if heldSafe d n || reactionHeld d n then 6
  else match anyGangOf d n with
    | none => 0
    | some (g, i) =>
      if !gangEn d g || !gangSwitching d g then 7
      else if 32 ≤ i then 3
      else if (d.plan n).shed then 2 else 1

/-! ### Live counts, shutting, re-ganging -/

/-- R104, R109: the spares a gang can still use, as (entry, local leg). -/
def spareFree (d : Dev) (g : Nat) : List (Nat × Nat) :=
  (spareLegs d g).filter fun p =>
    let n := globalLeg d g p.2
    !(d.leg n).retired && !heldSafe d n && !((d.gang g).occ.any fun o => o.sub && o.leg == p.2)

/-- A byte of MAP (R115). -/
def mapByte (d : Dev) (g : Nat) (o : Occ) : Nat :=
  (if !o.lost && legLive d (globalLeg d g o.leg) then 128 else 0) + (if o.sub then 64 else 0) + o.leg

/-- R106, R115: write LIVE and STAT.DERATED; `l` is the live count and `a` the active count. -/
def showLive (d : Dev) (g l a : Nat) : Dev :=
  let p := gangP g
  let n := (d.gang g).occ.length
  let scale := if n = 0 then 0 else 256 * l / n
  let d := d.setReg (p + 0x080)
    (BitVec.ofNat 32 (scale * 2 ^ 23 + (spareFree d g).length * 2 ^ 20 + a * 2 ^ 12 + l * 2 ^ 6 + n))
  d.setFld p GANG.STAT.DERATED (b2n (scale < 256))

/-- R115: write LIVE, STAT.DERATED and MAP from the gang's occupants. -/
def showGang (d : Dev) (g l a : Nat) : Dev :=
  let p := gangP g
  let occ := (d.gang g).occ
  let d := showLive d g l a
  let bytes := occ.map (mapByte d g)
  each (List.range 8) (fun i d => d.setReg (p + 0x088 + 4 * i)
    (BitVec.ofNat 32 ((bytes.getD (4 * i) 0) + (bytes.getD (4 * i + 1) 0) * 2 ^ 8 + (bytes.getD (4 * i + 2) 0) * 2 ^ 16 +
      (bytes.getD (4 * i + 3) 0) * 2 ^ 24))) d

/-- R92: a leg stops within its period: the edges that the modulator has not issued are not issued any more, while what the
reload fixed for the period stands (log 46). -/
def stopLeg (n : Nat) (d : Dev) : Dev :=
  let pl := d.plan n
  d.setPlan n { pl with due := pl.due.filter (fun e => decide (e.1 < d.now)), stop := true }

/-- Hold a leg safe on the core die (R28, R92). -/
def holdLeg (h : Hold) (n : Nat) (d : Dev) : Dev := stopLeg n (d.setLeg n { d.leg n with safe := h })

/-- Shut a gang: every leg of it is held safe and STAT.SHUT is set (R108, R110). -/
def shutGang (d : Dev) (g : Nat) : Dev :=
  let legs := ((d.gang g).occ.map (fun o => globalLeg d g o.leg)) ++ gangLegs d g
  let d := each legs (fun n d => if (d.leg n).safe == .none then holdLeg .off n d else d) d
  (d.raise (gangP g) GANG.STAT.SHUT).lower (gangP g) GANG.STAT.RUN

/-- R89, R108: L of a gang, which keeps it from being shut (log 45). -/
def standing (d : Dev) (g : Nat) : Nat := (liveList d g).length

/-- R108: a gang below its least live count is shut and GANG_UNDERSTRENGTH is sent. -/
def understrength (d : Dev) (g : Nat) : Dev :=
  if d.on (gangP g) GANG.STAT.SHUT then d
  else ((shutGang d g).raise (gangP g) GANG.EVT.UNDERSTRENGTH).send (faultOf (gangP g) 8 g)

/-- MIN_LIVE, where 0 counts as 1 (R108) (log 45). -/
def minLive (d : Dev) (g : Nat) : Nat := max 1 (d.fld (gangP g) GANG.ROLE.MIN_LIVE)

/-- R104: one dark slot, also one lost at an earlier re-gang, takes the lowest available spare, or leaves the live list. -/
def fillSlot (g : Nat) (d : Dev) (i : Nat) : Dev :=
  let r := d.gang g
  match r.occ[i]? with
  | none => d
  | some o =>
    let n := globalLeg d g o.leg
    if !(d.leg n).retired then d
    else
      let d := d.setLeg n { d.leg n with dark := false }
      match spareFree d g with
      | (_, l) :: _ =>
        let d := d.setGang g { r with occ := r.occ.set i ⟨l, true, false⟩ }
        let m := globalLeg d g l
        let d := d.setLeg m { d.leg m with strongLeft := 64, adaptive := false }
        (d.raise (legP m) LEG.EVT.JOINED).raise (gangP g) GANG.EVT.SPARE_JOINED
      | [] => (d.setGang g { r with occ := r.occ.set i { o with lost := true } }).raise (gangP g) GANG.EVT.SLOT_LOST

/-- R104: the re-gang of a gang (log 39). -/
def regang (d : Dev) (g : Nat) : Dev :=
  let d := (List.range (d.gang g).occ.length).foldl (fillSlot g) d
  let d := d.setGang g { d.gang g with regang := none, dwell := 0, pend := .none }
  let l := (liveList d g).length
  let p := gangP g
  let d := d.setFld p GANG.STAT.ROT (if l = 0 then 0 else d.fld p GANG.STAT.ROT % l)
  let d := (d.lower p GANG.STAT.REGANG_PEND).lower p GANG.STAT.SHED_PEND
  let d := d.bump p GANG.REGANG.REGANG_COUNT
  let d := showGang (d.setGang g { d.gang g with act := l }) g l l
  if standing d g < minLive d g then understrength d g else d

/-- R105, R115: form a gang's occupants anew from its set lists. -/
def formGang (d : Dev) (g : Nat) : Dev :=
  let occ := (slotLegs d g).map fun l => ⟨l, false, false⟩
  d.setGang g { d.gang g with occ := occ }

/-- R102, R109, R113: retire a leg, once (R111). `fw` tells a retirement by CMD.RETIRE. LIVE drops where it counted the slot,
as MAP shows, also in the period of the leg's own trip (R147). The journal record is the caller's. -/
def retireLeg (d : Dev) (fw : Bool) (n : Nat) : Dev :=
  let r := d.leg n
  if r.retired then d
  else
    let d := (d.setLeg n { r with retired := true, fwRet := fw, retCycle := some (d.now / 2), wait := none }).raise (legP n) LEG.EVT.RETIRED
    match listedIn d n with
    | none => d
    | some (g, i) =>
      let p := gangP g
      if 32 ≤ i then d.setFld p GANG.LIVE.SPARES_LEFT (spareFree d g).length
      else
        let d := d.setLeg n { d.leg n with dark := true }
        let shown := bits (d.reg (p + 0x088 + i / 4 * 4)) (8 * (i % 4) + 7) 1
        let d := stopLeg n d
        let l := d.fld p GANG.LIVE.LIVE - shown
        let fired := b2n ((d.plan n).active && shown = 1)
        -- the other slots of MAP keep what the live count was made of
        let d := showLive d g l (d.fld p GANG.LIVE.ACTIVE - fired)
        let d := d.setReg (p + 0x088 + i / 4 * 4) (setBits (d.reg (p + 0x088 + i / 4 * 4)) (8 * (i % 4) + 7) 1 0)
        let d := d.raise p GANG.STAT.REGANG_PEND
        let d := d.setGang g { d.gang g with
          regang := some (((d.gang g).regang).getD ⟨d.now, false, (d.frame (gangFrame d g)).reload == d.now⟩) }
        if standing d g = 0 && !d.on p GANG.STAT.SHUT then understrength d g else d

/-! ### LIMP (R112) -/

/-- An axis with a set failed over or dropped (R313, R343), as ASTAT shows it. -/
def axisLimp (d : Dev) (a : Nat) : Bool :=
  d.on (axisP a) AXIS.ASTAT.FO_A || d.on (axisP a) AXIS.ASTAT.FO_B ||
    d.fld (axisP a) AXIS.HSTAT.DROP != 0

/-- R112: the LIMP condition. -/
def limpCond (d : Dev) : Bool :=
  (d.legs.any fun (n, r) => r.retired && (listedIn d n).isSome) || (List.range 16).any (axisLimp d)

/-- R507: a request of this cycle has left RUN or LIMP, and the condition changes on the same cycle: the automatic change
counts as made before it. -/
def autoFirst (d : Dev) : Dev :=
  match d.sys.modeWas with
  | some (c, some t, m, w) =>
    let next := if m = .run && limpCond d then some Mode.limp else if m = .limp && !limpCond d then some Mode.run else none
    match next with
    | some n =>
      if c ≠ d.now / 2 then d
      else
        let w := setBits (setBits w 4 4 m.code) 16 16 (min 0xFFFF (bits w 16 16 + 1))
        let d := (d.setFld topP TOP_MODE_PREV n.code).bump topP TOP_MODE_CHANGES
        d.setSys fun r => { r with modeWas := some (c, some t, n, w) }
    | none => d
  | _ => d

/-- R112: RUN and LIMP follow the condition. -/
def Dev.reLimp (d : Dev) : Dev :=
  if d.mode = .run && limpCond d then d.enter .limp
  else if d.mode = .limp && !limpCond d then d.enter .run
  else autoFirst d

end Sys2Proof.Machine
end

