-- ==== Sys2Proof/Machine/Commit.lean ====
section
/-!
DEFINITION. Commits, wet writes and the second coat: what GO, DISCARD, a wet write and a DOMAIN write do, and how a
committed wet set becomes set (R39 to R55). Validation's checks stand in Validate.lean, commit points in Frames.lean.
-/

namespace Sys2Proof.Machine

/-- Whether a page may be given a domain by software (R41). -/
def Page.movable : Page → Bool
  | .gang | .leg | .axis | .conv | .fb => true
  | _ => false

/-- The bits of a register that are implemented (R9). -/
def maskAt (a : Nat) : Word :=
  match pageAt a with
  | none => 0
  | some (r, _) => BitVec.ofNat 32 (((defAt r.page (a % 0x1000)).map (·.mask)).getD 0)

/-- R45, R46: a write to an RWW register lands wet, or in the second coat while the domain's commit is on its way. -/
def wetLand (a : Nat) (w : Word) (d : Dev) : Dev :=
  let w := w &&& maskAt a
  if d.domBusy (d.domAt a) then d.setCoat a (some w) else d.setWet a (some w)

/-- Whether a page holds wet writes, or writes in the second coat (R38). -/
def pageWet (d : Dev) (base : Nat) : Bool := d.wet.any fun e => pageBase e.1 == base
def pageCoat (d : Dev) (base : Nat) : Bool := d.coat2.any fun e => pageBase e.1 == base

/-- R41, R44: a write to a DOMAIN register. -/
def domainLand (base : Nat) (val : Word) (d : Dev) : Dev :=
  match pageAt base with
  | none => d
  | some (r, _) =>
    if pageWet d base || (base = rostP && d.rost.wet) || pageCoat d base || d.domBusy (d.domAt base) then d.raise base HDR.PAGE_STAT.DMN_IGN
    else if !r.page.movable then d
    else if 64 ≤ bits val 0 7 then d.raise base HDR.PAGE_STAT.DMN_IGN
    else d.setReg (base + 0x008) (BitVec.ofNat 32 (bits val 0 7))

/-- The wet set and the second coat of a domain are dropped (R54, R457). -/
def dropWet (n : Nat) (d : Dev) : Dev :=
  { d with wet := d.wet.filter (fun e => d.domAt e.1 != n), coat2 := d.coat2.filter (fun e => d.domAt e.1 != n) }

/-- R46, R50: the drive domains that a GO names beside its own, in ascending order. -/
def siblings (dom mask : Nat) : List Nat :=
  if 64 ≤ dom then []
  else ((List.range 4).filter fun i => mask.testBit i && dom / 4 * 4 + i != dom).map fun i => dom / 4 * 4 + i

/-- The order in which queued commits are validated (R53). -/
def Commit.before (a b : Commit) : Bool := a.cycle < b.cycle || (a.cycle == b.cycle && a.dom < b.dom)

def enqueue (c : Commit) : List Commit → List Commit
  | [] => [c]
  | q :: qs => if c.before q then c :: q :: qs else q :: enqueue c qs

/-- Flags of COMMIT_STAT that a write of the same CLK_SYS cycle does not clear (R13). -/
def freshFlags (d : Dev) (n : Nat) : Nat :=
  let r := d.dom n
  if r.flagCycle = d.now / 2 then r.flagBits else 0

/-- The device sets flags of COMMIT_STAT in a domain: SLIP [7], DISC_IGN [6], GO_IGN [5] (R54). -/
def setFlags (n flags : Nat) (d : Dev) : Dev :=
  let r := d.dom n
  d.setDom n { r with
    slip := r.slip || flags.testBit 7, discIgn := r.discIgn || flags.testBit 6, goIgn := r.goIgn || flags.testBit 5,
    flagCycle := d.now / 2, flagBits := freshFlags d n ||| flags }

/-- A GO for the roster is ignored while COPY or CLEAR runs (R215) (log 28). -/
def goBlocked (d : Dev) (dom : Nat) : Bool := dom == 64 && d.on rostP HDR.PROG.RUN

/-- R46, R50, R54: a GO through a page of domain `dom` (log 28). -/
def goLand (dom tag mask : Nat) (d : Dev) : Dev :=
  if 67 ≤ dom then d
  else if d.domBusy dom || goBlocked d dom then setFlags dom 0x20 d
  else
    let sib := siblings dom mask
    let union := dom :: sib.filter fun n => !d.domBusy n
    let c : Commit := { dom := dom, union := union, bad := sib.find? d.domBusy, cycle := d.now / 2, armedAt := 0,
                        ready := false, slip := false }
    let d := each union (fun n d => d.setDom n { d.dom n with st := .queued, tag := tag }) d
    { d with commit := { d.commit with queue := enqueue c d.commit.queue } }

/-- R54: a DISCARD through a page of domain `dom`. -/
def discardLand (dom : Nat) (d : Dev) : Dev :=
  if 67 ≤ dom then d
  else if d.domBusy dom then setFlags dom 0x40 d
  else
    let d := if dom = 64 then d.setRost fun r => { r with wet := false } else d
    (dropWet dom d).setDom dom { d.dom dom with st := .idle }

/-- R46, R54: a write to COMMIT. -/
def commitWrite (base : Nat) (val : Word) (d : Dev) : Dev :=
  let dom := d.domAt base
  match bitOf val 0, bitOf val 1 with
  | true, false => goLand dom (bits val 24 8) (bits val 4 4) d
  | false, true => discardLand dom d
  | _, _ => d

/-- R46, R55: a refused commit sets nothing; its second coat is laid over the wet set. -/
def refuse (c : Commit) (err errAt : Word) (d : Dev) : Dev :=
  let mine := fun (e : Nat × Option Word) => c.union.contains (d.domAt e.1)
  let d := (d.coat2.filter mine).foldl (fun d e => d.setWet e.1 e.2) d
  let d := { d with coat2 := d.coat2.filter fun e => !mine e }
  each c.union (fun n d => d.setDom n { d.dom n with st := .refused, err := err, errAt := errAt }) d

/-- A validated commit is ARMED (R53); one armed on the tick of its reload or of its COMMIT_POINT slips (R48). -/
def arm (c : Commit) (slip : Bool) (d : Dev) : Dev :=
  let d := each c.union (fun n d => d.setDom n { d.dom n with st := .armed }) d
  { d with commit := { d.commit with armed := d.commit.armed ++ [{ c with armedAt := d.now, slip := slip, ready := false }] } }

/-- The bits of a register that a commit sets: all, but for LFN of LFCFG, whose NEXT is RW (R406). -/
def wetMask (a : Nat) : Word := if 0x41160000 ≤ a && a < 0x41170000 && a % 0x1000 == 0x07C then 0xF else 0xFFFFFFFF

/-- A wet word becomes set. -/
def setWord (a : Nat) (w : Word) (d : Dev) : Dev := d.setReg a ((d.reg a &&& ~~~(wetMask a)) ||| (w &&& wetMask a))

/-- R46, R49: every wet register of the union becomes set, and the second coat becomes the wet set (log 30). -/
def applyWet (union : List Nat) (d : Dev) : Dev :=
  let mine := fun (e : Nat × Option Word) => union.contains (d.domAt e.1)
  let wetMine := d.wet.filter mine
  let coatMine := d.coat2.filter mine
  let d1 := { d with wet := d.wet.filter (fun e => !mine e), coat2 := d.coat2.filter (fun e => !mine e) }
  let d2 := wetMine.foldl (fun d e => match e.2 with | some w => setWord e.1 w d | none => d) d1
  coatMine.foldl (fun d e => d.setWet e.1 e.2) d2

/-- What every domain of a union reports once its commit has set (R49 to R51). -/
def reportSet (c : Commit) (d : Dev) : Dev :=
  each c.union (fun n d =>
    let d := if c.slip then setFlags n 0x80 d else d
    let r := d.dom n
    d.setDom n { r with st := .set, count := (r.count + 1) % 256 }) d

/-- COMMIT_STAT (R54). -/
def DomState.code : DomState → Nat
  | .idle => 0 | .queued => 1 | .validating => 2 | .armed => 3 | .set => 4 | .refused => 5

def commitStat (r : DomRec) : Word :=
  BitVec.ofNat 32 (r.tag % 256 * 2 ^ 24 + r.count * 2 ^ 8 + b2n r.slip * 128 + b2n r.discIgn * 64 + b2n r.goIgn * 32 + r.st.code)

/-- A W1C write to COMMIT_STAT clears the flags it names, but for those set on the same cycle (R13, R54). -/
def commitStatWrite (base : Nat) (val : Word) (d : Dev) : Dev :=
  let n := d.domAt base
  if 67 ≤ n then d
  else
    let r := d.dom n
    let w := val &&& ~~~BitVec.ofNat 32 (freshFlags d n)
    d.setDom n { r with slip := r.slip && !bitOf w 7, discIgn := r.discIgn && !bitOf w 6, goIgn := r.goIgn && !bitOf w 5 }

end Sys2Proof.Machine
end

