-- ==== Sys2Proof/Machine/TestDac.lean ====
section
/-!
DEFINITION. The test DAC and its users: the plumb cycle, an input-path diagnosis, a drive die's self-test (R239, R240).
-/

namespace Sys2Proof.Machine



def dacOwner (d : Dev) : Nat := d.fld adcP ADC.STAT.DACOWN

/-- Ticks of one plumb step (R235). -/
def plumbStep : Nat := 49152

/-- The DAC is released. -/
def dacRelease (d : Dev) : Dev := (d.setFld adcP ADC.STAT.DACOWN 0).setSamp fun r => { r with comp := none }

/-- A user asks for the DAC. -/
def dacRequest (u : DacUser) (d : Dev) : Dev :=
  d.setSamp fun r => if r.queue.contains u then r else { r with queue := r.queue ++ [u] }

/-- A self-test no longer needs the DAC. -/
def dacDropComp (k : Nat) (d : Dev) : Dev :=
  let d := d.setSamp fun r => { r with queue := r.queue.filter (· ≠ .comp k) }
  if d.samp.comp = some k then dacRelease d else d

/-- The diagnosis ends (R240): it leaves the queue, or gives the DAC up. -/
def diagEnd (d : Dev) : Dev :=
  let d := if dacOwner d = 2 then dacRelease d else d
  let d := d.setFld adcP ADC.STAT.TD 0
  d.setSamp fun r => { r with diag := none, queue := r.queue.filter (· ≠ .diag) }

/-- R235, R239: a plumb step whose time has come ends; the next one asks for the DAC. Step 5 is the end of the cycle. -/
def plumbAdvance (d : Dev) : Dev :=
  match d.samp.plumb with
  | some (s, step, stop) =>
    if d.samp.plumbWait || 5 ≤ step || d.now < stop then d
    else
      let d := if dacOwner d = 1 then dacRelease d else d
      let d := d.setFld adcP HDR.PROG.VALUE (2048 * step)
      d.setSamp fun r => { r with plumb := some (s, step + 1, stop), plumbWait := decide (step < 4) }
  | none => d

/-- R239: the plumb cycle is granted the DAC, and takes it from a diagnosis. -/
def grantPlumb (d : Dev) : Dev :=
  let d := if dacOwner d = 2 then
      (d.setFld adcP ADC.STAT.TD 1).setSamp fun r => { r with queue := .diag :: r.queue }
    else d
  let d := d.setFld adcP ADC.STAT.DACOWN 1
  d.setSamp fun r => { r with
    plumbWait := false, plumb := r.plumb.map fun (s, step, _) => (s, step, d.now + plumbStep) }

/-- R239: the first of the other users is granted the DAC. -/
def grantUser (d : Dev) : Dev :=
  match d.samp.queue with
  | [] => d
  | .diag :: q =>
    let d := (d.setFld adcP ADC.STAT.DACOWN 2).setFld adcP ADC.STAT.TD 2
    d.setSamp fun r => { r with queue := q, armedAt := d.now }
  | .comp k :: q => (d.setFld adcP ADC.STAT.DACOWN 3).setSamp fun r => { r with queue := q, comp := some k }

/-- TEST_DAC_GRANT (R239). -/
def dacGrant (d : Dev) : Dev :=
  let d := plumbAdvance d
  if d.samp.plumbWait && (dacOwner d = 0 || dacOwner d = 2) then grantPlumb d
  else if dacOwner d = 0 then grantUser d else d

/-- R240: TDCMD with GO. -/
def tdGo (val : Word) (d : Dev) : Dev :=
  if d.fld adcP ADC.STAT.TD ≠ 0 then d
  else
    let d := (d.setFld adcP ADC.STAT.TD 1).setSamp fun r => { r with diag := some (bits val 8 6, bits val 16 12) }
    dacRequest .diag d

/-- R240: 1 ms armed without a request. -/
def tdTimeoutLand (d : Dev) : Dev :=
  if d.fld adcP ADC.STAT.TD = 2 && d.samp.armedAt + 600000 ≤ d.now then (diagEnd d).raise adcP ADC.EVT.TD_TIMEOUT else d

end Sys2Proof.Machine
end

