-- ==== Sys2Proof/Machine/DriveDie.lean ====
section
/-!
DEFINITION. The drive dies: drive links and stamps, edges and interlock, adaptive drive, trips and latches, supplies, the
watchdog, self-test, and the refresh of the core-die copy (R17 to R19, R120 to R163).
-/

namespace Sys2Proof.Machine

/-! ### Links, stamps, messages -/

/-- The authority stamp that the claim latches give (R453): 1 HEWER, 2 DEPUTY, 0 no valid stamp. -/
def stamp (d : Dev) : Nat :=
  match d.on authP AUTH.STATE.HCLAIM, d.on authP AUTH.STATE.DCLAIM with
  | true, false => 1
  | false, true => 2
  | _, _ => 0

/-- A drive die sends a message; while its link does not work it holds the message (R19, R151). -/
def sendDie (k : Nat) (m : FaultMsg) (d : Dev) : Dev :=
  let r := d.die k
  if r.link then d.send m else d.setDie k { r with held := r.held ++ [(d.now, m)] }

/-- Event `i` of the die, which reaches DDIE.EVT with the next refresh (R163). -/
def dieEvt (k i : Nat) (d : Dev) : Dev :=
  let r := d.die k
  d.setDie k { r with evt := r.evt ||| BitVec.ofNat 32 (2 ^ i) }

/-- A command reaches a drive die (R18, R161, R162): true where the die accepts it. Nothing is carried while the link does
not work, or ahead of a holder command (R457); a die that holds NONE latches the stamp of its first command (R454). -/
def carry (k : Nat) (chk : Bool) (d : Dev) : Dev × Bool :=
  let r := { d.die k with lastSent := d.now }
  if !r.link || r.holderCmd.isSome then (d.setDie k r, false)
  else if !chk then (d.setDie k { r with checkFail := r.checkFail + 1 }, false)
  else
    let st := stamp d
    if st = 0 || (r.holder ≠ 0 && st ≠ r.holder) then
      (dieEvt k 6 (d.setDie k { r with authDisc := r.authDisc + 1 }), false)
    else
      let d := d.setDie k { r with holder := st, lastValid := d.now, wdPend := false }
      (if r.wdPend then sendDie k (faultOf (ddieP k) 11 0) d else d, true)

/-- Do something where the die accepts the command (log 41). -/
def carried (k : Nat) (chk : Bool) (d : Dev) (f : Dev → Dev) : Dev :=
  let (d, ok) := carry k chk d
  if ok then f d else d

/-! ### Gates -/

/-- A gate's output changes: a blanking window starts (R141), and the edge is kept for R130. -/
def drive (n : Nat) (g : Gate) (v : Bool) (d : Dev) : Dev :=
  let r := d.leg n
  let was := match g with | .gh => r.gh | .gl => r.gl
  let r := match g with | .gh => { r with gh := v } | .gl => { r with gl := v }
  d.setLeg n (if was = v then r
    else { r with blankEnd := d.now + d.own n LEG.BLANK.BLANK, outs := (d.now, v) :: r.outs.take 15 })

/-- Both gates of a leg go low and a waiting turn-on is dropped. -/
def gatesOff (n : Nat) (d : Dev) : Dev :=
  let d := drive n .gl false (drive n .gh false d)
  d.setLeg n { d.leg n with wait := none }

/-- Every gate of a die goes low. -/
def dieOff (k : Nat) (d : Dev) : Dev := each ((List.range 64).map (64 * k + ·)) gatesOff d

/-- R156: whether a leg may be tested. -/
def testable (d : Dev) (n : Nat) : Bool :=
  let s := legState d n
  s == 0 || s == 7 || s == 5

/-- A leg whose comparators the self-test holds (R157): its test has begun, and its state still allows the test; where the
state no longer does, the comparators are back on the shunt (R156). -/
def underTest (d : Dev) (n : Nat) : Bool :=
  let r := d.die (n / 64)
  r.stRun && r.stOn && r.stLegs.head? == some (n % 64) && testable d n

/-- INTLK_TO in ticks (R135): values below 16 count as 16. -/
def intlkTo (d : Dev) (k : Nat) : Nat := max 16 (bits (d.die k).cfg 16 8)

/-! ### Adaptive drive (R130 to R132) -/

/-- One step's move at the end of a cycle, and its count of cycles in a row at a limit: a cycle without a qualified transition
ends the run, and STRENGTH_LIMIT is sent at the 64th cycle of a run alone (DESIGN CHOICE, log 42). -/
def moveStep (step tt lim : Nat) (m : Option Nat) : Nat × Nat × Bool :=
  match m with
  | none => (step, 0, false)
  | some t =>
    if tt + 1 < t then
      if step = 31 then (31, lim + 1, lim + 1 == 64) else (step + 1, 0, false)
    else if t + 1 < tt then
      if step = 0 then (0, lim + 1, lim + 1 == 64) else (step - 1, 0, false)
    else (step, 0, false)

/-- The end of an adaptive cycle: the next GH turn-on command (R131, R132) (log 42). Where both steps reach their 64th cycle at a
limit here, one STRENGTH_LIMIT is sent and counted (DESIGN CHOICE, log 42). -/
def cycleEnd (n : Nat) (d : Dev) : Dev :=
  let r := d.leg n
  let p := legP n
  let tt := d.own n LEG.GATE.TTRAN
  let (src, sl, sHit) := moveStep (d.fld p LEG.STRENGTH.SRC) tt r.srcLim r.srcMeas
  let (snk, kl, kHit) := moveStep (d.fld p LEG.STRENGTH.SNK) tt r.snkLim r.snkMeas
  let d := d.setLeg n { r with srcMeas := none, snkMeas := none, srcLim := sl, snkLim := kl }
  let d := (d.setFld p LEG.STRENGTH.SRC src).setFld p LEG.STRENGTH.SNK snk
  if sHit || kHit then
    let k := n / 64
    let d := dieEvt k 5 (d.setDie k { d.die k with strLimit := (d.die k).strLimit + 1 })
    sendDie k (faultOf p 6 n) d
  else d

/-- R130: a transition qualifies by its swing of at least 5 V and by passing 50 % of it within 70 ns of its gate edge. -/
def Transition.qualified (m : Transition) : Bool := decide (5000 ≤ m.swing) && decide (m.half ≤ 70)

/-- R130: a transition belongs to the source step where the latest gate edge at or before its begin is a turn-on. -/
def afterTurnOn (r : LegRec) (m : Transition) : Bool :=
  ((r.outs.find? fun e => decide (e.1 ≤ m.at_)).map (·.2)) == some true

/-- R130, R131: the transitions measured since the last command: the qualified ones are attributed to their steps. -/
def measured (n : Nat) (ms : List Transition) (d : Dev) : Dev :=
  (ms.filter Transition.qualified).foldl (fun d m =>
    let t := min 112 m.tmeas
    let r := d.leg n
    let r := if afterTurnOn r m then { r with srcMeas := some t } else { r with snkMeas := some t }
    (d.setLeg n r).setFld (legP n) LEG.STRENGTH.TMEAS t) d

/-- R129: adaptive drive starts. -/
def startAdaptive (n : Nat) (d : Dev) : Dev :=
  let p := legP n
  let d := d.setLeg n { d.leg n with adaptive := true, srcMeas := none, snkMeas := none, srcLim := 0, snkLim := 0 }
  let d := (d.setFld p LEG.STRENGTH.SRC (d.own n LEG.GATE.SRC_INIT)).setFld p LEG.STRENGTH.SNK (d.own n LEG.GATE.SNK_INIT)
  d.setFld p LEG.STRENGTH.TMEAS 127

/-! ### Edge commands -/

/-- The first edge command of a leg's period carries the presence mark; the die checks the period before (R146). An edge
reaches the die 24 ticks after the modulator tick on which it is due (R21); edges of the window before carry no mark.
(log 42). -/
def presenceCheck (n : Nat) (d : Dev) : Dev :=
  let r := d.leg n
  if !(match r.firstEdge with | some t => decide (t + 24 ≤ d.now) | none => false) then d
  else
    let p := legP n
    let d := d.setLeg n { r with firstEdge := none, presQual := r.presMark, presMark := false, presSeen := false }
    if r.presQual && !r.presSeen then
      sendDie (n / 64) (faultOf p 4 n) ((d.raise p LEG.TRIP.PRES_MISS).bump p LEG.COUNT.PRES_MISSES)
    else d

/-- A turn-on command reaches a leg that may switch (R134, R136): at once, suppressed, or waiting. -/
def turnOn (n : Nat) (g : Gate) (oppLow bstLow : Bool) (d : Dev) : Dev :=
  let r := d.leg n
  let oppOn := match g with | .gh => r.gl | .gl => r.gh
  if g = .gh && bstLow then d
  else if oppLow && !oppOn then drive n g true (d.setLeg n { r with wait := none })
  else d.setLeg n { r with wait := some (g, d.now) }

/-- A turn-off command: the gate goes low and its own wait ends without a fault (R135). -/
def turnOff (n : Nat) (g : Gate) (d : Dev) : Dev :=
  let d := drive n g false d
  let r := d.leg n
  if (r.wait.map (·.1)) = some g then d.setLeg n { r with wait := none } else d

/-- R21, R178: whether an edge that the modulator has issued is due at the drive die now, 24 ticks after its tick. -/
def edgeDue (d : Dev) (n : Nat) (g : Gate) (on : Bool) : Bool :=
  (d.plan n).due.any fun e => e.1 + 24 == d.now && e.2.1 == g && e.2.2 == on

/-- The edge has left the drive link. -/
def edgeGone (n : Nat) (g : Gate) (on : Bool) (d : Dev) : Dev :=
  let pl := d.plan n
  d.setPlan n { pl with due := pl.due.filter fun e => !(e.1 + 24 == d.now && e.2.1 == g && e.2.2 == on) }

/-- R21, R134, R28: an edge command, which is one that the modulator has issued 24 ticks before. `oppLow`: the opposite gate
has read below the interlock level on this tick and the two before; `bstLow`: BST − SW is below the threshold plus 0.2 V;
`ms`: transitions measured since the last command. -/
def edgeCommand (n : Nat) (g : Gate) (on chk oppLow bstLow : Bool) (ms : List Transition) (d : Dev) : Dev :=
  if !edgeDue d n g on then d
  else carried (n / 64) chk (edgeGone n g on d) fun d =>
    if (d.leg n).dieHold == .short then d
    else if !gatesFree d n || decide (d.now < (d.plan n).since + 24) then gatesOff n d
    else
      let d := presenceCheck n d
      let d := if strong d n then d else measured n ms d
      let d := if g = .gh && on && !strong d n then cycleEnd n d else d
      if on then turnOn n g oppLow bstLow d else turnOff n g d

/-- R134 to R136: the wait of a turn-on ends with the third low reading of the opposite gate, which is therefore off, before
INTLK_TO ticks have passed; a low bootstrap suppresses GH (log 47). -/
def interlockTurnOn (n : Nat) (bstLow : Bool) (d : Dev) : Dev :=
  let r := d.leg n
  match r.wait with
  | none => d
  | some (g, t) =>
    if (match g with | .gh => r.gl | .gl => r.gh) || decide (t + intlkTo d (n / 64) ≤ d.now) then d else
    let d := d.setLeg n { r with wait := none }
    let hold := r.dieHold == .short && g == .gl && dieFree d (n / 64) && !latched d n
    if (gatesFree d n && !(g == .gh && bstLow)) || hold then drive n g true d else d

/-- R135: the wait has lasted INTLK_TO ticks. -/
def intlkTimeout (n : Nat) (d : Dev) : Dev :=
  let r := d.leg n
  let k := n / 64
  match r.wait with
  | none => d
  | some (_, t) =>
    if d.now < t + intlkTo d k then d
    else
      let d := d.setLeg n { r with wait := none }
      let d := dieEvt k 4 (d.setDie k { d.die k with intlkTo := (d.die k).intlkTo + 1 })
      sendDie k (faultOf (legP n) 5 n) d

/-- R28, R121, R122: a safe command. SHORT holds GL high, but never against the hard-safe line, the watchdog, a supply
condition or a trip latch, and only past the interlock (R134): `ghLow` tells that GH has read below the interlock level on
this tick and the two before. -/
def safeCommand (n : Nat) (h : Hold) (chk ghLow : Bool) (d : Dev) : Dev :=
  carried (n / 64) chk d fun d =>
    let d := d.setLeg n { d.leg n with dieHold := h, wait := none }
    if h == .short && dieFree d (n / 64) && !latched d n then
      let wait := (d.leg n).gh || !ghLow
      let d := drive n .gh false d
      if (d.leg n).gl then d
      else if wait then d.setLeg n { d.leg n with wait := some (.gl, d.now) } else drive n .gl true d
    else gatesOff n d

/-- R102: a retire command. -/
def retireCommand (n : Nat) (chk : Bool) (d : Dev) : Dev :=
  carried (n / 64) chk d fun d => gatesOff n (d.setLeg n { d.leg n with dieRetired := true })

/-- R454, R457: a holder command; a die that still holds NONE latches the holder from it, as from any first command. The switch ends
once every die has latched the new holder (log 41). -/
def holderCommand (k : Nat) (chk : Bool) (d : Dev) : Dev :=
  let r := d.die k
  match r.holderCmd with
  | none => d
  | some (old, new) =>
    let r := { r with lastSent := d.now }
    if !r.link then d.setDie k r
    else if !chk then d.setDie k { r with checkFail := r.checkFail + 1 }
    else if r.holder ≠ 0 && old ≠ r.holder then dieEvt k 6 (d.setDie k { r with authDisc := r.authDisc + 1 })
    else
      let d := d.setDie k { r with holder := new, holderCmd := none, lastValid := d.now, wdPend := false }
      let d := if r.wdPend then sendDie k (faultOf (ddieP k) 11 0) d else d
      if (List.range 4).all (fun i => (d.die i).holderCmd.isNone) then d.setFld authP AUTH.STATE.PHASE 0 else d

/-! ### Trips, latches, supplies -/

/-- The stamp and leg of a trip message (R151). -/
def tripAddr (d : Dev) (n : Nat) : Nat := d.now % 64 * 256 + n

/-- R140, R163: the filter time of SOFT for an input that rose above threshold on tick `start`: by the code in force then, the one
at reset before any change. -/
def softTime (d : Dev) (k start : Nat) : Nat :=
  12 + 4 * ((((d.die k).filts.find? fun e => decide (e.1 ≤ start)).map (·.2)).getD 3)

/-- R92, R142, R143, R150: a trip turns both gates of its leg off, which stays low until a reload after its latch is clear. -/
def tripOff (n : Nat) (d : Dev) : Dev :=
  let d := gatesOff n d
  d.setPlan n { d.plan n with stop := true }

/-- R140, R142: the filtered HARD output asserts: the input has been above threshold for `above` ticks. -/
def hardTrip (n above : Nat) (d : Dev) : Dev :=
  if underTest d n || above < 12 then d
  else
    let p := legP n
    let d := tripOff n d
    let d := (d.raise p LEG.TRIP.HARD_LAT).bump p LEG.COUNT.TRIPS
    sendDie (n / 64) (faultOf p 1 (tripAddr d n)) d

/-- R140, R143, R144: SOFT detection outside blanking; an assertion that starts and ends inside a window is only counted. -/
def softTrip (n above : Nat) (released : Bool) (d : Dev) : Dev :=
  let k := n / 64
  if underTest d n || above < softTime d k (d.now - above) then d
  else if d.now < (d.leg n).blankEnd then
    if released then d.setDie k { d.die k with blankHits := (d.die k).blankHits + 1 } else d
  else
    let p := legP n
    let d := tripOff n d
    let d := (d.raise p LEG.TRIP.SOFT_LAT).bump p LEG.COUNT.TRIPS
    sendDie k (faultOf p 2 (tripAddr d n)) d

/-- R140, R145: PRESENCE asserts while GL is on and no window runs (log 42). -/
def presenceSeen (n above : Nat) (d : Dev) : Dev :=
  let r := d.leg n
  if decide (12 ≤ above) && r.gl && r.blankEnd ≤ d.now && !underTest d n then d.setLeg n { r with presSeen := true } else d

/-- R136, R137: BST − SW falls below its threshold (log 47). -/
def bstUv (n : Nat) (d : Dev) : Dev :=
  let r := d.leg n
  let d := if (r.wait.map (·.1)) = some .gh then d.setLeg n { r with wait := none } else d
  if !r.gh then d
  else
    let p := legP n
    let d := drive n .gh false d
    let d := d.setLeg n { d.leg n with refreshOwed := true }
    sendDie (n / 64) (faultOf p 3 n) (d.raise p LEG.TRIP.BST_UV)

/-- R125: VDRV falls below the UVLO threshold. -/
def vdrvUv (k : Nat) (d : Dev) : Dev :=
  let d := dieOff k (d.setDie k { d.die k with vdrvUv := true, supHold := true })
  sendDie k (faultOf (ddieP k) 9 0) (dieEvt k 0 d)

/-- The overvoltage limit of a mode, in 0.1 V (R123); MODE NONE has none. -/
def ovLimit : Nat → Option Nat
  | 1 => some 58
  | 2 => some 115
  | 3 => some 135
  | _ => none

/-- R125: VDRV rises above the mode's overvoltage limit. -/
def vdrvOv (k : Nat) (d : Dev) : Dev :=
  match ovLimit (bits (d.die k).cfg 0 2) with
  | none => d
  | some _ =>
    let d := dieOff k (d.setDie k { d.die k with vdrvOv := true, supHold := true })
    sendDie k (faultOf (ddieP k) 10 0) (dieEvt k 3 d)

/-- R125: a condition clears with its hysteresis; the legs stay safe until recovery. -/
def vdrvRecover (k : Nat) (ov : Bool) (d : Dev) : Dev :=
  let r := d.die k
  d.setDie k (if ov then { r with vdrvOv := false } else { r with vdrvUv := false })

/-- R17, R122: the hard-safe line of a die. -/
def hardSafeAssert (k : Nat) (d : Dev) : Dev :=
  dieEvt k 2 (dieOff k (d.setDie k { d.die k with hardsafe := true }))

/-- R19, R162: no valid command for 2 µs of the die's own oscillator, 1,200 ticks where the core die counts them (log 96). -/
def watchdogExpiry (k : Nat) (d : Dev) : Dev :=
  if awake d && d.mode != .powerUp && decide (d.now < (d.die k).lastValid + 1200) then d
  else dieEvt k 1 (dieOff k (d.setDie k { d.die k with wdSafe := true, wdPend := true }))

/-- R148: whether the die accepts a clear of a latch whose filter is `filter` ticks. -/
def clearOk (c : CompRead) (filter : Nat) : Bool := !c.above && decide (filter + 32 ≤ c.belowFor)

def softFilter (d : Dev) (k : Nat) : Nat := 12 + 4 * bits (d.die k).cfg 8 4

/-- R13, R148, R149: clear the asked latches, or refuse; it tells which were refused, HARD first. A trip of the same cycle
wins. A write of 1 for a latch that is not set asks for nothing, and nothing is refused (DESIGN CHOICE, log 107). -/
def clearLatches (n : Nat) (hard soft : Bool) (hr sr : CompRead) (d : Dev) : Dev × Bool × Bool :=
  let p := legP n
  let wantH := hard && d.on p LEG.TRIP.HARD_LAT
  let wantS := soft && d.on p LEG.TRIP.SOFT_LAT
  let okH := clearOk hr 12
  let okS := clearOk sr (softFilter d (n / 64))
  let d := d.wipe (p + 0x05C) (BitVec.ofNat 32 (b2n (wantH && okH) * 4 + b2n (wantS && okS) * 2))
  let noH := wantH && !okH
  let noS := wantS && !okS
  (if noH || noS then d.raise p LEG.TRIP.CLR_REFUSED else d, noH, noS)

/-- R119, R138, R148: a write to TRIP. A clear of a latch travels to the drive die, which decides it (DEDUCED, log 107). -/
def tripWrite (n : Nat) (val : Word) (chk : Bool) (hr sr : CompRead) (d : Dev) : Dev :=
  let d := d.wipe (legP n + 0x05C) (val &&& 0x38)
  if bitOf val 2 || bitOf val 1 then
    carried (n / 64) chk d fun d => (clearLatches n (bitOf val 2) (bitOf val 1) hr sr d).1
  else d

/-! ### The DDIE page (R163) -/

/-- R121, R124: a CFG write reaches the die; a die in MODE NONE is not READY, and its gates are low (log 94). -/
def cfgCommand (k : Nat) (val : Word) (chk : Bool) (d : Dev) : Dev :=
  carried k chk d fun d =>
    let r := d.die k
    let busy := (List.range 64).any fun i => let s := legState d (64 * k + i); s == 1 || s == 2 || s == 3
    if bits val 0 2 ≠ bits r.cfg 0 2 && busy then dieEvt k 7 d
    else
      let d := d.setDie k { r with
        -- the longest filter lasts 72 ticks, so that older changes than these decide nothing
        cfg := val &&& 0xFFFF0F03, filts := (d.now, bits val 8 4) :: r.filts.take 79 }
      if bits val 0 2 = 0 then dieOff k d else d

/-- R126: a VDRV_UV write reaches the die. -/
def uvCommand (k : Nat) (val : Word) (chk : Bool) (d : Dev) : Dev :=
  carried k chk d fun d =>
    let r := d.die k
    let c := bits val 0 8
    let high := match ovLimit (bits r.cfg 0 2) with | some l => decide (l ≤ c + 3) | none => false
    if c < 30 || 110 < c || high then dieEvt k 8 d
    else d.setDie k { r with uvTh := val &&& 0x000000FF }

/-- R67, R163: ST_MASK travels when its high word is written. -/
def maskCommand (k : Nat) (lo hi : Word) (chk : Bool) (d : Dev) : Dev :=
  carried k chk d fun d => d.setDie k { d.die k with maskLo := lo, maskHi := hi }

/-- The local legs whose bit is 1 in ST_MASK, ascending. -/
def maskLegs (r : DieRec) : List Nat :=
  (List.range 64).filter fun i => if i < 32 then bitOf r.maskLo i else bitOf r.maskHi (i - 32)

/-- R73, R74, R158: PROG and PROG_TOTAL of a die, shown as the test moves on, whatever the link does (DESIGN CHOICE, log 108). -/
def showProg (k : Nat) (d : Dev) : Dev :=
  let r := d.die k
  let p := ddieP k
  let w := b2n r.stRun * 2 ^ 31 + b2n r.stDone * 2 ^ 30 + b2n r.stAborted * 2 ^ 29 + 2 ^ 28 + r.stValue
  (d.setReg (p + 0x02C) (BitVec.ofNat 32 w)).setReg (p + 0x030) (BitVec.ofNat 32 r.stTotal)

/-- R154, R158: the test ends, aborted or not; the leg that is part-way through its steps at an ABORT counts as untested
(DESIGN CHOICE, log 108). -/
def stEnd (k : Nat) (aborted : Bool) (d : Dev) : Dev :=
  let r := d.die k
  let skip := if aborted then r.stLegs.foldl (fun s l => s ||| 2 ^ l) r.stSkip else r.stSkip
  let d := d.setDie k { r with stRun := false, stOn := false, stAbort := false, stLegs := [], stStep := 0, stSkip := skip,
                               stDone := !aborted, stAborted := aborted }
  dieEvt k 9 (dacDropComp k d)

/-- R156: leg `l` at the head of the list is not tested, or no further. -/
def stLeave (k l : Nat) (rest : List Nat) (d : Dev) : Dev :=
  let r := d.die k
  d.setDie k { r with
    stFail := if r.stFail.testBit l then r.stFail - 2 ^ l else r.stFail, stSkip := r.stSkip ||| 2 ^ l,
    stValue := r.stValue + (6 - r.stStep), stStep := 0, stOn := false, stLegs := rest }

/-- R156: the legs that may not be tested when their first step begins are skipped, as is one that left the testable states
during its test. -/
def stSkipping (k : Nat) : List Nat → Dev → Dev
  | [], d => d
  | l :: rest, d => if testable d (64 * k + l) then d else stSkipping k rest (stLeave k l rest d)

/-- R154: ST_CMD reaches the die; both bits set count as ABORT, which ends the test after the current step, and at once where
none runs. An empty mask ends at once. -/
def stCommand (k : Nat) (val : Word) (chk : Bool) (d : Dev) : Dev :=
  carried k chk d fun d =>
    let r := d.die k
    if bitOf val 1 then
      if !r.stRun then d
      else if d.samp.comp = some k then d.setDie k { r with stAbort := true }
      else showProg k (stEnd k true d)
    else if bitOf val 0 && !r.stRun then
      let legs := maskLegs r
      let m := bits val 8 8
      let d := d.setDie k { r with
        stRun := true, stOn := false, stLevel := 0, stMargin := if m = 0 then 8 else m, stLegs := legs, stStep := 0, stAbort := false,
        stFail := 0, stSkip := 0, stFirst := 0, stValue := 0, stTotal := 6 * legs.length, stDone := false,
        stAborted := false }
      showProg k (if legs.isEmpty then stEnd k false d else dacRequest (.comp k) d)
    else d

/-- The record of a failing step (ST_FIRST): leg, comparator and level. -/
def stFirstWord (l step : Nat) : Word :=
  BitVec.ofNat 32 (2 ^ 31 + l * 2 ^ 8 + step / 2 * 2 ^ 4 + (if step % 2 = 0 then 1 else 0))

/-- R139, R155: the level that a step injects, in codes of 1.25 mV: the comparator's threshold plus MARGIN, at most 320 mV, then
minus MARGIN, at least 0. -/
def stInject (d : Dev) (n step margin : Nat) : Nat :=
  let th := d.own n (if step / 2 = 0 then LEG.THRESH.HARD else if step / 2 = 1 then LEG.THRESH.SOFT else LEG.THRESH.PRES)
  if step % 2 = 0 then min 256 (th + margin) else th - margin

/-- R155: whether a step passes whose filtered output asserts `after` ticks after the injection, or not at all. -/
def stPasses (d : Dev) (k step : Nat) (after : Option Nat) : Bool :=
  let filter := if step / 2 = 1 then softFilter d k else 12
  match after with
  | some t => if step % 2 = 0 then decide (t ≤ filter + 8) else decide (filter + 64 < t)
  | none => step % 2 != 0

/-- R155, R156, R239: the die has been granted the test DAC, and its next step begins. -/
def stBegin (k : Nat) (d : Dev) : Dev :=
  let d := stSkipping k (d.die k).stLegs d
  let r := d.die k
  match r.stLegs with
  | [] => showProg k (stEnd k r.stAbort d)
  | l :: _ => showProg k (d.setDie k { r with stOn := true, stLevel := stInject d (64 * k + l) r.stStep r.stMargin })

/-- TEST_DAC_GRANT (R239): the DAC is granted; a self-test that takes it begins a step. -/
def dacGranted (d : Dev) : Dev :=
  let had := d.samp.comp
  let d := dacGrant d
  match d.samp.comp with
  | some k => if had = some k then d else stBegin k d
  | none => d

/-- R156: a leg under test that has left the testable states ends its test, on the tick on which it has. -/
def stWatch (k : Nat) (d : Dev) : Dev :=
  let r := d.die k
  if !(r.stRun && r.stOn) then d
  else match r.stLegs with
    | [] => d
    | l :: rest => if testable d (64 * k + l) then d else showProg k (stLeave k l rest d)

/-- R155, R156, R239: one step ends on a die that holds the test DAC, which it releases and asks for again; `after` is when
the filtered output asserted. A leg that has left the testable states has ended its test without a judgement. -/
def stStep (k : Nat) (after : Option Nat) (d : Dev) : Dev :=
  if !(d.die k).stRun || d.samp.comp ≠ some k then d
  else
    let d := dacRequest (.comp k) (dacRelease d)
    let r := d.die k
    match r.stLegs with
    | [] => showProg k (stEnd k r.stAbort d)
    | l :: rest =>
      let d := if !r.stOn then d
        else if !testable d (64 * k + l) then stLeave k l rest d
        else
          let r := if stPasses d k r.stStep after then r
            else { r with stFail := r.stFail ||| 2 ^ l,
                          stFirst := if bitOf r.stFirst 31 then r.stFirst else stFirstWord l r.stStep }
          let last := r.stStep == 5
          d.setDie k { r with stValue := r.stValue + 1, stStep := if last then 0 else r.stStep + 1,
                              stLegs := if last then rest else l :: rest, stOn := !last }
      let r := d.die k
      showProg k (if r.stAbort || r.stLegs.isEmpty then stEnd k r.stAbort d else d)

/-- The word of DSTAT (R163). -/
def dstatWord (d : Dev) (k : Nat) : Word :=
  let r := d.die k
  BitVec.ofNat 32 (r.vdrv % 256 * 2 ^ 24 + r.temp % 256 * 2 ^ 16 + r.holder % 4 * 2 ^ 8 + b2n r.vdrvOv * 16 + b2n r.wdSafe * 8 +
    b2n r.vdrvUv * 4 + b2n r.hardsafe * 2 + b2n (dieReady d k))

def lowWord (x : Nat) : Word := BitVec.ofNat 32 x
def highWord (x : Nat) : Word := BitVec.ofNat 32 (x / 2 ^ 32)

/-- R163: the core-die copy is refreshed: status, the die's own settings, events and counts (log 94). -/
def ddieRefresh (k vdrv temp : Nat) (d : Dev) : Dev :=
  if !(d.die k).link then d
  else
    let d := d.setDie k { d.die k with vdrv := vdrv, temp := temp }
    let r := d.die k
    let p := ddieP k
    let d := d.setReg (p + 0x048) (dstatWord d k)
    let d := (d.setReg (p + 0x040) r.cfg).setReg (p + 0x044) r.uvTh
    let d := (d.setReg (p + 0x064) r.maskLo).setReg (p + 0x068) r.maskHi
    let d := (d.setReg (p + 0x06C) (lowWord r.stFail)).setReg (p + 0x070) (highWord r.stFail)
    let d := (d.setReg (p + 0x074) (lowWord r.stSkip)).setReg (p + 0x078) (highWord r.stSkip)
    let d := d.setReg (p + 0x07C) r.stFirst
    let d := d.event (p + 0x04C) (fun w => w ||| r.evt)
    let d := (d.bumpBy p DDIE.LINKCNT.CHECK_FAIL r.checkFail).bumpBy p DDIE.LINKCNT.AUTH_DISC r.authDisc
    let d := (d.bumpBy p DDIE.LEGCNT.INTLK_TO r.intlkTo).bumpBy p DDIE.LEGCNT.BLANK_HITS r.blankHits
    let d := d.bumpBy p DDIE.STRCNT.STR_LIMIT r.strLimit
    d.setDie k { r with evt := 0, checkFail := 0, authDisc := 0, intlkTo := 0, blankHits := 0, strLimit := 0 }

/-- R19, R163: the link stops working. -/
def linkLoss (k : Nat) (d : Dev) : Dev := d.setDie k { d.die k with link := false }

/-- R151, R19: the link works again; held messages go out, flagged held where older than 32 ticks. -/
def linkReturn (k : Nat) (d : Dev) : Dev :=
  let r := d.die k
  let d := d.setDie k { r with link := true, held := [] }
  r.held.foldl (fun d (t, m) => d.send { m with held := decide (32 < d.now - t) }) d

/-- R128, R129: after its 64 periods a leg goes over to adaptive drive. -/
def strongDriveEnd (n : Nat) (chk : Bool) (d : Dev) : Dev :=
  let r := d.leg n
  if !r.sw || (d.plan n).stop || r.strongLeft ≠ 0 || r.adaptive || d.own n LEG.GATE.FIXED ≠ 0 || d.mode = .powerUp || d.mode = .test then d
  else carried (n / 64) chk d (startAdaptive n)

/-- R128, R129: what kept a leg of adaptive drive strong for a while, FIXED or TEST, ends. -/
def adaptiveAgain (n : Nat) (d : Dev) : Dev :=
  if (d.leg n).adaptive && d.own n LEG.GATE.FIXED = 0 && d.mode != .test then startAdaptive n d else d

/-! ### Settings of a leg (R17, R116) -/

/-- The registers of a LEG page that its drive die works with (R116). -/
def legSetOffs : List Nat := [0x044, 0x048, 0x04C, 0x050]

/-- The settings that a commit has set, as the core die holds them. -/
def legSetOf (d : Dev) (n : Nat) : LegSet :=
  ⟨d.reg (legP n + 0x044), d.reg (legP n + 0x048), d.reg (legP n + 0x04C), d.reg (legP n + 0x050)⟩

/-- R17, R18, R116, R162: one command carries a leg's set BLANK, THRESH, GATE and BSTUV to its drive die, which keeps what it has
where it discards it (log 110). -/
def settingCommand (n : Nat) (chk : Bool) (d : Dev) : Dev :=
  carried (n / 64) chk d fun d =>
    let fixed := d.own n LEG.GATE.FIXED ≠ 0
    let d := d.setLeg n { d.leg n with own := legSetOf d n }
    if fixed then adaptiveAgain n d else d

/-- The legs of a commit whose settings travel: those with a wet word among them, in ascending order. -/
def settingLegs (old : Dev) (union : List Nat) : List Nat :=
  (List.range 256).filter fun n =>
    union.contains (old.domAt (legP n)) && legSetOffs.any fun o => (old.wetAt (legP n + o)).isSome

end Sys2Proof.Machine
end

