-- ==== Sys2Proof/Machine/Numbers.lean ====
section
/-!
DEFINITION. Numbers of the engine (R260 to R263): exact dyadic arithmetic, signal words, rounding and saturation, and the
functions the spec bounds but does not fix (sine, cosine, atan2, square root), each with a free error inside its bound
(log 2).
-/

namespace Sys2Proof.Machine

/-! ### Exact numbers m × 2^e -/

/-- A dyadic number. -/
structure Dy where
  m : Int
  e : Int
deriving DecidableEq, Repr

def Dy.at (x : Dy) (e : Int) : Int := x.m * 2 ^ (x.e - e).toNat

def Dy.add (x y : Dy) : Dy := let e := min x.e y.e; ⟨x.at e + y.at e, e⟩
def Dy.neg (x : Dy) : Dy := ⟨-x.m, x.e⟩
def Dy.sub (x y : Dy) : Dy := x.add y.neg
def Dy.mul (x y : Dy) : Dy := ⟨x.m * y.m, x.e + y.e⟩
def Dy.le (x y : Dy) : Bool := decide ((x.sub y).m ≤ 0)
def Dy.lt (x y : Dy) : Bool := decide ((x.sub y).m < 0)
def Dy.ofInt (n : Int) : Dy := ⟨n, 0⟩
def Dy.zero : Dy := ⟨0, 0⟩
def Dy.one : Dy := ⟨1, 0⟩
def Dy.abs (x : Dy) : Dy := ⟨x.m.natAbs, x.e⟩

/-- The number of units 2^u in a number, rounded to nearest with ties toward +∞ (R260, R262). -/
def Dy.round (x : Dy) (u : Int) : Int :=
  if u ≤ x.e then x.m * 2 ^ (x.e - u).toNat
  else let s := (u - x.e).toNat; (x.m + 2 ^ (s - 1)) / 2 ^ s

/-- The same for a quotient of two numbers, the second positive. -/
def Dy.roundQuot (x y : Dy) (u : Int) : Int :=
  let e := min x.e (y.e + u)
  roundDiv (x.at e) ((⟨y.m, y.e + u⟩ : Dy).at e)

/-! ### Signal words (R259, R260) -/

/-- A signal word's exponent and mantissa. -/
def sigE (w : Word) : Int := signedOf 8 (bits w 24 8)
def sigM (w : Word) : Int := signedOf 24 (bits w 0 24)

/-- A value with an exponent, as a source gives it. -/
structure Sig where
  e : Int
  m : Int
deriving DecidableEq, Repr

def Sig.dy (s : Sig) : Dy := ⟨s.m, s.e - 23⟩

def sigOf (w : Word) : Sig := ⟨sigE w, sigM w⟩

/-- The word of a mantissa at an exponent. -/
def sigWord (e m : Int) : Word := BitVec.ofNat 32 (wrapTo 8 e * 2 ^ 24 + wrapTo 24 m)

/-- R260: an input brought to the stage's exponent: its mantissa, and whether that saturated (log 61). -/
def alignTo (e : Int) (s : Sig) : Int × Bool :=
  if e ≤ s.e then
    let m := s.m * 2 ^ (s.e - e).toNat
    (satTo 24 m, satTo 24 m ≠ m)
  else if 24 ≤ e - s.e then (0, false)
  else let k := (e - s.e).toNat; ((s.m + 2 ^ (k - 1)) / 2 ^ k, false)

/-- R262: a result rounded once to a mantissa at an exponent, with its saturation (log 61). -/
def toMant (e : Int) (x : Dy) : Int × Bool :=
  let m := x.round (e - 23)
  (satTo 24 m, satTo 24 m ≠ m)

/-- R571: a 48-bit value in units of 2^(e−47), held to its range. -/
def toWide (e : Int) (x : Dy) : Int := satTo 48 (x.round (e - 47))
def ofWide (e : Int) (w : Int) : Dy := ⟨w, e - 47⟩

/-- The two words of a wide value, and the value of two words (R571). -/
def wideLo (w : Int) : Word := BitVec.ofNat 32 (wrapTo 32 w)
def wideHi (w : Int) : Word := BitVec.ofNat 32 (wrapTo 32 (w / 2 ^ 32))
def wideOf (lo hi : Word) : Int := signedOf 48 (bits hi 0 16 * 2 ^ 32 + lo.toNat)

/-- R571: a 48-bit value as a signal mantissa with an extension word, and back. -/
def extMant (w : Int) : Int := w / 2 ^ 24
def extWord (w : Int) : Word := BitVec.ofNat 32 (wrapTo 24 w)
def ofExt (m : Int) (ext : Word) : Int := m * 2 ^ 24 + bits ext 0 24

/-! ### Angles (R263): units of 2^−60 turn -/

/-- Angle of a number of turns, modulo 1, in 2^−60 turn. -/
def turns (x : Dy) : Int := x.round (-60) % 2 ^ 60

/-- An angle taken in [−0.5, 0.5), in units of 2^−`u` turn. -/
def wrapTurn (u : Nat) (a : Int) : Int := (a + 2 ^ (u - 1)) % 2 ^ u - 2 ^ (u - 1)

/-- Product of two fixed-point numbers of 60 fraction bits. -/
def fmul (a b : Int) : Int := a * b / 2 ^ 60

/-- Taylor sum: the term at step `k`, whose next terms multiply by −x² ÷ ((k+1)(k+2)). -/
def taylor (x2 : Int) : Nat → Nat → Int → Int
  | 0, _, t => t
  | fuel + 1, k, t => t + taylor x2 fuel (k + 2) (-(fmul t x2) / ((k + 1) * (k + 2)))

/-- 2π in 60 fraction bits. -/
def twoPi : Int := 7244019458077122842

/-- Sine and cosine of an eighth turn at most either way, in 60 fraction bits. -/
def sinSmall (a : Int) : Int := let x := fmul a twoPi; taylor (fmul x x) 12 1 x
def cosSmall (a : Int) : Int := let x := fmul a twoPi; taylor (fmul x x) 12 0 (2 ^ 60)

/-- Sine and cosine of an angle in 2^−60 turn, far closer than the spec asks (60 fraction bits). -/
def sinCos (a : Int) : Int × Int :=
  let q := ((a + 2 ^ 57) / 2 ^ 58) % 4
  let r := a - (a + 2 ^ 57) / 2 ^ 58 * 2 ^ 58
  let s := sinSmall r
  let c := cosSmall r
  if q = 0 then (s, c) else if q = 1 then (c, -s) else if q = 2 then (-s, -c) else (-c, s)

/-- Integer square root: the largest number whose square is at most `n`, bit by bit from bit `k`. -/
def isqrtFrom (n : Nat) : Nat → Nat → Nat
  | 0, r => r
  | k + 1, r => if (r + 2 ^ k) * (r + 2 ^ k) ≤ n then isqrtFrom n k (r + 2 ^ k) else isqrtFrom n k r

def isqrt (n : Nat) : Nat := isqrtFrom n (n.log2 / 2 + 1) 0

/-- Euler's series for the arctangent: term `t`, step `k`, ratio `w` = z² ÷ (1 + z²). -/
def euler (w : Int) : Nat → Nat → Int → Int
  | 0, _, t => t
  | fuel + 1, k, t => t + euler w fuel (k + 1) (fmul t w * (2 * k + 2) / (2 * k + 3))

/-- Arctangent of y ÷ x for 0 ≤ y ≤ x, x > 0, in radians with 60 fraction bits. -/
def atanSmall (y x : Int) : Int :=
  let n := x * x + y * y
  euler (y * y * 2 ^ 60 / n) 60 0 (x * y * 2 ^ 60 / n)

/-- atan2 in 2^−60 turn, far closer than the spec asks; (0, 0) has no angle. -/
def atan2 (y x : Int) : Int :=
  let ay : Int := y.natAbs
  let ax : Int := x.natAbs
  let a := if ay ≤ ax then atanSmall ay ax * 2 ^ 60 / twoPi else 2 ^ 58 - atanSmall ax ay * 2 ^ 60 / twoPi
  let a := if x < 0 then 2 ^ 59 - a else a
  if y < 0 then -a else a

/-! ### Free errors within the spec's bounds (R263) -/

/-- A free number of at most 2^`k` either way. -/
def freeErr (k : Nat) (v : BitVec 64) : Int := ((v.toNat : Int) + 2 ^ k) % (2 ^ (k + 1) + 1) - 2 ^ k

/-- Cosine or sine as the engine may give it: exact to 2^−21. -/
def looseTrig (x : Int) (v : BitVec 64) : Dy := ⟨x + freeErr 39 v, -60⟩

/-- A square root as the engine may give it, of a non-negative number: exact to a relative 2^−20. -/
def looseRoot (x : Dy) (v : BitVec 64) : Dy :=
  let e := x.e - 120
  let e := if e % 2 = 0 then e else e - 1
  let r : Int := isqrt (x.at e).toNat
  ⟨r * (2 ^ 60 + freeErr 40 v), e / 2 - 60⟩

/-- atan2 as the engine may give it, in 2^−60 turn: exact to 2^−20 turn; free where both arguments are 0. -/
def looseAtan (y x : Dy) (v : BitVec 64) : Int :=
  let e := min x.e y.e
  if x.m = 0 && y.m = 0 then v.toNat % 2 ^ 60 else atan2 (y.at e) (x.at e) + freeErr 40 v

/-- √3 in 100 fraction bits. -/
def sqrt3 : Dy := ⟨2195635245840476761639769790215, -100⟩

end Sys2Proof.Machine
end

