-- ==== Sys2Proof/Machine/Stages.lean ====
section
/-!
DEFINITION. The stages of the engine (R257 to R272, R571): a slot's fields, what each type computes from its sources and
state, and the checks of a slot under validation (R286).
-/

namespace Sys2Proof.Machine

/-! ### Slots (R257) -/

structure Stage where
  type : Nat
  n : Nat
  exp : Int
  cexp : Int
  flags : Nat
  a : Nat
  b : Nat
  c : Nat
  dst : Nat
  stb : Nat
  /-- parameters P0 to P5 as their 24 bits, structural bytes X1 to X5 -/
  p : List Nat
  x : List Nat
  rsvd : Bool
deriving DecidableEq, Repr

/-- The fields of a slot's eight words. -/
def stageOf (w : List Word) : Stage :=
  let g := fun i => w.getD i 0
  { type := bits (g 0) 27 5, n := bits (g 0) 24 3, exp := signedOf 8 (bits (g 0) 16 8), cexp := signedOf 8 (bits (g 0) 8 8),
    flags := bits (g 0) 0 8, a := bits (g 1) 24 8, b := bits (g 1) 16 8, c := bits (g 1) 8 8, dst := bits (g 1) 0 8,
    stb := bits (g 2) 24 6, p := [2, 3, 4, 5, 6, 7].map fun i => bits (g i) 0 24,
    x := [3, 4, 5, 6, 7].map fun i => bits (g i) 24 8, rsvd := bits (g 2) 30 2 != 0 }

/-- R266: cycles, outputs and state words of a type. -/
def stageCost : Nat → Nat
  | 0 => 16 | 1 => 24 | 2 => 18 | 3 => 10 | 4 => 20 | 5 => 20 | 6 => 30 | 7 => 22 | 8 => 10 | 9 => 48 | 10 => 28 | 11 => 24
  | 12 => 8 | 13 => 8 | 14 => 6 | 15 => 10 | 16 => 12 | 17 => 10 | 18 => 8 | 19 => 6 | 20 => 8 | 21 => 12 | 22 => 12
  | 23 => 28 | _ => 0

def stageOuts (t n : Nat) : Nat :=
  match t with
  | 3 | 4 | 5 | 7 | 9 | 10 => 2
  | 6 => 3
  | 11 | 13 => n + 1
  | 21 | 22 => 0
  | _ => 1

def stageState : Nat → Nat
  | 0 => 2 | 1 => 4 | 2 => 4 | 8 => 2 | 9 => 4 | 10 => 4 | 15 => 2 | 16 => 2 | 19 => 1 | 20 => 1 | 23 => 5 | _ => 0

/-! ### Sources (R259) -/

/-- Places of the words in a half (R252), as word numbers. -/
def wIN : Nat := 0
def wPRE : Nat := 16
def wREF : Nat := 32
def wSIG : Nat := 40
def wSTATE : Nat := 64
def wJSEQ : Nat := 127

/-- The source a code names, with the words of the work's view of the context. -/
def sourceOf (word : Nat → Word) (live : Nat) (pred : Bool) (code : Nat) : Sig :=
  if code < 0x20 then ⟨0, bits (word code) 0 14 * 512⟩
  else if code < 0x28 then sigOf (word (wREF + (code - 0x20)))
  else if 0x30 ≤ code ∧ code < 0x48 then sigOf (word (wSIG + (code - 0x30)))
  else if code = 0x80 then ⟨1, live * 2 ^ 14⟩
  else if code = 0x81 then ⟨1, b2n pred * 2 ^ 22⟩
  else if code = 0xFE then ⟨1, 2 ^ 22⟩
  else ⟨0, 0⟩

/-- The code of the j-th of consecutive signals; an unused source stays unused. -/
def nthCode (code j : Nat) : Nat := if code = 0xFF then 0xFF else code + j

/-- The word of a half that a source code names (R259). -/
def sourceWord (code : Nat) : Option Nat :=
  if code < 0x20 then some code
  else if code < 0x28 then some (wREF + (code - 0x20))
  else if 0x30 ≤ code ∧ code < 0x48 then some (wSIG + (code - 0x30))
  else none

/-- The sources that a stage's type computes from (R267), with every consecutive one. -/
def stageUses (s : Stage) : List Nat :=
  let run := fun c k => (List.range k).map (nthCode c)
  match s.type with
  | 0 | 1 | 7 | 18 | 23 => [s.a, s.b]
  | 2 | 10 | 15 | 16 | 20 => [s.a]
  | 3 => if s.flags % 2 = 1 then [s.a, s.b] else [s.a, s.b, s.c]
  | 9 => [s.a, s.b, s.c, nthCode s.c 1]
  | 11 => run s.a (s.n + 1) ++ run s.b (s.n + 1) ++ [s.c]
  | 13 => [s.a, s.b, s.c].take (s.n + 1)
  | 19 => [s.a, s.c]
  | 21 | 22 => run s.a (s.n + 1)
  | _ => [s.a, s.b, s.c]

/-- The words of its half that a stage reads: those of its sources, and its state (log 24). -/
def stageReads (s : Stage) : List Nat :=
  (stageUses s).filterMap sourceWord ++ (List.range (stageState s.type)).map fun k => wSTATE + s.stb + k

/-- What a stage sees: sources by code, words of its context, LIVESCALE, free values. -/
structure StageEnv where
  src : Nat → Sig
  word : Nat → Word
  live : Nat
  fr : Nat → BitVec 64

/-- A side effect of a stage (R270 to R272): a duty as a number clamped to [0, 1], a load measure, an event pulse. -/
inductive Effect where
  | duty (gang : Nat) (v : Dy)
  | load (gang v : Nat)
  | pulse (ev : Nat) (irq : Bool)
deriving DecidableEq, Repr

/-- What a stage leaves: its output words, other words of the half by number, saturation, side effects. -/
structure StageOut where
  outs : List Word
  writes : List (Nat × Word)
  sat : Bool
  fx : List Effect
deriving DecidableEq, Repr

/-! ### Helpers -/

def Stage.sget (s : Stage) (i : Nat) : Nat := s.p.getD i 0

/-- A coefficient and a signal-scale parameter (R261). -/
def Stage.coef (s : Stage) (i : Nat) : Dy := ⟨signedOf 24 (s.sget i), s.cexp - 23⟩
def Stage.par (s : Stage) (i : Nat) : Dy := ⟨signedOf 24 (s.sget i), s.exp - 23⟩

/-- A limit, under SCL times LIVESCALE (R269). -/
def Stage.lim (s : Stage) (env : StageEnv) (i : Nat) : Dy :=
  if 128 ≤ s.flags then (s.par i).mul ⟨env.live, -8⟩ else s.par i

def Stage.flag (s : Stage) (i : Nat) : Bool := s.flags.testBit i

/-- A value of `m` mantissa units at the stage's exponent. -/
def Stage.val (s : Stage) (m : Int) : Dy := ⟨m, s.exp - 23⟩

/-- An input aligned under R260. -/
def Stage.inp (s : Stage) (env : StageEnv) (code : Nat) : Int × Bool := alignTo s.exp (env.src code)

/-- A free mantissa, where the spec states no result (log 2). -/
def Stage.freeVal (s : Stage) (env : StageEnv) (i : Nat) : Dy := s.val (signedOf 24 ((env.fr i).toNat % 2 ^ 24))

/-- Clamp to [lo, hi]; with lo above hi the spec states no result. -/
def Stage.clamp (s : Stage) (env : StageEnv) (i : Nat) (lo hi x : Dy) : Dy :=
  if hi.lt lo then s.freeVal env i else if x.lt lo then lo else if hi.lt x then hi else x

/-- A signal word of a value, and its saturation. -/
def Stage.word (s : Stage) (x : Dy) : Word × Bool := let (m, f) := toMant s.exp x; (sigWord s.exp m, f)

def Stage.st (s : Stage) (env : StageEnv) (k : Nat) : Word := env.word (wSTATE + s.stb + k)
def Stage.stDy (s : Stage) (env : StageEnv) (k : Nat) : Dy := (sigOf (s.st env k)).dy

/-- A value kept as a signal word with an extension word (R571), in its own units. -/
def Stage.stExt (s : Stage) (env : StageEnv) (k ext : Nat) : Dy :=
  let w := s.st env k
  ⟨ofExt (sigM w) (s.st env ext), sigE w - 47⟩

def Stage.wr (s : Stage) (k : Nat) (w : Word) : Nat × Word := (wSTATE + s.stb + k, w)

/-- One output word from a value, with state writes. -/
def Stage.one (s : Stage) (x : Dy) (sat : Bool) (writes : List (Nat × Word)) : StageOut :=
  let (w, f) := s.word x
  ⟨[w], writes, sat || f, []⟩

/-- A word at exponent 0 from an angle in 2^−60 turn, in [−0.5, 0.5) (R263). -/
def angleWord (a : Dy) : Word := sigWord 0 (wrapTurn 23 (a.round (-23)))

/-- A number of turns taken in [−0.5, 0.5), exactly. -/
def wrapDy (x : Dy) : Dy :=
  let e := min x.e (-1)
  ⟨wrapTurn (-e).toNat (x.at e), e⟩

def wideSat (e : Int) (x : Dy) : Bool := toWide e x ≠ x.round (e - 47)

/-! ### The types (R267, R268) -/

/-- PI and PID. -/
def runPi (s : Stage) (env : StageEnv) (pid : Bool) : StageOut :=
  let (a, fa) := s.inp env s.a
  let (b, fb) := s.inp env s.b
  let e := s.val (a - b)
  let ki := (s.coef 1).mul e
  let (hi, lo) := if pid then (s.lim env 4, s.lim env 5) else (s.lim env 2, s.lim env 3)
  let i0 := ofWide s.exp (wideOf (s.st env 0) (s.st env 1))
  let i1 := s.clamp env 0 lo hi (i0.add ki)
  let dOld := s.stDy env 2
  let dNew := dOld.add ((s.coef 3).mul (((s.coef 2).mul ((s.stDy env 3).sub (s.val b))).sub dOld))
  let y0 := ((s.coef 0).mul e).add i1
  let y0 := if pid then y0.add dNew else y0
  let y := s.clamp env 1 lo hi y0
  let keep := (hi.lt y0 && decide (0 < ki.m)) || (y0.lt lo && decide (ki.m < 0))
  let i := toWide s.exp (if keep then i0 else i1)
  let ws := [s.wr 0 (wideLo i), s.wr 1 (wideHi i)]
  let (dw, fd) := s.word dNew
  if pid then s.one y (fa || fb || fd) (ws ++ [s.wr 2 dw, s.wr 3 (sigWord s.exp b)])
  else s.one y (fa || fb) ws

def runBiquad (s : Stage) (env : StageEnv) : StageOut :=
  let (a, fa) := s.inp env s.a
  let x1 := s.stDy env 0
  let y1 := s.stDy env 2
  let y := ((((s.coef 0).mul (s.val a)).add ((s.coef 1).mul x1)).add ((s.coef 2).mul (s.stDy env 1))).sub
    (((s.coef 3).mul y1).add ((s.coef 4).mul (s.stDy env 3)))
  let (w, _) := s.word y
  s.one y fa [s.wr 0 (sigWord s.exp a), s.wr 1 (s.st env 0), s.wr 2 w, s.wr 3 (s.st env 2)]

/-- A quotient as an output word. -/
def Stage.quotWord (s : Stage) (x y : Dy) : Word × Bool :=
  let m := x.roundQuot y (s.exp - 23)
  (sigWord s.exp (satTo 24 m), satTo 24 m ≠ m)

def runClarke (s : Stage) (env : StageEnv) : StageOut :=
  let (a, fa) := s.inp env s.a
  let (b, fb) := s.inp env s.b
  let (c, fc) := s.inp env s.c
  let root := fun (n : Int) => s.quotWord ((s.val n).mul sqrt3) ⟨3, 0⟩
  if s.flag 0 then
    let (w, f) := root (a + 2 * b)
    ⟨[sigWord s.exp a, w], [], fa || fb || f, []⟩
  else
    let (v, g) := s.quotWord (s.val (2 * a - b - c)) ⟨3, 0⟩
    let (w, f) := root (b - c)
    ⟨[v, w], [], fa || fb || fc || f || g, []⟩

/-- PARK and IPARK: a rotation by the angle C, forward or back. -/
def runPark (s : Stage) (env : StageEnv) (inverse : Bool) : StageOut :=
  let (a, fa) := s.inp env s.a
  let (b, fb) := s.inp env s.b
  let (sn, cs) := sinCos (turns (env.src s.c).dy)
  let sn := looseTrig sn (env.fr 0)
  let cs := looseTrig cs (env.fr 1)
  let va := s.val a
  let vb := s.val b
  let (x, y) := if inverse then ((va.mul cs).sub (vb.mul sn), (va.mul sn).add (vb.mul cs))
    else ((va.mul cs).add (vb.mul sn), (vb.mul cs).sub (va.mul sn))
  let (w, f) := s.word x
  let (v, g) := s.word y
  ⟨[w, v], [], fa || fb || f || g, []⟩

def dyMax (x y : Dy) : Dy := if x.lt y then y else x
def dyMin (x y : Dy) : Dy := if x.lt y then x else y

def runSvm (s : Stage) (env : StageEnv) : StageOut :=
  let (a, fa) := s.inp env s.a
  let (b, fb) := s.inp env s.b
  let (c, fc) := s.inp env s.c
  let fin := fa || fb || fc
  let half : Dy := ⟨1, -1⟩
  if c ≤ 0 then
    let (w, _) := s.word half
    ⟨[w, w, w], [], true, []⟩
  else
    let va := (s.val a).mul half
    let vb := ((s.val b).mul sqrt3).mul half
    let u := s.val a
    let v := vb.sub va
    let w := (va.add vb).neg
    let hi := dyMax u (dyMax v w)
    let lo := dyMin u (dyMin v w)
    let span := hi.sub lo
    let den := if (s.val c).lt span then span else s.val c
    let mid := (hi.add lo).mul half
    let outs := [u, v, w].map fun x => s.quotWord ((den.mul half).add (x.sub mid)) den
    ⟨outs.map (·.1), [], fin || (s.val c).lt span || outs.any (·.2), []⟩

def runLimit (s : Stage) (env : StageEnv) : StageOut :=
  let (a, fa) := s.inp env s.a
  let (b, fb) := s.inp env s.b
  let l0 := s.lim env 0
  let lim := if l0.m ≤ 0 then Dy.zero else l0
  let va := s.val a
  let vb := s.val b
  if lim.m = 0 then ⟨[sigWord s.exp 0, sigWord s.exp 0], [], fa || fb, []⟩
  else
    let mag := looseRoot ((va.mul va).add (vb.mul vb)) (env.fr 0)
    if mag.le lim then ⟨[sigWord s.exp a, sigWord s.exp b], [], fa || fb, []⟩
    else if s.flag 0 then
      let d := dyMax lim.neg (dyMin lim va)
      let q := looseRoot ((lim.mul lim).sub (d.mul d)) (env.fr 1)
      let q := if b < 0 then q.neg else if b = 0 then Dy.zero else q
      let (w, f) := s.word d
      let (v, g) := s.word q
      ⟨[w, v], [], fa || fb || f || g, []⟩
    else
      let (w, f) := s.quotWord (va.mul lim) mag
      let (v, g) := s.quotWord (vb.mul lim) mag
      ⟨[w, v], [], fa || fb || f || g, []⟩

/-- R268. A negative RISE or FALL lets the output move by nothing. -/
def runRamp (s : Stage) (env : StageEnv) : StageOut :=
  let (a, fa) := s.inp env s.a
  let (b, fb) := s.inp env s.b
  let (c, fc) := s.inp env s.c
  let y := s.stDy env 0
  let va := s.val a
  let fresh := !bitOf (s.st env 1) 0 || decide (c ≠ 0)
  let out := if fresh then s.val b
    else if y.lt va then dyMin va (y.add (dyMax Dy.zero (s.par 0)))
    else dyMax va (y.sub (dyMax Dy.zero (s.par 1)))
  let (w, _) := s.word out
  s.one out ((if fresh then fb else fa) || fc) [s.wr 0 w, s.wr 1 1]

def runObserver (s : Stage) (env : StageEnv) : StageOut :=
  let (ia, f1) := s.inp env s.a
  let (ib, f2) := s.inp env s.b
  let (ua, f3) := s.inp env s.c
  let (ub, f4) := s.inp env (nthCode s.c 1)
  let t := s.coef 0
  let rs := s.coef 1
  let ls := s.coef 2
  let gam := s.coef 4
  let psi := s.par 3
  let la := s.stExt env 0 2
  let lb := s.stExt env 1 3
  let ra := la.sub (ls.mul (s.val ia))
  let rb := lb.sub (ls.mul (s.val ib))
  let k := (t.mul gam).mul ((psi.mul psi).sub ((ra.mul ra).add (rb.mul rb)))
  let na := (la.add (t.mul ((s.val ua).sub (rs.mul (s.val ia))))).add (k.mul ra)
  let nb := (lb.add (t.mul ((s.val ub).sub (rs.mul (s.val ib))))).add (k.mul rb)
  let wa := toWide s.exp na
  let wb := toWide s.exp nb
  let qa := (ofWide s.exp wa).sub (ls.mul (s.val ia))
  let qb := (ofWide s.exp wb).sub (ls.mul (s.val ib))
  let theta := looseAtan qb qa (env.fr 0)
  let (res, fr) := s.word ((looseRoot ((qa.mul qa).add (qb.mul qb)) (env.fr 1)).sub psi)
  ⟨[angleWord ⟨theta, -60⟩, res],
   [s.wr 0 (sigWord s.exp (extMant wa)), s.wr 1 (sigWord s.exp (extMant wb)), s.wr 2 (extWord wa), s.wr 3 (extWord wb)],
   f1 || f2 || f3 || f4 || fr || wideSat s.exp na || wideSat s.exp nb, []⟩

def runPll (s : Stage) (env : StageEnv) : StageOut :=
  let th := s.stExt env 0 2
  let i := s.stExt env 1 3
  let eps := wrapDy ((env.src s.a).dy.sub th)
  let om := ((s.coef 0).mul eps).add i
  let i1 := i.add ((s.coef 1).mul eps)
  let t1 := wrapTurn 47 ((th.add ((s.coef 2).mul om)).round (-47))
  let wi := toWide s.exp i1
  let (ow, fo) := s.word om
  ⟨[angleWord ⟨t1, -47⟩, ow],
   [s.wr 0 (sigWord 0 (extMant t1)), s.wr 1 (sigWord s.exp (extMant wi)), s.wr 2 (extWord t1), s.wr 3 (extWord wi)],
   fo || wideSat s.exp i1, []⟩

/-- MODEL_RL; under PW each output's predicted code is formed from the output as written. -/
def runModel (s : Stage) (env : StageEnv) : StageOut :=
  let (c, fc) := s.inp env s.c
  let rows := (List.range (s.n + 1)).map fun j =>
    let (a, fa) := s.inp env (nthCode s.a j)
    let (b, fb) := s.inp env (nthCode s.b j)
    let x := (((s.coef 0).mul (s.val a)).add ((s.coef 1).mul (s.val b))).add ((s.coef 2).mul (s.val c))
    let (m, f) := toMant s.exp x
    let code := ((((s.coef 3).mul (s.val m)).add ⟨signedOf 24 (s.sget 4), -23⟩).mul ⟨16384, 0⟩).round 0
    (sigWord s.exp m, fa || fb || f, max 0 (min 16383 code))
  let pre := if s.flag 0 then rows.zipIdx.map fun ((_, _, code), j) =>
      (wPRE + (s.x.getD 0 0 % 16 + j), BitVec.ofNat 32 (2 ^ 31 + code.toNat)) else []
  ⟨rows.map (·.1), pre, fc || rows.any (·.2.1), []⟩

def runSum (s : Stage) (env : StageEnv) : StageOut :=
  let (a, fa) := s.inp env s.a
  let (b, fb) := s.inp env s.b
  let (c, fc) := s.inp env s.c
  s.one ((((s.coef 0).mul (s.val a)).add ((s.coef 1).mul (s.val b))).add ((s.coef 2).mul (s.val c))) (fa || fb || fc) []

def runScale (s : Stage) (env : StageEnv) : StageOut :=
  let rows := (List.range (s.n + 1)).map fun j =>
    let (x, f) := s.inp env ([s.a, s.b, s.c].getD j 0xFF)
    let (w, g) := s.word ((s.coef j).mul ((s.val x).sub (s.par (3 + j))))
    (w, f || g)
  ⟨rows.map (·.1), [], rows.any (·.2), []⟩

def runSelect (s : Stage) (env : StageEnv) : StageOut :=
  let (a, fa) := s.inp env s.a
  let (b, fb) := s.inp env s.b
  let (c, fc) := s.inp env s.c
  s.one (s.val (if c ≠ 0 then b else a)) ((if c ≠ 0 then fb else fa) || fc) []

/-- INTEG. Under WRAP the output is written at EXP, as R260 has every output, though it is formed as an angle output is (DESIGN
CHOICE, log 50). -/
def runInteg (s : Stage) (env : StageEnv) : StageOut :=
  let (a, fa) := s.inp env s.a
  let x := (ofWide s.exp (wideOf (s.st env 0) (s.st env 1))).add ((s.coef 0).mul (s.val a))
  let y := if s.flag 0 then wrapDy x else s.clamp env 0 (s.lim env 2) (s.lim env 1) x
  let w := toWide s.exp y
  let ws := [s.wr 0 (wideLo w), s.wr 1 (wideHi w)]
  if s.flag 0 then s.one (wrapDy (s.val (y.round (s.exp - 23)))) (fa || wideSat s.exp y) ws else s.one y fa ws

def runDeriv (s : Stage) (env : StageEnv) : StageOut :=
  let (a, fa) := s.inp env s.a
  let y := s.stDy env 0
  let out := y.add ((s.coef 1).mul (((s.coef 0).mul ((s.val a).sub (s.stDy env 1))).sub y))
  let (w, _) := s.word out
  s.one out fa [s.wr 0 w, s.wr 1 (sigWord s.exp a)]

def runAbsMax (s : Stage) (env : StageEnv) : StageOut :=
  let ins := ([s.a, s.b, s.c].filter (· ≠ 0xFF)).map (s.inp env)
  s.one (s.val (ins.foldl (fun m p => max m (p.1.natAbs : Int)) 0)) (ins.any (·.2)) []

def runMinMax (s : Stage) (env : StageEnv) : StageOut :=
  let (a, fa) := s.inp env s.a
  let (b, fb) := s.inp env s.b
  match s.flags % 4 with
  | 0 => s.one (s.val (min a b)) (fa || fb) []
  | 1 => s.one (s.val (max a b)) (fa || fb) []
  | _ => s.one (s.clamp env 0 (s.lim env 1) (s.lim env 0) (s.val a)) fa []

def runHold (s : Stage) (env : StageEnv) : StageOut :=
  let (a, fa) := s.inp env s.a
  let (c, fc) := s.inp env s.c
  let y := if c ≠ 0 then s.val a else s.stDy env 0
  let (w, _) := s.word y
  s.one y ((decide (c ≠ 0) && fa) || fc) [s.wr 0 w]

/-- R270. -/
def runCompare (s : Stage) (env : StageEnv) : StageOut :=
  let (a, fa) := s.inp env s.a
  let v := s.val a
  let held := match s.flags % 4 with
    | 0 => (s.par 0).lt v
    | 1 => v.lt (s.par 0)
    | _ => (s.par 0).lt v.abs
  let c0 := bits (s.st env 0) 0 16
  let c1 := if held then min 65535 (c0 + 1) else 0
  let hit := held && c1 ≠ c0 && c1 == max 1 (s.x.getD 1 0)
  let r := s.one (if hit then Dy.one else Dy.zero) fa [s.wr 0 (BitVec.ofNat 32 c1)]
  if hit then { r with fx := [.pulse (s.x.getD 0 0 % 64) (s.flag 2)] } else r

/-- The j-th 6-bit gang field of P0 and P1 (R271, R272). -/
def gangField (s : Stage) (j : Nat) : Nat :=
  if j < 4 then s.sget 0 / 64 ^ j % 64 else s.sget 1 / 64 ^ (j - 4) % 64

/-- R271. -/
def runShed (s : Stage) (env : StageEnv) : StageOut :=
  let rows := (List.range (s.n + 1)).map fun j =>
    let (a, f) := s.inp env (nthCode s.a j)
    (Effect.load (gangField s j) (min 65535 (((s.val a).abs.mul ⟨32, 0⟩).round 0).toNat), f)
  ⟨[], [], rows.any (·.2), rows.map (·.1)⟩

/-- R272. -/
def runDuty (s : Stage) (env : StageEnv) : StageOut :=
  let rows := (List.range (s.n + 1)).map fun j =>
    let (a, f) := s.inp env (nthCode s.a j)
    (Effect.duty (gangField s j) (dyMax Dy.zero (dyMin Dy.one (s.val a))), f)
  ⟨[], [], rows.any (·.2), rows.map (·.1)⟩

def runConv (s : Stage) (env : StageEnv) : StageOut :=
  let (a, fa) := s.inp env s.a
  let (b, fb) := s.inp env s.b
  let e := s.val (a - b)
  let hist := fun k => s.stDy env k
  let y := (((((s.coef 0).mul e).add ((s.coef 1).mul (hist 0))).add ((s.coef 2).mul (hist 1))).add ((s.coef 3).mul (hist 2))).sub
    (((s.coef 4).mul (hist 3)).add ((s.coef 5).mul (hist 4)))
  let top := let x := s.x.getD 0 0; if x = 0 then 256 else x
  let y := dyMax Dy.zero (dyMin ⟨top, -8⟩ y)
  let (w, _) := s.word y
  let (ew, fe) := s.word e
  s.one y (fa || fb || fe) [s.wr 0 ew, s.wr 1 (s.st env 0), s.wr 2 (s.st env 1), s.wr 3 w, s.wr 4 (s.st env 3)]

/-- R266: what a slot computes. -/
def runStage (s : Stage) (env : StageEnv) : StageOut :=
  match s.type with
  | 0 => runPi s env false
  | 1 => runPi s env true
  | 2 => runBiquad s env
  | 3 => runClarke s env
  | 4 => runPark s env false
  | 5 => runPark s env true
  | 6 => runSvm s env
  | 7 => runLimit s env
  | 8 => runRamp s env
  | 9 => runObserver s env
  | 10 => runPll s env
  | 11 => runModel s env
  | 12 => runSum s env
  | 13 => runScale s env
  | 14 => runSelect s env
  | 15 => runInteg s env
  | 16 => runDeriv s env
  | 17 => runAbsMax s env
  | 18 => runMinMax s env
  | 19 => runHold s env
  | 20 => runCompare s env
  | 21 => runShed s env
  | 22 => runDuty s env
  | 23 => runConv s env
  | _ => ⟨[], [], false, []⟩

/-- The words a stage writes in its half: its outputs from DST on, unless discarded, and its other words. -/
def stageWrites (s : Stage) (o : StageOut) : List (Nat × Word) :=
  (if s.dst = 0xFF then [] else o.outs.zipIdx.map fun (w, j) => (wSIG + s.dst + j, w)) ++ o.writes

/-! ### Slot checks (R286, VERR) -/

/-- Whether a source code is defined (R259). -/
def goodSource (c : Nat) : Bool :=
  c < 0x28 || (0x30 ≤ c && c < 0x48) || c == 0x80 || c == 0x81 || c == 0xFE || c == 0xFF

/-- Sources of a slot with every consecutive one it reads. -/
def stageSources (s : Stage) : List Nat :=
  let run := fun c k => (List.range k).map (nthCode c)
  match s.type with
  | 9 => [s.a, s.b] ++ run s.c 2
  | 11 => run s.a (s.n + 1) ++ run s.b (s.n + 1) ++ [s.c]
  | 21 | 22 => run s.a (s.n + 1) ++ [s.b, s.c]
  | _ => [s.a, s.b, s.c]

/-- FLAGS bits and values a type defines. -/
def goodFlags (s : Stage) : Bool :=
  match s.type with
  | 0 | 1 => s.flags % 128 == 0
  | 7 | 15 => s.flags % 128 < 2
  | 18 => s.flags % 128 < 3
  | 3 | 11 => s.flags < 2
  | 20 => s.flags < 8 && s.flags % 4 < 3
  | _ => s.flags == 0

/-- Structural bytes: only those R257 names may be nonzero. -/
def goodStruct (s : Stage) : Bool :=
  let x := fun i => s.x.getD i 0
  match s.type with
  | 11 => x 0 < 16 && [1, 2, 3, 4].all fun i => x i == 0
  | 20 => x 0 < 64 && [2, 3, 4].all fun i => x i == 0
  | 23 => [1, 2, 3, 4].all fun i => x i == 0
  | _ => [0, 1, 2, 3, 4].all fun i => x i == 0

/-- Largest N of a type. -/
def maxN : Nat → Nat
  | 11 | 13 => 2 | 21 => 3 | 22 => 5 | _ => 0

/-- R286: the check a slot fails, 3 to 9; 0 where it passes. -/
def checkSlot (s : Stage) : Nat :=
  if 24 ≤ s.type then 3
  else if s.rsvd || !goodFlags s || !goodStruct s then 4
  else if !((stageSources s).all goodSource) then 5
  else if s.dst ≠ 0xFF && 24 < s.dst + stageOuts s.type s.n then 6
  else if 63 < s.stb + stageState s.type then 7
  else if maxN s.type < s.n then 8
  else if s.type = 11 && s.flag 0 && 15 < s.x.getD 0 0 + s.n then 9
  else 0

end Sys2Proof.Machine
end

