-- ==== Sys2Proof/Machine/Live.lean ====
section
/-!
DEFINITION. Live words: what a register shows now, with the status that other state determines filled in; casts, which
capture the ROC registers of a page or of a domain on one tick (R12, R60 to R63); and reads of 64-bit values in two halves
(R64 to R67).
-/

namespace Sys2Proof.Machine

def zeroNat : Nat → Nat := fun _ => 0

/-- Number of a requester (R463) (log 56). -/
def requesterId (r : Requester) : Nat :=
  match r with
  | .hewer c => c.val | .deputy => 4 | .record => 5 | .night => 6 | .spi => 7 | .link => 8 | .dma c => 9 + c.val

/-- LSTAT of a leg (R116, R118). -/
def lstatWord (d : Dev) (n : Nat) : Word :=
  let r := d.leg n
  let at_ := anyGangOf d n
  let slot := match at_ with | some (_, i) => i | none => 0
  let g := match at_ with | some (g, _) => g | none => 0
  BitVec.ofNat 32 (legState d n * 2 ^ 28 + slot * 2 ^ 16 + g * 2 ^ 8 + b2n (strong d n) * 128 + b2n r.fwRet * 2 +
    b2n (listedIn d n).isSome)

/-- HOLDER as the claim latches give it, and which dies have latched it (R457, R477). -/
def authStateWord (d : Dev) : Word :=
  let h := stamp d
  let ack := (List.range 4).foldl (fun a k =>
    if (d.die k).holder = h && (d.die k).holderCmd.isNone then a + 2 ^ k else a) 0
  setBits (setBits (d.reg (authP + 0x040)) 8 2 h) 20 4 ack

/-- SPEED of the machine timer's count: the device tick count divided by 6 (R442) (log 95). -/
def mtimeCount (d : Dev) : Nat := d.now / 6

/-- PROG of the ADC page while a plumb cycle runs: one position per conversion of 24 ticks (R73, R235). -/
def plumbProg (d : Dev) (w : Word) : Word :=
  match d.samp.plumb with
  | none => w
  | some (_, step, stop) =>
    let part := if d.samp.plumbWait then 0 else (49152 - min 49152 (stop - d.now)) / 24
    BitVec.ofNat 32 (2 ^ 31 + 2 ^ 28 + min 8192 ((step - 1) * 2048 + part))

/-- NOCOMM and LR_ARMED of an axis (R317). -/
def noComm (d : Dev) (a : Nat) : Nat := match (d.axis a).lrAt with | some t => min 0xFFFF ((d.now - t) / 60000) | none => 0

/-- Whether a GPIO line is driven by the page that claims it: a precharge converter's contactor (R383, R532). -/
def pinOwner (d : Dev) (n : Nat) : Option Nat :=
  (List.range 16).find? fun c =>
    let p := convP c
    d.on p CONV.CFG.EN && d.fld p CONV.CFG.ROLE = 4 && d.on p CONV.PACK.CTC_EN && d.fld p CONV.PACK.CTC_PIN = n

/-- OWNED of lines `lo` to `lo` + `n` − 1. -/
def ownedWord (d : Dev) (lo n : Nat) : Word :=
  BitVec.ofNat 32 ((List.range n).foldl (fun w i => if (pinOwner d (lo + i)).isSome then w + 2 ^ i else w) 0)

/-- Base of a timer channel's registers, and the cycles of CLK_PER (6 ticks) it has counted (R534). -/
def tmrA (k : Nat) : Nat := gpioP + 0x100 + 0x10 * k
def tmrCount (d : Dev) (k : Nat) : Nat := (d.now - sget zeroNat d.timers k) / 6

/-- The level that a PWM channel gives a line; the lowest channel where several name it (log 84). -/
def pwmOut (d : Dev) (n : Nat) : Option Bool :=
  ((List.range 8).find? fun k =>
    let c := d.reg (tmrA k)
    bitOf c 31 && !bitOf c 30 && bits c 0 6 == n).map fun k => decide (tmrCount d k < (d.reg (tmrA k + 8)).toNat)

/-- The level a line of the GPIO page drives, where it drives one (R397, R532, R534). -/
def lineOut (d : Dev) (n : Nat) : Option Bool :=
  match pinOwner d n with
  | some c => some (d.on (convP c) CONV.CSTAT.CTC)
  | none =>
    let o := n / 32 * 4
    if bitOf (d.reg (gpioP + 0x040 + o)) (n % 32) then
      some ((pwmOut d n).getD (bitOf (d.reg (gpioP + 0x048 + o)) (n % 32)))
    else none

/-- IN of lines: what drives each, and for an input the level last sampled (R533). -/
def inWord (d : Dev) (lo n : Nat) (w : Word) : Word :=
  BitVec.ofNat 32 ((List.range n).foldl (fun x i =>
    if (lineOut d (lo + i)).getD (bitOf w i) then x + 2 ^ i else x) 0)

/-- R433: the highest level among faults whose scope is not yet recovered; a set trip latch is an open L1. -/
def openLevel (d : Dev) : Nat :=
  d.flt.open_.foldl (fun m p => max m p.2) (if (List.range 256).any (latched d) then 1 else 0)

/-- CLK.STAT[15:0] (R496, R516): the count of the latest monitor window, 1,024 cycles of 32 MHz, 19,200 ticks. While MON is OK it lies
in the band that the monitor checks; else the spec gives no value (log 2). -/
def clkWindowWord (d : Dev) : Nat :=
  let n := d.now / 19200
  if n = 0 then 0
  else if d.fld clkP CLK.STAT.MON = 0 then 3000 + Config.clkWindow n % 401
  else Config.clkWindow n % 65536

/-- CYC (R250, R289): the stage-cycles of completed stages, and of each stage under way one per tick since it began. -/
def engCycles (d : Dev) : Nat :=
  (d.reg (engP + 0x064)).toNat * 2 ^ 32 + (d.reg (engP + 0x060)).toNat +
    (d.eng.works.map fun w => if w.lane.isSome then min (d.now - w.began) (stageCost (stageOf w.slot).type) else 0).sum

/-- The live word of a register: what its own storage holds, with the parts that other state determines (log 49). -/
def liveWord (d : Dev) (a : Nat) : Word :=
  let w := d.reg a
  match pageAt a with
  | none => w
  | some (r, i) =>
    let base := pageBase a
    let off := a % 0x1000
    match r.page, off with
    | .mtime, 0x000 => BitVec.ofNat 32 (mtimeCount d)
    | .mtime, 0x004 => BitVec.ofNat 32 (mtimeCount d / 2 ^ 32)
    | .leg, 0x058 => lstatWord d i
    | .gang, 0x084 => if gangSwitching d i && !(liveList d i).isEmpty then w else setBits w 0 1 0
    | .frame, 0x060 => setBits w 18 1 (b2n (d.mode == .halt))
    | .frame, 0x064 => if d.on base FRAME.STAT.RUN then BitVec.ofNat 32 ((d.now - (d.frame i).reload) % 2 ^ 16) else 0
    | .top, 0x044 => setBits w 0 4 d.mode.code
    | .top, 0x060 => BitVec.ofNat 32 d.now
    | .top, 0x064 => BitVec.ofNat 32 (d.now / 2 ^ 32)
    | .clk, 0x044 => setBits w 0 16 (clkWindowWord d)
    | .auth, 0x040 => authStateWord d
    | .auth, 0x054 => BitVec.ofNat 32 (min 0xFFFF ((d.now - d.auth.lastBeat) / 60))
    | .axis, 0x090 => setBits w 18 1 (b2n (d.axis i).lrAt.isSome)
    | .axis, 0x098 => setBits w 0 16 (noComm d i)
    | .adc, 0x02C => plumbProg d w
    | .adc, 0x030 => if d.samp.plumb.isSome then 8192 else w
    | .flt, 0x05C => setBits w 29 3 (openLevel d)
    | .eng, 0x060 => BitVec.ofNat 32 (engCycles d)
    | .eng, 0x064 => BitVec.ofNat 32 (engCycles d / 2 ^ 32)
    | .gpio, 0x050 => inWord d 0 32 w
    | .gpio, 0x054 => inWord d 32 16 w
    | .gpio, 0x060 => ownedWord d 0 32
    | .gpio, 0x064 => ownedWord d 32 16
    | .rost, 0x004 => setBits w 0 1 (b2n d.rost.wet)
    | .mtime, _ => w
    | _, 0x004 => setBits (setBits w 0 1 (b2n (pageWet d base))) 1 1 (b2n (pageCoat d base))
    | _, 0x010 => let n := d.domAt a; if 67 ≤ n then 0 else commitStat (d.dom n)
    | _, 0x014 => let n := d.domAt a; if 67 ≤ n then 0 else (d.dom n).err
    | _, 0x018 => let n := d.domAt a; if 67 ≤ n then 0 else (d.dom n).errAt
    | _, _ => w

/-! ### Casts (R60 to R63) -/

/-- The offsets of a page's ROC registers but for its stamp (log 20). -/
def rocOffsets (p : Page) : List Nat :=
  (pageDefs p).flatMap fun r =>
    if r.acc = .roc && r.off ≠ 0x024 then (List.range r.n).map fun i => r.off + i * r.stride else []

/-- R61: whether a CAST_POINT entry has taken a cast of a page that is not complete. -/
def castPending (d : Dev) (base : Nat) : Bool :=
  d.rost.casts.any fun c => c.1.contains base

/-- The capture of one page: SEQ advances, the stamp is the cast tick, every ROC register is captured (log 20). -/
def castPage (base : Nat) (d : Dev) : Dev :=
  match pageAt base with
  | none => d
  | some (r, _) =>
    let cast := (rocOffsets r.page).foldl (fun m o => sput resetWord m (base + o) (liveWord d (base + o))) d.cast
    let cast := sput resetWord cast (base + 0x024) (BitVec.ofNat 32 d.now)
    let cast := sput resetWord cast (base + 0x028) (BitVec.ofNat 32 (d.now / 2 ^ 32))
    ({ d with cast := cast }.wrapBump base HDR.CAST_STAT.SEQ).setFld base HDR.CAST_STAT.BUSY (b2n (castPending d base))

/-- Every page, in address order: system pages with a header, block pages. -/
def allPages : List Nat :=
  (systemPages ++ blockPages).flatMap fun r =>
    if r.page = .mtime then [] else (List.range r.count).map fun i => r.base + i * 0x1000

/-- The pages of a commit domain, in address order. -/
def pagesOf (d : Dev) (n : Nat) : List Nat := allPages.filter fun b => d.domAt b = n

/-- R60: the pages of a cast: one, or every page of its domain. -/
def castPages (d : Dev) (base : Nat) (domain : Bool) : List Nat :=
  let n := d.domAt base
  if domain && n < 67 then pagesOf d n else [base]

/-- R60: a cast of a page, or of every page of its domain. -/
def castLand (base : Nat) (domain : Bool) (d : Dev) : Dev := each (castPages d base domain) castPage d

/-- What a read of a ROC register returns: the latest cast (R12) (log 20). -/
def castWord (d : Dev) (a : Nat) : Word := sget resetWord d.cast a

/-! ### 64-bit values (R64 to R67) -/

/-- The low words of the 64-bit values of a page. -/
def pairLows : Page → List Nat
  | .ddie => [0x024, 0x064, 0x06C, 0x074]
  | .frame => [0x024, 0x054]
  | .rost => [0x024, 0x074]
  | .slice => [0x024, 0x050]
  | .res => 0x024 :: (List.range 64).map (fun r => 0x100 + 8 * r)
  | .eng => [0x024, 0x060]
  | .flt => [0x024, 0x070, 0x078, 0x080]
  | .top => [0x024, 0x060]
  | .pwr => [0x024, 0x064, 0x06C]
  | .can => [0x024, 0x074]
  | .gpio => [0x024, 0x208]
  | .link => [0x024, 0x05C]
  | .mtime => [0x000, 0x010, 0x020, 0x030, 0x040, 0x050]
  | _ => [0x024]

/-- A roster bank entry's low word, or a register pair's (R192) (log 22). -/
def isPairLow (a : Nat) : Bool :=
  if 0x31000000 ≤ a ∧ a < 0x31040000 then a % 8 == 0
  else match pageAt a with
    | none => false
    | some (r, _) => (pairLows r.page).contains (a % 0x1000)

def isPairHigh (a : Nat) : Bool := 4 ≤ a && isPairLow (a - 4)

def noPairs : Nat → List (Nat × Word) := fun _ => []

/-- R65: an entry tagged `a` enters the reader's shadow; the oldest of four is replaced (log 21). -/
def pairPut (rid a : Nat) (w : Word) (d : Dev) : Dev :=
  let l := sget noPairs d.pairs rid
  let l := if 4 ≤ l.length then l.drop (l.length - 3) else l
  { d with pairs := sput noPairs d.pairs rid (l ++ [(a, w)]) }

/-- R65: the latest entry tagged `a`, with the shadow that is left; pairs read at nested depths so keep their own halves.
(log 21). -/
def pairTake : List (Nat × Word) → Nat → Option (Word × List (Nat × Word))
  | [], _ => none
  | (b, w) :: l, a =>
    match pairTake l a with
    | some (v, l') => some (v, (b, w) :: l')
    | none => if b = a then some (w, l) else none

/-- R66: a reader reads the low word of result register `r`: NEWER, and what is kept of it. -/
def newerRead (rid r : Nat) (d : Dev) : Bool × Dev :=
  let k := rid * 64 + r
  (sget zeroNat d.newer k == 2, { d with newer := sput zeroNat d.newer k 1 })

/-- R66: result register `r` is written: every reader that has read it will see NEWER. -/
def newerWrite (r : Nat) (d : Dev) : Dev :=
  { d with newer := d.newer.map fun (k, v) => if k % 64 = r then (k, 2) else (k, v) }

def noLow : Nat → Option Word := fun _ => none
def lowKey (rid a : Nat) : Nat := rid * 2 ^ 32 + a

/-- R67: the low word of a 64-bit write is held privately (log 22). -/
def lowPut (rid a : Nat) (w : Word) (d : Dev) : Dev := { d with lows := sput noLow d.lows (lowKey rid a) (some w) }

/-- R67: the held low word is used up by the write of the high word (log 22). -/
def lowTake (rid a : Nat) (d : Dev) : Option Word × Dev :=
  (sget noLow d.lows (lowKey rid a), { d with lows := sput noLow d.lows (lowKey rid a) none })

end Sys2Proof.Machine
end

