-- ==== Sys2Proof/Machine/Owners.lean ====
section
/-!
DEFINITION. Owners of gangs: the holds that axes and converters apply, their FAULTED states, and the last-fault record of a
converter (R85, R322, R323, R338, R388, R399 to R401, R416).
-/

namespace Sys2Proof.Machine

/-- The enabled gangs an axis owns (R85). -/
def axisGangs (d : Dev) (a : Nat) : List Nat :=
  (enabledGangs d).filter fun g => d.fld (gangP g) GANG.ROLE.KIND = 1 && d.fld (gangP g) GANG.ROLE.OWNER = a

/-- The enabled gangs whose ROLE names a converter (R85, R86, R416: kinds 2, 3 and 4 are one owner class): its holds and its
faults reach all of them, whatever its role (log 101). -/
def convGangs (d : Dev) (c : Nat) : List Nat :=
  (enabledGangs d).filter fun g =>
    let k := d.fld (gangP g) GANG.ROLE.KIND
    2 ≤ k && k ≤ 4 && d.fld (gangP g) GANG.ROLE.OWNER = c

def convRole (d : Dev) (c : Nat) : Nat := d.fld (convP c) CONV.CFG.ROLE

/-- Gang KIND of a role (R381); 0 for none. -/
def roleKind : Nat → Nat
  | 1 | 2 | 3 => 2 | 4 => 4 | 5 => 3 | _ => 0

/-- R384: the gangs a converter owns, those of its role's KIND. -/
def convOwned (d : Dev) (c : Nat) : List Nat :=
  (convGangs d c).filter fun g => d.fld (gangP g) GANG.ROLE.KIND = roleKind (convRole d c)

/-- What lies on the legs of held or released gangs: a hold stops the leg until a reload after its release, a release lifts the
drive dies' hold where no reaction holds the leg (R28, R92, R128; the release needs no command of its own, log 8). -/
def gangsHeld (h : Hold) (gs : List Nat) (d : Dev) : Dev :=
  each gs (fun g d => each (gangLegs d g) (fun n d =>
    let r := d.leg n
    match h with
    | .none => if r.safe == .none && (d.gang g).collHold == .none then d.setLeg n { r with dieHold := .none } else d
    | _ => stopLeg n d) d) d

def holdCode : Hold → Nat
  | .none => 0 | .off => 1 | .short => 2

/-- The gangs an axis owns for R106 and R259: its enabled phase gangs but those of a dropped set (R295). -/
def axisOwned (d : Dev) (a : Nat) : List Nat :=
  let drop := d.fld (axisP a) AXIS.HSTAT.DROP
  (axisGangs d a).filter fun g => !drop.testBit (d.fld (gangP g) GANG.ROLE.PHASE_IX / 3)

/-- R323: an axis changes the hold of the gangs it owns; HSTAT.HOLD shows it. -/
def setAxisHold (a : Nat) (h : Hold) (d : Dev) : Dev :=
  let r := d.axis a
  let d := d.setAxis a { r with hold := h, shortFor := if h = .short && r.hold ≠ .short then 0 else r.shortFor }
  let d := d.setFld (axisP a) AXIS.HSTAT.HOLD (holdCode h)
  if r.hold = h then d else gangsHeld h (axisOwned d a) d

/-- R343: the hold of a dropped set's gangs. -/
def setSetHold (a k : Nat) (h : Hold) (d : Dev) : Dev :=
  let s := d.phases a k
  let d := d.setPhases a k { s with hold := h, shortFor := if h = .short && s.hold ≠ .short then 0 else s.shortFor }
  if s.hold = h then d
  else gangsHeld h ((axisGangs d a).filter fun g => d.fld (gangP g) GANG.ROLE.PHASE_IX / 3 = k) d

def setConvHold (c : Nat) (h : Hold) (d : Dev) : Dev :=
  let r := d.conv c
  let d := d.setConv c { r with hold := h }
  if r.hold = h then d else gangsHeld h (convGangs d c) d

/-! ### Axis states (R322) -/

def AX_IDLE : Nat := 0
def AX_SOUNDING : Nat := 1
def AX_CATCHING : Nat := 2
def AX_STARTING : Nat := 3
def AX_RUNNING : Nat := 4
def AX_DECEL : Nat := 5
def AX_COASTING : Nat := 6
def AX_HOLDING : Nat := 7
def AX_FAULTED : Nat := 8

def axisState (d : Dev) (a : Nat) : Nat := d.fld (axisP a) AXIS.ASTAT.STATE

/-- The first hold of a policy: SPEED_SELECT starts from the hold in force, OFF where the gangs switched, and chooses at
each reload (R338, R340; log 9). -/
def policyHold (d : Dev) (a policy : Nat) : Hold :=
  match policy with
  | 1 => .short
  | 2 => if (d.axis a).hold = .short then .short else .off
  | _ => .off

/-- R346: the observer-loss ramp ends; the gains are written back to the slot they came from. -/
def lossEnd (a : Nat) (d : Dev) : Dev :=
  let p := axisP a
  if !d.on p AXIS.HSTAT.LOST then d
  else
    let s := (d.axis a).lossSlot
    let (p0, p1) := (d.axis a).gains
    let d := putSlot s 2 (setBits (slotWord d s 2) 0 24 p0) d
    let d := putSlot s 3 (setBits (slotWord d s 3) 0 24 p1) d
    d.lower p AXIS.HSTAT.LOST

/-! ### One cause a tick (R324, R388; log 64) -/

/-- The turn of this tick that a cause of an earlier place may still undo. -/
def turnOf (d : Dev) (who : Nat) : Option Turn := d.turns.find? fun t => t.who = who && t.tick = d.now

/-- The registers that a turn of an axis, a converter or a feedback channel changes. -/
def turnRegs (who : Nat) : List Nat :=
  if who < 16 then [AXIS.ASTAT.STATE, AXIS.HSTAT.RUNREQ, AXIS.EVT.CMD_IGN, AXIS.EVT2.ROLL, AXIS.COUNT2.OBS_LOST].map (axisP who + ·.off)
  else if who < 32 then [CONV.CSTAT.STATE, CONV.VSTAT.VSS, CONV.EVT.SS_DONE].map (convP (who - 16) + ·.off)
  else [0x080, 0x08C, 0x090, 0x094, 0x0A4, 0x0AC, 0x0B0].map (fbP (who - 32) + ·)

def turnGangs (d : Dev) (who : Nat) : List Nat :=
  if who < 16 then axisGangs d who else if who < 32 then convGangs d (who - 16) else []

/-- What hardware has set in a register on this CLK_SYS cycle. -/
def sinceAt (d : Dev) (a : Nat) : Word := ((d.eventAt a).getD (0, 0)).2

/-- Registers that differ between two devices, with what hardware had set in them on this cycle. -/
def regsTurn (addrs : List Nat) (b d : Dev) : List (Nat × Word × Word × Word × Word) :=
  (addrs.map fun a => (a, b.reg a, d.reg a, sinceAt b a, sinceAt d a)).filter fun e => e.2.1 ≠ e.2.2.1

/-- The turn that led from one device to another. -/
def turnOfStep (who rank : Nat) (cmd : Option Word) (b d : Dev) : Turn :=
  let pll := [b.fld (axisP who) AXIS.SEED.PLL, (b.axis who).lossSlot].eraseDups
  { who := who, tick := d.now, rank := rank, cmd := cmd
    regs := regsTurn (turnRegs who) b d
    words := if 16 ≤ who then []
      else ((pll.flatMap fun s => [(s, 2), (s, 3)]).map fun (s, i) => (s, i, slotWord b s i, slotWord d s i)).filter fun e => e.2.2.1 ≠ e.2.2.2
    legs := (((turnGangs b who).flatMap (gangLegs b)).eraseDups.map fun n => (n, (b.leg n).dieHold, (d.leg n).dieHold, b.plan n, d.plan n)).filter
      fun e => e.2.1 ≠ e.2.2.1 || e.2.2.2.1 ≠ e.2.2.2.2
    msgs := d.flt.inflight.drop b.flt.inflight.length
    seeding := decide (b.eng.resets.length < d.eng.resets.length)
    axis := if who < 16 then some (b.axis who) else none
    conv := if 16 ≤ who && who < 32 then some (b.conv (who - 16)) else none
    fb := if 32 ≤ who then some (b.fb (who - 32)) else none
    levels := none }

/-- A turn is noted, latest first; those of earlier CLK_SYS cycles are past. -/
def noteTurn (t : Turn) (d : Dev) : Dev :=
  { d with turns := t :: d.turns.filter fun x => decide (x.tick / 2 = d.now / 2) }

/-- A word whose change from `b` to `a` is undone, other bits as they are now. -/
def undone (w b a : Word) : Word := (w &&& ~~~(b ^^^ a)) ||| (b &&& (b ^^^ a))

/-- The changes of registers are undone. -/
def undoRegs (l : List (Nat × Word × Word × Word × Word)) (d : Dev) : Dev :=
  l.foldl (fun d (a, b, e, sb, se) =>
    { d with events := d.events.map fun (x : Nat × Nat × Word × Word) =>
        if x.1 = d.now / 2 && x.2.1 = a then (x.1, x.2.1, x.2.2.1, undone x.2.2.2 sb se) else x }.setReg a (undone (d.reg a) b e)) d

/-- Messages that have not arrived are taken back. -/
def unsend (ms : List FaultMsg) (d : Dev) : Dev :=
  { d with flt := { d.flt with inflight := ms.foldl (fun l m => l.erase m) d.flt.inflight } }

/-- What a turn changed beside the record of its owner is as before it; what has changed otherwise since stands. -/
def undoTurn (t : Turn) (d : Dev) : Dev :=
  let d := undoRegs t.regs d
  let d := t.words.foldl (fun d (s, i, b, e) => if slotWord d s i = e then putSlot s i b d else d) d
  let d := t.legs.foldl (fun d (n, hb, he, pb, pe) =>
    let d := if (d.leg n).dieHold = he then d.setLeg n { d.leg n with dieHold := hb } else d
    if d.plan n = pe then d.setPlan n pb else d) d
  let d := unsend t.msgs d
  let d := if t.seeding then d.setEng fun r => { r with resets := (r.resets.reverse.eraseP (·.axis = some t.who)).reverse } else d
  { d with turns := d.turns.filter (· ≠ t) }

/-- R324: whether the axis has taken no cause on this tick. -/
def causeFree (d : Dev) (a : Nat) : Bool := (d.axis a).cause != some d.now

/-- Whether it may still take one of this place: its tick is free, or its turn has a later place. -/
def axisMay (d : Dev) (a rank : Nat) : Bool :=
  causeFree d a || (match turnOf d a with | some t => decide (rank < t.rank) | none => false)

/-- The axis has taken its cause of this tick. -/
def tookCause (a : Nat) (d : Dev) : Dev := d.setAxis a { d.axis a with cause := some d.now }

/-- The axis as this tick found it: what its turn of this tick did is undone, and is judged again on the next one. A speculative
run that a catch's context reset has dropped stays dropped. -/
def axisBack (a : Nat) (d : Dev) : Dev :=
  if causeFree d a then d
  else match turnOf d a with
  | none => d
  | some t =>
    let d := undoTurn t d
    let fo := match t.cmd with | some v => bitOf v 3 | none => false
    match t.axis with
    | none => d
    | some o =>
      let r := d.axis a
      let sets := List.zipWith (fun s x =>
        if fo then { s with rangeRun := x.rangeRun, sumRun := x.sumRun } else { s with hold := x.hold, shortFor := x.shortFor }) r.sets o.sets
      let d := d.setAxis a { r with
        sets := sets, hold := o.hold, select := o.select, shortFor := o.shortFor, window := o.window, seed := o.seed, seeded := o.seeded,
        catchAt := o.catchAt, residRun := o.residRun, busRun := if t.rank = 2 then o.busRun else r.busRun, lostAt := o.lostAt,
        lostIq := o.lostIq, gains := o.gains, lossSlot := o.lossSlot, lrAt := o.lrAt, lrSent := o.lrSent, decSign := o.decSign,
        resoundAt := o.resoundAt, rolled := o.rolled, escaped := o.escaped, cause := none, late := t.cmd.toList ++ r.late,
        redo := true, owedOwn := true, owedPark := true }
      if fo then d.reLimp else d

/-- The axis takes a cause of place 2, 3 or 4, found by `axisMay`. -/
def axisTake (a rank : Nat) (cmd : Option Word) (f : Dev → Dev) (d : Dev) : Dev :=
  let b := axisBack a d
  let e := f (tookCause a b)
  noteTurn (turnOfStep a rank cmd b e) e

/-- R338, R343: dropped sets stay under the coast policy: OFF where it is not SPEED_SELECT. -/
def dropPolicy (a : Nat) (d : Dev) : Dev :=
  let p := axisP a
  if d.on p AXIS.HSTAT.FORCED || d.fld p AXIS.CFG.SAFE ≠ 0 then d
  else each [0, 1] (fun k d => if (d.fld p AXIS.HSTAT.DROP).testBit k then setSetHold a k .off d else d) d

/-- An axis takes a state for a cause of this tick (R324), with the hold the state uses; `select` tells that SPEED_SELECT
chooses the hold. What belongs to the state that ends is dropped: its window, its catch, the observer-loss ramp. -/
def axisEnter (a st : Nat) (h : Hold) (select : Bool) (d : Dev) : Dev :=
  let d := lossEnd a d
  let d := d.setFld (axisP a) AXIS.ASTAT.STATE st
  let d := d.setAxis a { d.axis a with
    select := select, cause := some d.now, window := none, seeded := false, catchAt := none, residRun := 0,
    lrAt := if st = AX_STARTING || st = AX_RUNNING then (d.axis a).lrAt else none,
    lrSent := (st = AX_STARTING || st = AX_RUNNING) && (d.axis a).lrSent }
  let d := if st = AX_COASTING then d else dropPolicy a (d.lower (axisP a) AXIS.HSTAT.FORCED)
  setAxisHold a h d

/-- R325: FAULTED, under the SAFE policy; RUNREQ and the observer-loss ramp end. Only recovery ends the hold (R323). -/
def enterFaulted (a : Nat) (d : Dev) : Dev :=
  let p := axisP a
  let pol := d.fld p AXIS.CFG.SAFE
  let d := d.lower p AXIS.HSTAT.RUNREQ
  let d := d.setAxis a { d.axis a with owedFault := false, faultHeld := true }
  axisEnter a AX_FAULTED (policyHold d a pol) (pol = 2) d

/-- R325, R417: an L2 fault for the axis, or the device's entry to SAFE or HALT. An axis that is already FAULTED changes no hold
(R421); one that has taken a cause of the same place on this tick enters FAULTED on the next (R324). -/
def axisFault (a : Nat) (d : Dev) : Dev :=
  if axisState d a = AX_FAULTED || !d.on (axisP a) AXIS.CFG.EN then d
  else if axisMay d a 1 then enterFaulted a (axisBack a d)
  else d.setAxis a { d.axis a with owedFault := true }

/-! ### Converters -/

def CV_IDLE : Nat := 0
def CV_STARTING : Nat := 3
def CV_RUNNING : Nat := 4
def CV_HOLDING : Nat := 7
def CV_FAULTED : Nat := 8

def convState (d : Dev) (c : Nat) : Nat := d.fld (convP c) CONV.CSTAT.STATE

/-- STARTING or RUNNING. -/
def CV_runs (st : Nat) : Bool := st = CV_STARTING || st = CV_RUNNING

/-- R324, R388: whether the converter has taken no cause on this tick (log 64). -/
def convFree (d : Dev) (c : Nat) : Bool := (d.conv c).cause != some d.now

/-- The state that the converter's tick began with, which a cause of an earlier place in R324 is judged against. -/
def convWas (d : Dev) (c : Nat) : Nat := if convFree d c then convState d c else (d.conv c).was

/-- Whether it may still take one of this place. -/
def convMay (d : Dev) (c rank : Nat) : Bool := convFree d c || decide (rank < (d.conv c).rank)

/-- R324, R388: the converter has taken a cause of place `rank` on this tick. -/
def convTook (c rank : Nat) (d : Dev) : Dev :=
  d.setConv c { d.conv c with was := convWas d c, cause := some d.now, rank := rank }

/-- A turn of the converter is undone, to be judged again on the next tick. -/
def convUndo (c : Nat) (t : Turn) (d : Dev) : Dev :=
  let d := undoTurn t d
  match t.conv with
  | none => d
  | some o =>
    let r := d.conv c
    d.setConv c { r with
      hold := o.hold, vss := o.vss, packRun := o.packRun, startAt := o.startAt, ctcAt := o.ctcAt, pcSent := o.pcSent, stepAt := o.stepAt,
      cause := none, late := t.cmd.toList ++ r.late, owedPause := true, owedDelay := true, owedCommit := true, owedMode := true }

/-- The converter as this tick found it. -/
def convBack (c : Nat) (d : Dev) : Dev :=
  if convFree d c then d
  else match turnOf d (16 + c) with
  | none => d
  | some t => convUndo c t d

/-- The converter takes a cause, found by `convMay`; a later place can still be undone on this tick. -/
def convTake (c rank : Nat) (cmd : Option Word) (f : Dev → Dev) (d : Dev) : Dev :=
  let b := convBack c d
  let e := f (convTook c rank b)
  if 3 ≤ rank then noteTurn (turnOfStep (16 + c) rank cmd b e) e else e

/-- Set duty of a converter's PHASE_IX 0 gang in 1/65,536 of the period (R400). -/
def convDuty (d : Dev) (c : Nat) : Nat :=
  match (convOwned d c).find? fun g => d.fld (gangP g) GANG.ROLE.PHASE_IX = 0 with
  | none => 0
  | some g =>
    let f := gangFrame d g
    let p := d.fld (frameP f) FRAME.STAT.PEFF
    if p = 0 then 0 else min 0xFFFF (bits (d.reg (frameP f + 0x200 + 4 * g)) 0 20 * 4096 / p)

/-- The bytes of a last-fault record (R400). -/
def lfBytes (d : Dev) (c seq prev msg : Nat) : List Byte :=
  let p := convP c
  let body := natBytes 4 0x52464C43 ++ natBytes 2 seq ++ natBytes 1 (d.fld p CONV.CFG.ROLE * 16 + c) ++
    natBytes 1 (prev * 16 + min 15 (d.fld p CONV.CSTAT.FTRIPS)) ++ natBytes 4 msg ++ natBytes 8 d.now ++
    natBytes 2 (d.fld p CONV.MEAS2.VIN) ++ natBytes 2 (d.fld p CONV.MEAS.VOUT) ++ natBytes 2 (d.fld p CONV.MEAS.IL) ++
    natBytes 2 (convDuty d c)
  body ++ natBytes 4 (crc32 body).toNat

/-- R399, R401: a record is queued on entry to FAULTED; with one being written and one waiting it is lost. -/
def lfQueue (c prev msg : Nat) (d : Dev) : Dev :=
  let p := convP c
  if !d.on p CONV.CFG.LFR_EN then d
  else
    let r := d.conv c
    if 2 ≤ r.lf.length then (d.raise p CONV.EVT.LF_LOST).send (faultOf p 42 0)
    else
      let seq := d.fld p CONV.LFCFG.NEXT
      let d := d.setConv c { r with lf := r.lf ++ [(seq, lfBytes d c seq prev msg)] }
      let d := if r.lf.isEmpty then (d.setFld p CONV.LFSTAT.STAT 1).setFld p CONV.LFSTAT.SEQ seq else d
      d.wrapBump p CONV.LFCFG.NEXT

/-- A converter takes a state with its hold; IDLE and FAULTED open the contactor, and only a pause keeps PAUSE (R387,
R388, R397). -/
def convEnter (c st : Nat) (h : Hold) (d : Dev) : Dev :=
  let p := convP c
  let was := CV_runs (convState d c)
  let d := (d.setFld p CONV.CSTAT.STATE st).lower p CONV.CSTAT.PAUSE
  let r := d.conv c
  let off := st = CV_IDLE || st = CV_FAULTED
  let d := if off then d.lower p CONV.CSTAT.CTC else d
  let d := d.setConv c { r with
    packRun := 0, ovRun := if st = CV_FAULTED then 0 else r.ovRun, startAt := d.now, ctcAt := if off then none else r.ctcAt,
    pcSent := false, stepAt := if was then r.stepAt else d.now }
  setConvHold c h d

/-- R395: a START that was taken on the CLK_SYS cycle of this tick. -/
def startNow (d : Dev) (c : Nat) : Option Turn :=
  d.turns.find? fun t => t.who = 16 + c && t.tick / 2 = d.now / 2 &&
    (match t.cmd with | some v => bitOf v 0 | none => false) && t.regs.any fun e => e.1 = convP c + CONV.CSTAT.STATE.off

/-- R388, R395, R397, R417: a converter enters FAULTED with its gangs OFF; its contactor output stays only where the device's
entry to SAFE or HALT is the cause (`keep`). A START of the same CLK_SYS cycle has not happened, and FAULTED ignores it. -/
def convFault (c msg : Nat) (keep : Bool) (d : Dev) : Dev :=
  let p := convP c
  if convState d c = CV_FAULTED || !d.on p CONV.CFG.EN then d
  else
    let d := convBack c d
    let (d, st) := match startNow d c with
      | some t => (convUndo c t d, CV_IDLE)
      | none => (d, convWas d c)
    let d := convTook c 1 (lfQueue c st msg d)
    let ctc := keep && d.on p CONV.CSTAT.CTC
    let d := convEnter c CV_FAULTED .off (d.setConv c { d.conv c with faultHeld := true })
    d.setFld p CONV.CSTAT.CTC (b2n ctc)

/-! ### Owners (R416) -/

/-- The owner of a gang; a gang of KIND 0 is its own. -/
def gangOwner (d : Dev) (g : Nat) : Scope :=
  let p := gangP g
  match d.fld p GANG.ROLE.KIND with
  | 1 => .axis (d.fld p GANG.ROLE.OWNER)
  | 2 | 3 | 4 => .conv (d.fld p GANG.ROLE.OWNER)
  | _ => .gang g

/-- The axis that claims a feedback channel (R59: RKIND 8). -/
def fbAxis (d : Dev) (k : Nat) : Option Nat :=
  (List.range 16).find? fun a =>
    d.on (axisP a) AXIS.CFG.EN && d.on (axisP a) AXIS.CFG.FB_EN && d.fld (axisP a) AXIS.CFG.FB = k

/-- The AXIS or CONV page that binds a context. -/
def ctxOwner (d : Dev) (c : Nat) : Option Scope :=
  match (List.range 16).find? fun a => d.on (axisP a) AXIS.CFG.EN && d.fld (axisP a) AXIS.CFG.CTX = c with
  | some a => some (.axis a)
  | none =>
    ((List.range 16).find? fun k => d.on (convP k) CONV.CFG.EN && d.fld (convP k) CONV.CFG.CTX = c).map .conv

/-- The gangs of an owner. -/
def scopeGangs (d : Dev) : Scope → List Nat
  | .gang g => [g]
  | .axis a => axisGangs d a
  | .conv c => convGangs d c
  | .die k => (enabledGangs d).filter fun g => gangDie d g = k
  | .hewer => []
  | .device => enabledGangs d

end Sys2Proof.Machine
end

