-- ==== Sys2Proof/Machine/Entries.lean ====
section
/-!
DEFINITION. Roster entries: their fields, the bank a frame acts on, the JOB entries of a context and their sample sets (R191
to R200).
-/

namespace Sys2Proof.Machine

/-- Entries of a bank (R191), and the key of an entry. -/
def bankSize : Nat := 12288
def entryKey (bank : Bool) (i : Nat) : Nat := b2n bank * 16384 + i

def noEntry : Nat → BitVec 64 := fun _ => 0
def entryAt (d : Dev) (key : Nat) : BitVec 64 := sget noEntry d.rost.ents key

/-- The bits of an entry (R194, R195). -/
def eBits (e : BitVec 64) (lo n : Nat) : Nat := (e.toNat >>> lo) % 2 ^ n
def eFrame (e : BitVec 64) : Nat := eBits e 60 4
def eOffset (e : BitVec 64) : Nat := eBits e 44 16
def eAction (e : BitVec 64) : Nat := eBits e 40 4
def eInput (e : BitVec 64) : Nat := eBits e 32 6
def eGain (e : BitVec 64) : Nat := eBits e 29 3
def eAcq (e : BitVec 64) : Nat := eBits e 22 7
def eRes (e : BitVec 64) : Nat := eBits e 16 6
def eCtx (e : BitVec 64) : Nat := eBits e 8 8
def eSidx (e : BitVec 64) : Nat := eBits e 4 4
def eNowait (e : BitVec 64) : Bool := eBits e 0 1 != 0
def eGang (e : BitVec 64) : Nat := eBits e 0 6

/-- The entries of a bank that are not zero, as (key, entry), in ascending order. -/
def bankEntries (d : Dev) (bank : Bool) : List (Nat × BitVec 64) :=
  d.rost.ents.filter fun p => decide (p.1 / 16384 = b2n bank)

/-- R197: entries of a frame in its active bank, other than NOP. -/
def frameEntries (d : Dev) (f : Nat) : List (Nat × BitVec 64) :=
  (bankEntries d (d.frame f).bank).filter fun p => eFrame p.2 = f && eAction p.2 ≠ 0

/-- R203: COMMIT_POINT entries in a frame's active bank. -/
def hasCommitPoint (d : Dev) (f : Nat) : Bool := (frameEntries d f).any fun p => eAction p.2 = 3

/-- JOB entries of a context among some entries. -/
def jobsOf (es : List (Nat × BitVec 64)) (c : Nat) : List (Nat × BitVec 64) :=
  es.filter fun p => eAction p.2 = 2 && eCtx p.2 = c

/-- Ticks from offset `a` on to offset `b`, taken cyclically through 65,536; from an offset to itself none. -/
def ahead (a b : Nat) : Nat := (b + 65536 - a) % 65536

/-- The JOB entry that comes first at or after an offset, cyclically: the one a sample at that offset belongs to (R200). -/
def firstFrom (jobs : List (Nat × BitVec 64)) (off : Nat) : Option (Nat × BitVec 64) :=
  jobs.foldl (fun m j => match m with
    | none => some j
    | some b => if ahead off (eOffset j.2) < ahead off (eOffset b.2) then some j else some b) none

/-- The sample set of a JOB entry, as (key, entry) of its SAMPLE entries (R200). -/
def sampleSet (es : List (Nat × BitVec 64)) (job : Nat × BitVec 64) : List (Nat × BitVec 64) :=
  let jobs := jobsOf es (eCtx job.2)
  es.filter fun p => eAction p.2 = 1 && eCtx p.2 = eCtx job.2 && ((firstFrom jobs (eOffset p.2)).map (·.1)) = some job.1

/-- The first JOB entry of a context that follows an offset, cyclically (R278): one at the offset itself comes last. -/
def nextJob (es : List (Nat × BitVec 64)) (c off : Nat) : Option (Nat × BitVec 64) := firstFrom (jobsOf es c) (off + 1)

/-- Lowest SCALE among some gangs; 0 for none (R106, R295, R384). -/
def lowScale (d : Dev) (gs : List Nat) : Nat :=
  match gs.map fun g => d.fld (gangP g) GANG.LIVE.SCALE with
  | [] => 0
  | s :: ss => ss.foldl min s

/-- LIVESCALE of a context, in 1/256 (R259). -/
def liveScale (d : Dev) (c : Nat) : Nat :=
  match ctxOwner d c with
  | some (.axis a) => lowScale d (axisOwned d a)
  | some (.conv k) => lowScale d (convOwned d k)
  | _ => 256

end Sys2Proof.Machine
end

