-- ==== Sys2Proof/Machine/Modulator.lean ====
section
/-!
DEFINITION. The modulator and the gang manager at a reload: duties, dither, windows and edges, refresh, full-face periods,
shedding, rotation (R87 to R101, R164 to R186).
-/

namespace Sys2Proof.Machine

/-! ### Duties (R170 to R176) -/

def sdutyA (f g : Nat) : Nat := frameP f + 0x200 + 4 * g
def mdutyA (f g : Nat) : Nat := frameP f + 0x100 + 4 * g

/-- R171: bit `g` of MSEL; MSEL is a 64-bit value. -/
def mselBit (d : Dev) (f g : Nat) : Bool :=
  if g < 32 then bitOf (d.reg (frameP f + 0x054)) g else bitOf (d.reg (frameP f + 0x058)) (g - 32)

/-- A frame runs; one that waits for its lock instant does not (log 36). -/
def frameRun (d : Dev) (f : Nat) : Bool := d.on (frameP f) FRAME.STAT.RUN
def peff (d : Dev) (f : Nat) : Nat := d.fld (frameP f) FRAME.STAT.PEFF
def pcount (d : Dev) (f : Nat) : Nat := d.fld (frameP f) FRAME.STAT.PCOUNT

/-- What the modulator does with an engine duty: keep it, discard it without an event, or discard it under R172. -/
inductive DutyFate where
  | kept | silent | missed
deriving DecidableEq, Repr

/-- LATELOG, its event and its count for a duty discarded under R172; on the tick of a reload the counter is 0. -/
def logDuty (f g tag : Nat) (ahead : Bool) (d : Dev) : Dev :=
  let p := frameP f
  let count := d.now - (if (d.frame f).next ≤ d.now then (d.frame f).next else (d.frame f).reload)
  let w := 2 ^ 31 + b2n ahead * 2 ^ 30 + g * 2 ^ 24 + tag * 2 ^ 16 + count % 2 ^ 16
  let d := d.setReg (p + 0x070) (BitVec.ofNat 32 w)
  if ahead then (d.raise p FRAME.EVT.DUTY_AHEAD).bump p FRAME.COUNT2.AHEAD_COUNT
  else (d.raise p FRAME.EVT.DUTY_LATE).bump p FRAME.COUNT.LATE_COUNT

/-- R171, R172, R186: an engine duty lands for gang `g`. -/
def landDuty (g tag duty : Nat) (d : Dev) : Dev × DutyFate :=
  let f := gangFrame d g
  let p := frameP f
  if d.mode = .halt || !frameRun d f then (d, .silent)
  else if mselBit d f g then (d, .silent)
  else
    let n := (pcount d f + 1) % 256
    let diff := (tag + 256 - n) % 256
    if diff = 0 then
      if d.now + d.fld p FRAME.LATE.LATE ≤ (d.frame f).next then
        (d.setGang g { d.gang g with engWet := some (duty % 2 ^ 20) }, .kept)
      else (logDuty f g tag false d, .missed)
    else (logDuty f g tag (decide (diff < 128)) d, .missed)

/-- SDUTY of a gang (R174, R176). -/
def sdutyWord (valid src held refr : Bool) (duty : Nat) : Word :=
  BitVec.ofNat 32 (b2n valid * 2 ^ 31 + b2n src * 2 ^ 30 + b2n held * 2 ^ 29 + b2n refr * 2 ^ 28 + duty % 2 ^ 20)

/-- R174, R176: the duty of a gang at a reload of its frame. -/
def reloadDuty (f g : Nat) (d : Dev) : Dev :=
  let a := sdutyA f g
  let p := frameP f
  let old := d.reg a
  let r := d.gang g
  if mselBit d f g then
    let d := d.setGang g { r with engWet := none, held := 0 }
    d.setReg a (sdutyWord true true false false (bits (d.reg (mdutyA f g)) 0 20))
  else match r.engWet with
    | some v => (d.setGang g { r with engWet := none, held := 0 }).setReg a (sdutyWord true false false false v)
    | none =>
      if !bitOf old 31 then d
      else
        let d := d.setReg a (sdutyWord true false true false (bits old 0 20))
        let d := (d.raise p FRAME.EVT.DUTY_HELD).bump p FRAME.COUNT.HELD_COUNT
        let h := r.held + 1
        let m := d.fld p FRAME.DHOLD.HOLD_MAX
        if m ≠ 0 && m ≤ h then
          ((d.setGang g { r with held := 0 }).raise p FRAME.EVT.STARVED).send (faultOf p 12 g)
        else d.setGang g { r with held := h }

/-! ### Dither and windows (R177 to R184) -/

/-- The order of four bits reversed (R177). -/
def bitrev4 (x : Nat) : Nat := x % 2 * 8 + x / 2 % 2 * 4 + x / 4 % 2 * 2 + x / 8 % 2

/-- R177: the integer duty of the leg at live-list index `i`, held to the period (R170). -/
def dithered (duty j i p : Nat) : Nat :=
  let dd := duty / 16
  min p (if bitrev4 ((j + i) % 16) < duty % 16 then dd + 1 else dd)

/-- Gate states after a list of edges. -/
def applyEdges (gh gl : Bool) : List (Nat × Gate × Bool) → Bool × Bool
  | [] => (gh, gl)
  | (_, .gh, v) :: es => applyEdges v gl es
  | (_, .gl, v) :: es => applyEdges gh v es

/-- R181: an edge that commands the state a gate already holds is not issued. -/
def dropSame (gh gl : Bool) : List (Nat × Gate × Bool) → List (Nat × Gate × Bool)
  | [] => []
  | (t, .gh, v) :: es => if v = gh then dropSame gh gl es else (t, .gh, v) :: dropSame v gl es
  | (t, .gl, v) :: es => if v = gl then dropSame gh gl es else (t, .gl, v) :: dropSame gh v es

/-- R181: a turn-on whose gate the known edges turn off fewer than 12 ticks later is not issued. -/
def dropShort : List (Nat × Gate × Bool) → List (Nat × Gate × Bool)
  | [] => []
  | (t, g, v) :: es =>
    let es' := dropShort es
    if v && (es.any fun (u, h, w) => h = g && !w && decide (u < t + 12)) then es' else (t, g, v) :: es'

/-- R178, R179, R182: the edges of a window that starts at `w` with the gates as the window before left them (log 46). -/
def windowEdges (w p d lh hl : Nat) (refresh gh gl : Bool) : List (Nat × Gate × Bool) :=
  let d := if refresh then min d (p - lh - hl - 72) else d
  let d := if d < 12 then 0 else d
  if d = 0 then
    if gl then []
    else if gh then [(w + lh, .gh, false), (w + lh + hl, .gl, true)]
    else [(w + lh + hl, .gl, true)]
  else if p < d + lh + hl + 12 && !refresh then [(w, .gl, false), (w + lh, .gh, true)]
  else [(w, .gl, false), (w + lh, .gh, true), (w + lh + d, .gh, false), (w + lh + d + hl, .gl, true)]

/-- The commanded GL on-interval of a window (R178, R179, R182). -/
def glInterval (p d lh hl : Nat) (refresh : Bool) : Nat :=
  let d := if refresh then min d (p - lh - hl - 72) else d
  if d < 12 then p else if refresh then p - d - lh - hl else if p < d + lh + hl + 12 then 0 else p - d - lh - hl

/-- What a leg takes in a period. -/
inductive LegTurn where
  /-- an active window from `w`, with its integer duty, taken as a refresh window or not -/
  | window (w d : Nat) (refresh : Bool)
  /-- a lone GL pulse of a shed leg or of a spare, in the window that starts at `w` (R183, R184) -/
  | pulse (w : Nat) (shed : Bool)
  /-- no edge of its own -/
  | rest (shed : Bool)
  /-- both gates low -/
  | low
deriving DecidableEq, Repr

/-- What a plan leaves at tick `t`: the gates it has set and its edges still to come; a lone GL pulse lasts 72 ticks, past a
reload too (R181). -/
def planLeft (pl : LegPlan) (t : Nat) : (Bool × Bool) × List (Nat × Gate × Bool) :=
  (applyEdges pl.gh pl.gl (pl.edges.filter fun e => decide (e.1 < t)), pl.edges.filter fun e => decide (t ≤ e.1))

/-- What a plan leaves at a reload on tick `t`: nothing where the leg has stopped since the reload before (R150, R180). -/
def planFrom (pl : LegPlan) (t : Nat) : (Bool × Bool) × List (Nat × Gate × Bool) :=
  if pl.stop then ((false, false), []) else planLeft pl t

/-- The edges that turn off what is on at the reload (R180). -/
def offEdges (t : Nat) (gh gl : Bool) : List (Nat × Gate × Bool) :=
  (if gh then [(t, Gate.gh, false)] else []) ++ (if gl then [(t, Gate.gl, false)] else [])

/-- Edges issued before tick `t` that are still on their way to the drive die (R21). -/
def underWay (pl : LegPlan) (t now : Nat) : List (Nat × Gate × Bool) :=
  pl.due.filter fun e => decide (e.1 < t) && decide (now ≤ e.1 + 24)

/-- R180: lay out one leg's period that begins at reload `t`. Where the leg has stopped in the period before, edges of that period
that are still on their way do not act (R150). A leg that ceases to be active turns both gates off at the
reload; a lone pulse under way ends on its own edge (R181). -/
def planLeg (t p : Nat) (turn : LegTurn) (n : Nat) (d : Dev) : Dev :=
  let pl := d.plan n
  let lh := d.fld (legP n) LEG.DEAD.DT_LH
  let hl := d.fld (legP n) LEG.DEAD.DT_HL
  let left := planFrom pl t
  let lay := fun (es : List (Nat × Gate × Bool)) (act shed : Bool) =>
    d.setPlan n { gh := left.1.1, gl := left.1.2, edges := es, active := act, shed := shed, due := underWay pl t d.now ++ es,
                  stop := false, since := if pl.stop then t else pl.since }
  let tail := if pl.active then offEdges t left.1.1 left.1.2 else left.2
  match turn with
  | .low => lay (offEdges t left.1.1 left.1.2) false false
  | .rest shed => lay tail false shed
  | .pulse w shed => lay (tail ++ [(w + p - lh - 72, .gl, true), (w + p - lh, .gl, false)]) false shed
  | .window w dt refresh =>
    let kept := left.2.filter fun e => decide (e.1 < w)
    let (gh1, gl1) := applyEdges left.1.1 left.1.2 kept
    lay (dropSame left.1.1 left.1.2 (dropShort (kept ++ windowEdges w p dt lh hl refresh gh1 gl1))) true false

/-! ### The gang manager at a reload -/

/-- R97, R99: a full-face trigger reaches a gang. -/
def ffArrive (g : Nat) (d : Dev) : Dev :=
  if !gangEn d g then d
  else
    let next := (d.frame (gangFrame d g)).next
    if d.on (gangP g) GANG.STAT.FF_NOW && d.now + 8 ≤ next then d
    else match (d.gang g).ffTrig with
      | some _ => d
      | none => d.setGang g { d.gang g with ffTrig := some d.now }

/-- R97: the triggers of a source and index reach every enabled gang that names them (log 32). -/
def ffTrigger (src idx : Nat) (d : Dev) : Dev :=
  each (enabledGangs d) (fun g d =>
    if d.on (gangP g) GANG.FF.EN && d.fld (gangP g) GANG.FF.SRC = src && d.fld (gangP g) GANG.FF.INDEX = idx
    then ffArrive g d else d) d

/-- R93: no load measure for `age` periods. -/
def staleAt (g age : Nat) (d : Dev) : Dev :=
  let p := gangP g
  if (d.gang g).loadNew || age < 4 || d.on p GANG.STAT.LOAD_STALE || !gangEn d g then d
  else
    let l := d.fld p GANG.LIVE.LIVE
    let d := (d.raise p GANG.STAT.LOAD_STALE).raise p GANG.EVT.LOAD_STALE
    (d.setFld p GANG.LIVE.ACTIVE l).setGang g { d.gang g with act := l }

/-- R93, LOAD_STALE sent at the reload: the period that ends there counts. -/
def loadStale (g : Nat) (d : Dev) : Dev :=
  let age := (d.gang g).loadAge
  staleAt g (if d.now = (d.frame (gangFrame d g)).next then age + 1 else age) d

/-- R93: a write of the load measure. -/
def setLoad (g v : Nat) (d : Dev) : Dev :=
  (d.setFld (gangP g) GANG.LOAD.LOAD v).setGang g { d.gang g with loadNew := true }

/-- The slots that keep a rank: live ones, and dark ones until the re-gang (R89, R102). -/
def rankList (d : Dev) (g : Nat) : List Nat :=
  ((d.gang g).occ).filterMap fun o =>
    let n := globalLeg d g o.leg
    if !o.lost && ((d.leg n).dark || legLive d n) then some n else none

/-- R94: decisions on the load measure, for `a` active of `l` live legs. -/
def shedDecide (g a l : Nat) (d : Dev) : Dev :=
  let p := gangP g
  let r := d.gang g
  let m := d.fld p GANG.LOAD.LOAD
  if d.fld p GANG.SHED_LVL.ADD_AT * a < m && a < l then d.setGang g { r with pend := .add, dwell := 0 }
  else if r.holdoff = 0 && max 1 (d.fld p GANG.SHED.MIN_ACTIVE) < a && m < d.fld p GANG.SHED_LVL.SHED_AT * (a - 1) then
    let c := r.dwell + 1
    if d.fld p GANG.SHED.DWELL ≤ c then
      (d.setGang g { r with pend := .shed, dwell := c }).raise p GANG.STAT.SHED_PEND
    else d.setGang g { r with dwell := c }
  else d.setGang g { r with dwell := 0 }

/-- R93 to R100: the active count of the period that begins at reload `t`; true for a full-face period. A
trigger outlives a commit that clears FF.EN, and HOLDOFF reads 1 from the reload that begins the full-face period (DESIGN CHOICE,
log 109). -/
def activeCount (g t l : Nat) (d : Dev) : Dev × Nat × Bool :=
  let p := gangP g
  let r := d.gang g
  let wasFf := d.on p GANG.STAT.FF_NOW
  let ff := d.on p GANG.FF.EN && (match r.ffTrig with | some x => decide (x + 8 ≤ t) | none => false)
  let a0 := if r.act = 0 then l else r.act
  let shedOn := d.on p GANG.SHED.EN && !d.on p GANG.STAT.LOAD_STALE
  if ff then
    let d := if r.pend = .shed then d.raise p GANG.EVT.SHED_ABANDONED else d
    let d := d.setGang g { r with ffTrig := none, pend := .none, dwell := 0, holdoff := d.fld p GANG.SHED.HOLDOFF }
    let d := ((d.raise p GANG.STAT.FF_NOW).raise p GANG.EVT.FF).bump p GANG.COUNT.FF_COUNT
    ((d.lower p GANG.STAT.SHED_PEND).setFld p GANG.STAT.HOLDOFF (b2n (d.fld p GANG.SHED.HOLDOFF ≠ 0)), l, true)
  else
    let d := d.lower p GANG.STAT.FF_NOW
    let hold := if wasFf then r.holdoff else r.holdoff - 1
    let d := d.setFld p GANG.STAT.HOLDOFF (b2n (hold ≠ 0))
    let (d, a) :=
      if !shedOn || wasFf then (d.setGang g { r with pend := .none, dwell := 0, holdoff := hold }, l)
      else match r.pend with
        | .none => (d.setGang g { r with holdoff := hold }, a0)
        | .add => (d.setGang g { r with pend := .none, dwell := 0, holdoff := hold }, a0 + 1)
        | .shed => ((d.setGang g { r with pend := .none, dwell := 0, holdoff := hold }).bump p GANG.COUNT.SHED_COUNT, a0 - 1)
    let a := if l = 0 then 0 else max 1 (min a l)
    let d := d.lower p GANG.STAT.SHED_PEND
    (if shedOn && 0 < l then shedDecide g a l d else d, a, false)

/-- R146: whether a leg's period qualifies for presence. -/
def qualifies (g n interval : Nat) (d : Dev) : Bool :=
  !d.on (gangP g) GANG.STAT.LOAD_STALE &&
    decide (d.fld (gangP g) GANG.PRES.PRES_LEVEL < d.fld (gangP g) GANG.LOAD.LOAD) &&
    decide (4 * bits (d.die (n / 64)).cfg 24 8 ≤ interval)

/-- R128, R146: what a reload notes for a leg, before its period is laid out: the presence mark, the first edge to come, its
periods of strong drive, which start anew for a leg that has stopped since the reload before. -/
def noteLeg (n first : Nat) (mark sw : Bool) (d : Dev) : Dev :=
  let r := d.leg n
  let r := { r with presMark := mark, firstEdge := some first }
  let r := if sw then
      if r.sw && !(d.plan n).stop then { r with strongLeft := r.strongLeft - 1 }
      else { r with sw := true, strongLeft := 64, adaptive := false }
    else { r with sw := false, adaptive := false }
  d.setLeg n r

/-- R97 to R98, R177 to R184: lay out every leg of a gang for the period that begins at reload `t`. `ranks` is the rank
list, `rot` the rotation count, `a` the active count. DUTY_MIN × P ÷ 256 is floored to whole ticks, and idle spares pulse while
SDUTY.VALID is 0 (DESIGN CHOICE, log 109). -/
def layGang (f g t p j rot a : Nat) (ff : Bool) (ranks : List Nat) (d : Dev) : Dev :=
  let gp := gangP g
  let n := ranks.length
  let duty0 := bits (d.reg (sdutyA f g)) 0 20
  let duty := if ff then max duty0 (d.fld gp GANG.FF.DUTY_MIN * p / 256 * 16) else duty0
  let ph := d.fld gp GANG.CFG.PHASE % p
  let live := gangSwitching d g && bitOf (d.reg (sdutyA f g)) 31
  let refrEn := d.on (frameP f) FRAME.REFR.EN
  let dmax := d.fld (frameP f) FRAME.REFR.DMAX
  let idx := ranks.zipIdx
  let isAct := fun i => ff || decide ((i + n - rot % max 1 n) % max 1 n < a)
  let off := fun i => if ff then ph else (ph + (i + n - rot % max 1 n) % max 1 n * p / max 1 a) % p
  let legDmax := fun m => min dmax (p - 72 - d.fld (legP m) LEG.DEAD.DT_LH - d.fld (legP m) LEG.DEAD.DT_HL)
  let r := d.gang g
  let fires := fun m => !(d.leg m).dark && legLive d m
  -- R183: the refresh pointer runs over the live legs; R184: a REFRESH entry gives one more
  let lives := ranks.filter fires
  let due := refrEn && idx.any fun (m, i) => fires m && (!isAct i || decide (legDmax m < dithered duty j i p))
  let turns := if live then b2n due + r.refreshNext else 0
  let l := lives.length
  let rp := if l = 0 then 0 else r.refPtr % l
  let pointed := (List.range (min turns l)).map fun k => lives.getD ((rp + k) % l) 0
  let wants := fun m => fires m && ((d.leg m).refreshOwed || pointed.contains m)
  let forced := live && ranks.any fun m => fires m && (d.leg m).refreshOwed
  let turn := fun m i =>
    if !live then LegTurn.low
    else if !fires m then LegTurn.low
    else if isAct i then LegTurn.window (t + off i) (dithered duty j i p) (wants m)
    else if wants m then LegTurn.pulse (t + ph) true else LegTurn.rest true
  let mark := fun m i => live && isAct i &&
    qualifies g m (glInterval p (dithered duty j i p) (d.fld (legP m) LEG.DEAD.DT_LH) (d.fld (legP m) LEG.DEAD.DT_HL) (wants m)) d
  let d := idx.foldl (fun d' (m, i) =>
    let first := match turn m i with | .window w _ _ => w | _ => t
    let d' := noteLeg m first (mark m i) (live && fires m) d'
    let d' := planLeg t p (turn m i) m d'
    if live && wants m then d'.setLeg m { d'.leg m with refreshOwed := false } else d') d
  -- legs of the gang that keep no rank: held, removed, or spares (R87, R184)
  let spares := (spareFree d g).map fun (e, l) => (e, globalLeg d g l)
  let rest := (gangLegs d g).filter fun m => !ranks.contains m
  let pc := pcount d f
  let pulses := fun m => match spares.find? fun s => s.2 = m with
    | some (e, _) => gangSwitching d g && !d.on gp GANG.CFG.SPREF_OFF && decide (pc % 32 = 8 * e)
    | none => false
  let d := rest.foldl (fun d' m =>
    let turn := if !gangSwitching d g || !(spares.any fun s => s.2 = m) then LegTurn.low
      else if pulses m then .pulse (t + ph) false else .rest false
    planLeg t p turn m (noteLeg m t false false d')) d
  let d := d.setGang g { d.gang g with refPtr := if l = 0 then 0 else (rp + turns) % l, refreshNext := 0 }
  let d := if forced then d.raise (frameP f) FRAME.EVT.FORCED_REFR else d
  let anyRefr := (live && ranks.any wants) || rest.any pulses
  let d := d.setReg (sdutyA f g) (setBits (d.reg (sdutyA f g)) 28 1 (b2n anyRefr))
  d.setFld gp GANG.STAT.RUN (b2n live)

/-- Whether the re-gang point of a gang has come at a reload on tick `t` (R103): as a commit armed when the slot went dark. -/
def regangDue (hasCp : Bool) (t : Nat) (a : Arm) : Bool := if hasCp then a.ready else decide (a.at_ < t)

/-- Everything the gang manager does for a gang at a reload of its frame on tick `t` with period `p` and dither `j`. -/
def reloadGang (f t p j : Nat) (hasCp : Bool) (g : Nat) (d : Dev) : Dev :=
  let gp := gangP g
  let d := reloadDuty f g d
  let wasShut := d.on gp GANG.STAT.SHUT
  let d := match (d.gang g).regang with
    | some a => if regangDue hasCp t a then regang d g else d
    | none => d
  let weak := !wasShut && d.on gp GANG.STAT.SHUT
  let d := if (d.gang g).loadNew then (d.setGang g { d.gang g with loadNew := false, loadAge := 0 }).lower gp GANG.STAT.LOAD_STALE
    else if (d.gang g).fresh then d
    else staleAt g ((d.gang g).loadAge + 1) (d.setGang g { d.gang g with loadAge := (d.gang g).loadAge + 1 })
  let d := d.setGang g { d.gang g with fresh := false }
  let ranks := rankList d g
  let n := ranks.length
  let rot0 := if n = 0 then 0 else d.fld gp GANG.STAT.ROT % n
  let mode := d.fld gp GANG.CFG.ROT
  let rot := if n = 0 then 0 else if mode = 0 then 0
    else if mode = 1 || (mode = 2 && (d.gang g).rotate) then (rot0 + 1) % n else rot0
  let d := (d.setGang g { d.gang g with rotate := false }).setFld gp GANG.STAT.ROT rot
  let (d, a, ff) := activeCount g t n d
  let d := d.setGang g { d.gang g with act := a }
  let l := (liveList d g).length
  let lives := (liveList d g).map (·.2)
  let firing := (ranks.zipIdx.filter fun (m, i) => lives.contains m && (ff || decide ((i + n - rot % max 1 n) % max 1 n < a))).length
  let d := if weak then d else showGang d g l firing
  let d := if standing d g = 0 && !(d.gang g).occ.isEmpty && !d.on gp GANG.STAT.SHUT then understrength d g else d
  layGang f g t p j rot a ff ranks d

end Sys2Proof.Machine
end

