-- ==== Sys2Proof/Machine/Engine.lean ====
section
/-!
DEFINITION. The engine: contexts, slots, lanes, work from ready to commit, run-ahead, context resets (R250 to R289).
-/

namespace Sys2Proof.Machine

/-! ### Chains and reports (R289) -/

def chainA (c : Nat) : Nat := engP + 0x100 + 4 * c
def chainWord (d : Dev) (c : Nat) : Word := d.reg (chainA c)
def chainEn (d : Dev) (c : Nat) : Bool := bitOf (chainWord d c) 31
def chainFirst (w : Word) : Nat := bits w 0 12
def chainNst (w : Word) : Nat := bits w 18 6

def cstatA (c : Nat) : Nat := engP + 0x400 + 4 * c
def setCstat (c lo n v : Nat) (d : Dev) : Dev := d.setReg (cstatA c) (setBits (d.reg (cstatA c)) lo n v)

/-- An engine event: its EVT bit and EVTLOG. -/
def engEvt (kind ctx detail : Nat) (d : Dev) : Dev :=
  let d := d.raiseBit (engP + 0x044) kind
  d.setReg (engP + 0x054) (BitVec.ofNat 32 (2 ^ 31 + kind * 2 ^ 27 + ctx * 2 ^ 16 + detail % 2 ^ 12))

def ctxResetting (d : Dev) (c : Nat) : Bool := d.eng.resets.any fun r => r.ctx = c

/-- STATE of CSTAT. -/
def ctxState (d : Dev) (c : Nat) : Nat :=
  if ctxResetting d c then 6
  else match (d.eng.works.find? fun w => w.ctx = c && !w.dead).orElse fun _ => d.eng.works.find? fun w => w.ctx = c with
    | none => 0
    | some w =>
      if w.lane.isNone && !w.done then 1
      else if w.kind = 2 then if w.done then 4 else 3
      else if w.kind = 0 then 5 else 2

/-- STAT and CSTAT.STATE follow the work. -/
def showEng (c : Nat) (d : Dev) : Dev :=
  let ws := d.eng.works
  let busy := ws.foldl (fun b w => match w.lane with | some l => b ||| 2 ^ l | none => b) 0
  let spec := ((ws.filter fun w => w.kind = 2 && (w.lane.isSome || w.done)).map (·.ctx)).eraseDups.length
  let q := min 255 (ws.filter fun w => w.lane.isNone && !w.done).length
  let d := d.setReg (engP + 0x040) (BitVec.ofNat 32 (q * 2 ^ 20 + spec * 2 ^ 12 + busy))
  setCstat c 28 4 (ctxState d c) d

def sameWork (a b : Work) : Bool := a.ctx == b.ctx && a.kind == b.kind && a.readyAt == b.readyAt && a.key == b.key

def putWork (w : Work) (d : Dev) : Dev :=
  showEng w.ctx (d.setEng fun r => { r with works := r.works.map fun x => if sameWork x w then w else x })

def swapWork (w w1 : Work) (d : Dev) : Dev :=
  showEng w.ctx (d.setEng fun r => { r with works := r.works.map fun x => if sameWork x w then w1 else x })

def addWork (w : Work) (d : Dev) : Dev := showEng w.ctx (d.setEng fun r => { r with works := r.works ++ [w] })

/-- R287: a pending reset begins once none of the context's work is running; what is held or has not started is discarded
where it is speculative. Work that has completed and waits for its duties to land still runs (log 105). -/
def resetBegin (c : Nat) (d : Dev) : Dev :=
  let running := d.eng.works.any fun w => w.ctx = c && (w.lane.isSome || (w.done && (w.kind ≠ 2 || w.passed)))
  if running || !ctxResetting d c then d
  else showEng c (d.setEng fun r => { r with
    resets := r.resets.map fun x => if x.ctx = c then { x with begun := true } else x,
    works := r.works.filter fun w => !(w.ctx = c && w.kind = 2) })

def dropWork (w : Work) (d : Dev) : Dev :=
  resetBegin w.ctx (showEng w.ctx (d.setEng fun r => { r with works := r.works.filter fun x => !sameWork x w }))

/-- CYC: the stage-cycles of a stage that has completed or whose run is squashed join the count; those of stages under way show in
its reads (R250, `engCycles`). -/
def addCycles (n : Nat) (d : Dev) : Dev :=
  let c := (d.reg (engP + 0x064)).toNat * 2 ^ 32 + (d.reg (engP + 0x060)).toNat + n
  (d.setReg (engP + 0x060) (BitVec.ofNat 32 c)).setReg (engP + 0x064) (BitVec.ofNat 32 (c / 2 ^ 32))

/-- A speculative run of a context that nothing has discarded and no verification has passed. -/
def specOf (c : Nat) (w : Work) : Bool := w.ctx = c && w.kind = 2 && !w.passed && !w.dead

/-- R283, R284: a speculative run that has not passed verification is discarded without an event. One that is running runs to
its end and sets nothing (R250). Where `waiting` is false, one that has not started is kept (R284). -/
def dropSpec (waiting : Bool) (c : Nat) (d : Dev) : Dev :=
  let kept := d.eng.works.filter fun w => !(specOf c w && w.lane.isNone && (waiting || w.done))
  let works := kept.map fun w => if specOf c w && w.lane.isSome then { w with dead := true } else w
  resetBegin c (showEng c (d.setEng fun r => { r with works := works }))

/-- R281: a squashed run frees its lane at once. -/
def squashSpec (c : Nat) (d : Dev) : Dev :=
  let d := addCycles (((d.eng.works.filter (specOf c)).map fun w => if w.lane.isSome then d.now - w.began else 0).sum) d
  resetBegin c (showEng c (d.setEng fun r => { r with works := r.works.filter fun w => !specOf c w }))

/-- R275, R282, R283: work is discarded: it sets nothing, and runs on to its end. -/
def missWork (w : Work) (d : Dev) : Dev :=
  if w.dead then d
  else
    let d := dropSpec true w.ctx (putWork { w with dead := true } d)
    (engEvt 0 w.ctx 0 (setCstat w.ctx 18 1 1 d)).bump engP ENG.COUNT.DEADLINE_MISS

/-! ### Work becomes ready (R201, R251, R278 to R281) -/

def newWork (d : Dev) (c kind frame key tag : Nat) (inputs : List Nat) : Work :=
  { ctx := c, kind := kind, frame := frame, key := key, tag := tag, inputs := inputs, readyAt := d.now, lane := none, idx := 0,
    began := 0, first := 0, nst := 0, slot := [], ins := [], refs := [], live := 0, pred := false, written := [], sat := none,
    held := [], land := [], off := eOffset (entryAt d key), duty := false, slack := 0, done := false, passed := false, dead := false }

/-- R202, R283: earlier work of the context that has not finished. -/
def unfinished (d : Dev) (c : Nat) : Bool :=
  d.eng.works.any (fun w => w.ctx = c && (w.kind ≠ 2 || w.passed)) || d.eng.verifs.any fun v => v.ctx = c

/-- A JOB's work becomes ready: nothing for a disabled chain (R277), a verification where a speculative run waits (R279),
else a normal job. The caller has dropped overruns. -/
def jobStarts (c frame key tag : Nat) (inputs : List Nat) (nowait : Bool) (d : Dev) : Dev :=
  if !chainEn d c then engEvt 8 c 0 d
  else if d.eng.works.any (specOf c) then
    d.setEng fun r => { r with verifs := r.verifs ++ [⟨c, frame, key, tag, inputs, eOffset (entryAt d key), nowait, d.now + 2⟩] }
  else addWork (newWork d c 1 frame key tag inputs) d

/-! ### Starting work (R251, R255) -/

def workBefore (a b : Work) : Bool :=
  if a.readyAt ≠ b.readyAt then decide (a.readyAt < b.readyAt)
  else if a.kind ≠ b.kind then decide (a.kind < b.kind)
  else decide (a.ctx < b.ctx)

def firstWork : List Work → Option Work
  | [] => none
  | w :: ws => match firstWork ws with
    | none => some w
    | some v => some (if workBefore v w then v else w)

/-- The work a lane takes next. -/
def waitingWork (d : Dev) : Option Work :=
  firstWork (d.eng.works.filter fun w => w.lane.isNone && !w.done && decide (w.readyAt ≤ d.now) && !ctxResetting d w.ctx)

/-- The lowest lane that runs nothing (log 62). -/
def freeLane (d : Dev) : Option Nat := (List.range 4).find? fun l => !(d.eng.works.any fun w => w.lane = some l)

/-- R288: an ECC report of the engine, for the work's context or for its slot (log 24). -/
def engEcc (kind ctx : Nat) (slot : Option Nat) : FaultMsg :=
  { faultOf engP kind (match slot with | some s => 2 ^ 13 + s | none => ctx) with full := BitVec.ofNat 32 ctx }

/-- R252, R253, R430: a read of a word of a context is the one an armed session waits for: IN and REF lie at both half addresses,
any other word in the speculative half where the work has written it, else in the set half. -/
def wordHit (d : Dev) (w : Work) (i : Nat) : Bool :=
  let a := 0x30000000 + 0x400 * w.ctx + 4 * i
  if i < 16 || (wREF ≤ i && i < wSIG) then injHit d a 4 || injHit d (a + 0x200) 4
  else if w.written.any fun p => p.1 = i then injHit d (a + 0x200) 4
  else injHit d a 4

/-- R255: the IN and REF words that a work latches on its first tick: those that a stage of its chain reads. A speculative run takes
the PRE words in place of IN (R278). -/
def latchWords (d : Dev) (w : Work) : List Nat :=
  ((List.range (w.nst + 1)).flatMap fun k => stageReads (stageOf (slotNow d (w.first + k)))).filterMap fun i =>
    if i < 16 then some (if w.kind = 2 then wPRE + i else i) else if wREF ≤ i && i < wSIG then some i else none

/-- R288, R430: the engine's checker finds the injected error on a word of its context: corrected, or the work is discarded. -/
def latchCheck (w : Work) (d : Dev) : Dev :=
  if !(latchWords d w).any (wordHit d w) then d
  else if injEcc d = .corrected then injSend (engEcc 16 w.ctx none) d
  else missWork w (injSend (engEcc 17 w.ctx none) d)

/-- WORK_START: the lowest free lane takes the first waiting work, which latches its inputs. -/
def workStart (d : Dev) : Dev :=
  match freeLane d, waitingWork d with
  | some l, some w =>
    let c := w.ctx
    let ch := chainWord d c
    let ins := (List.range 16).map fun i => ctxWord d c (if w.kind = 2 then wPRE + i else i)
    let pred := w.kind ≠ 2 && w.inputs.any fun i => bitOf (ctxWord d c i) 31
    let live := liveScale d c
    let w := { w with
      lane := some l, began := d.now, first := chainFirst ch, nst := chainNst ch, slot := slotNow d (chainFirst ch), ins := ins,
      refs := (List.range 8).map fun i => ctxWord d c (wREF + i), live := live, pred := pred }
    latchCheck w (putWork w d)
  | _, _ => d

/-! ### Side effects (R270 to R273) -/

/-- A duty of a DUTY_OUT in 1/16 tick, of a number in [0, 1]; none where the gang is not on the JOB's frame (R272). -/
def dutyFor (d : Dev) (frame g : Nat) (v : Dy) : Option Nat :=
  if gangEn d g && gangFrame d g = frame then some ((v.mul ⟨16 * peff d frame, 0⟩).round 0).toNat else none

/-- An event pulse (R270): event 0 to 63 to the gang manager, and IRQ. -/
def pulseEvent (c ev : Nat) (irq : Bool) (d : Dev) : Dev :=
  ffTrigger 1 ev (if irq then engEvt 3 c ev d else d)

/-- A side effect that a completing stage makes: handed on now, or held by a speculative run. A held duty, too, is tested here for
its gang's enable and frame, not where it is handed on (DESIGN CHOICE, log 50). -/
def stageEffect (w : Work) (e : Effect) (d : Dev) : Work × Dev :=
  let hold := w.kind = 2
  match e with
  | .duty g v =>
    match dutyFor d w.frame g v with
    | none => (w, engEvt 9 w.ctx 0 d)
    | some x => if hold then ({ w with held := w.held ++ [.duty g x] }, d) else ({ w with land := w.land ++ [(g, x, d.now + 2)], duty := true }, d)
  | .load g v => if hold then ({ w with held := w.held ++ [.load g v] }, d) else (w, setLoad g v d)
  | .pulse ev irq => if hold then ({ w with held := w.held ++ [.pulse ev irq] }, d) else (w, pulseEvent w.ctx ev irq d)

/-- R280: a verified run that has completed hands on what it held, together. -/
def handOn (w : Work) (d : Dev) : Work × Dev :=
  w.held.foldl (fun (w, d) h => match h with
    | .duty g v => ({ w with land := w.land ++ [(g, v, d.now + 2)], duty := true }, d)
    | .load g v => (w, setLoad g v d)
    | .pulse ev irq => (w, pulseEvent w.ctx ev irq d)) ({ w with held := [] }, d)

/-! ### Running (R250, R258, R288) -/

/-- The work's view of its context's half (R253, R255). -/
def workWord (d : Dev) (w : Work) (i : Nat) : Word :=
  if i < 16 then w.ins.getD i 0
  else if wREF ≤ i ∧ i < wSIG then w.refs.getD (i - wREF) 0
  else match w.written.find? fun p => p.1 = i with
    | some p => p.2
    | none => ctxWord d w.ctx i

def stageEnv (d : Dev) (w : Work) : StageEnv :=
  { src := sourceOf (workWord d w) w.live w.pred, word := workWord d w, live := w.live,
    fr := fun i => Config.freeValue (d.free + i) }

/-- Free values one stage may draw (log 24). -/
def stageDraws : Nat := 2

/-- The next stage begins, or the work is done and frees its lane. Discarded work hands nothing on (R275); a run that completes
unverified while a reset waits is held, and so discarded (R287). -/
def stageNext (w : Work) (d : Dev) : Dev :=
  if w.nst ≤ w.idx then
    let w := { w with lane := none, done := true }
    let (w, d) := if w.kind = 2 && w.passed && !w.dead then handOn w d else (w, d)
    if w.dead && w.land.isEmpty then dropWork w d else resetBegin w.ctx (putWork w d)
  else
    putWork { w with idx := w.idx + 1, began := d.now, slot := slotNow d (w.first + w.idx + 1) } d

/-- WORK_RUN: the stage under way on a lane completes. `ecc`: what its words' checkers found; `inSlot`: in the slot and not in
the context. An injected error is met in the slot, which its first cycle read, and in the words that the stage reads (log 24). -/
def workRun (lane : Nat) (ecc : Ecc) (inSlot : Bool) (d : Dev) : Dev :=
  match d.eng.works.find? fun w => w.lane = some lane with
  | none => d
  | some w =>
    let s := stageOf w.slot
    let sn := w.first + w.idx
    if d.now < w.began + stageCost s.type then d
    else
      let d := addCycles (stageCost s.type) d
      let slotHit := d.flt.injAt ≤ w.began && injHit d (0x30040000 + 32 * sn) 32
      let words := (stageReads s).filter fun i => !(i < 16 || (wREF ≤ i && i < wSIG))
      let inj := ecc = .none && (slotHit || words.any (wordHit d w))
      let at_ := if (if inj then slotHit else inSlot) then some sn else none
      let say := fun (m : FaultMsg) (d : Dev) => if inj then injSend m d else d.send m
      match if inj then injEcc d else ecc with
      | .uncorrectable =>
        let d := missWork w (say (engEcc 17 w.ctx at_) d)
        stageNext { w with dead := true } d
      | e =>
        let d := if e = .corrected then say (engEcc 16 w.ctx at_) d else d
        let o := runStage s (stageEnv d w)
        let d := { d with free := d.free + stageDraws }
        let w := { w with
          written := (stageWrites s o).foldl (fun m p => sins p.1 p.2 m) w.written,
          sat := if o.sat && w.sat.isNone then some sn else w.sat }
        let (w, d) := if w.dead then (w, d) else o.fx.foldl (fun (w, d) e => stageEffect w e d) (w, d)
        stageNext w d

/-! ### Landing (R172, R273, R275) -/

/-- ENGINE_DUTY_LANDS: the duties of the earliest landing tick that has come. -/
def dutiesLand (d : Dev) : Dev :=
  let due := d.eng.works.flatMap fun w => w.land.map fun x => x.2.2
  match due.filter fun t => decide (t ≤ d.now) with
  | [] => d
  | t :: ts =>
    let t := ts.foldl min t
    (d.eng.works.filter fun w => w.land.any fun x => x.2.2 = t).foldl (fun d w =>
      let now := w.land.filter fun x => x.2.2 = t
      let rest := w.land.filter fun x => x.2.2 ≠ t
      let (d, missed) := now.foldl (fun (d, m) x =>
        let (d, fate) := landDuty x.1 w.tag x.2.1 d
        (d, m || decide (fate = .missed))) (d, false)
      let cut := (d.frame w.frame).next - d.fld (frameP w.frame) FRAME.LATE.LATE
      let w := { w with land := rest, slack := if frameRun d w.frame then min 4095 (cut - d.now) else 0 }
      let d := putWork w d
      let d := if missed then missWork w d else d
      let w := { w with dead := w.dead || missed }
      if w.dead && w.done && rest.isEmpty then dropWork w d else d) d

/-! ### Commit (R274, R278) -/

/-- The work of a context that is ready to commit. -/
def committable (d : Dev) (c : Nat) : Option Work :=
  d.eng.works.find? fun w => w.ctx = c && w.done && !w.dead && w.land.isEmpty && (w.kind ≠ 2 || (w.passed && w.held.isEmpty))

/-- R274: PRE words that no stage wrote take the code delivered. -/
def refreshPre (w : Work) (d : Dev) : Dev :=
  each (List.range 16) (fun i d =>
    if w.written.any fun p => p.1 = wPRE + i then d
    else
      let x := ctxWord d w.ctx i
      setCtxWord w.ctx (wPRE + i) (BitVec.ofNat 32 (b2n (bitOf x 30) * 2 ^ 31 + bits x 0 14)) d) d

/-- R278: a run-ahead context makes a speculative run ready on a commit. -/
def specReady (w : Work) (d : Dev) : Dev :=
  let c := w.ctx
  let ch := chainWord d c
  let es := frameEntries d w.frame
  match nextJob es c w.off with
  | none => d
  | some j =>
    let ins := (sampleSet es j).map fun p => eSidx p.2
    if bitOf ch 31 && bitOf ch 30 && !ctxResetting d c && ins.all (fun i => bitOf (ctxWord d c (wPRE + i)) 31) then
      addWork (newWork d c 2 w.frame j.1 0 ins) d
    else d

/-- R274: work commits. -/
def commitWork (w : Work) (d : Dev) : Dev :=
  let c := w.ctx
  let d := w.written.foldl (fun d p => setCtxWord c p.1 p.2 d) d
  let d := refreshPre w d
  let n := (bits (ctxWord d c wJSEQ) 0 16 + 1) % 2 ^ 16
  let d := setCtxWord c wJSEQ (BitVec.ofNat 32 (w.tag % 256 * 2 ^ 24 + n)) d
  let keep := bits (d.reg (cstatA c)) 17 1
  let tag := if w.duty then w.tag % 256 else bits (d.reg (cstatA c)) 20 8
  let d := d.setReg (cstatA c) (BitVec.ofNat 32 (tag * 2 ^ 20 + b2n w.sat.isSome * 2 ^ 19 + keep * 2 ^ 17 +
    b2n w.pred * 2 ^ 16 + w.slack))
  let d := match w.sat with
    | some s => (engEvt 2 c s d).bump engP ENG.COUNT2.SAT
    | none => d
  let d := if w.kind = 2 then d.bump engP ENG.COUNT2.SPEC_COMMIT else d
  specReady w (dropWork w d)

/-! ### Verification (R279 to R281) -/

/-- VERIFY: the check unit judges the set on its tick V. -/
def verify (c : Nat) (d : Dev) : Dev :=
  match d.eng.verifs.find? fun v => v.ctx = c with
  | none => d
  | some v =>
    if d.now < v.at_ then d
    else
      let d := d.setEng fun r => { r with verifs := r.verifs.filter fun x => x.ctx ≠ c }
      match d.eng.works.find? (specOf c) with
      | none => addWork { newWork d c 1 v.frame v.key v.tag v.inputs with off := v.off } d
      | some w =>
        let used := fun i => if w.lane.isSome || w.done then w.ins.getD i 0 else ctxWord d c (wPRE + i)
        let tol : Int := 4 * bits (chainWord d c) 12 6
        let bad := v.inputs.any fun i =>
          let x := ctxWord d c i
          !bitOf x 31 && decide (tol < (((bits x 0 14 : Int) - bits (used i) 0 14).natAbs : Int))
        if v.always || !bad then
          let w1 := { w with passed := true, tag := v.tag, frame := v.frame, key := v.key, off := v.off }
          let d := setCstat c 17 1 0 d
          let (w1, d) := if w.done then handOn w1 d else (w1, d)
          swapWork w w1 d
        else
          let d := squashSpec c d
          let d := (engEvt 1 c 0 (setCstat c 17 1 1 d)).bump engP ENG.COUNT.SQUASH
          addWork { newWork d c 0 v.frame v.key v.tag v.inputs with off := v.off } d

/-! ### Context resets and writes (R254, R258, R287) -/

def addReset (c : Nat) (axis : Option Nat) (d : Dev) : Dev :=
  resetBegin c (showEng c (d.setEng fun r => { r with resets := r.resets ++ [⟨c, false, axis⟩] }))

/-- R287: CTXCMD. -/
def ctxcmdLand (val : Word) (d : Dev) : Dev :=
  if !bitOf val 0 then d
  else
    let c := bits val 8 8
    if 192 ≤ c || !d.eng.resets.isEmpty then engEvt 6 c 0 d else addReset c none d

/-- Every PRE, SIG, STATE and JSEQ word of a set half becomes 0. -/
def zeroCtx (c : Nat) (d : Dev) : Dev :=
  d.setEng fun r => { r with words := r.words.filter fun p =>
    !(p.1 / 128 = c && (decide (16 ≤ p.1 % 128) && decide (p.1 % 128 < 32) || decide (40 ≤ p.1 % 128))) }

/-- Bits of a context word that exist (R252). -/
def ctxMask (w : Nat) : Word := if w < 16 then 0xC0003FFF else if w < 32 then 0x80003FFF else if w = 127 then 0xFF00FFFF else 0xFFFFFFFF

/-- R254: a write to context RAM at an offset of a context. -/
def ctxWrite (c off : Nat) (val : Word) (d : Dev) : Dev :=
  let w := off / 4 % 128
  let spec := decide (0x200 ≤ off)
  if 32 ≤ w && w < 40 then setCtxWord c w val d
  else if spec || chainEn d c then engEvt 4 c 0 d
  else setCtxWord c w (val &&& ctxMask w) d

/-- R253: a read of context RAM. -/
def ctxRead (d : Dev) (c off : Nat) : Word :=
  let w := off / 4 % 128
  if off < 0x200 || w < 16 || (32 ≤ w && w < 40) then ctxWord d c w
  else match d.eng.works.find? fun x => x.ctx = c && (x.lane.isSome || x.done) && !(x.dead && x.kind = 2) with
    | none => ctxWord d c w
    | some x => match x.written.find? fun p => p.1 = w with
      | some p => p.2
      | none => ctxWord d c w

/-- Whether a chain word's chain holds a slot. -/
def chainHolds (w : Word) (s : Nat) : Bool := bitOf w 31 && decide (chainFirst w ≤ s) && decide (s ≤ chainFirst w + chainNst w)

/-- R258: the lowest context that makes a slot live, by its set chain or by a domain 66 commit on its way. -/
def liveIn (d : Dev) (s : Nat) : Option Nat :=
  (List.range 192).find? fun c => chainHolds (chainWord d c) s ||
    (d.domBusy 66 && (match d.wetAt (chainA c) with | some w => chainHolds w s | none => false))

/-- R258: a write to a word of a stage slot. -/
def stageWrite (s i : Nat) (val : Word) (d : Dev) : Dev :=
  match liveIn d s with
  | none => putSlot s i val d
  | some c =>
    if i < 2 then engEvt 5 c s d
    else putSlot s i (setBits (slotWord d s i) 0 24 (bits val 0 24)) d

end Sys2Proof.Machine
end

