-- ==== Sys2Proof/Machine/AxisSense.lean ====
section
/-!
DEFINITION. Axes, first part: taps, current limits and references, the voltage limit, phase currents from sensors or from
the DC-link shunt, sensor checks and failover, the locked-rotor count (R290 to R318).
-/

namespace Sys2Proof.Machine

/-! ### Taps and quantities (R297) -/

def axCtx (d : Dev) (a : Nat) : Nat := d.fld (axisP a) AXIS.CFG.CTX
def axFrame (d : Dev) (a : Nat) : Nat := d.fld (axisP a) AXIS.CFG.FRAME
def axOn (d : Dev) (a : Nat) : Bool := d.on (axisP a) AXIS.CFG.EN

/-- A tapped signal of the latest committed work. -/
def tap (d : Dev) (a : Nat) (f : Fld) : Dy := (sigOf (ctxWord d (axCtx d a) (wSIG + d.fld (axisP a) f))).dy

/-- Electrical frequency in hertz; FE of R300 is this value, and SPEED.FE shows it rounded. -/
def axisFe (d : Dev) (a : Nat) : Dy := (tap d a AXIS.TAP0.OMEGA).mul ⟨1000, 0⟩

/-- Bus voltage in volts. -/
def axisVb (d : Dev) (a : Nat) : Dy := tap d a AXIS.TAP1.VBUS

/-- A field in 1/64 V. -/
def volts64 (d : Dev) (a : Nat) (f : Fld) : Dy := ⟨d.fld (axisP a) f, -6⟩

/-- A square root far closer than any use here needs; 0 for a number below 0. -/
def rootDy (x : Dy) : Dy :=
  let e := x.e - 120
  let e := if e % 2 = 0 then e else e - 1
  ⟨isqrt (x.at e).toNat, e / 2⟩

/-- A quotient to 2^−60, the divisor positive. -/
def quotDy (x y : Dy) : Dy := ⟨x.roundQuot y (-60), -60⟩

def Dy.max (x y : Dy) : Dy := if x.le y then y else x
def Dy.min (x y : Dy) : Dy := if x.le y then x else y
def Dy.sign (x : Dy) : Int := x.m.sign

/-- Sets in use: A, and B of a six-phase axis (R291). -/
def setsOf (d : Dev) (a : Nat) : List Nat := if d.on (axisP a) AXIS.CFG.SIX then [0, 1] else [0]

/-- A set has been dropped (R343). -/
def setDropped (d : Dev) (a k : Nat) : Bool := (d.fld (axisP a) AXIS.HSTAT.DROP).testBit k

/-- The set that sounding windows use (R329). -/
def mainSet (d : Dev) (a : Nat) : Nat := if setDropped d a 0 then 1 else 0

def setFo (k : Nat) : Fld := if k = 0 then AXIS.ASTAT.FO_A else AXIS.ASTAT.FO_B
def setFailed (d : Dev) (a k : Nat) : Bool := d.on (axisP a) (setFo k)

/-! ### Limits and references (R296 to R300, R334, R335, R346) -/

/-- IEFF (R299). -/
def ieffOf (d : Dev) (a : Nat) : Nat :=
  let p := axisP a
  let pct := if setFailed d a 0 || setFailed d a 1 then min 100 (d.fld p AXIS.ILIM.FO_PCT) else 100
  d.fld p AXIS.ILIM.IMAX * lowScale d (axisOwned d a) * pct / 25600

/-- kb of R335. -/
def genScale (d : Dev) (a : Nat) : Dy :=
  let band := d.fld (axisP a) AXIS.BUSW.BUS_BAND
  let q := quotDy ((volts64 d a AXIS.BUSW.BUS_HI).sub (axisVb d a)) ⟨if band = 0 then 64 else band, -6⟩
  (q.max .zero).min .one

def switchingState (st : Nat) : Bool := st == AX_CATCHING || st == AX_STARTING || st == AX_RUNNING || st == AX_DECEL

/-- The requests iq and id of a state, in 1/32 A (R298, R322, R334). -/
def requests (d : Dev) (a : Nat) : Int × Int :=
  let p := axisP a
  let st := axisState d a
  if st = AX_STARTING || st = AX_RUNNING then (d.sfld p AXIS.IREQ.IQ_REQ, d.sfld p AXIS.IREQ.ID_REQ)
  else if st = AX_DECEL then (-((axisFe d a).sign * d.fld p AXIS.DEC.DEC_IQ), 0)
  else (0, 0)

/-- R300: iq* and id* in 1/32 A, and whether step 3 acts. -/
def references (d : Dev) (a : Nat) : Dy × Int × Bool :=
  let p := axisP a
  let ie : Int := ieffOf d a
  let (iqr, idr) := requests d a
  let idq := max (-ie) (min ie idr)
  let fe := axisFe d a
  let mot : Dy := ⟨d.fld p AXIS.TLIM.IQ_MOT, 0⟩
  let gen0 : Dy := ⟨d.fld p AXIS.TLIM.IQ_GEN, 0⟩
  let gen := if switchingState (axisState d a) then gen0.mul (genScale d a) else gen0
  let smax : Dy := ⟨d.fld p AXIS.SLIM.SPD_MAX, 0⟩
  let excess := fe.abs.sub smax
  let spd := decide (0 < excess.m)
  let k := if spd then (Dy.one.sub (quotDy excess ⟨max 1 (d.fld p AXIS.SLIM.SPD_BAND), 0⟩)).max .zero else .one
  let (hi, lo) := if 0 ≤ fe.m then (mot.mul k, gen.neg) else (gen, (mot.mul k).neg)
  let c := rootDy ⟨ie * ie - idq * idq, 0⟩
  ((((⟨iqr, 0⟩ : Dy).min (hi.min c)).max (lo.max c.neg)), idq, spd)

/-- The signal word of a number at an exponent, rounded to nearest and saturated. -/
def wordAt (e : Int) (x : Dy) : Word := sigWord e (toMant e x).1

/-- Ticks of the observer-loss ramp (R346: 2 ms). -/
def lossTicks : Nat := 1200000

/-- R296: the axis writes REF0 and REF1; while LOST is 1, REF0 follows the ramp of R346 (log 62). -/
def writeRefs (a : Nat) (d : Dev) : Dev :=
  let p := axisP a
  let c := axCtx d a
  if !axOn d a || 192 ≤ c then d
  else
    let (iq, idq, spd) := references d a
    let e := d.sfld p AXIS.REFFMT.EXP
    let w := wordAt e (iq.mul ⟨1, -5⟩)
    let d := if spd && !d.on p AXIS.ASTAT.SPDLIM then d.raise p AXIS.EVT.SPDLIM else d
    let d := d.setFld p AXIS.ASTAT.SPDLIM (b2n spd)
    let d := d.setFld p AXIS.IEFF.IQREF (wrapTo 16 (satTo 16 (iq.round 0)))
    let d := d.setAxis a { d.axis a with iq := w }
    let w0 := if d.on p AXIS.HSTAT.LOST then
        let r := d.axis a
        let left := lossTicks - (d.now - r.lostAt)
        sigWord e (satTo 24 (((sigOf r.lostIq).dy.mul ⟨left, 0⟩).roundQuot ⟨lossTicks, 0⟩ (e - 23)))
      else w
    setCtxWord c (wREF + 1) (wordAt e ⟨idq, -5⟩) (setCtxWord c wREF w0 d)

/-- R295, R299: MINSCALE and IEFF follow the gangs the axis owns; a change of IEFF writes the references (R296). -/
def axisLimits (a : Nat) (d : Dev) : Dev :=
  let p := axisP a
  let ms := lowScale d (axisOwned d a)
  let ie := ieffOf d a
  if ms = d.fld p AXIS.ASTAT.MINSCALE && ie = d.fld p AXIS.IEFF.IEFF then d
  else
    let same := decide (ie = d.fld p AXIS.IEFF.IEFF)
    let d := (d.setFld p AXIS.ASTAT.MINSCALE ms).setFld p AXIS.IEFF.IEFF ie
    if same then d else writeRefs a d

/-! ### The voltage limit (R302, R303) -/

/-- LIM in volts. -/
def axisLim (d : Dev) (a : Nat) : Dy :=
  (((axisVb d a).max .zero).mul ⟨d.fld (axisP a) AXIS.VLIM.MI, -8⟩).mul ⟨sqrt3.m / 3, -100⟩

/-- VSAT's comparison, exact: 3 × (VD² + VQ²) against (MI ÷ 256 × Vb)². -/
def axisVsat (d : Dev) (a : Nat) : Bool :=
  let vd := tap d a AXIS.TAP1.VD
  let vq := tap d a AXIS.TAP1.VQ
  let l := ((axisVb d a).max .zero).mul ⟨d.fld (axisP a) AXIS.VLIM.MI, -8⟩
  (l.mul l).le (((vd.mul vd).add (vq.mul vq)).mul ⟨3, 0⟩)

/-- A parameter of a slot: its low 24 bits. -/
def putParam (s i : Nat) (m : Int) (d : Dev) : Dev := putSlot s i (setBits (slotWord d s i) 0 24 (wrapTo 24 m)) d

/-- R302: write a limit to a slot of the right type, or flag it. `ws`: word of the parameter, and whether negated. -/
def putLimit (a s type : Nat) (ws : List (Nat × Bool)) (lim : Dy) (d : Dev) : Dev :=
  let st := stageOf (slotWords d s)
  if st.type ≠ type then d.raise (axisP a) AXIS.EVT.SLOT_TYPE
  else ws.foldl (fun d (i, neg) => putParam s i (toMant st.exp (if neg then lim.neg else lim)).1 d) d

/-- R302, R303: what a commit of the context does to the voltage limit. -/
def voltageLimit (a : Nat) (d : Dev) : Dev :=
  let p := axisP a
  let lim := axisLim d a
  let vd := tap d a AXIS.TAP1.VD
  let vq := tap d a AXIS.TAP1.VQ
  let vmag := rootDy ((vd.mul vd).add (vq.mul vq))
  let sat := axisVsat d a
  let d := putLimit a (d.fld p AXIS.VLIM.LC) 7 [(2, false)] lim d
  let d := putLimit a (d.fld p AXIS.VLIM2.PID) 0 [(4, false), (5, true)] lim d
  let d := putLimit a (d.fld p AXIS.VLIM2.PIQ) 0 [(4, false), (5, true)] lim d
  let d := if sat && !d.on p AXIS.ASTAT.VSAT then d.raise p AXIS.EVT.VSAT else d
  let d := d.setFld p AXIS.ASTAT.VSAT (b2n sat)
  (d.setFld p AXIS.VSTAT.LIM (satU 16 (lim.round (-6)))).setFld p AXIS.VSTAT.VMAG (satU 16 (vmag.round (-6)))

/-! ### Phase currents (R304 to R310) -/

/-- Scales of the phase sensors and of the shunt, in 2^−20 A per LSB. -/
def AXIS_PHK : Fld := ⟨0x068, 0, 24⟩
def AXIS_DCK : Fld := ⟨0x06C, 0, 24⟩

/-- Phases whose SIDX are in use: INLINE2 has sensors U and V only. -/
def phasesUsed (d : Dev) (a : Nat) : List Nat := if d.fld (axisP a) AXIS.CFG.SENSE = 1 then [0, 1] else [0, 1, 2]

/-- SIDX of a phase of a set (PHIN). -/
def phaseSidx (d : Dev) (a k x : Nat) : Nat := bits (d.reg (axisP a + 0x064)) (12 * k + 4 * x) 4

/-- The axis, set and phase that a position of a context carries. -/
def phaseOf (d : Dev) (c sidx : Nat) : Option (Nat × Nat × Nat) :=
  (List.range 16).findSome? fun a =>
    if axOn d a && axCtx d a = c then
      (setsOf d a).findSome? fun k => ((phasesUsed d a).find? fun x => phaseSidx d a k x = sidx).map fun x => (a, k, x)
    else none

/-- The gang of a phase. -/
def phaseGang (d : Dev) (a k x : Nat) : Option Nat :=
  (axisGangs d a).find? fun g => d.fld (gangP g) GANG.ROLE.PHASE_IX = 3 * k + x

/-- Whether a leg's commanded GH is on at a tick, by the edges laid out (R92, R306). -/
def ghOnAt (d : Dev) (n t : Nat) : Bool :=
  let pl := d.plan n
  (applyEdges pl.gh pl.gl (pl.edges.filter fun e => decide (e.1 ≤ t))).1

/-- R306: legs of a phase's gang with GH on at a tick, and its active legs. -/
def legsOn (d : Dev) (a k x t : Nat) : Nat × Nat :=
  match phaseGang d a k x with
  | none => (0, 0)
  | some g =>
    let legs := (d.gang g).occ.map fun o => globalLeg d g o.leg
    ((legs.filter fun n => ghOnAt d n t).length, (legs.filter fun n => (d.plan n).active).length)

def dcrOn (d : Dev) (a k : Nat) : Bool := d.on (axisP a) (if k = 0 then AXIS.DCR.EN_A else AXIS.DCR.EN_B)
def dcrIn (d : Dev) (a k : Nat) : Nat := d.fld (axisP a) (if k = 0 then AXIS.DCR.IN_A else AXIS.DCR.IN_B)

/-- The axes and sets for which a result of a frame and input is a shunt sample (R305). -/
def shuntUsers (d : Dev) (frame input : Nat) : List (Nat × Nat) :=
  (List.range 16).flatMap fun a =>
    if axOn d a && axFrame d a = frame then
      ((setsOf d a).filter fun k => dcrOn d a k && dcrIn d a k = input).map fun k => (a, k)
    else []

/-- R306: the legs of each phase at a tick, for each user of a shunt input. -/
def shuntSnap (d : Dev) (frame input t : Nat) : List (Nat × Nat × List Nat × List Nat) :=
  (shuntUsers d frame input).map fun (a, k) =>
    let l := [0, 1, 2].map fun x => legsOn d a k x t
    (a, k, l.map (·.1), l.map (·.2))

/-- A coefficient that the spec does not state, of a gang without an active leg, is free (log 2). -/
def fillOn : List Nat → List Nat → Dev → Dev × List (Nat × Nat)
  | h :: hs, n :: ns, d =>
    let (v, d) := if n = 0 then let (f, d') := d.draw; ((f.toNat, 1), d') else ((h, n), d)
    let (d, l) := fillOn hs ns d
    (d, v :: l)
  | _, _, d => (d, [])

/-- R305, R306: a shunt sample of a set. Of those 8 ticks old the latest eight can still be used (R307). -/
def shuntNote (a k code : Nat) (on act : List Nat) (d : Dev) : Dev :=
  let (d, l) := fillOn on act d
  let s := d.phases a k
  let x : Shunt := ⟨d.now, (code : Int) - d.fld (axisP a) AXIS.ZERO.DCZ, l.map (·.1), l.map (·.2)⟩
  let old := s.shunts.filter fun y => decide (y.at_ + 8 ≤ d.now)
  d.setPhases a k { s with shunts := old.drop (old.length - 8) ++ (s.shunts.filter fun y => !decide (y.at_ + 8 ≤ d.now)) ++ [x] }

/-- R306, scaled by D = Aᵤ·Aᵥ·A_w: D·(aᵤ − a_w), D·(aᵥ − a_w), D. -/
def Shunt.row (s : Shunt) : Int × Int × Int :=
  let h := fun i => (s.on.getD i 0 : Int)
  let n := fun i => (s.act.getD i 1 : Int)
  let w := h 2 * n 0 * n 1
  (h 0 * n 1 * n 2 - w, h 1 * n 0 * n 2 - w, n 0 * n 1 * n 2)

def detOf (s t : Shunt) : Int :=
  let (p1, q1, _) := s.row
  let (p2, q2, _) := t.row
  p1 * q2 - q1 * p2

/-- Magnitude of the determinant as a fraction. -/
def detMag (s t : Shunt) : Nat × Nat := ((detOf s t).natAbs, (s.row.2.2 * t.row.2.2).natAbs)

def fracLt (a b : Nat × Nat) : Bool := decide (a.1 * b.2 < b.1 * a.2)

def pairsOf {α : Type} : List α → List (α × α)
  | [] => []
  | x :: xs => xs.map (fun y => (x, y)) ++ pairsOf xs

/-- R307: the pairs of largest determinant among the latest eight samples of the right age. -/
def bestPairs (d : Dev) (a k : Nat) : List (Shunt × Shunt) :=
  let p := peff d (axFrame d a)
  let l := (d.phases a k).shunts.filter fun s => decide (s.at_ + 8 ≤ d.now) && decide (d.now ≤ s.at_ + p)
  let ps := (pairsOf (l.drop (l.length - 8))).filter fun (s, t) => detOf s t ≠ 0
  ps.filter fun q => !(ps.any fun r => fracLt (detMag q.1 q.2) (detMag r.1 r.2))

/-- R307: iᵤ and iᵥ over DCK ÷ 2^20 A as (numerator, numerator, denominator > 0) where a pair is usable; of equal pairs
any one (a free choice, log 2). -/
def reconPair (a k : Nat) (d : Dev) : Dev × Option (Int × Int × Int) :=
  match bestPairs d a k with
  | [] => (d, none)
  | q :: qs =>
    let (f, d') := d.draw
    let (d, i) := if qs.isEmpty then (d, 0) else (d', f.toNat % (qs.length + 1))
    let (s, t) := (q :: qs).getD i q
    if fracLt (detMag s t) (d.fld (axisP a) AXIS.DCR.DET_MIN, 256) then (d, none)
    else
      let det := detOf s t
      let (p1, q1, n1) := s.row
      let (p2, q2, n2) := t.row
      let u := n1 * s.code * q2 - q1 * (n2 * t.code)
      let v := p1 * (n2 * t.code) - n1 * s.code * p2
      (d, some (if det < 0 then (-u, -v, -det) else (u, v, det)))

/-- R308, R310: the reconstruction of a set on a delivery; RECON shows it. -/
def recon (a k : Nat) (d : Dev) : Dev × Option (Int × Int × Int) :=
  let (d, r) := reconPair a k d
  match r with
  | none => (d, none)
  | some (u, v, n) =>
    let dck : Int := d.fld (axisP a) AXIS_DCK
    let show32 := fun x => wrapTo 16 (satTo 16 (roundDiv (x * dck * 32) (n * 2 ^ 20)))
    (d.setReg (axisP a + 0x0A0 + 4 * k) (BitVec.ofNat 32 (show32 u * 2 ^ 16 + show32 v)), some (u, v, n))

/-- R308: the code of a reconstructed current; with PHK = 0 the spec states none (log 2). -/
def reconCode (a x : Nat) (r : Int × Int × Int) (d : Dev) : Dev × Nat :=
  let (u, v, n) := r
  let i := if x = 0 then u else if x = 1 then v else -u - v
  let dck : Int := d.fld (axisP a) AXIS_DCK
  let phk : Int := d.fld (axisP a) AXIS_PHK
  if phk = 0 then
    let (f, d) := d.draw
    (d, f.toNat % 16384)
  else (d, (max 0 (min 16383 ((d.fld (axisP a) AXIS.ZERO.PHZ : Int) + roundDiv (i * dck) (n * phk)))).toNat)

/-- R308: the replacement of a delivery; without a usable pair it is treated as skipped. -/
def replaced (a x : Nat) (r : Option (Int × Int × Int)) (code : Nat) (d : Dev) : Dev × Nat × Bool :=
  match r with
  | none => (d.bump (axisP a) AXIS.COUNT.PRED_COUNT, code, true)
  | some q => let (d, c) := reconCode a x q d; (d, c, false)

/-! ### Sensor checks and failover (R309 to R315) -/

/-- R276: a sample reaches IN; the code that the engine returns for it (log 60). -/
def writeIn (c i code : Nat) (pred : Bool) (d : Dev) : Dev × Option Nat :=
  let w := ctxWord d c i
  if !pred then (setCtxWord c i (BitVec.ofNat 32 (2 ^ 30 + code % 2 ^ 14)) d, some code)
  else
    let p := ctxWord d c (wPRE + i)
    if bitOf p 31 then
      (setCtxWord c i (BitVec.ofNat 32 (2 ^ 31 + b2n (bitOf w 30) * 2 ^ 30 + bits p 0 14)) d, some (bits p 0 14))
    else (setCtxWord c i (BitVec.ofNat 32 (2 ^ 31 + b2n (bitOf w 30) * 2 ^ 30 + bits w 0 14)) d, none)

def sensLost (a k : Nat) (d : Dev) : Dev :=
  (d.raise (axisP a) AXIS.EVT.SENS_LOST).send (faultOf (axisP a) 25 k)

/-- R313: the deliveries of this tick that reached IN as they were are replaced as well. -/
def replaceRaws (a k : Nat) (d : Dev) : Dev :=
  let s := d.phases a k
  if s.rawAt ≠ d.now || s.raws.isEmpty then d
  else
    let (d, r) := recon a k d
    let d := s.raws.foldl (fun d (x, code) =>
      let (d, c, pred) := replaced a x r code d
      let d := d.setPhases a k { d.phases a k with preds := (d.phases a k).preds + b2n pred }
      (writeIn (axCtx d a) (phaseSidx d a k x) c pred d).1) d
    d.setPhases a k { d.phases a k with raws := [] }

/-- A delivery reaches IN as it was. -/
def noteRaw (a k x code : Nat) (d : Dev) : Dev :=
  let s := d.phases a k
  d.setPhases a k { s with rawAt := d.now, raws := (if s.rawAt = d.now then s.raws else []) ++ [(x, code)] }

/-- R313, R314: a set fails over, or has lost its sensors. -/
def failOver (a k : Nat) (d : Dev) : Dev :=
  let p := axisP a
  if setFailed d a k || d.fld p AXIS.CFG.SENSE = 2 then d
  else if !dcrOn d a k then sensLost a k d
  else
    let d := (d.raise p (setFo k)).raise p AXIS.EVT.FAILOVER
    let d := d.setPhases a k { d.phases a k with rangeRun := [0, 0, 0], sumRun := 0 }
    let d := replaceRaws a k (d.send (faultOf p 24 k))
    (writeRefs a (axisLimits a d)).reLimp

/-- R315: every set returns to in-line sensing. -/
def foReturn (a : Nat) (d : Dev) : Dev :=
  let p := axisP a
  let was := setFailed d a 0 || setFailed d a 1
  let d := (d.lower p AXIS.ASTAT.FO_A).lower p AXIS.ASTAT.FO_B
  let d := each [0, 1] (fun k d => d.setPhases a k { d.phases a k with rangeRun := [0, 0, 0], sumRun := 0 }) d
  let d := axisLimits a d
  (if was then writeRefs a d else d).reLimp

/-- A delivery begins a new period of the axis's frame where the reload has moved on. -/
def periodSync (a k : Nat) (d : Dev) : Dev :=
  let t := (d.frame (axFrame d a)).reload
  let s := d.phases a k
  if s.period = t then d
  else d.setPhases a k { s with period := t, got := 0, repl := false, dels := 0, preds := 0, codes := [0, 0, 0] }

/-- R312: a tested delivery counts toward the sum check of its period. -/
def sumCheck (a k x code : Nat) (d : Dev) : Dev :=
  let p := axisP a
  let s := d.phases a k
  let s := { s with got := s.got ||| 2 ^ x, codes := s.codes.set x code }
  if s.got ≠ 7 || s.repl || d.fld p AXIS.CFG.SENSE ≠ 0 then d.setPhases a k s
  else
    let z : Int := d.fld p AXIS.ZERO.PHZ
    let sum := s.codes.foldl (fun (t : Int) (c : Nat) => t + ((c : Int) - z)) 0
    let bad := d.fld p AXIS.SSUM.SUM_MAX * 2 ^ 15 < sum.natAbs * d.fld p AXIS_PHK
    let d := d.setPhases a k { s with repl := true, sumRun := if bad then (s.sumRun + 1) % 3 else 0 }
    if !bad then d
    else
      let d := d.raise p AXIS.EVT.SUM
      if s.sumRun = 2 then failOver a k d else d

/-- R311: a tested delivery fails the range test. -/
def rangeFail (a k x : Nat) (d : Dev) : Dev :=
  let d := d.raise (axisP a) AXIS.EVT.RANGE
  let s := d.phases a k
  let n := s.rangeRun.getD x 0 + 1
  let d := d.setPhases a k { s with rangeRun := s.rangeRun.set x (n % 2) }
  if n = 2 then failOver a k d else d

/-- R304, R308, R310 to R313: what a delivery of a phase current writes into IN: its code, and whether it is predicted. -/
def axisDelivery (a k x code : Nat) (pred clip : Bool) (d : Dev) : Dev × Nat × Bool :=
  let p := axisP a
  let d := periodSync a k d
  let (d, r) := if dcrOn d a k then recon a k d else (d, none)
  let spoil := fun (d : Dev) => d.setPhases a k { d.phases a k with repl := true }
  let inline := d.fld p AXIS.CFG.SENSE ≠ 2
  let failed := setFailed d a k
  let out := clip || code < d.fld p AXIS.SRNG.LO || d.fld p AXIS.SRNG.HI < code
  -- R311: every converted delivery of INLINE2 and INLINE3 is tested, those of a failed-over set too
  let d := if !inline || pred then d
    else if out then rangeFail a k x d
    else let s := d.phases a k; d.setPhases a k { s with rangeRun := s.rangeRun.set x 0 }
  let (d, code', pred') :=
    if !inline || failed then replaced a x r code (spoil d)
    else if pred then (spoil d, code, true)
    else if out then
      let d := spoil d
      if dcrOn d a k then replaced a x r code d else (d, code, true)
    else
      let d := sumCheck a k x code d
      if setFailed d a k then replaced a x r code d else (d, code, false)
  let s := d.phases a k
  let d := d.setPhases a k { s with dels := s.dels + 1, preds := s.preds + b2n pred' }
  let d := if pred' || setFailed d a k || !inline then d else noteRaw a k x code d
  (d.setFld p AXIS.ASTAT.PRED_NOW (b2n pred'), code', pred')

/-- R309: the end of a period of a set; the message goes where the count reaches PRED_MAX. -/
def periodEnd (a k : Nat) (d : Dev) : Dev :=
  let p := axisP a
  let s := d.phases a k
  let runs := d.fld p AXIS.CFG.SENSE = 2 || setFailed d a k
  let n := if !runs then 0 else if s.dels = 0 then s.predRun else if s.preds = s.dels then min 256 (s.predRun + 1) else 0
  let max_ := max 1 (d.fld p AXIS.DCR.PRED_MAX)
  let hit := decide (s.predRun < max_) && decide (max_ ≤ n)
  let d := d.setPhases a k { s with predRun := n, got := 0, repl := false, dels := 0, preds := 0 }
  if hit then sensLost a k d else d

/-- R313: a PATH_FAIL that names an input of a set's phase currents. -/
def pathFailed (input : Nat) (d : Dev) : Dev :=
  each (List.range 16) (fun a d =>
    if !axOn d a || !d.on (axisP a) AXIS.SSUM.PLAUS_EN then d
    else each (setsOf d a) (fun k d =>
      let mine := (frameEntries d (axFrame d a)).any fun e => eAction e.2 = 1 && eCtx e.2 = axCtx d a && eInput e.2 = input &&
        (phasesUsed d a).any fun x => phaseSidx d a k x = eSidx e.2
      if mine then failOver a k d else d) d) d

/-! ### Locked rotor (R316, R317) -/

/-- A commutation event restarts the count. -/
def commutated (a : Nat) (d : Dev) : Dev :=
  let r := d.axis a
  match r.lrAt with
  | none => d
  | some _ => d.setAxis a { r with lrAt := some d.now, lrSent := false }

/-- R317: what the count asks for: the state, and |iq| at LR_IQ or above; an LR_IQ of 0 disables it. -/
def lockArmed (d : Dev) (a : Nat) : Bool :=
  let lim := d.fld (axisP a) AXIS.LR.LR_IQ
  let st := axisState d a
  lim ≠ 0 && (st = AX_STARTING || st = AX_RUNNING) && (⟨lim, -5⟩ : Dy).le (tap d a AXIS.TAP0.IQ).abs

/-- R317: the count starts, from tick `t` on, where what it asks for holds, and ends where it does not. -/
def lockedSync (a t : Nat) (d : Dev) : Dev :=
  let r := d.axis a
  if lockArmed d a = r.lrAt.isSome then d
  else d.setAxis a { r with lrAt := if r.lrAt.isSome then none else some t, lrSent := false }

/-- The count at a commit: started, kept, restarted or stopped. -/
def lockedCommit (a : Nat) (d : Dev) : Dev :=
  let p := axisP a
  let th := (tap d a AXIS.TAP0.THETA).add ⟨1, -1⟩
  let sec := if th.e < 0 then th.m * 6 / 2 ^ (-th.e).toNat else th.m * 6 * 2 ^ th.e.toNat
  let r := d.axis a
  let moved := d.fld p AXIS.CFG.COMM_SRC = 0 && r.sector.isSome && r.sector ≠ some sec
  let armed := lockArmed d a
  let r := { r with sector := some sec }
  if !armed then d.setAxis a { r with lrAt := none, lrSent := false }
  else if moved || r.lrAt.isNone then d.setAxis a { r with lrAt := some d.now, lrSent := false }
  else d.setAxis a r

/-- LOCKED_ROTOR: the count has reached LR_TIME. -/
def lockedLand (a : Nat) (d : Dev) : Dev :=
  let p := axisP a
  let r := d.axis a
  match r.lrAt with
  | none => d
  | some t =>
    if r.lrSent || !axOn d a || !lockArmed d a || d.now < t + d.fld p AXIS.LR.LR_TIME * 60000 then d
    else ((d.setAxis a { r with lrSent := true }).raise p AXIS.EVT.LOCKED).send (faultOf p 26 0)

end Sys2Proof.Machine
end

