-- ==== Sys2Proof/Machine/AxisRun.lean ====
section
/-!
DEFINITION. Axes, second part: the state machine, sounding and catching, braking and the bus watch, safe policies, lost
phases and sets, observer loss, parking (R321 to R348).
-/

namespace Sys2Proof.Machine

/-! ### Quantities -/

/-- RESID over OBSL; an OBSL mantissa of 0 disables the test (R332). -/
def residBad (d : Dev) (a : Nat) : Bool :=
  let l := sigOf (d.reg (axisP a + 0x0E0))
  l.m ≠ 0 && l.dy.lt (tap d a AXIS.TAP1.RESID)

def vbAtLeast (d : Dev) (a : Nat) (f : Fld) : Bool := (volts64 d a f).le (axisVb d a)

/-- R339: what a resound window needs. -/
def resoundOk (d : Dev) (a : Nat) : Bool :=
  (d.axis a).hold == .off && vbAtLeast d a AXIS.BUSL.BUS_LO && (axisVb d a).le (volts64 d a AXIS.BUSW.BUS_HI)

/-- Angle of a vector given by 2u − v − w and v − w, in 2^−60 turn (R328). -/
def vecAngle (a3 b1 : Int) : Int := atan2 (b1 * (sqrt3.m / 2 ^ 40)) (a3 * 2 ^ 60)

/-- √(a3² + 3·b1²) in 2^−20. -/
def vecSize (a3 b1 : Int) : Nat := isqrt ((a3 * a3 + 3 * (b1 * b1)).toNat * 2 ^ 40)

/-- Phase currents of a set over PHK, from the IN words; INLINE2 has no W, which the star gives (R340, R341). -/
def inCurrents (d : Dev) (a k : Nat) : List Int :=
  let z : Int := d.fld (axisP a) AXIS.ZERO.PHZ
  let i := fun x => (bits (ctxWord d (axCtx d a) (phaseSidx d a k x)) 0 14 : Int) - z
  if d.fld (axisP a) AXIS.CFG.SENSE = 1 then [i 0, i 1, -(i 0) - i 1] else [i 0, i 1, i 2]

/-- Hertz from a turn in 2^−60 over so many ticks. -/
def hertz (turn : Int) (dt : Nat) : Int := roundDiv (turn * 600000000) dt

/-- R340: Û under OFF, √3 × |v| of the latest voltage set. -/
def uhatOff (d : Dev) (a k : Nat) : Dy :=
  match (d.phases a k).volts with
  | none => .zero
  | some v => quotDy ⟨(vecSize v.a3 v.b1 : Int) * v.vk, -40⟩ sqrt3

/-- R340, R364: f, from the feedback channel or tracked. -/
def speedOf (d : Dev) (a k : Nat) : Dy :=
  let p := axisP a
  if d.on p AXIS.CFG.FB_EN then ⟨signedOf 32 (d.reg (fbP (d.fld p AXIS.CFG.FB) + 0x088)).toNat, -4⟩
  else ⟨(d.phases a k).trackF, -60⟩

/-- R340: Û under SHORT. -/
def uhatShort (d : Dev) (a k : Nat) : Dy :=
  ((speedOf d a k).abs.mul ⟨d.fld (axisP a) AXIS.SEL.KE, -20⟩).mul (sqrt3.mul ⟨twoPi, -60⟩)

/-- R340: the hold SPEED_SELECT chooses at a reload, from the present one, periods since SHORT was chosen, Û and Vb. -/
def selectHold (h : Hold) (n : Nat) (u vb : Dy) : Hold :=
  if (vb.sub ⟨2, 0⟩).lt u then .short
  else if h = .short && n < 64 then .short else .off

/-! ### Entering states -/

def freshWindow : Window := ⟨none, 0, false, 0, 0, 0, none, 0, []⟩

/-- R329: a window that waits starts with this reload. -/
def windowStart (a t : Nat) (d : Dev) : Dev :=
  let p := axisP a
  let r := d.axis a
  let open_ := axisState d a = AX_HOLDING && r.hold == .off && r.window.isNone
  match (if open_ then some freshWindow else r.window) with
  | none => d
  | some w =>
    if w.start.isSome then d
    else
      let per := max 1 (peff d (axFrame d a))
      let k := mainSet d a
      let n := (d.fld p AXIS.SOUND.WIN * 600 + per - 1) / per
      d.setAxis a { r with window := some { w with
        start := some t, stop := t + n * per, setB := k == 1,
        par := [d.reg (p + 0x084), d.reg (p + 0x0C0 + 4 * k), d.reg (p + 0x0C8), d.reg (p + 0x0CC), d.reg (p + 0x0D4)] } }

/-- R329: a window that begins on the tick of a reload starts with that reload, whichever of the two comes first. -/
def windowNow (a : Nat) (d : Dev) : Dev :=
  let f := axFrame d a
  if frameRun d f && (d.frame f).reload == d.now then windowStart a d.now d else d

/-- A sounding or a resound begins (R329). -/
def openWindow (a : Nat) (d : Dev) : Dev := windowNow a (d.setAxis a { d.axis a with window := some freshWindow })

/-- R338: COASTING; a forced coast, or one within a forced coast, uses SPEED_SELECT. -/
def coast (a : Nat) (forced : Bool) (d : Dev) : Dev :=
  let p := axisP a
  let forced := forced || d.on p AXIS.HSTAT.FORCED
  let sel := forced || d.fld p AXIS.CFG.SAFE ≠ 0
  let d := if forced then d.raise p AXIS.HSTAT.FORCED else d
  let d := axisEnter a AX_COASTING (policyHold d a (if sel then 2 else 0)) sel d
  d.setAxis a { d.axis a with resoundAt := d.now + d.fld p AXIS.CATCH.RESOUND * 60000 }

def enterDecel (a : Nat) (d : Dev) : Dev :=
  let d := axisEnter a AX_DECEL .none false d
  d.setAxis a { d.axis a with decSign := (axisFe d a).sign }

def parkHold (d : Dev) (a : Nat) : Hold := if d.fld (axisP a) AXIS.CFG.PARK = 1 then .short else .off

/-- R347: HOLDING. -/
def enterHolding (a : Nat) (d : Dev) : Dev :=
  let d := axisEnter a AX_HOLDING (parkHold d a) false d
  windowNow a (d.setAxis a { d.axis a with rolled := false, escaped := false })

/-- R331: CATCHING; the gangs stay held until the seed is written. -/
def enterCatching (a : Nat) (w : Window) (fe : Int) (d : Dev) : Dev :=
  let d := axisEnter a AX_CATCHING .off false d
  addReset (axCtx d a) (some a) (d.setAxis a { d.axis a with seed := some (w, fe) })

/-! ### The axis's own transitions (R325) -/

/-- STARTING and DECELERATING end by speed. -/
def speedCheck (a : Nat) (d : Dev) : Dev :=
  let p := axisP a
  let st := axisState d a
  if !axOn d a || !axisMay d a 4 then d
  else
    let fe := axisFe d a
    if st = AX_STARTING && (⟨d.fld p AXIS.RUN.START_HZ, 0⟩ : Dy).le fe.abs then
      axisTake a 4 none (axisEnter a AX_RUNNING .none false) d
    else if st = AX_DECEL && (fe.abs.le ⟨d.fld p AXIS.RUN.ZERO_HZ, 0⟩ || decide (fe.sign * (d.axis a).decSign < 0)) then
      axisTake a 4 none (if d.on p AXIS.HSTAT.RUNREQ then axisEnter a AX_STARTING .none false else axisEnter a AX_IDLE .off false) d
    else d

/-- R332: a catch fails. -/
def catchFail (a : Nat) (d : Dev) : Dev :=
  let p := axisP a
  let tries := match (d.axis a).seed with | some (w, _) => bits (w.par.getD 4 0) 16 4 | none => 1
  let d := coast a false d
  let d := ((d.raise p AXIS.EVT2.CATCH_FAIL).bump p AXIS.COUNT2.CATCH_FAILS).bump p AXIS.HSTAT.CFAILS
  if max 1 tries ≤ d.fld p AXIS.HSTAT.CFAILS then d.send (faultOf p 29 0) else d

/-- What another cause of this tick shuts out of an axis's own transitions is owed on the next one (R324). -/
def oweOwn (a : Nat) (d : Dev) : Dev := d.setAxis a { d.axis a with owedOwn := true }

/-- A catch ends well or not (R332). -/
def catchDone (a : Nat) (d : Dev) : Dev :=
  if residBad d a then catchFail a d
  else
    let d := d.lower (axisP a) AXIS.HSTAT.CFAILS
    if 0 ≤ (axisFe d a).m then axisEnter a AX_RUNNING .none false d else enterDecel a d

/-- CATCH_END: CATCH_T has passed (R332). -/
def catchEndLand (a : Nat) (d : Dev) : Dev :=
  let r := d.axis a
  match r.seed, r.catchAt with
  | some (w, _), some t =>
    if axisState d a ≠ AX_CATCHING || d.now < t + bits (w.par.getD 4 0) 24 8 * 60000 then d
    else if !axisMay d a 4 then oweOwn a d
    else axisTake a 4 none (catchDone a) d
  | _, _ => d

/-- R345: the observer is lost. -/
def observerLost (a : Nat) (d : Dev) : Dev :=
  let p := axisP a
  let s := d.fld p AXIS.SEED.PLL
  let r := d.axis a
  let d := d.setAxis a { r with
    gains := (bits (slotWord d s 2) 0 24, bits (slotWord d s 3) 0 24), lossSlot := s, lostAt := d.now,
    lostIq := r.iq, cause := some d.now, residRun := 0 }
  let d := putParam s 3 0 (putParam s 2 0 d)
  let d := ((d.raise p AXIS.HSTAT.LOST).raise p AXIS.EVT2.OBS_LOST).bump p AXIS.COUNT2.OBS_LOST
  d.send (faultOf p 30 0)

/-- OBSERVER_LOSS_RAMP_END (R346). -/
def lossRampEnd (a : Nat) (d : Dev) : Dev :=
  if !(d.on (axisP a) AXIS.HSTAT.LOST && axisState d a = AX_RUNNING && decide ((d.axis a).lostAt + lossTicks ≤ d.now)) then d
  else if !axisMay d a 4 then oweOwn a d
  else axisTake a 4 none (coast a false) d

/-! ### Lost phases (R341 to R343) -/

/-- A dropped set: its gangs go under the coast policy, the axis goes on with the other set. -/
def dropSet (a k : Nat) (d : Dev) : Dev :=
  let p := axisP a
  let d := tookCause a d
  let h : Hold := if d.fld p AXIS.CFG.SAFE ≠ 0 && (d.axis a).hold = .short then .short else .off
  let d := d.setFld p AXIS.HSTAT.DROP (d.fld p AXIS.HSTAT.DROP ||| 2 ^ k)
  let d := if k = 1 then d.raise p AXIS.ASTAT.SETB_DROP else d
  let d := d.setPhases a k { d.phases a k with hold := .none }
  let d := setSetHold a k h d
  let d := (d.raise p AXIS.EVT2.SET_DROP).send (faultOf p 28 k)
  (axisLimits a d).reLimp

/-- R341 to R343: phase `x` of set `k` is lost. An axis that is FAULTED goes no further; another cause of the first place on this
tick leaves it to the next (R324). -/
def lostPhase (a k x : Nat) (d : Dev) : Dev :=
  let p := axisP a
  if !axOn d a || setDropped d a k then d
  else if axisState d a = AX_FAULTED then d.raise p AXIS.EVT2.PHASE_OPEN
  else if !axisMay d a 1 then d
  else
    let d := (axisBack a d).raise p AXIS.EVT2.PHASE_OPEN
    if d.on p AXIS.CFG.SIX && !setDropped d a (1 - k) then dropSet a k d
    else axisFault a (d.send (faultOf p 27 (k + 2 * (3 * k + x))))

/-- Whether the gang of a phase is shut or disabled. -/
def gangLost (d : Dev) (a k x : Nat) : Bool :=
  match phaseGang d a k x with
  | none => true
  | some g => d.on (gangP g) GANG.STAT.SHUT

/-- R341, first case: a phase gang that is shut or disabled. While the axis is FAULTED only a gang that is newly lost is reported. -/
def gangsLost (a : Nat) (d : Dev) : Dev :=
  each (setsOf d a) (fun k d => each [0, 1, 2] (fun x d =>
    let lost := gangLost d a k x
    let seen := (d.axis a).lostGangs.testBit (3 * k + x)
    let d := if lost && !(seen && axisState d a = AX_FAULTED) then lostPhase a k x d else d
    if lost = seen then d
    else d.setAxis a { d.axis a with lostGangs := (d.axis a).lostGangs ^^^ 2 ^ (3 * k + x) }) d) d

/-- R341, second case: runs of commits with a phase that carries next to nothing. -/
def openCount (a : Nat) (d : Dev) : Dev :=
  let lim := d.fld (axisP a) AXIS.DEC.OPEN_I * 2 ^ 15
  let phk := d.fld (axisP a) AXIS_PHK
  each (setsOf d a) (fun k d =>
    let s := d.phases a k
    let i := (inCurrents d a k).map fun c => c.natAbs * phk
    let hit := fun x => lim ≠ 0 && decide (i.getD x 0 ≤ lim) && [0, 1, 2].any fun y => y ≠ x && decide (4 * lim ≤ i.getD y 0)
    d.setPhases a k { s with openRun := [0, 1, 2].map fun x => if hit x then min 8 (s.openRun.getD x 0 + 1) else 0 }) d

def openAct (a : Nat) (d : Dev) : Dev :=
  each (setsOf d a) (fun k d => each [0, 1, 2] (fun x d =>
    let s := d.phases a k
    if s.openRun.getD x 0 < 8 || !(axisMay d a 1 || axisState d a = AX_FAULTED) then d
    else lostPhase a k x (d.setPhases a k { s with openRun := s.openRun.set x 0 })) d) d

/-! ### What a commit of the context brings (R324, R332, R336, R337, R345) -/

/-- R325: the states that a bus condition ends. -/
def busState (st : Nat) : Bool := decide (1 ≤ st) && decide (st ≤ 6)

def busHigh (d : Dev) (a : Nat) : Bool :=
  (volts64 d a AXIS.BUSL.BUS_MAX).lt (axisVb d a) && !d.on (axisP a) AXIS.SEL.DUMP_EN

/-- R336: the coast that the bus over BUS_MAX forces (log 65). -/
def busOver (a : Nat) (d : Dev) : Dev :=
  let d := coast a true d
  ((d.setAxis a { d.axis a with busRun := 10 }).raise (axisP a) AXIS.EVT2.BUS_OV).send (faultOf (axisP a) 31 0)

/-- The coast that the bus over BUS_MAX has forced, while every commit since still finds the bus there: it is not entered again. -/
def overCoast (d : Dev) (a : Nat) : Bool :=
  axisState d a = AX_COASTING && d.on (axisP a) AXIS.HSTAT.FORCED && (d.axis a).busRun = 10

/-- R337: at the eighth commit in a row with the bus below BUS_LO (log 65). -/
def busGone (a : Nat) (d : Dev) : Dev :=
  let d := coast a true d
  ((d.setAxis a { d.axis a with busRun := 9 }).raise (axisP a) AXIS.EVT2.BUS_LOST).send (faultOf (axisP a) 31 1)

/-- R336, R337: the bus conditions, judged against the state the tick found. -/
def busAct (a : Nat) (d : Dev) : Dev :=
  if !axisMay d a 2 then d
  else
    let b := axisBack a d
    if !busState (axisState b a) then d
    else if busHigh b a && !overCoast b a then axisTake a 2 none (busOver a) d
    else if (b.axis a).busRun = 8 then axisTake a 2 none (busGone a) d
    else d

/-- R332, R345: four commits with RESID over OBSL. -/
def residAct (a : Nat) (d : Dev) : Dev :=
  let st := axisState d a
  if !axisMay d a 4 || (d.axis a).residRun < 4 then d
  else if st = AX_CATCHING then axisTake a 4 none (catchFail a) d
  else if st = AX_RUNNING && !d.on (axisP a) AXIS.HSTAT.LOST then axisTake a 4 none (observerLost a) d
  else d

/-- The tests of a commit before and after a CMD write in R324's order. -/
def commitFirst (a : Nat) (d : Dev) : Dev := busAct a (openAct a d)
def commitLast (a : Nat) (d : Dev) : Dev := speedCheck a (residAct a d)

/-- What a cause of this tick shuts out is owed on the next one (R324). A bus condition that acted owes nothing: no test of a later
place concerns a coast. -/
def oweTests (a : Nat) (d : Dev) : Dev :=
  let coasted := match turnOf d a with | some t => t.rank = 2 | none => false
  d.setAxis a { d.axis a with redo := !causeFree d a && !coasted }

/-- The tests of a commit, in R324's order. -/
def commitActs (a : Nat) (d : Dev) : Dev := oweTests a (commitLast a (commitFirst a d))

/-- R339: a resound window whose conditions cease is dropped. -/
def windowGuard (a : Nat) (d : Dev) : Dev :=
  let r := d.axis a
  if axisState d a = AX_COASTING && r.window.isSome && !resoundOk d a then
    d.setAxis a { r with window := none, resoundAt := d.now + d.fld (axisP a) AXIS.CATCH.RESOUND * 60000 }
  else d

/-- Work of the axis's context commits. -/
def axisCommit1 (a : Nat) (d : Dev) : Dev :=
  let p := axisP a
  let d := d.setFld p AXIS.SPEED.FE (wrapTo 16 (satTo 16 ((axisFe d a).round 0)))
  let d := openCount a (lockedCommit a (voltageLimit a d))
  let r := d.axis a
  let st := axisState d a
  let tests := (st = AX_CATCHING && r.seeded) || (st = AX_RUNNING && !d.on p AXIS.HSTAT.LOST)
  let d := d.setAxis a { r with
    busRun := if r.busRun = 10 && busHigh d a then 10 else if vbAtLeast d a AXIS.BUSL.BUS_LO then 0
      else if r.busRun < 8 then r.busRun + 1 else if r.busRun = 10 then 1 else 9,
    residRun := if tests && residBad d a then min 4 (r.residRun + 1) else 0 }
  windowGuard a (commitActs a d)

def axisCommit (c : Nat) (d : Dev) : Dev :=
  each (List.range 16) (fun a d => if axOn d a && axCtx d a = c then axisCommit1 a d else d) d

/-! ### Commands (R315, R319, R326) -/

/-- A CMD write that may act on this tick (log 64). -/
def cmdAct (a : Nat) (val : Word) (d : Dev) : Dev :=
  let p := axisP a
  let st := axisState d a
  let ign := d.raise p AXIS.EVT.CMD_IGN
  let want := d.raise p AXIS.HSTAT.RUNREQ
  let rest := d.lower p AXIS.HSTAT.RUNREQ
  if bitOf val 3 then if st = AX_IDLE || st = AX_FAULTED then foReturn a d else ign
  else if bitOf val 0 then
    if st = AX_IDLE then
      if axOn d a && (d.mode = .run || d.mode = .limp) && vbAtLeast d a AXIS.BUSL.BUS_LO then
        openWindow a (axisEnter a AX_SOUNDING .off false want)
      else ign
    else if st = AX_HOLDING || st = AX_FAULTED then ign
    else if st = AX_STARTING || st = AX_RUNNING then d
    else want
  else if bitOf val 1 then
    if st = AX_SOUNDING then axisEnter a AX_IDLE .off false rest
    else if st = AX_CATCHING || st = AX_STARTING || st = AX_RUNNING then enterDecel a rest
    else if st = AX_DECEL || st = AX_COASTING then rest
    else ign
  else
    if st = AX_IDLE then rest
    else if st = AX_HOLDING || st = AX_FAULTED then ign
    else coast a false rest

/-- A write to CMD: nothing, ignored, deferred by R324, or taken, which is the axis's cause of its tick (log 64). -/
def axisCmd (a : Nat) (val : Word) (d : Dev) : Dev :=
  match [0, 1, 2, 3].filter (bitOf val) with
  | [] => d
  | [_] => if (d.axis a).late.isEmpty && axisMay d a 3 then axisTake a 3 (some val) (cmdAct a val) d
    else d.setAxis a { d.axis a with late := (d.axis a).late ++ [val] }
  | _ => d.raise (axisP a) AXIS.EVT.CMD_IGN

/-! ### Sounding (R327 to R330, R339, R348) -/

/-- R348: rolling in HOLDING: the event at each detection, AX_ROLL once per entry, and the change to SHORT where ESC asks for it. -/
def rollCheck (a : Nat) (f : Dy) (d : Dev) : Dev :=
  let p := axisP a
  let lim := d.fld p AXIS.HOLD.ROLL_HZ
  if lim = 0 || f.abs.le ⟨lim, 0⟩ then d
  else
    let d := d.raise p AXIS.EVT2.ROLL
    let d := if (d.axis a).rolled then d else (d.setAxis a { d.axis a with rolled := true }).send (faultOf p 32 0)
    if d.on p AXIS.HOLD.ESC then setAxisHold a .short (d.setAxis a { d.axis a with window := none, escaped := true }) else d

/-- R330: FE of a window in 2^−60 Hz. -/
def windowFe (w : Window) : Int :=
  match w.last with
  | some v => if v.tick ≤ w.first then 0 else hertz w.turn (v.tick - w.first)
  | none => 0

/-- R330: the class of a window: 1 STATIONARY, 2 FORWARD, 3 BACKWARD, 4 INVALID. -/
def windowClass (w : Window) : Nat :=
  let vk := bits (w.par.getD 2 0) 0 24
  let vmin := bits (w.par.getD 3 0) 16 16
  let lhs := 64 * w.sum * vk
  let rhs := vmin * w.sets * 2 ^ 40
  if w.sets < 8 then 4
  else if lhs * lhs < 3 * (rhs * rhs) then 1
  else if 0 ≤ windowFe w then 2 else 3

/-- SNDR and SNDV. -/
def showWindow (a : Nat) (w : Window) (d : Dev) : Dev :=
  let p := axisP a
  let c := windowClass w
  let fe := if c = 2 || c = 3 then windowFe w else 0
  let vk := bits (w.par.getD 2 0) 0 24
  let mean := if w.sets = 0 then Dy.zero
    else quotDy ⟨64 * w.sum * vk, -40⟩ (sqrt3.mul ⟨w.sets, 0⟩)
  let d := (d.setFld p AXIS.SNDR.RESULT c).setFld p AXIS.SNDR.SETS (min 255 w.sets)
  (d.setFld p AXIS.SNDV.FE (wrapTo 16 (satTo 16 ((⟨fe, -60⟩ : Dy).round 0)))).setFld p AXIS.SNDV.AMP (satU 16 (mean.round 0))

/-- R325, R330, R339, R348: what the result of a window does (log 65). -/
def windowDone (a : Nat) (w : Window) (d : Dev) : Dev :=
  let p := axisP a
  let d := showWindow a w (d.setAxis a { d.axis a with window := none })
  let c := windowClass w
  let fe := windowFe w
  let slow := (⟨fe, -60⟩ : Dy).abs.le ⟨bits (w.par.getD 0 0) 0 16, 0⟩
  let st := axisState d a
  if st = AX_SOUNDING then
    if c = 1 then axisEnter a AX_STARTING .none false d
    else if c = 4 then (axisEnter a AX_IDLE .off false (d.lower p AXIS.HSTAT.RUNREQ)).raise p AXIS.EVT2.SOUND_FAIL
    else if slow then enterCatching a w fe d
    else coast a false d
  else if st = AX_COASTING then
    let d := d.setAxis a { d.axis a with resoundAt := d.now + d.fld p AXIS.CATCH.RESOUND * 60000 }
    let run := d.on p AXIS.HSTAT.RUNREQ
    if c = 1 then
      if run then axisEnter a AX_STARTING .none false d else axisEnter a AX_IDLE .off false d
    else if c ≠ 4 && slow && run && !d.on p AXIS.HSTAT.FORCED then enterCatching a w fe d
    else d
  else if st = AX_HOLDING then
    windowNow a (if frameRun d (axFrame d a) then rollCheck a (if c = 2 || c = 3 then ⟨fe, -60⟩ else .zero) d else d)
  else d

/-- SOUNDING_WINDOW_END. -/
def windowEnd (a : Nat) (d : Dev) : Dev :=
  match (d.axis a).window with
  | none => d
  | some w =>
    if w.start.isNone || d.now < w.stop then d
    else if !axisMay d a 4 then oweOwn a d
    else axisTake a 4 none (windowDone a w) d

/-- RESOUND_START: the next window of a coast opens (R339). -/
def resoundLand (a : Nat) (d : Dev) : Dev :=
  let r := d.axis a
  if axisState d a = AX_COASTING && r.window.isNone && r.resoundAt ≤ d.now && resoundOk d a then openWindow a d else d

/-- Registers of a voltage set: those of the window where it takes this set, else those now set (R327, R329). -/
def soundPar (d : Dev) (a k : Nat) : Word × Word × Word :=
  let now := (d.reg (axisP a + 0x0C0 + 4 * k), d.reg (axisP a + 0x0C8), d.reg (axisP a + 0x0CC))
  match (d.axis a).window with
  | some w => if w.start.isSome && w.setB == (k == 1) then (w.par.getD 1 0, w.par.getD 2 0, w.par.getD 3 0) else now
  | none => now

/-- R328: a voltage set enters its window. -/
def windowAdd (v : VoltSet) (now : Nat) (w : Window) : Window :=
  if w.start.isNone || w.stop < now then w
  else match w.last with
    | none => { w with sets := w.sets + 1, sum := w.sum + vecSize v.a3 v.b1, first := v.tick, last := some v }
    | some u => { w with
        sets := w.sets + 1, sum := w.sum + vecSize v.a3 v.b1, last := some v, turn := w.turn + wrapTurn 60 (v.phi - u.phi) }

/-- R328: a result register has been written by a roster sample: a set forms where its three registers agree. -/
def voltNote (reg : Nat) (d : Dev) : Dev :=
  each (List.range 16) (fun a d =>
    if !axOn d a then d
    else each (setsOf d a) (fun k d =>
      let (sn, sk, sl) := soundPar d a k
      let rs := [bits sn 0 6, bits sn 8 6, bits sn 16 6]
      let lo := fun r => d.reg (resP + 0x100 + 8 * r)
      let key := fun r => bits (d.reg (resP + 0x104 + 8 * r)) 16 12
      let good := fun r => bitOf (lo r) 31 && !bitOf (lo r) 30 && !bitOf (lo r) 27 && !bitOf (lo r) 22 && key r == key reg
      if !rs.contains reg || !rs.all good then d
      else
        let c := fun i => (bits (lo (rs.getD i 0)) 0 14 : Int) - bits sl 0 14
        let a3 := 2 * c 0 - c 1 - c 2
        let b1 := c 1 - c 2
        let (f, d') := d.draw
        let (phi, d) := if a3 = 0 && b1 = 0 then ((f.toNat : Int) % 2 ^ 60, d') else (vecAngle a3 b1, d)
        let v : VoltSet := ⟨sget zeroNat d.samp.holds (rs.getD 0 0), a3, b1, bits sk 0 24, phi⟩
        let d := d.setPhases a k { d.phases a k with volts := some v }
        let r := d.axis a
        d.setAxis a { r with window := r.window.map fun w => if w.setB == (k == 1) then windowAdd v d.now w else w }) d) d

/-! ### Catching (R331) -/

/-- RESET_DONE of a catch: the seed is written into the context's state, and the gangs are released. -/
def axisSeed (a : Nat) (d : Dev) : Dev :=
  let p := axisP a
  let r := d.axis a
  match r.seed with
  | none => d
  | some (w, fe) =>
    match w.last with
    | none => d
    | some v =>
      if axisState d a ≠ AX_CATCHING || r.seeded then d
      else
        let c := axCtx d a
        let s := fe.sign
        let th := wrapTurn 60 (v.phi + fe * (d.now - v.tick) / 600000000 - s * 2 ^ 58)
        let put := fun st i (x : Word) (d : Dev) => if st + i < 63 then setCtxWord c (wSTATE + st + i) x d else d
        let pll := stageOf (slotWords d (d.fld p AXIS.SEED.PLL))
        let obs := stageOf (slotWords d (d.fld p AXIS.SEED.OBS))
        let d := put pll.stb 0 (wordAt 0 ⟨th, -60⟩) d
        let d := put pll.stb 1 (sigWord pll.exp (satTo 24 ((⟨fe, -60⟩ : Dy).roundQuot ⟨1000, 0⟩ (pll.exp - 23)))) d
        let (sn, cs) := sinCos th
        let amp : Dy := ⟨(vecSize v.a3 v.b1 : Int) * v.vk, -40⟩
        let den := ((⟨fe, -60⟩ : Dy).abs.mul ⟨twoPi, -60⟩).mul ⟨3, 0⟩
        let lam := fun (x : Int) (f : BitVec 64) =>
          if fe = 0 then sigWord obs.exp (signedOf 24 (f.toNat % 2 ^ 24))
          else sigWord obs.exp (satTo 24 ((amp.mul ⟨x, -60⟩).roundQuot den (obs.exp - 23)))
        let (f1, d) := d.draw
        let (f2, d) := d.draw
        let d := put obs.stb 1 (lam sn f2) (put obs.stb 0 (lam cs f1) d)
        setAxisHold a .none (d.setAxis a { d.axis a with seeded := true })

/-! ### Reloads of the axis's frame -/

/-- R340: f tracked from the current vector of a set. -/
def trackSet (a k : Nat) (d : Dev) : Dev :=
  let s := d.phases a k
  let i := inCurrents d a k
  let a3 := 2 * i.getD 0 0 - i.getD 1 0 - i.getD 2 0
  let b1 := i.getD 1 0 - i.getD 2 0
  let phk : Int := d.fld (axisP a) AXIS_PHK
  if (a3 * a3 + 3 * (b1 * b1)) * (phk * phk) < 9 * 2 ^ 40 then d.setPhases a k { s with track := none, trackF := 0 }
  else
    let phi := vecAngle a3 b1
    let f := match s.track with
      | some (u, t) => if t < d.now then hertz (wrapTurn 60 (phi - u)) (d.now - t) else s.trackF
      | none => s.trackF
    d.setPhases a k { s with track := some (phi, d.now), trackF := f }

/-- R340: SPEED_SELECT at a reload, for the axis and for dropped sets. -/
def speedSelect (a : Nat) (d : Dev) : Dev :=
  let p := axisP a
  let vb := axisVb d a
  let k := mainSet d a
  let d := if !(d.axis a).select then d
    else
      let r := d.axis a
      let n := r.shortFor + 1
      let u := if r.hold = .short then uhatShort d a k else uhatOff d a k
      let d := d.setAxis a { r with shortFor := n }
      setAxisHold a (selectHold r.hold n u vb) (d.setFld p AXIS.HSTAT.UHAT (satU 16 (u.round (-6))))
  each (setsOf d a) (fun k d =>
    if !setDropped d a k then d
    else if !(d.on p AXIS.HSTAT.FORCED || d.fld p AXIS.CFG.SAFE ≠ 0) then setSetHold a k .off d
    else
      let s := d.phases a k
      let n := s.shortFor + 1
      let u := if s.hold = .short then uhatShort d a k else uhatOff d a k
      setSetHold a k (selectHold s.hold n u vb) (d.setPhases a k { s with shortFor := n })) d

/-- What a reload of its frame on tick `t` brings an axis. -/
def axisReload (a t : Nat) (d : Dev) : Dev :=
  let p := axisP a
  if !axOn d a then d
  else
    let d := each (setsOf d a) (fun k d => trackSet a k (periodEnd a k d)) d
    let d := writeRefs a d
    let d := if d.on p AXIS.ASTAT.VSAT then d.bump p AXIS.COUNT.VSAT_COUNT else d
    let r := d.axis a
    let d := if axisState d a = AX_CATCHING && r.seeded && r.catchAt.isNone then d.setAxis a { r with catchAt := some t } else d
    let d := windowStart a t (windowGuard a (speedSelect a d))
    if axisState d a = AX_HOLDING && (d.axis a).hold == .short then rollCheck a (speedOf d a (mainSet d a)) d else d

def axesReload (f t : Nat) (d : Dev) : Dev :=
  each (List.range 16) (fun a d => if axFrame d a = f then axisReload a t d else d) d

/-! ### What goes on between commands -/

/-- MINSCALE, IEFF and lost phases follow the gangs. -/
def axisSettle (a : Nat) (d : Dev) : Dev :=
  let d := if axOn d a then gangsLost a d else d
  axisLimits a d

def axesSettle (d : Dev) : Dev := each (List.range 16) axisSettle d

/-- R325: PARK holds an idle axis, and its end frees one; where the axis has taken a cause of this tick, on the next. -/
def parkMode (a : Nat) (d : Dev) : Dev :=
  let enters := d.mode = .park && axisState d a = AX_IDLE
  let leaves := d.mode ≠ .park && axisState d a = AX_HOLDING
  if !(enters || leaves) then d
  else if !axisMay d a 4 then d.setAxis a { d.axis a with owedPark := true }
  else axisTake a 4 none (if enters then enterHolding a else axisEnter a AX_IDLE .off false) d

/-- R324: on a new tick an axis takes what another cause shut out, in the order of the rule; and the count of a locked rotor
follows what the latest tick left. -/
def axisTick (a : Nat) (d : Dev) : Dev :=
  let d := lockedSync a (d.now - 1) d
  let d := if (d.axis a).owedFault then axisFault a (d.setAxis a { d.axis a with owedFault := false }) else d
  let d := axisSettle a d
  let redo := (d.axis a).redo
  let d := if redo then commitFirst a d else d
  let d := match (d.axis a).late with
    | [] => d
    | v :: vs => if axisMay d a 3 then axisTake a 3 (some v) (cmdAct a v) (d.setAxis a { d.axis a with late := vs }) else d
  let d := if redo then oweTests a (commitLast a d) else speedCheck a d
  let d := if (d.axis a).owedOwn then windowEnd a (lossRampEnd a (catchEndLand a (d.setAxis a { d.axis a with owedOwn := false }))) else d
  if (d.axis a).owedPark then parkMode a (d.setAxis a { d.axis a with owedPark := false }) else d

/-- R325: the device's mode has changed. -/
def axisMode (old : Mode) (a : Nat) (d : Dev) : Dev :=
  if !axOn d a then d
  else match d.mode with
    | .safe | .halt => axisFault a d
    | .park => parkMode a d
    | _ => if old = .park then parkMode a d else d

/-- R338, R347: the hold of a state whose policy a commit has changed. -/
def policySet (a : Nat) (d : Dev) : Dev :=
  let p := axisP a
  let st := axisState d a
  let pol := d.fld p AXIS.CFG.SAFE
  let d := dropPolicy a d
  if st = AX_COASTING then
    let sel := d.on p AXIS.HSTAT.FORCED || pol ≠ 0
    let d := d.setAxis a { d.axis a with select := sel }
    if sel then d else setAxisHold a .off d
  else if st = AX_FAULTED then
    setAxisHold a (policyHold d a pol) (d.setAxis a { d.axis a with select := pol = 2 })
  else if st = AX_HOLDING && !(d.axis a).escaped then setAxisHold a (parkHold d a) d
  else d

/-- R321, R323, R343, R347: a commit has set registers of the axis's page. EN 0 to 1 finds an axis FAULTED whose gangs the
collector still holds (DEDUCED, log 106). -/
def axisSet (a : Nat) (d : Dev) : Dev :=
  let p := axisP a
  let en := axOn d a
  let r := d.axis a
  if en ≠ r.en then
    let d := if en then (d.lower p AXIS.HSTAT.DROP).lower p AXIS.ASTAT.SETB_DROP else d
    let d := d.lower p AXIS.HSTAT.RUNREQ
    let d := axisEnter a AX_IDLE .off false d
    let d := each [0, 1] (setSetHold a · .off) d
    let d := d.setAxis a { d.axis a with
      en := en, late := [], owedPark := false, owedOwn := false, redo := false, lostGangs := 0, busRun := 0, sector := none,
      sets := (d.axis a).sets.map fun s => { setReset with hold := s.hold } }
    let d := if en && (d.axis a).faultHeld then enterFaulted a d else d
    (axisLimits a d).reLimp
  else axisLimits a (if en then policySet a d else d)

end Sys2Proof.Machine
end

