-- ==== Sys2Proof/Machine/Memory.lean ====
section
/-!
DEFINITION. Byte memory: Hewer SRAM, Deputy SRAM and MRAM (R434), as pairs of address and byte in one canonical form:
rising addresses, no byte equal to 0, which is what an unlisted byte reads as (log 5).
-/

namespace Sys2Proof.Machine

/-- What a byte that nothing has written reads as (log 5). -/
def blankByte : Nat → Byte := fun _ => 0

/-- Addresses rise and no entry is blank. -/
def Memory.wf : List Host.Cell → Bool
  | [] => true
  | [(_, v)] => v != 0
  | (a, v) :: (b, w) :: m => v != 0 && decide (a < b) && Memory.wf ((b, w) :: m)

def memByte (d : Dev) (a : Nat) : Byte := sget blankByte d.mem a
def memPut (a : Nat) (v : Byte) (d : Dev) : Dev := { d with mem := sput blankByte d.mem a v }

/-- Bytes from an address up. -/
def memBytes (d : Dev) (a n : Nat) : List Byte := (List.range n).map fun i => memByte d (a + i)

def memPutAll : Nat → List Byte → Dev → Dev
  | _, [], d => d
  | a, b :: bs, d => memPutAll (a + 1) bs (memPut a b d)

/-- A word, lowest byte first (R7). -/
def memWord (d : Dev) (a : Nat) : Word := bytesWord (memBytes d a 4)

/-- R441: a write by another requester than Hewer core `own` to the `n` bytes from `a` up ends a reservation of their
granule. -/
def breakResv (own : Option Nat) (a n : Nat) (d : Dev) : Dev :=
  d.setSys fun r => { r with resv := (List.range 4).map fun c => match r.resv.getD c none with
    | some (g, t) => if own ≠ some c && a / 32 * 32 ≤ g && g < a + n then none else some (g, t)
    | none => none }

/-! ### The regions (R434) -/

def inSram (a : Nat) : Bool := 0x10000000 ≤ a && a < 0x10200000
def inDeputy (a : Nat) : Bool := 0x18000000 ≤ a && a < 0x18080000
def inMram (a : Nat) : Bool := 0x20000000 ≤ a && a < 0x20800000

/-! ### The image slots (R513) -/

/-- The slot that an MRAM address lies in. -/
def slotAt (a : Nat) : Option Nat :=
  if a < 0x20000000 then none else if a < 0x20300000 then some 0 else if a < 0x20600000 then some 1 else none

def updIgn (d : Dev) : Dev := d.raise nvP NV.UPD_EVT.WR_IGN

/-- R513: whether a write to MRAM is ignored (log 77). -/
def slotIgnored (d : Dev) (a : Nat) : Bool :=
  match slotAt a with
  | none => false
  | some s => d.mode ≠ .update || (d.on nvP NV.UPD_STAT.BOOTED && d.fld nvP NV.UPD_STAT.ACTIVE == s)

/-- A write of words to MRAM, of which R513 ignores those that lie in a protected slot. -/
def mramPut (a : Nat) (bs : List Byte) (d : Dev) : Dev :=
  (List.range (bs.length / 4)).foldl (fun d i =>
    if slotIgnored d (a + 4 * i) then updIgn d else memPutAll (a + 4 * i) ((bs.drop (4 * i)).take 4) d) d

end Sys2Proof.Machine
end

