-- ==== Sys2Proof/Machine/Converters.lean ====
section
/-!
DEFINITION. Converters: roles, taps and the reference, states, soft-start and foldback, fast and slow limits, precharge, dump
and the last-fault record (R380 to R401).
-/

namespace Sys2Proof.Machine

def convOn (d : Dev) (c : Nat) : Bool := d.on (convP c) CONV.CFG.EN
def convCtx (d : Dev) (c : Nat) : Nat := d.fld (convP c) CONV.CFG.CTX
def convFrame (d : Dev) (c : Nat) : Nat := d.fld (convP c) CONV.CFG.FRAME

/-- ROLE 1 to 3: a supply with a soft-start reference. -/
def convSupply (d : Dev) (c : Nat) : Bool := let r := convRole d c; 1 ≤ r && r ≤ 3

/-- A current limit in 1/32 A, scaled by MINSCALE ÷ 256 (R384). -/
def scaledLimit (d : Dev) (c : Nat) (f : Fld) : Dy := ⟨d.fld (convP c) f * d.fld (convP c) CONV.CSTAT.MINSCALE, -13⟩

/-! ### Taps and the reference (R385, R386) -/

/-- A tapped signal of the set half; 0xFF reads as 0. -/
def tapWord (d : Dev) (c : Nat) (f : Fld) : Word :=
  let t := d.fld (convP c) f
  if t = 255 then 0 else ctxWord d (convCtx d c) (wSIG + t)

def convTap (d : Dev) (c i : Nat) : Dy := (sigOf ((d.conv c).taps.getD i 0)).dy
def tapVin (d : Dev) (c : Nat) : Dy := convTap d c 0
def tapVout (d : Dev) (c : Nat) : Dy := convTap d c 1
def tapIl (d : Dev) (c : Nat) : Dy := convTap d c 2

/-- The taps of a commit, as MEAS and MEAS2 show them. -/
def convTaps (c : Nat) (d : Dev) : Dev :=
  let p := convP c
  let d := d.setConv c { d.conv c with taps := [CONV.TAP.VIN, CONV.TAP.VOUT, CONV.TAP.IL].map (tapWord d c) }
  let d := d.setFld p CONV.MEAS.VOUT (satU 16 ((tapVout d c).round (-6)))
  let d := d.setFld p CONV.MEAS.IL (wrapTo 16 (satTo 16 ((tapIl d c).round (-5))))
  d.setFld p CONV.MEAS2.VIN (satU 16 ((tapVin d c).round (-6)))

/-- The value of REF0 for a role (R381, R386). -/
def convRef (d : Dev) (c : Nat) : Option Dy :=
  let p := convP c
  match convRole d c with
  | 1 | 2 | 3 => some ⟨(d.conv c).vss, -16⟩
  | 4 => some (scaledLimit d c CONV.PCHG.PC_I)
  | 5 => some ⟨d.fld p CONV.DUMP.DUMP_OFF, -6⟩
  | _ => none

def convWriteRef (c : Nat) (d : Dev) : Dev :=
  match convRef d c with
  | none => d
  | some v =>
    if convOn d c && convCtx d c < 192 then setCtxWord (convCtx d c) wREF (wordAt (d.sfld (convP c) CONV.CFG.REFEXP) v) d else d

/-- R384: MINSCALE is latched where work of a context starts; a change writes REF0 (R386). -/
def convLatch (ctx : Nat) (d : Dev) : Dev :=
  each (List.range 16) (fun c d =>
    if !convOn d c || convCtx d c ≠ ctx then d
    else
      let m := lowScale d (convOwned d c)
      if m = d.fld (convP c) CONV.CSTAT.MINSCALE then d
      else convWriteRef c (d.setFld (convP c) CONV.CSTAT.MINSCALE m)) d

/-! ### Soft-start (R390) -/

/-- R390: VSS is kept in 2⁻¹⁶ V, and its register shows it rounded (log 66). -/
def setVss (c v : Nat) (d : Dev) : Dev :=
  (d.setConv c { d.conv c with vss := v }).setFld (convP c) CONV.VSTAT.VSS (min 0xFFFF ((v + 512) / 1024))

/-- VTGT and OV_V in 2^−16 V. -/
def vtgt (d : Dev) (c : Nat) : Nat := 1024 * d.fld (convP c) CONV.VREF.VTGT
def ovV (d : Dev) (c : Nat) : Nat := 1024 * d.fld (convP c) CONV.VREF.OV_V

/-- clamp(VOUT, 0, VTGT). -/
def vssFrom (d : Dev) (c : Nat) : Nat := min (vtgt d c) ((tapVout d c).round (-16)).toNat

/-- STARTING, with VSS as from IDLE for a supply. -/
def convStarting (c : Nat) (d : Dev) : Dev :=
  let d := convEnter c CV_STARTING .none d
  if convSupply d c then setVss c (vssFrom d c) d else d

/-- R390's rule for a reload: the new VSS, and whether rule 1 or 2 acted. -/
def vssNext (d : Dev) (c : Nat) : Nat × Bool :=
  let p := convP c
  let v := (d.conv c).vss
  let f := scaledLimit d c CONV.ILIM.FOLD_I
  let il := tapIl d c
  let step := d.fld p CONV.SS.FOLD_STEP
  let ss := d.fld p CONV.SS.SS_STEP
  let t := vtgt d c
  if decide (0 < f.m) && f.lt il then (v - step, true)
  else if convRole d c = 3 && decide (0 < f.m) && il.lt f.neg then
    (max v (min (v + step) (if d.fld p CONV.VREF.OV_V = 0 then t else ovV d c)), true)
  else (if v < t then min t (v + ss) else max t (v - ss), false)

/-- STARTING ends where VSS equals VTGT (R388). -/
def convSsDone (c : Nat) (d : Dev) : Dev :=
  if convOn d c && convSupply d c && convState d c = CV_STARTING && (d.conv c).vss = vtgt d c && convFree d c then
    convTake c 4 none (fun d => (convEnter c CV_RUNNING .none d).raise (convP c) CONV.EVT.SS_DONE) d
  else d

/-- What a reload of its frame does to a converter (R386, R388, R390). -/
def convReload1 (c : Nat) (d : Dev) : Dev :=
  let p := convP c
  let st := convState d c
  let d := if d.on p CONV.CSTAT.PAUSE then d.setConv c { d.conv c with pause := (d.conv c).pause + 1 } else d
  let run := convSupply d c && (st = CV_STARTING || st = CV_RUNNING)
  let (v, fold) := if run then vssNext d c else ((d.conv c).vss, false)
  let d := if run then setVss c v d else d
  let d := d.setFld p CONV.CSTAT.FOLD (b2n fold)
  let d := if fold then d.bump p CONV.COUNT.FOLDS else d
  convWriteRef c (convSsDone c d)

def convReload (f : Nat) (d : Dev) : Dev :=
  each (List.range 16) (fun c d => if convOn d c && convFrame d c = f then convReload1 c d else d) d

/-- FAST_PAUSE_END: the FAST_OFF-th reload after a trip. -/
def fastPauseEndLand (c : Nat) (d : Dev) : Dev :=
  let p := convP c
  if convState d c ≠ CV_HOLDING || !d.on p CONV.CSTAT.PAUSE || (d.conv c).pause < max 1 (d.fld p CONV.FASTL.FAST_OFF) then d
  else if convRole d c = 5 then d.lower p CONV.CSTAT.PAUSE
  else if !convFree d c then d.setConv c { d.conv c with owedPause := true }
  else convTake c 4 none (convStarting c) d

/-! ### Limits (R391 to R395) -/

/-- Whether the tick finds the converter in STARTING or RUNNING, whatever else the tick has done to it (R395). -/
def convRunning (d : Dev) (c : Nat) : Bool := CV_runs (convWas d c)

/-- R391, R392: a fast trip (log 66). On the tick of an L2 fault it counts, and the fault decides the state (R395). -/
def fastTrip (c : Nat) (d : Dev) : Dev :=
  let p := convP c
  let d := if convState d c = CV_FAULTED then d
    else convTake c 2 none (fun d => (convEnter c CV_HOLDING .off d).raise p CONV.CSTAT.PAUSE) d
  let n := (d.conv c).trips + 1
  let d := d.setConv c { d.conv c with trips := n, tripAt := d.now, pause := 0 }
  let d := d.setFld p CONV.CSTAT.FTRIPS (min 15 n)
  let d := ((d.raise p CONV.EVT.FAST).bump p CONV.COUNT.FAST_TRIPS).send (faultOf p 37 (min 15 n))
  if max 1 (d.fld p CONV.FASTL.FAST_MAX) ≤ n then (d.raise p CONV.EVT.SHORT).send (faultOf p 38 0) else d

/-- R391: a result register is written with a converted code. -/
def convsFast (reg code : Nat) (d : Dev) : Dev :=
  each (List.range 16) (fun c d =>
    let p := convP c
    if !convOn d c || !convRunning d c || (!convFree d c && (d.conv c).rank = 2) || d.fld p CONV.FAST.RES ≠ reg ||
      d.fld p CONV.FASTL.FAST_I = 0 then d
    else
      let amps : Dy := ⟨((code : Int) - d.fld p CONV.FAST.IZ).natAbs * d.fld p CONV.FASTK.IK, -20⟩
      if (scaledLimit d c CONV.FASTL.FAST_I).lt amps then fastTrip c d else d) d

/-- FAST_WIN_EXPIRY (R392). -/
def fastWinLand (c : Nat) (d : Dev) : Dev :=
  let p := convP c
  if (d.conv c).trips = 0 || d.now < (d.conv c).tripAt + 60000 * d.fld p CONV.FASTW.FAST_WIN then d
  else (d.setConv c { d.conv c with trips := 0 }).lower p CONV.CSTAT.FTRIPS

/-- OVERLOAD_STEP (R393): a boundary of 60,000 device ticks has passed since the converter's latest step (log 66). -/
def overloadLand (c : Nat) (d : Dev) : Dev :=
  let p := convP c
  let at_ := (d.conv c).stepAt / 60000 * 60000 + 60000
  if d.now < at_ then d
  else
    let d := d.setConv c { d.conv c with stepAt := at_ }
    if !convOn d c || !convRunning d c then d
    else
      let n := d.fld p CONV.VSTAT.OLCNT
      if (scaledLimit d c CONV.ILIM.OL_I).lt (tapIl d c).abs then
        let d := d.bump p CONV.VSTAT.OLCNT
        let m := d.fld p CONV.VSTAT.OLCNT
        if d.fld p CONV.OLT.OL_TIME ≠ 0 && d.fld p CONV.ILIM.OL_I ≠ 0 && d.fld p CONV.OLT.OL_TIME ≤ m then
          (d.raise p CONV.EVT.OVERLOAD).send (faultOf p 39 0)
        else d
      else d.setFld p CONV.VSTAT.OLCNT (n - 1)

/-! ### Commits (R388, R394, R396 to R398) -/

/-- R394: overvoltage at 2 consecutive commits. -/
def convOvCheck (c : Nat) (d : Dev) : Dev :=
  let p := convP c
  let above := convSupply d c && d.fld p CONV.VREF.OV_V ≠ 0 && convState d c ≠ CV_FAULTED && (⟨d.fld p CONV.VREF.OV_V, -6⟩ : Dy).lt (tapVout d c)
  let n := if above then (d.conv c).ovRun + 1 else 0
  let d := d.setConv c { d.conv c with ovRun := n }
  if n = 2 then (d.raise p CONV.EVT.OV).send (faultOf p 40 0) else d

/-- R396: a precharge in STARTING acts. -/
def prechargeAct (c : Nat) (d : Dev) : Dev :=
  let p := convP c
  let diff := (tapVout d c).sub (tapVin d c)
  let lim : Dy := ⟨d.fld p CONV.PCHG.PC_DONE, -6⟩
  if lim.lt diff then setConvHold c .off d
  else
    let d := if diff.abs.le lim && !d.on p CONV.CSTAT.CTC then
        ((d.raise p CONV.CSTAT.CTC).raise p CONV.EVT.PC_DONE).setConv c { d.conv c with ctcAt := some d.now }
      else d
    setConvHold c .none d

/-- R388, R397: a precharge converter that has counted 8 commits. -/
def packTurn (c : Nat) (d : Dev) : Dev :=
  let p := convP c
  let st := convState d c
  if (d.conv c).packRun < 8 || !(st = CV_RUNNING || (st = CV_IDLE && d.on p CONV.CFG.AUTO)) then d
  else if !convFree d c then d.setConv c { d.conv c with owedCommit := true }
  else
    convTake c 4 none (fun d =>
      if st = CV_RUNNING then (convEnter c CV_IDLE .off d).raise p CONV.EVT.PACK_LOST else convStarting c d) d

/-- R388, R397: pack presence, and what it does to a precharge converter. -/
def packAct (c : Nat) (d : Dev) : Dev :=
  let p := convP c
  let pack := (⟨d.fld p CONV.PACK.PACK_MIN, -6⟩ : Dy).le (tapVin d c)
  let d := d.setFld p CONV.CSTAT.PACK (b2n pack)
  if convRole d c ≠ 4 then d
  else
    let st := convState d c
    let counts := (st = CV_IDLE && pack && (d.mode = .run || d.mode = .limp)) || (st = CV_RUNNING && !pack)
    let n := if counts then (d.conv c).packRun + 1 else 0
    packTurn c (d.setConv c { d.conv c with packRun := n })

/-- R398: a dump compares the bus with its levels. -/
def dumpAct (c : Nat) (d : Dev) : Dev :=
  let p := convP c
  let st := convState d c
  let fires := st = CV_HOLDING && !d.on p CONV.CSTAT.PAUSE && (⟨d.fld p CONV.DUMP.DUMP_ON, -6⟩ : Dy).lt (tapVin d c)
  let ends := st = CV_RUNNING && (tapVin d c).lt ⟨d.fld p CONV.DUMP.DUMP_OFF, -6⟩
  if !(fires || ends) && convFree d c then d
  else if !convFree d c then d.setConv c { d.conv c with owedCommit := true }
  else if fires then convTake c 4 none (fun d => (convEnter c CV_RUNNING .none d).raise p CONV.EVT.DUMP_ON) d
  else convTake c 4 none (convEnter c CV_HOLDING .off) d

/-- What a commit of its context does to a converter. -/
def convCommit1 (c : Nat) (d : Dev) : Dev :=
  let d := convOvCheck c (convTaps c d)
  let st := convState d c
  let d := packAct c d
  if convRole d c = 4 && st = CV_STARTING then prechargeAct c d
  else if convRole d c = 5 then dumpAct c d
  else d

def convCommit (ctx : Nat) (d : Dev) : Dev :=
  each (List.range 16) (fun c d => if convOn d c && convCtx d c = ctx then convCommit1 c d else d) d

/-- CONTACTOR_DELAY_END (R396). -/
def contactorLand (c : Nat) (d : Dev) : Dev :=
  match (d.conv c).ctcAt with
  | none => d
  | some t =>
    if convRole d c ≠ 4 || convState d c ≠ CV_STARTING || d.now < t + 60000 * d.fld (convP c) CONV.PCHG2.CT_DLY then d
    else if !convFree d c then d.setConv c { d.conv c with owedDelay := true }
    else convTake c 4 none (convEnter c CV_RUNNING .off) d

/-- PC_TIMEOUT (R396). -/
def pcTimeoutLand (c : Nat) (d : Dev) : Dev :=
  let p := convP c
  let t := d.fld p CONV.PCHG2.PC_TMAX
  if convRole d c = 4 && convState d c = CV_STARTING && t ≠ 0 && (d.conv c).startAt + 60000 * t ≤ d.now && !(d.conv c).pcSent then
    ((d.setConv c { d.conv c with pcSent := true }).raise p CONV.EVT.PC_TIMEOUT).send (faultOf p 41 0)
  else d

/-! ### Commands and modes (R389) -/

def convIgn (c : Nat) (d : Dev) : Dev := d.raise (convP c) CONV.EVT.CMD_IGN

def convCmdAct (c : Nat) (val : Word) (d : Dev) : Dev :=
  let st := convState d c
  match bitOf val 0, bitOf val 1 with
  | false, false => d
  | true, false =>
    if !convOn d c || st ≠ CV_IDLE || !(d.mode = .run || d.mode = .limp) then convIgn c d
    else if convSupply d c || convRole d c = 4 then convStarting c d
    else if convRole d c = 5 then convEnter c CV_HOLDING .off d
    else convIgn c d
  | false, true =>
    if convOn d c && (st = CV_STARTING || st = CV_RUNNING || st = CV_HOLDING) then convEnter c CV_IDLE .off d else convIgn c d
  | true, true => convIgn c d

/-- CMD; a write that finds a cause of its place or an earlier one taken on its tick waits for the next one (R324, R388), and so
does one that finds others waiting. -/
def convCmd (c : Nat) (val : Word) (d : Dev) : Dev :=
  if bits val 0 2 = 0 then d
  else if convMay d c 3 && (d.conv c).late.isEmpty then convTake c 3 (some val) (convCmdAct c val) d
  else d.setConv c { d.conv c with late := (d.conv c).late ++ [val] }

/-- R389: the device has left RUN and LIMP for a mode other than SAFE or HALT. -/
def convLeave (c : Nat) (d : Dev) : Dev :=
  let st := convState d c
  if st = CV_IDLE || st = CV_FAULTED || (convRole d c = 4 && st = CV_RUNNING) then d
  else if !convFree d c then d.setConv c { d.conv c with owedMode := true }
  else convTake c 4 none (convEnter c CV_IDLE .off) d

/-- R324, R388: on a new tick a converter takes what another cause shut out, in the order of the rule. -/
def convTick (c : Nat) (d : Dev) : Dev :=
  let r := d.conv c
  let d := match r.late with
    | [] => d
    | v :: vs => convTake c 3 (some v) (convCmdAct c v) (d.setConv c { r with late := vs })
  let d := d.setConv c { d.conv c with owedPause := false, owedDelay := false, owedCommit := false, owedMode := false }
  let d := if r.owedMode && !(d.mode = .run || d.mode = .limp) then convLeave c d else d
  let d := if r.owedPause then fastPauseEndLand c d else d
  let d := if r.owedDelay then contactorLand c d else d
  let d := if r.owedCommit then (if convRole d c = 5 then dumpAct c d else packTurn c d) else d
  convSsDone c d

/-- The device's mode has changed. -/
def convMode (old : Mode) (c : Nat) (d : Dev) : Dev :=
  if !convOn d c then d
  else match d.mode with
    | .safe | .halt => convFault c 0 true d
    | .run | .limp => d
    | _ => if old = .run || old = .limp then convLeave c d else d

/-- R387, R397: a commit has set registers of the converter's page. EN 0 to 1 finds a converter FAULTED whose gangs the collector
still holds (DEDUCED, log 106). -/
def convSet (c : Nat) (d : Dev) : Dev :=
  let en := convOn d c
  if en = (d.conv c).en then d
  else
    let st := if en && (d.conv c).faultHeld then CV_FAULTED else CV_IDLE
    convEnter c st .off (d.setConv c { d.conv c with
      en := en, late := [], owedPause := false, owedDelay := false, owedCommit := false, owedMode := false })

/-! ### The last-fault record (R399, R401) -/


/-- LF_WRITTEN: the record being written reaches MRAM, or MRAM reports the write as failed. A masked requester RECORD waits
(R469), and a protected image slot keeps what it holds (R513). -/
def lfWrittenLand (c : Nat) (ok : Bool) (d : Dev) : Dev :=
  let p := convP c
  match (d.conv c).lf with
  | [] => d
  | (seq, bytes) :: rest =>
    if recordShut d then d
    else
    let d := if ok then mramPut ((d.reg (p + 0x078)).toNat + 32 * (seq % max 1 (d.fld p CONV.LFCFG.LFN))) bytes d else d
    let d := d.setConv c { d.conv c with lf := rest }
    let d := (d.setFld p CONV.LFSTAT.STAT (if ok then 2 else 3)).setFld p CONV.LFSTAT.SEQ seq
    let d := if ok then d.raise p CONV.EVT.LF_WRITTEN else d.send (faultOf p 42 1)
    match rest with
    | [] => d
    | (next, _) :: _ => (d.setFld p CONV.LFSTAT.STAT 1).setFld p CONV.LFSTAT.SEQ next

end Sys2Proof.Machine
end

