-- ==== Sys2Proof/Machine/Feedback.lean ====
section
/-!
DEFINITION. Feedback channels: counting, direction, speed, sector, index, the absolute word, encoder emulation, capture and
commands (R352 to R378).
-/

namespace Sys2Proof.Machine

def fbOn (d : Dev) (k : Nat) : Bool := d.on (fbP k) FB.CFG.EN
/-- 0 INC, 1 HALL, 2 ABS. -/
def fbMode (d : Dev) (k : Nat) : Nat := d.fld (fbP k) FB.CFG.MODE
def fbRev (d : Dev) (k : Nat) : Bool := d.on (fbP k) FB.CFG.REV
def fbPos (d : Dev) (k : Nat) : Int := (d.reg (fbP k + 0x080)).toInt
def fbCpr (d : Dev) (k : Nat) : Nat := (d.reg (fbP k + 0x044)).toNat
def fbPp (d : Dev) (k : Nat) : Nat := max 1 (d.fld (fbP k) FB.CFG.PP)
/-- R364. -/
def fbCprEff (d : Dev) (k : Nat) : Nat := if fbMode d k = 1 then 6 * fbPp d k else fbCpr d k

/-! ### Faults -/

/-- FB_FAULT (R377, R378). -/
def fbFault (k cause : Nat) (d : Dev) : Dev :=
  ((d.raise (fbP k) FB.FSTAT.FAILED).raise (fbP k) FB.EVT.FAILED).send (faultOf (fbP k) 36 cause)

/-- R357, R358: an edge error. -/
def edgeError (k cause : Nat) (d : Dev) : Dev :=
  let p := fbP k
  let d := ((d.raise p FB.EVT.EDGE).bump p FB.COUNT.EDGE).lower p FB.FSTAT.HOMED
  let d := (d.setFb k { d.fb k with dirty := true }).send (faultOf p 33 cause)
  let n := d.fld p FB.FSTAT.ERRCNT + 1
  if max 1 (d.fld p FB.EDGE.EDGE_MAX) ≤ n then fbFault k 0 (d.lower p FB.FSTAT.ERRCNT) else d.setFld p FB.FSTAT.ERRCNT n

/-! ### Emulation (R374, R375) -/

/-- The target T; where CPR_eff is 0 the spec states none, and T is free (log 2). -/
def emuTarget (k : Nat) (d : Dev) : Int × Dev :=
  let c := fbCprEff d k
  if c = 0 then let (v, d) := d.draw; (v.toInt, d)
  else ((fbPos d k * 4 * d.fld (fbP k) FB.EMU.ELINES).fdiv c, d)

def emuOn (d : Dev) (k : Nat) : Bool := k < 4 && d.on (fbP k) FB.EMU.EN

/-- R375: the lag of the output count, flagged once per excursion. -/
def emuCheck (k : Nat) (d : Dev) : Dev :=
  if !emuOn d k then d
  else
    let p := fbP k
    let (t, d) := emuTarget k d
    let r := d.fb k
    if (t - r.emu).natAbs ≤ d.fld p FB.EMU2.EMAX then d.setFb k { r with lag := false }
    else if r.lag then d
    else ((d.setFb k { r with lag := true }).raise p FB.EVT.EMU_LAG).bump p FB.COUNT2.EMU_LAG

/-- E takes T without an edge. -/
def emuLoad (k : Nat) (d : Dev) : Dev :=
  let (t, d) := emuTarget k d
  d.setFb k { d.fb k with emu := t, lag := false }

/-- EMU_STEP. -/
def emuStepLand (k : Nat) (d : Dev) : Dev :=
  if !emuOn d k || d.now < (d.fb k).emuAt + d.fld (fbP k) FB.EMU2.EMIN then d
  else
    let (t, d) := emuTarget k d
    let r := d.fb k
    if t = r.emu then d
    else emuCheck k (d.setFb k { r with emu := if r.emu < t then r.emu + 1 else r.emu - 1, emuAt := d.now })

/-- Levels of the EMU pins A, B and Z (R374). -/
def emuLevels (d : Dev) (k : Nat) : Bool × Bool × Bool :=
  let e := (d.fb k).emu
  let q := e % 4
  (q = 1 || q = 2, q = 2 || q = 3,
    d.on (fbP k) FB.EMU.ZEN && e % (4 * d.fld (fbP k) FB.EMU.ELINES) = 0 && (fbMode d k ≠ 0 || d.on (fbP k) FB.FSTAT.HOMED))

/-! ### Position and sector (R355, R365) -/

/-- R365: the sector changes; a change between sectors is a commutation event (R316). -/
def setSector (k s : Nat) (d : Dev) : Dev :=
  let p := fbP k
  let old := d.fld p FB.FSTAT.SECTOR
  if old = s then d
  else
    let d := d.setFld p FB.FSTAT.SECTOR s
    if 6 ≤ old || 6 ≤ s then d
    else match fbAxis d k with
      | some a => if d.on (axisP a) AXIS.CFG.COMM_SRC then commutated a d else d
      | none => d

/-- The sector of a position in INC and ABS. -/
def posSector (d : Dev) (k : Nat) : Nat :=
  let c := fbCpr d k
  if c = 0 then 7 else (6 * (((fbPp d k : Int) * (fbPos d k - (d.reg (fbP k + 0x04C)).toNat)) % c) / c).toNat

/-- The sector follows the position: at once in INC, from the first good read on in ABS. -/
def fbSector (k : Nat) (d : Dev) : Dev :=
  if fbMode d k = 0 || (fbMode d k = 2 && (d.fb k).prev.isSome) then setSector k (posSector d k) d else d

/-- R376: POS goes into POSCAP. -/
def posCapture (k : Nat) (d : Dev) : Dev := d.setReg (fbP k + 0x0A0) (d.reg (fbP k + 0x080))

/-- R376: the capture frame has reloaded on this tick, so what the tick still does to POS belongs in POSCAP. -/
def captureNow (d : Dev) (k : Nat) : Bool :=
  let f := d.fld (fbP k) FB.CAP.FRAME
  d.on (fbP k) FB.CAP.EN && d.on (frameP f) FRAME.STAT.RUN && (d.frame f).reload = d.now

def setPosTo (k : Nat) (x : Int) (d : Dev) : Dev :=
  let d := d.setReg (fbP k + 0x080) (BitVec.ofInt 32 x)
  let d := if captureNow d k then posCapture k d else d
  emuCheck k (fbSector k d)

/-! ### Index (R366 to R369) -/

/-- A mismatch advances MISS; four send FB_FAULT. -/
def missNote (k : Nat) (d : Dev) : Dev :=
  let p := fbP k
  let n := d.fld p FB.FSTAT.MISS + 1
  if 4 ≤ n then fbFault k 2 (d.lower p FB.FSTAT.MISS) else d.setFld p FB.FSTAT.MISS n

/-- R369: a count lengthens the run without an index. -/
def runNote (k : Nat) (rev : Bool) (d : Dev) : Dev :=
  let p := fbP k
  let r := d.fb k
  let n := if r.runRev = rev then r.run + 1 else 1
  if fbMode d k = 0 && d.on p FB.CFG.IDX_EN && d.on p FB.FSTAT.HOMED && 2 * fbCpr d k ≤ n then
    let d := d.setFb k { r with runRev := rev, run := 0 }
    missNote k ((d.raise p FB.EVT.INDEX_MISSING).send (faultOf p 34 0x2000))
  else d.setFb k { r with runRev := rev, run := n }

/-- R366: the qualified state. -/
def qualified (d : Dev) (k : Nat) (l : BitVec 3) : Bool :=
  l.getLsbD 0 && l.getLsbD 2 == d.on (fbP k) FB.CFG.IQ_A && l.getLsbD 1 == d.on (fbP k) FB.CFG.IQ_B

/-- The deviation of an index at a captured position, in [−CPR ÷ 2, CPR ÷ 2). -/
def deviation (d : Dev) (k : Nat) (cap : Int) : Int :=
  let c : Int := fbCpr d k
  let m := (cap - (d.reg (fbP k + 0x048)).toNat) % c
  if c ≤ 2 * m then m - c else m

/-- IDXDEV; a deviation beyond its field reads free (log 2). -/
def putDev (k : Nat) (x : Int) (d : Dev) : Dev :=
  let (v, d) := if -(2 ^ 29) ≤ x && x < 2 ^ 29 then (wrapTo 30 x, d) else let (w, d) := d.draw; (w.toNat % 2 ^ 30, d)
  d.setReg (fbP k + 0x094) (BitVec.ofNat 32 (2 ^ 31 + b2n (decide (x.natAbs ≤ 1)) * 2 ^ 30 + v))

/-- The qualified state has begun (log 67). -/
def indexLand (k : Nat) (d : Dev) : Dev :=
  let p := fbP k
  match (d.fb k).idxDue with
  | none => d
  | some cap =>
    let x := deviation d k cap
    let d := d.setFb k { d.fb k with idxDue := none, run := 0 }
    let d := putDev k x (d.setReg (p + 0x090) (BitVec.ofInt 32 cap))
    if !d.on p FB.FSTAT.HOMED then
      setPosTo k (fbPos d k - x) ((d.raise p FB.FSTAT.HOMED).raise p FB.EVT.HOMED)
    else if x.natAbs ≤ 1 then setPosTo k (fbPos d k - x) (d.lower p FB.FSTAT.MISS)
    else
      let d := (d.raise p FB.EVT.INDEX_MISMATCH).bump p FB.COUNT.MISMATCH
      let d := missNote k (d.send (faultOf p 34 (wrapTo 14 (max (-8191) (min 8191 x)))))
      match d.fld p FB.CFG.IDX_POL with
      | 1 => setPosTo k (fbPos d k - x) d
      | 2 => fbFault k 1 d
      | _ => d

/-! ### Counting (R355 to R359) -/

/-- R359: what a count does to the direction and to the counts that speed is taken from. -/
def dirNote (k : Nat) (rev : Bool) (d : Dev) : Dev :=
  let r := d.fb k
  if d.on (fbP k) FB.FSTAT.DIR = rev then
    match r.against with
    | some _ => d.setFb k { r with against := none }
    | none => d.setFb k { r with stamps := (d.now :: r.stamps).take 7 }
  else
    match r.against with
    | none => d.setFb k { r with against := some d.now }
    | some _ => (d.setFb k { r with against := none, stamps := [d.now] }).setFld (fbP k) FB.FSTAT.DIR (b2n rev)

/-- One count, forward or reverse before REV. -/
def count (k : Nat) (rev : Bool) (d : Dev) : Dev :=
  let rev := rev != fbRev d k
  let step : Int := if rev then -1 else 1
  let d := d.setFb k { d.fb k with delta := (d.fb k).delta + step }
  let d := runNote k rev (dirNote k rev d)
  setPosTo k (fbPos d k + step) d

/-- Place of A and B in the forward sequence 00, 10, 11, 01. -/
def quad (l : BitVec 3) : Nat :=
  match l.getLsbD 2, l.getLsbD 1 with
  | false, false => 0 | true, false => 1 | true, true => 2 | false, true => 3

/-- Place of a hall state in the forward sequence (R356). -/
def hallIx (l : BitVec 3) : Option Nat := [4, 6, 2, 3, 1, 5].idxOf? l.toNat

/-- Whether line `i` (A, B and Z as 2, 1 and 0) had its latest accepted change less than `n` ticks ago. -/
def lineWithin (d : Dev) (k i n : Nat) : Bool :=
  match ((d.fb k).change[2 - i]?).join with
  | some t => d.now < t + n
  | none => false

/-- R354: a line takes its new level only where that level can have held for FILT + 1 ticks since the line's latest accepted
change; else it keeps the old one. -/
def filtered (d : Dev) (k : Nat) (old l : BitVec 3) : BitVec 3 :=
  let bit := fun i => if lineWithin d k i (d.fld (fbP k) FB.CFG.FILT + 1) then old.getLsbD i else l.getLsbD i
  BitVec.ofNat 3 (4 * b2n (bit 2) + 2 * b2n (bit 1) + b2n (bit 0))

/-- R354, R357: each accepted change is stamped; while the channel counts, one that comes too soon is an edge error of
cause 0. -/
def nearEdges (k : Nat) (old l : BitVec 3) (d : Dev) : Dev :=
  each [2, 1, 0] (fun i d =>
    if old.getLsbD i = l.getLsbD i then d
    else
      let bad := fbOn d k && fbMode d k < 2 && lineWithin d k i (d.fld (fbP k) FB.EDGE.MIN_EDGE)
      let d := d.setFb k { d.fb k with change := (d.fb k).change.set (2 - i) (some d.now) }
      if bad then edgeError k 0 d else d) d

/-- R371: an accepted change of DATA. -/
def dataNote (k : Nat) (old l : BitVec 3) (d : Dev) : Dev :=
  if fbMode d k ≠ 2 || old.getLsbD 1 = l.getLsbD 1 then d
  else d.setFb k { d.fb k with data := (d.now, l.getLsbD 1) :: (d.fb k).data }

/-- R356, R357: a new hall state. -/
def hallStep (k : Nat) (l : BitVec 3) (d : Dev) : Dev :=
  match hallIx l with
  | none => edgeError k 2 d
  | some i =>
    let last := (d.fb k).hall
    let d := d.setFb k { d.fb k with hall := some i }
    let d := match last with
      | none => d
      | some j => if i = j then d else if i = (j + 1) % 6 then count k false d else if j = (i + 1) % 6 then count k true d else edgeError k 3 d
    setSector k i d

/-- R366: the index where the qualified state begins; it lasts while IDX_EN, the mode and the levels have it so. -/
def indexNote (k : Nat) (l : BitVec 3) (d : Dev) : Dev :=
  let r := d.fb k
  let q := fbOn d k && fbMode d k = 0 && d.on (fbP k) FB.CFG.IDX_EN && qualified d k l
  d.setFb k (if q && !r.qual then { r with qual := q, idxDue := some (fbPos d k) } else { r with qual := q })

/-- R355, R357, R366: new levels of A, B and Z. -/
def incStep (k : Nat) (old l : BitVec 3) (d : Dev) : Dev :=
  let da := old.getLsbD 2 != l.getLsbD 2
  let db := old.getLsbD 1 != l.getLsbD 1
  let d := if da && db then edgeError k 1 d
    else if da || db then count k (quad l != (quad old + 1) % 4) d
    else d
  indexNote k l d

/-- The accepted levels of A, B and Z as bits 2, 1 and 0. A qualified state that begins with an edge error is no index event. -/
def fbAccept (k : Nat) (l : BitVec 3) (d : Dev) : Dev :=
  let p := fbP k
  let old := BitVec.ofNat 3 (d.fld p FB.FSTAT.LINES)
  let errs := d.fld p FB.COUNT.EDGE
  let due := (d.fb k).idxDue
  let sent := d.flt.inflight.length
  let d := dataNote k old l (nearEdges k old l (d.setFld p FB.FSTAT.LINES l.toNat))
  if !fbOn d k || old = l then d
  else
    let d := if fbMode d k = 0 then incStep k old l d else if fbMode d k = 1 then hallStep k l d else d
    let wrong := d.fld p FB.COUNT.EDGE ≠ errs || (d.flt.inflight.drop sent).any fun m => m.kind = 33
    if wrong then d.setFb k { d.fb k with idxDue := due } else d

/-- A count or an index of this tick, which a SET_POS of the tick comes before (R370). -/
def fbTurn (k : Nat) (l : Option (BitVec 3)) (d : Dev) : Dev :=
  let e := match l with
    | some l => fbAccept k l d
    | none => indexLand k d
  noteTurn { turnOfStep (32 + k) 4 none d e with levels := l } e

/-- FB_COUNT: levels that the pins took `ago` ticks before, and have held since. They are accepted FILT + 2 ticks after the pins
took them, the last FILT + 1 of which they were sampled (R354). -/
def fbLevels (k : Nat) (l : BitVec 3) (ago : Nat) (d : Dev) : Dev :=
  if ago < d.fld (fbP k) FB.CFG.FILT + 2 then d
  else fbTurn k (some (filtered d k (BitVec.ofNat 3 (d.fld (fbP k) FB.FSTAT.LINES)) l)) d

/-- The changes after tick `u` and the latest one before it. -/
def dataFrom (u : Nat) (xs : List (Nat × Bool)) : List (Nat × Bool) :=
  xs.takeWhile (fun x => decide (u < x.1)) ++ (xs.dropWhile (fun x => decide (u < x.1))).take 1

/-! ### Gates and speed (R358, R360 to R364) -/

/-- Units of 1/16 count per second in one count per tick. -/
def speedUnit : Int := 9600000000

/-- R361: the magnitude by the period method at boundary `u`, in 1/16 count/s (log 67). -/
def periodSpeed (d : Dev) (k u : Nat) : Int :=
  let st := (d.fb k).stamps
  let n := min (if fbMode d k = 1 then 6 else 4) (st.length - 1)
  match st[0]?, st[n]? with
  | some t1, some t0 =>
    if n = 0 || d.fld (fbP k) FB.ZEROT.ZERO_T * 60000 ≤ u - t1 then 0
    else if t1 - t0 < (u - t1) * n then roundDiv speedUnit (u - t1 : Nat)
    else roundDiv (speedUnit * n) (max 1 (t1 - t0) : Nat)
  | _, _ => 0

/-- R362: the speed by the count method. -/
def countSpeed (gs : List (Option (Int × Nat))) : Int :=
  let good := gs.filterMap id
  match good.head?, good.getLast? with
  | some (p1, t1), some (p0, t0) =>
    if t1 ≤ t0 then 0 else roundDiv (signedOf 32 (wrapTo 32 (p1 - p0)) * speedUnit) (t1 - t0 : Nat)
  | _, _ => 0

/-- The gate's part in ERRCNT (R358). -/
def gateErrors (k : Nat) (d : Dev) : Dev :=
  let r := d.fb k
  let n := if r.dirty then 0 else r.clean + 1
  let d := d.setFb k { r with dirty := false, clean := if n = 64 then 0 else n }
  if n = 64 then d.setFld (fbP k) FB.FSTAT.ERRCNT (d.fld (fbP k) FB.FSTAT.ERRCNT - 1) else d

/-- R363: the method for the speed of this boundary. -/
def gateMethod (d : Dev) (k : Nat) : Nat :=
  let p := fbP k
  let x := (d.fb k).delta.natAbs
  if fbMode d k = 2 then 1
  else if d.fld p FB.SPDCFG.CO_HI ≤ x then 1
  else if x < d.fld p FB.SPDCFG.CO_LO then 0
  else d.fld p FB.FSTAT.METHOD

/-- SPEED, ESPEED and MOVING (R364). -/
def showSpeed (k : Nat) (v : Int) (d : Dev) : Dev :=
  let p := fbP k
  let v := satTo 32 v
  let d := (d.setReg (p + 0x084) (BitVec.ofInt 32 v)).setFld p FB.FSTAT.MOVING (b2n (v != 0))
  let c := fbCprEff d k
  let (e, d) := if c = 0 then let (w, d) := d.draw; (w.toInt, d) else (roundDiv (v * fbPp d k) c, d)
  d.setReg (p + 0x088) (BitVec.ofInt 32 (satTo 32 e))

/-- FB_GATE: a gate boundary has passed since the latest one the channel has seen. A read starts only while EN is 1 (R371). -/
def gateLand (k : Nat) (d : Dev) : Dev :=
  let p := fbP k
  let g := max 1 (d.fld p FB.SPDCFG.GATE)
  let u := d.now / g * g
  if u ≤ (d.fb k).gateAt then d
  else
    let d := gateErrors k d
    let abs := fbMode d k = 2
    let d := if abs then d else d.setFb k { d.fb k with gates := (some (fbPos d k, u) :: (d.fb k).gates).take 16 }
    let m := gateMethod d k
    let v := if m = 1 then countSpeed (d.fb k).gates
      else if d.on p FB.FSTAT.DIR then -(periodSpeed d k u) else periodSpeed d k u
    let d := showSpeed k v (d.setFld p FB.FSTAT.METHOD m)
    let d := d.setFb k { d.fb k with delta := 0, gateAt := u }
    if !abs then d
    else
      let d := d.setFb k { d.fb k with gates := (none :: (d.fb k).gates).take 16, data := dataFrom u (d.fb k).data }
      if fbOn d k then d.setFb k { d.fb k with readAt := some u } else d

/-! ### The absolute word (R371 to R373) -/

/-- C of R371. -/
def absCheckBits : Nat → Nat
  | 1 => 1 | 2 => 6 | _ => 0

/-- N of R371. -/
def absBits (d : Dev) (k : Nat) : Nat :=
  let p := fbP k
  d.fld p FB.ABS.LEAD + d.fld p FB.ABS.PBITS + d.fld p FB.ABS.SBITS + absCheckBits (d.fld p FB.ABS.CHK)

/-- Tc in ticks. -/
def absTc (d : Dev) (k : Nat) : Nat := 12 * (d.fld (fbP k) FB.ABS.DIV + 1)

/-- Ticks from the start of a read to its idle check. -/
def absTicks (d : Dev) (k : Nat) : Nat :=
  absBits d k * absTc d k + absTc d k / 2 + 6 * d.fld (fbP k) FB.ABS2.REC

/-- CLK of a read that began at tick `t`: N + 1 cycles, each low in its first half, then high. -/
def absClock (d : Dev) (k t : Nat) : Bool :=
  absBits d k < (d.now - t) / absTc d k || absTc d k / 2 ≤ (d.now - t) % absTc d k

/-- R353, R371: the level that the channel drives on FBk_A; none while that pin is an input. -/
def fbClk (d : Dev) (k : Nat) : Option Bool :=
  if !fbOn d k || fbMode d k ≠ 2 then none
  else match (d.fb k).readAt with
    | some t => some (absClock d k t)
    | none => some true

/-- The accepted level of DATA at a tick. -/
def dataAt (d : Dev) (k tick : Nat) : Bool :=
  match (d.fb k).data.find? (fun x => decide (x.1 ≤ tick)) with
  | some x => x.2
  | none => match (d.fb k).data.getLast? with
    | some x => !x.2
    | none => (d.fld (fbP k) FB.FSTAT.LINES).testBit 1

/-- The bits after the leading ones of a read that began at tick `t`, most significant first: bit j is DATA LAT × 10 ns after
rising edge j + 1, and no sample comes after the read's end. -/
def absWord (d : Dev) (k t : Nat) : Nat :=
  let lead := d.fld (fbP k) FB.ABS.LEAD
  let at_ := fun j => t + min (absTicks d k) (j * absTc d k + absTc d k / 2 + 6 * d.fld (fbP k) FB.ABS.LAT)
  (List.range (absBits d k - lead)).foldl (fun w j => 2 * w + b2n (dataAt d k (at_ (lead + j)))) 0

/-- One bit into the CRC-6 with x⁶ + x + 1. -/
def crc6Bit (c : Nat) (b : Bool) : Nat := (if (c.testBit 5) != b then ((c * 2) ^^^ 3) else c * 2) % 64

/-- The low `n` bits of a number, most significant first. -/
def bitsDown (n w : Nat) : List Bool := (List.range n).reverse.map w.testBit

/-- Whether the check bits match (R372); `body` is position and status together, of `n` bits. -/
def absCheckOk (chk n body c : Nat) : Bool :=
  match chk with
  | 1 => ((bitsDown n body).filter id).length % 2 == c
  | 2 => (bitsDown n body).foldl crc6Bit 0 == 63 - c
  | _ => true

/-- Gray code to binary, from the most significant bit down. -/
def grayDecode (n w : Nat) : Nat :=
  ((bitsDown n w).foldl (fun (acc, last) b => (acc * 2 + b2n (b != last), b != last)) (0, false)).1

/-- A good read of position word `w` (R373). -/
def absGood (k w : Nat) (t : Nat) (d : Dev) : Dev :=
  let p := fbP k
  let n := d.fld p FB.ABS.PBITS
  let r := d.fb k
  let x := match r.prev with
    | none => (w : Int)
    | some v =>
      let s := signedOf n (wrapTo n ((w : Int) - v))
      fbPos d k + (if fbRev d k then -s else s)
  let d := if r.prev.isNone then d.raise p FB.FSTAT.HOMED else d
  let d := setPosTo k x (d.setFb k { r with prev := some w, fails := 0 })
  d.setFb k { d.fb k with gates := match (d.fb k).gates with
    | none :: gs => some (fbPos d k, t) :: gs
    | gs => gs }

/-- A failed read (R372). -/
def absBad (k cause : Nat) (d : Dev) : Dev :=
  let p := fbP k
  let d := ((d.raise p FB.EVT.ABS_FAIL).bump p FB.COUNT2.ABS_FAIL).setFld p FB.ABSSTAT.CAUSE cause
  let d := d.send (faultOf p 35 cause)
  let n := (d.fb k).fails + 1
  if max 1 (d.fld p FB.ABS2.ABS_MAX) ≤ n then fbFault k 3 (d.setFb k { d.fb k with fails := 0 })
  else d.setFb k { d.fb k with fails := n }

/-- ABS_READ_END, on or after the tick of the idle check. -/
def absEndLand (k : Nat) (d : Dev) : Dev :=
  let p := fbP k
  match (d.fb k).readAt with
  | none => d
  | some t =>
    if d.now < t + absTicks d k then d
    else
      let word := absWord d k t
      let idle := dataAt d k (t + absTicks d k)
      let pb := d.fld p FB.ABS.PBITS
      let sb := d.fld p FB.ABS.SBITS
      let chk := d.fld p FB.ABS.CHK
      let c := absCheckBits chk
      let check := word % 2 ^ c
      let body := word / 2 ^ c % 2 ^ (pb + sb)
      let pos := body / 2 ^ sb
      let status := body % 2 ^ sb
      let d := d.setFb k { d.fb k with readAt := none }
      let d := d.setReg (p + 0x098) (BitVec.ofNat 32 pos)
      let d := d.setReg (p + 0x09C) (setBits (BitVec.ofNat 32 (2 ^ 31 + status * 2 ^ 16 + check)) 28 2 (d.fld p FB.ABSSTAT.CAUSE))
      if !absCheckOk chk (pb + sb) body check then absBad k 1 d
      else if !idle then absBad k 2 d
      else if status &&& d.fld p FB.ABS2.ERR_MASK ≠ 0 then absBad k 3 d
      else absGood k (if d.on p FB.ABS.GRAY then grayDecode pb pos else pos) t d

/-! ### Commands, capture, commits (R370, R375 to R377) -/

/-- A count or an index of this tick is undone; a gate boundary since then keeps what it has begun. -/
def fbBack (k : Nat) (t : Turn) (d : Dev) : Dev :=
  let d := undoTurn t d
  match t.fb with
  | none => d
  | some o =>
    let r := d.fb k
    let gate := decide (r.gateAt ≠ o.gateAt)
    d.setFb k { r with
      change := o.change, hall := o.hall, stamps := o.stamps, against := o.against, qual := o.qual, idxDue := o.idxDue,
      runRev := o.runRev, run := o.run, data := o.data, lag := o.lag, dirty := if gate then r.dirty else o.dirty,
      delta := if gate then r.delta else o.delta }

/-- R370, R377: SET_POS comes before the counts of its tick and before its index correction: those already made are undone, and
made anew from the loaded position. -/
def setPosLand (k : Nat) (d : Dev) : Dev :=
  let ts := d.turns.filter fun t => t.who = 32 + k && t.tick = d.now
  let d := ts.foldl (fun d t => fbBack k t d) d
  let d := if fbMode d k = 0 then d.lower (fbP k) FB.FSTAT.HOMED else d
  let d := setPosTo k (d.reg (fbP k + 0x074)).toInt d
  ts.foldr (fun t d => fbTurn k t.levels d) d

/-- CMD. -/
def fbCmd (k : Nat) (val : Word) (d : Dev) : Dev :=
  let p := fbP k
  match bitOf val 0, bitOf val 1, bitOf val 2 with
  | true, false, false => setPosLand k d
  | false, true, false => d.lower p FB.FSTAT.HOMED
  | false, false, true => d.lower p FB.FSTAT.FAILED
  | _, _, _ => d

/-- R376: a reload of a frame captures POS. -/
def fbReload (f : Nat) (d : Dev) : Dev :=
  each (List.range 16) (fun k d =>
    if d.on (fbP k) FB.CAP.EN && d.fld (fbP k) FB.CAP.FRAME = f then posCapture k d else d) d

/-- EN has become 1: the channel begins anew; a hall state already accepted counts as the first one (R365). -/
def fbEnable (k : Nat) (d : Dev) : Dev :=
  let p := fbP k
  let r := d.fb k
  let hall := if fbMode d k = 1 then hallIx (BitVec.ofNat 3 (d.fld p FB.FSTAT.LINES)) else none
  let d := d.setFb k { fbReset k with change := r.change, emu := r.emu, emuAt := r.emuAt, lag := r.lag, gateAt := d.now, hall := hall }
  let d := (d.lower p FB.FSTAT.FAILED).setFld p FB.FSTAT.SECTOR (hall.getD 7)
  fbSector k d

/-- A commit has set registers of a channel's page, which held `old` before; the qualified state of the index may begin with it
(R366). -/
def fbSet (old : Dev) (k : Nat) (d : Dev) : Dev :=
  let p := fbP k
  let moved := fbMode old k ≠ fbMode d k || fbRev old k ≠ fbRev d k || fbCpr old k ≠ fbCpr d k || old.reg (p + 0x048) ≠ d.reg (p + 0x048)
  let d := if moved then (d.lower p FB.FSTAT.HOMED).lower p FB.FSTAT.MISS else d
  let d := if fbOn d k && !fbOn old k then fbEnable k d
    else if !fbOn d k && fbOn old k then d.setFb k { d.fb k with readAt := none, idxDue := none }
    else if fbOn d k then fbSector k d else d
  let d := indexNote k (BitVec.ofNat 3 (d.fld p FB.FSTAT.LINES)) d
  if emuOn d k && (!emuOn old k || old.fld p FB.EMU.ELINES ≠ d.fld p FB.EMU.ELINES) then emuLoad k d else emuCheck k d

end Sys2Proof.Machine
end

