-- ==== Sys2Proof/Machine/Sampling.lean ====
section
/-!
DEFINITION. Sampling: assignment, guards, delivery, result registers and their windows, the plumb cycle, diagnosis,
firmware and background conversions (R217 to R249).
-/

namespace Sys2Proof.Machine

/-! ### Slices -/

def sliceState (d : Dev) (s : Nat) : Nat := d.fld (sliceP s) SLICE.SSTAT.STATE
def slicesIn (d : Dev) (st : Nat) : List Nat := (List.range 12).filter fun s => sliceState d s = st

/-- ONSHIFT, PLUMB and WDRAWN of STAT follow the slices' states (R246). Where two slices are withdrawn WDRAWN names the lower
(DESIGN CHOICE, log 63). -/
def showSlices (d : Dev) : Dev :=
  let pl := match slicesIn d 3, slicesIn d 0 with
    | s :: _, _ => s
    | [], [s] => s
    | _, _ => 15
  let d' := d.setFld adcP ADC.STAT.PLUMB pl
  let d' := d'.setFld adcP ADC.STAT.WDRAWN ((slicesIn d 4).headD 15)
  d'.setFld adcP ADC.STAT.ONSHIFT (slicesIn d 1).length

def setSlice (s st : Nat) (d : Dev) : Dev := showSlices (d.setFld (sliceP s) SLICE.SSTAT.STATE st)

def sampReady (d : Dev) : Bool := d.on adcP ADC.STAT.READY

/-- Free ON_SHIFT slices, ascending (R222). -/
def freeSlices (d : Dev) : List Nat := (slicesIn d 1).filter fun s => decide (sget zeroNat d.samp.free s ≤ d.now)

/-! ### Requests (R22, R220, R224, R244) -/

/-- R22, R222: the order in which the arbiter takes requests (log 59). Entries of both banks count by their indexes. -/
def reqBefore (a b : Req) : Bool :=
  if a.arrive ≠ b.arrive then decide (a.arrive < b.arrive)
  else if a.frame ≠ b.frame then decide (a.frame < b.frame)
  else decide (a.entry % 16384 < b.entry % 16384)

def firstReq : List Req → Option Req
  | [] => none
  | r :: rs => match firstReq rs with
    | none => some r
    | some q => some (if reqBefore q r then q else r)

def sameReq (a b : Req) : Bool := a.frame == b.frame && a.entry == b.entry && a.arrive == b.arrive

def dropReq (q : Req) (d : Dev) : Dev := d.setSamp fun r => { r with reqs := r.reqs.filter fun x => !sameReq x q }

/-- R220: an acquisition with another gain runs on the request's PGA. -/
def gainBlocked (d : Dev) (q : Req) : Bool :=
  q.input < 32 && d.samp.acqs.any fun (i, g, t) => i = q.input && g ≠ q.gain && decide (d.now < t)

/-- The request the arbiter takes next: none of the background while a foreground one waits or fewer than two slices are
free. -/
def nextReq (d : Dev) : Option Req :=
  let due := d.samp.reqs.filter fun q => decide (q.arrive + 2 ≤ d.now) && !gainBlocked d q
  let fore := due.filter fun q => q.frame ≠ 17
  match firstReq fore with
  | some q => some q
  | none =>
    if d.samp.reqs.any (fun q => q.frame ≠ 17 && decide (q.arrive ≤ d.now)) || (sampReady d && (freeSlices d).length < 2) then none
    else firstReq due

def acqTicks (q : Req) : Nat := 3 * q.acq

/-- R225, R243: but for a firmware conversion, an edge of the guard's frame, as the reload fixed it, arrives in the window of a
conversion that starts on this tick (log 59). An edge of a window that the reload fixed counts also where it is due after the next
reload and the hold tick lies there (DESIGN CHOICE, log 59). -/
def guarded (d : Dev) (q : Req) : Bool :=
  let a := adcP + 0x100 + 4 * q.input
  let w := d.reg a
  let lo := d.now - bits w 0 8
  let hi := d.now + acqTicks q
  q.frame ≠ 16 && bitOf w 31 &&
    (gangsOn d (bits w 24 4)).any fun g => ((gangLegs d g).eraseDups).any fun n =>
      (d.plan n).edges.any fun e => decide (lo ≤ e.1 + 24) && decide (e.1 + 24 ≤ hi)

def addDel (x : Del) (d : Dev) : Dev := d.setSamp fun r => { r with dels := r.dels ++ [x] }

/-- R223, R225 to R227, R240: what an assignment starts. -/
def startConv (q : Req) (slice : Option Nat) (d : Dev) : Dev :=
  let hold := d.now + acqTicks q
  let del : Del := ⟨q, hold + 28, hold, 15, none, d.fld adcP ADC.TDTOL.TOL, []⟩
  match slice with
  | none => addDel del d
  | some s =>
    if guarded d q then addDel del (d.bump adcP ADC.COUNT.GUARD_SKIP)
    else
      let snap := if q.frame < 16 then shuntSnap d q.frame q.input (hold - 24) else []
      let tdac := match d.samp.diag with
        | some (i, c) => if d.fld adcP ADC.STAT.TD = 2 && i = q.input then some c else none
        | none => none
      let d := if tdac.isSome then diagEnd d else d
      let d := d.setSamp fun r => { r with
        free := sput zeroNat r.free s (d.now + max (acqTicks q) 24),
        acqs := (r.acqs.filter fun x => decide (d.now < x.2.2)) ++ [(q.input, q.gain, hold)],
        pga := if q.input < 32 then sput zeroNat r.pga q.input q.gain else r.pga }
      addDel { del with slice := s, tdac := tdac, snap := snap } d

/-- SLICE_ASSIGN. -/
def sliceAssignLand (d : Dev) : Dev :=
  match nextReq d with
  | none => d
  | some q =>
    if !sampReady d then startConv q none (dropReq q d)
    else match freeSlices d with
      | [] => d
      | s :: _ => startConv q (some s) (dropReq q d)

/-! ### Delivery (R226 to R233, R276) -/

/-- R236: the corrected code of a slice, and whether it was clamped. -/
def corrected (d : Dev) (s raw : Nat) : Nat × Bool :=
  let ofs := d.sfld (sliceP s) SLICE.OFS.OFS
  let gain := d.sfld (sliceP s) SLICE.GAIN.GAIN
  let c := roundDiv ((8 * (raw : Int) - ofs) * (65536 + gain)) (8 * 65536)
  ((max 0 (min 16383 c)).toNat, c < 0 || 16383 < c)

/-- R229: PCOUNT and frame counter of a tick, from the frame's reloads; the counter is 0 where the frame had stopped (R166). -/
def frameStamp (d : Dev) (f t : Nat) : Nat :=
  let r := d.frame f
  let go := ((r.reload :: r.past).zipIdx).find? fun p => decide (p.1 ≤ t)
  match go with
  | some (x, i) => (pcount d f + 512 - i) % 256 * 65536 + (if x < r.stopped && r.stopped ≤ t then 0 else (t - x) % 65536)
  | none => (t - r.reload) % 65536

def resLo (r : Nat) : Nat := resP + 0x100 + 8 * r

/-- R232, R233: the window of a register tests a result. -/
def windowTest (r code : Nat) (d : Dev) : Dev :=
  let cfg := d.reg (resP + 0x400 + 4 * r)
  if !bitOf cfg 31 then d
  else
    let lim := d.reg (resP + 0x300 + 4 * r)
    let lo := bits lim 0 14
    let hi := bits lim 16 14
    let hit := match bits cfg 28 2 with
      | 0 => decide (code < lo)
      | 1 => decide (hi < code)
      | 2 => decide (code < lo) || decide (hi < code)
      | _ => decide (lo ≤ code) && decide (code ≤ hi)
    let a := resP + 0x050 + r / 32 * 4
    let was := bitOf (d.reg a) (r % 32)
    let n := if hit then sget zeroNat d.samp.win r + 1 else 0
    let d := d.setSamp fun s => { s with win := sput zeroNat s.win r (min 4 n) }
    if !hit then d.setReg a (setBits (d.reg a) (r % 32) 1 0)
    else if was || n < bits cfg 24 2 + 1 then d
    else
      let d := (d.raiseBit a (r % 32)).raiseBit (resP + 0x040 + r / 32 * 4) (r % 32)
      ffTrigger 0 r d

/-- R228 to R230: a result register is written. -/
def writeResult (q : Req) (x : Del) (code : Nat) (skip clip : Bool) (d : Dev) : Dev :=
  let r := q.res
  let seq := (bits (d.reg (resLo r + 4)) 28 4 + 1) % 16
  let man := decide (q.frame = 16)
  let lo := 2 ^ 31 + b2n skip * 2 ^ 30 + b2n clip * 2 ^ 29 + b2n x.tdac.isSome * 2 ^ 27 + x.slice * 2 ^ 23 + b2n man * 2 ^ 22 +
    q.input * 2 ^ 16 + code % 2 ^ 14
  let hi := if man then seq * 2 ^ 28 + x.hold % 2 ^ 24 else seq * 2 ^ 28 + q.frame * 2 ^ 24 + frameStamp d q.frame x.hold
  let d := (d.setReg (resLo r) (BitVec.ofNat 32 lo)).setReg (resLo r + 4) (BitVec.ofNat 32 hi)
  let d := newerWrite r (d.setSamp fun s => { s with holds := sput zeroNat s.holds r x.hold })
  if skip || x.tdac.isSome then d else windowTest r code d

/-- R199, R226, R304, R308: a sample reaches its context. -/
def writeCtx (q : Req) (code : Nat) (skip clip : Bool) (d : Dev) : Dev × Option Nat :=
  if 192 ≤ q.ctx then (d, none)
  else match phaseOf d q.ctx q.sidx with
    | some (a, k, x) =>
      let (d, c, p) := axisDelivery a k x code skip clip d
      writeIn q.ctx q.sidx c p d
    | none => writeIn q.ctx q.sidx code skip d

/-- R52, R241: a diagnosis has its result, judged by the tolerance set when its conversion started. -/
def diagResult (q : Req) (dac tol code : Nat) (clip : Bool) (d : Dev) : Dev :=
  let g : Int := 2 ^ q.gain
  let e := max 0 (min 16383 (8192 + g * (4 * dac - 8192)))
  let pass := !clip && decide (((code : Int) - e).natAbs ≤ tol)
  let d := d.setReg (adcP + 0x054) (BitVec.ofNat 32 (2 ^ 31 + b2n pass * 2 ^ 30 + e.toNat * 2 ^ 16 + code % 2 ^ 14))
  let d := d.raise adcP ADC.EVT.TD_DONE
  if pass then d else ((d.raise adcP ADC.EVT.TD_FAIL).bump adcP ADC.COUNT2.TD_FAIL).send (faultOf adcP 14 q.input)

/-- R305: legs of a shunt sample: by the edges of the period its tick lies in, which a reload or a stop since has laid anew. -/
def shuntLegs (d : Dev) (x : Del) : List (Nat × Nat × List Nat × List Nat) :=
  if x.hold - 24 < max (d.frame x.req.frame).reload (d.frame x.req.frame).stopped then x.snap else shuntSnap d x.req.frame x.req.input (x.hold - 24)

/-- R200: a delivered sample counts toward its JOB. -/
def countSample (q : Req) (d : Dev) : Dev :=
  match q.target with
  | none => d
  | some (j, n) => d.setRost fun r => { r with got := r.got ++ [(j, n, q.entry)] }

/-- One more conversion of a slice (R248) (log 59). -/
def countConv (s : Nat) (d : Dev) : Dev :=
  let p := sliceP s
  let n := (d.reg (p + 0x054)).toNat * 2 ^ 32 + (d.reg (p + 0x050)).toNat + 1
  (d.setReg (p + 0x050) (BitVec.ofNat 32 n)).setReg (p + 0x054) (BitVec.ofNat 32 (n / 2 ^ 32))

/-- A converted or skipped result is delivered. `raw`: the converter's code, `pgaClip`: the PGA left its output range.
(log 60). -/
def deliver (x : Del) (raw : Nat) (pgaClip : Bool) (d : Dev) : Dev :=
  let q := x.req
  let skip := decide (x.slice = 15)
  let (code, cl) := if skip then (0, false) else corrected d x.slice (raw % 16384)
  let clip := !skip && (cl || pgaClip)
  let d := if skip then d else countConv x.slice d
  let d := if !skip && sliceState d x.slice = 2 then d.setSamp fun r => { r with drainAt := d.now } else d
  let diag := fun d => match x.tdac with
    | some c => diagResult q c x.tol code clip d
    | none => d
  if q.frame = 17 then
    if skip || x.tdac.isSome then diag d else d.setSamp fun r => { r with bg := r.bg ++ [(q.entry, code, d.now)] }
  else
    let (d, ret) := writeCtx q code (skip || x.tdac.isSome) clip d
    let value := if skip then ret.getD (bits (d.reg (resLo q.res)) 0 14) else code
    let d := writeResult q x value skip clip d
    let d := if skip || x.tdac.isSome then d else convsFast q.res value d
    let d := diag d
    if q.frame = 16 then d.raise adcP ADC.EVT.MAN_DONE
    else
      let d := if skip || x.tdac.isSome then d
        else (shuntLegs d x).foldl (fun d (a, k, on, act) => shuntNote a k code on act d) d
      countSample q (voltNote q.res d)

/-- R230: the order of the deliveries, by their ticks, frames and entry indexes. -/
def delBefore (a b : Del) : Bool :=
  if a.at_ ≠ b.at_ then decide (a.at_ < b.at_)
  else if a.req.frame ≠ b.req.frame then decide (a.req.frame < b.req.frame)
  else decide (a.req.entry % 16384 < b.req.entry % 16384)

def firstDel : List Del → Option Del
  | [] => none
  | r :: rs => match firstDel rs with
    | none => some r
    | some q => some (if delBefore q r then q else r)

def sameDel (a b : Del) : Bool := a.at_ == b.at_ && sameReq a.req b.req

/-- The delivery that comes first of those whose tick has come. -/
def nextDel (d : Dev) : Option Del := firstDel (d.samp.dels.filter fun x => decide (x.at_ ≤ d.now))

/-- A delivery is made. -/
def takeDel (x : Del) (raw : Nat) (pgaClip : Bool) (d : Dev) : Dev :=
  deliver x raw pgaClip (d.setSamp fun r => { r with dels := r.dels.filter fun y => !sameDel x y })

/-- R224, R482: a request is abandoned; its skipped sample joins the deliveries of this tick, and a background one is presented
again 64 ticks later. -/
def abandon (q : Req) (d : Dev) : Dev :=
  let d := ((dropReq q d).raise adcP ADC.EVT.STALE).bump adcP ADC.COUNT.STALE
  if q.frame = 17 then d.setSamp fun r => { r with reqs := r.reqs ++ [{ q with arrive := d.now + 64 }] }
  else addDel ⟨q, d.now, d.now, 15, none, 0, []⟩ d

/-- The request unassigned for 600 ticks that comes first. -/
def staleReq (d : Dev) : Option Req := firstReq (d.samp.reqs.filter fun q => decide (q.arrive + 600 ≤ d.now))

/-- R230: abandoned samples that stand first among the deliveries of this tick are delivered. -/
def deliverAbandoned (d : Dev) : Dev :=
  (List.range d.samp.dels.length).foldl (fun d _ => match nextDel d with
    | some x => if x.at_ = x.hold then takeDel x 0 false d else d
    | none => d) d

/-- STALE: a request unassigned for 600 ticks is abandoned, and its skipped sample delivered where R230 lets it go first. -/
def staleLandReq (d : Dev) : Dev :=
  match staleReq d with
  | none => d
  | some q => deliverAbandoned (abandon q d)

/-- RESULT_DELIVERY: the delivery that comes first of those whose tick has come. Requests that are stale on this tick are abandoned
before it, whichever command came first, so that the deliveries keep the order of R230 (log 59). -/
def deliveryLand (raw : Nat) (pgaClip : Bool) (d : Dev) : Dev :=
  let stale := d.samp.reqs.filter fun q => decide (q.arrive + 600 ≤ d.now)
  let d := if stale.isEmpty then d else deliverAbandoned (stale.foldl (fun d q => abandon q d) d)
  match nextDel d with
  | none => d
  | some x => deliverAbandoned (takeDel x raw pgaClip d)

/-! ### Commands of the ADC and RES pages -/

/-- Limits of SARG (R205). -/
def sargOk (input gain acq : Nat) : Bool := decide (8 ≤ acq) && decide (acq ≤ 120) && decide (gain < 6) && (gain = 0 || input < 32)

/-- R243: MAN. -/
def manLand (val : Word) (d : Dev) : Dev :=
  let input := bits val 8 6
  let gain := bits val 29 3
  let acq := bits val 22 7
  let res := bits val 16 6
  let busy := d.samp.reqs.any (fun q => q.frame = 16) || d.samp.dels.any fun x => x.req.frame = 16
  if !bitOf val 0 then d
  else if !(d.on adcP ADC.MANRES.VALID && d.fld adcP ADC.MANRES.RES = res) || busy || !sargOk input gain acq then
    d.raise adcP ADC.EVT.MAN_IGN
  else d.setSamp fun r => { r with reqs := r.reqs ++ [⟨16, 0, input, gain, acq, res, 255, 0, d.now + 1, none⟩] }

/-- R240: TDCMD with ABORT. -/
def tdAbort (d : Dev) : Dev := if d.fld adcP ADC.STAT.TD = 0 then d else diagEnd d

/-- R233: WINLIM and WINCFG. -/
def wincfgLand (a : Nat) (val : Word) (d : Dev) : Dev :=
  let d := d.setReg a (val &&& maskAt a)
  let off := a % 0x1000
  if 0x400 ≤ off && off < 0x500 && !bitOf val 31 then
    let r := (off - 0x400) / 4
    let w := resP + 0x050 + r / 32 * 4
    (d.setReg w (setBits (d.reg w) (r % 32) 1 0)).setSamp fun s => { s with win := sput zeroNat s.win r 0 }
  else d

/-! ### The plumb cycle (R234 to R238) -/

def fits (n : Nat) (x : Int) : Bool := decide (-(2 ^ (n - 1) : Int) ≤ x) && decide (x < 2 ^ (n - 1))

/-- Cause of a failure (R237, R248); 0 for success. Of several it is the first in the order OFFSET, GAIN, SKEW, RESIDUAL (DESIGN
CHOICE, log 63). -/
def plumbCause (r : PlumbResult) : Nat :=
  if !fits 10 r.ofs then 1
  else if !fits 12 r.gain then 2
  else if !fits 6 r.skew then 3
  else if 8 < (r.reading - 8192).natAbs then 4 else 0

/-- A slice takes its new coefficients. -/
def plumbPass (s : Nat) (r : PlumbResult) (d : Dev) : Dev :=
  let p := sliceP s
  let d := ((d.setFld p SLICE.OFS.OFS (wrapTo 10 r.ofs)).setFld p SLICE.GAIN.GAIN (wrapTo 12 r.gain)).setFld p SLICE.SKEW.SKEW (wrapTo 6 r.skew)
  (d.setFld p SLICE.SSTAT.FAILS 0).wrapBump p SLICE.SSTAT.PLUMBS

/-- A slice fails: LASTFAIL, its count; true where it fails for the second time. -/
def plumbFail (s cause : Nat) (d : Dev) : Dev × Bool :=
  let p := sliceP s
  let n := min 2 (d.fld p SLICE.SSTAT.FAILS + 1)
  let d := (d.setFld p SLICE.SSTAT.FAILS n).setReg (p + 0x058) (BitVec.ofNat 32 (2 ^ 31 + cause))
  if n < 2 then (d, false)
  else ((((setSlice s 4 d).raise adcP ADC.EVT.SLICE_WITHDRAWN).send (faultOf adcP 13 s)), true)

/-- A cycle of slice `s` begins its first step; 15 for the slices of the initial calibration. -/
def plumbBegin (s : Nat) (d : Dev) : Dev :=
  (d.progStart adcP true 8192).setSamp fun r => { r with plumb := some (s, 1, d.now + plumbStep), plumbWait := false }

def plumbStop (d : Dev) : Dev := d.setSamp fun r => { r with plumb := none, plumbWait := false }

/-- The slice in turn after `s` (R234). -/
def nextSlice (d : Dev) (s : Nat) : Option Nat :=
  ((List.range 12).map fun i => (s + 1 + i) % 12).find? fun t => sliceState d t = 1

/-- R234: a slice begins to drain. -/
def drain (s : Nat) (d : Dev) : Dev := (setSlice s 2 d).setSamp fun r => { r with drainAt := d.now }

/-- SLICE_PLUMB_START. -/
def plumbStartLand (s : Nat) (d : Dev) : Dev :=
  if sliceState d s ≠ 2 || d.samp.dels.any (fun x => x.slice = s) || d.now ≤ d.samp.drainAt || d.samp.plumb.isSome then d
  else plumbBegin s (setSlice s 3 d)

/-- PLUMB_CYCLE_END (R234, R237). -/
def plumbEndLand (r : PlumbResult) (d : Dev) : Dev :=
  let d := plumbAdvance d
  match d.samp.plumb with
  | some (s, 5, _) =>
    if s = 15 then d
    else
      let c := plumbCause r
      if c = 0 then
        let t := nextSlice d s
        let d := plumbStop ((setSlice s 1 (plumbPass s r d)).progEnd adcP true)
        match t with
        | some t => drain t d
        | none => d
      else
        let (d, gone) := plumbFail s c (d.progEnd adcP false)
        if gone then (plumbStop d).raise adcP ADC.STAT.PLUMB_OFF else plumbBegin s d
  | _ => d

/-- R238: the initial calibration is over for every slice. -/
def calibrated (d : Dev) : Dev :=
  let d := plumbStop d
  match slicesIn d 4 with
  | [] =>
    let d := each (List.range 11) (fun s d => setSlice s 1 d) (d.raise adcP ADC.STAT.READY)
    plumbBegin 11 (setSlice 11 3 d)
  | [_] => (each (slicesIn d 0) (fun s d => setSlice s 1 d) (d.raise adcP ADC.STAT.READY)).raise adcP ADC.STAT.PLUMB_OFF
  | _ => (d.raise adcP ADC.STAT.PLUMB_OFF).send (faultOf adcP 15 0)

/-- INIT_CALIBRATION_END: the cycle of the slices under calibration ends; those that fail once repeat together. `rs` holds
what each slice would measure, by its number (log 63). The run ends in error where a slice of it fails, for the first time or
the second (R73). -/
def initEndLand (rs : List PlumbResult) (d : Dev) : Dev :=
  let d := plumbAdvance d
  match d.samp.plumb with
  | some (15, 5, _) =>
    let rs := rs.zipIdx.filter fun p => d.samp.init.contains p.2
    let (d, again) := rs.foldl (fun (d, again) (r, s) =>
      let c := plumbCause r
      if c = 0 then (plumbPass s r d, again)
      else
        let (d, gone) := plumbFail s c d
        (d, if gone then again else again ++ [s])) (d, [])
    let d := d.progEnd adcP (rs.all fun p => plumbCause p.1 == 0)
    let d := d.setSamp fun r => { r with init := again }
    if again.isEmpty then calibrated d else plumbBegin 15 d
  | _ => d

/-- R52, R247: a commit changes the reference: every slice in service returns to INIT, and requests are skipped from now on; what
has started completes as it started. -/
def vrefChanged (d : Dev) : Dev :=
  let l := (List.range 12).filter fun s => sliceState d s ≠ 4
  let d := each l (fun s d => setSlice s 0 (d.setFld (sliceP s) SLICE.SSTAT.FAILS 0)) d
  let d := (d.lower adcP ADC.STAT.READY).lower adcP ADC.STAT.PLUMB_OFF
  let d := if dacOwner d = 1 then dacRelease d else d
  let d := d.setSamp fun r => { r with init := l }
  plumbBegin 15 d

end Sys2Proof.Machine
end

