-- ==== Sys2Proof/Machine/Roster.lean ====
section
/-!
DEFINITION. The roster: dispatch of a frame's entries, their actions, jobs that wait for their sample sets, entry writes, copy
and clear (R191 to R216).
-/

namespace Sys2Proof.Machine

/-! ### Dispatch (R196, R198) -/

def frameKey (d : Dev) (f i : Nat) : Nat := entryKey (d.frame f).bank i

/-- The number of a frame's present period. -/
def periodNo (d : Dev) (f : Nat) : Nat := sget zeroNat d.rost.periods f

/-- R196: an entry of a frame's active bank acts on the tick on which the frame's counter equals its offset. -/
def actsNow (d : Dev) (f : Nat) (e : BitVec 64) : Bool :=
  frameRun d f && (d.frame f).reload + eOffset e == d.now && decide (eOffset e < (d.frame f).next - (d.frame f).reload)

/-- An entry of frame `f` acts on this tick and has not been taken (log 57). -/
def entryDue (d : Dev) (f i : Nat) : Bool :=
  let k := frameKey d f i
  eFrame (entryAt d k) = f && actsNow d f (entryAt d k) && !(d.frame f).acted.contains k

/-- A frame whose reload falls on this tick and has not been taken: it goes on running, for all that its commits bring. -/
def reloadComes (d : Dev) (f : Nat) : Bool :=
  let r := d.frame f
  let hasCp := hasCommitPoint d f
  let due := d.commit.armed.filter fun c => c.dom < 64 && c.dom / 4 = f && (if hasCp then c.ready else decide (c.armedAt < d.now))
  let wet := d.wet.find? fun e => e.1 = frameP f + 0x040 && due.any fun c => c.union.contains (d.domAt (frameP f))
  let cfg := (wet.bind (·.2)).getD (d.reg (frameP f + 0x040))
  frameRun d f && r.next == d.now && decide (r.reload < d.now) && bitOf cfg 31

/-- R196, R210: the entries at offset 0 of a frame's active bank once its reload has been taken. -/
def reloadEntries (d : Dev) (f : Nat) : List (Nat × BitVec 64) :=
  let hasCp := hasCommitPoint d f
  let swaps := d.rost.swaps.any fun x => x.1 = f && (if hasCp then x.2.ready else decide (x.2.at_ < d.now))
  (bankEntries d ((d.frame f).bank != swaps)).filter fun p => eFrame p.2 = f && eAction p.2 ≠ 0 && eOffset p.2 = 0

/-- R198: how many entries act on this tick before entry `i` of frame `f`, in the order of frames and indexes; a frame below `f`
whose reload is on this tick counts as if it had been taken. -/
def actRank (d : Dev) (f i : Nat) : Nat :=
  ((List.range (f + 1)).flatMap fun h =>
    if h != f && reloadComes d h then reloadEntries d h
    else (frameEntries d h).filter fun x => actsNow d h x.2 && (h != f || decide (x.1 % 16384 < i))).length

/-- Entries that this tick has dispatched, and how many of them were deferred. -/
def dispatched (d : Dev) : Nat := if d.rost.dispAt = d.now then d.rost.disp else 0
def dispatchedLate (d : Dev) : Nat := if d.rost.dispAt = d.now then d.rost.dispDeferred else 0

/-- R198: deferred entries that this tick dispatches ahead of those that act on it. -/
def waitedFor (d : Dev) : Nat := dispatchedLate d + (d.rost.deferred.filter fun x => decide (x.at_ < d.now)).length

/-- R198: one more entry is dispatched on this tick; `late` where it was deferred. -/
def countDispatch (late : Bool) (d : Dev) : Dev :=
  d.setRost fun r => { r with dispAt := d.now, disp := dispatched d + 1, dispDeferred := dispatchedLate d + b2n late }

/-- The order in which entries are deferred (R198). -/
def Acting.before (a b : Acting) : Bool :=
  a.at_ < b.at_ || (a.at_ == b.at_ && (a.frame < b.frame || (a.frame == b.frame && a.key % 16384 < b.key % 16384)))

def deferIn (x : Acting) : List Acting → List Acting
  | [] => [x]
  | y :: ys => if x.before y then x :: y :: ys else y :: deferIn x ys

/-- An entry of frame `f` whose action is `act` is dispatched, deferred, or does not act now; `g` is its effect. No tick dispatches
more than eight, whatever order the commands came in (log 57). -/
def dispatch (f i act : Nat) (g : Acting → Dev → Dev) (d : Dev) : Dev :=
  match d.rost.deferred.find? fun x => x.frame = f && x.key % 16384 = i with
  | some x =>
    if eAction (entryAt d x.key) ≠ act || d.now ≤ x.at_ || 8 ≤ dispatched d || d.rost.deferred.head? ≠ some x then d
    else g x ((countDispatch true d).setRost fun r => { r with deferred := r.deferred.drop 1 })
  | none =>
    let k := frameKey d f i
    if eAction (entryAt d k) ≠ act || !entryDue d f i then d
    else
      let x : Acting := ⟨f, k, periodNo d f, d.now⟩
      let room := decide (waitedFor d + actRank d f i < 8) && decide (dispatched d < 8)
      let d := d.setFrame f { d.frame f with acted := k :: (d.frame f).acted }
      if room then g x (countDispatch false d)
      else
        let d := (d.raise rostP ROST.EVT.DISP_LATE).bump rostP ROST.COUNT2.DISP_LATE
        d.setRost fun r => { r with deferred := deferIn x r.deferred }

/-! ### Sample and job (R199 to R202) -/

/-- R200: the JOB whose sample set a sample belongs to, and the number of that JOB's period: the sample's own, or the next one
where the JOB's offset lies before the sample's. -/
def sampleTarget (d : Dev) (x : Acting) : Option (Nat × Nat) :=
  let e := entryAt d x.key
  let es := (bankEntries d (decide (16384 ≤ x.key))).filter fun p => eFrame p.2 = x.frame
  (firstFrom (jobsOf es (eCtx e)) (eOffset e)).map fun j => (j.1, if eOffset e ≤ eOffset j.2 then x.period else x.period + 1)

/-- SAMPLE: the request reaches the arbiter on the next tick. -/
def sampleAct (x : Acting) (d : Dev) : Dev :=
  let e := entryAt d x.key
  let q : Req := ⟨x.frame, x.key, eInput e, eGain e, eAcq e, eRes e, eCtx e, eSidx e, d.now + 1, sampleTarget d x⟩
  d.setSamp fun r => { r with reqs := r.reqs ++ [q] }

/-- The sample set of a waiting job. -/
def jobSet (d : Dev) (j : JobWait) : List (Nat × BitVec 64) :=
  let es := (bankEntries d (decide (16384 ≤ j.key))).filter fun p => eFrame p.2 = j.frame && eAction p.2 ≠ 0
  sampleSet es (j.key, entryAt d j.key)

def jobComplete (d : Dev) (j : JobWait) : Bool :=
  (jobSet d j).all fun p => d.rost.got.contains (j.key, j.inst, p.1)

/-- A job leaves the roster, with the deliveries noted for it. -/
def jobGone (j : JobWait) (d : Dev) : Dev :=
  d.setRost fun r => { r with
    jobs := r.jobs.filter (· ≠ j), got := r.got.filter fun g => !(g.1 = j.key && decide (g.2.1 ≤ j.inst)) }

/-- R202: a dropped job; a speculative run of its context is discarded (R283). -/
def jobDrop (kind : Nat) (j : JobWait) (d : Dev) : Dev :=
  let d := d.raise rostP (if kind = 0 then ROST.EVT.JOB_DROP else ROST.EVT.JOB_OVERRUN)
  let d := d.bump rostP ROST.COUNT.JOB_DROPS
  dropSpec true j.ctx (d.setReg (rostP + 0x068)
    (BitVec.ofNat 32 (2 ^ 31 + kind * 2 ^ 30 + j.frame * 2 ^ 16 + j.key % 2 ^ 14)))

/-- R201, R202: a job becomes ready, or is dropped where earlier work of its context is unfinished. -/
def jobReady (j : JobWait) (d : Dev) : Dev :=
  let ins := (jobSet d j).map fun p => eSidx p.2
  let d := jobGone j d
  if unfinished d j.ctx then jobDrop 1 j d else jobStarts j.ctx j.frame j.key j.tag ins j.nowait d

/-- A waiting job whose time is over: ready where it is complete after all, else dropped. -/
def jobOver (j : JobWait) (d : Dev) : Dev :=
  if j.nowait || jobComplete d j then jobReady j d else jobDrop 0 j (jobGone j d)

/-- JOB. The tag of a JOB dispatched after its frame's reload is that of the period after the dispatch; its sample set is that of
the period of its offset (DESIGN CHOICE, log 58). -/
def jobAct (x : Acting) (d : Dev) : Dev :=
  let e := entryAt d x.key
  let d := (d.rost.jobs.filter fun j => j.ctx = eCtx e).foldl (fun d j => jobOver j d) d
  d.setRost fun r => { r with jobs := r.jobs ++ [⟨eCtx e, x.key, x.period, x.frame, eNowait e, (pcount d x.frame + 1) % 256⟩] }

/-- JOB_READY. -/
def jobReadyLand (c : Nat) (d : Dev) : Dev :=
  match d.rost.jobs.find? fun j => j.ctx = c && (j.nowait || jobComplete d j) with
  | some j => jobReady j d
  | none => d

/-- R202: jobs still waiting at a reload of their frame. -/
def jobsAtReload (f : Nat) (d : Dev) : Dev :=
  (d.rost.jobs.filter fun j => j.frame = f).foldl (fun d j => jobOver j d) d

/-- R202: jobs still waiting for their sample sets where their frame stops are dropped without a trace. -/
def jobsAtStop (f : Nat) (d : Dev) : Dev :=
  (d.rost.jobs.filter fun j => j.frame = f).foldl (fun d j =>
    if j.nowait || jobComplete d j then jobReady j d else dropSpec true j.ctx (jobGone j d)) d

/-! ### Commit points, refresh, rotate, casts, marks (R203, R204) -/

/-- R47, R48: a COMMIT_POINT on tick `t` and what was armed on tick `at_`: whether it is ready, and whether it slips. What is armed
before `t` is ready; what is armed on `t` slips, unless a further COMMIT_POINT of the same period makes it ready for the same
reload: `last` is the point before in that period. -/
def pointArm (t : Nat) (last : Option Nat) (at_ : Nat) (ready slip : Bool) : Bool × Bool :=
  (ready || decide (at_ < t), if !ready && decide (at_ < t) && last == some at_ then false else slip || at_ == t)

def armPoint (t : Nat) (last : Option Nat) (a : Arm) : Arm :=
  let (ready, slip) := pointArm t last a.at_ a.ready a.slip
  { a with ready := ready, slip := slip }

/-- COMMIT_POINT: what is armed before the tick of its offset sets at the next reload; what is armed on that tick slips (R47,
R48), whenever the entry is dispatched. -/
def commitPointAct (x : Acting) (d : Dev) : Dev :=
  let f := x.frame
  let t := x.at_
  let last := (d.frame f).lastCp
  let d := d.setFrame f { d.frame f with lastCp := some t }
  let d := { d with commit := { d.commit with armed := d.commit.armed.map fun (c : Commit) =>
    if c.dom / 4 ≠ f || 64 ≤ c.dom then c
    else
      let (ready, slip) := pointArm t last c.armedAt c.ready c.slip
      { c with ready := ready, slip := slip } } }
  let d := d.setRost fun r => { r with swaps := r.swaps.map fun (g, a) => if g = f then (g, armPoint t last a) else (g, a) }
  each (gangsOn d f) (fun g d => d.setGang g { d.gang g with regang := (d.gang g).regang.map (armPoint t last) }) d

/-- R47: the COMMIT_POINT entries of a frame that a reload finds deferred count by their offsets. -/
def latePoints (f : Nat) (d : Dev) : Dev :=
  (d.rost.deferred.filter fun x => x.frame = f && eAction (entryAt d x.key) = 3).foldl (fun d x => commitPointAct x d) d

/-- A gang that an entry may act on; otherwise NO_EFFECT. -/
def onGang (f g : Nat) (h : Dev → Dev) (d : Dev) : Dev :=
  if gangEn d g && gangFrame d g = f then h d else d.raise rostP ROST.EVT.NO_EFFECT

def refreshAct (x : Acting) (d : Dev) : Dev :=
  let e := entryAt d x.key
  onGang x.frame (eGang e) (fun d => d.setGang (eGang e) { d.gang (eGang e) with refreshNext := (d.gang (eGang e)).refreshNext + 1 }) d

def rotateAct (x : Acting) (d : Dev) : Dev :=
  let e := entryAt d x.key
  onGang x.frame (eGang e) (fun d => d.setGang (eGang e) { d.gang (eGang e) with rotate := true }) d

/-- The page that an SRC code names (R37). -/
def pageOfSrc (s : Nat) : Option Nat := allPages.find? fun b => srcOf b = s

/-- CAST_POINT: the cast falls on the second tick, and BUSY shows it until then (R61). It captures the pages that its domain holds as
the entry acts (DEDUCED, log 20). -/
def castPointAct (x : Acting) (d : Dev) : Dev :=
  let e := entryAt d x.key
  match pageOfSrc (eBits e 0 12) with
  | none => d
  | some b =>
    let domain := eBits e 12 1 != 0
    let pages := castPages d b domain
    let d := d.setRost fun r => { r with casts := r.casts ++ [(pages, d.now + 2)] }
    each pages (fun p d => d.raise p HDR.CAST_STAT.BUSY) d

/-- Casts whose tick has come. -/
def castsDue (d : Dev) : Dev :=
  let due := d.rost.casts.filter fun c => decide (c.2 ≤ d.now)
  due.foldl (fun d c => each c.1 castPage d) (d.setRost fun r => { r with casts := r.casts.filter fun c => decide (d.now < c.2) })

def markAct (x : Acting) (d : Dev) : Dev :=
  let e := entryAt d x.key
  let d := d.setReg (rostP + 0x070) (BitVec.ofNat 32 (2 ^ 31 + x.frame * 2 ^ 16 + eBits e 0 16))
  let d := (d.setReg (rostP + 0x074) (BitVec.ofNat 32 d.now)).setReg (rostP + 0x078) (BitVec.ofNat 32 (d.now / 2 ^ 32))
  if eBits e 16 1 != 0 then d.raise rostP ROST.EVT.MARK else d

/-! ### Entry writes (R191, R192, R212, R216) -/

def activeBank (d : Dev) : Bool := d.on rostP ROST.BANK.ACTIVE

/-- Bank, index and half of an address of the roster banks. -/
def entryOf (a : Nat) : Option (Bool × Nat × Bool) :=
  if a < 0x31000000 || 0x31040000 ≤ a then none
  else
    let i := (a % 0x20000) / 8
    if bankSize ≤ i then none else some (decide (0x31020000 ≤ a), i, a % 8 == 4)

/-- R212: an entry write is ignored: kind 0 in the active bank, 1 in a frozen one. -/
def liveWrite (bank : Bool) (kind i : Nat) (d : Dev) : Dev :=
  let d := (d.raise rostP ROST.EVT.LIVE_WRITE).bump rostP ROST.COUNT.LIVE_WRITES
  d.setReg (rostP + 0x06C) (BitVec.ofNat 32 (2 ^ 31 + b2n bank * 2 ^ 30 + kind * 2 ^ 29 + i))

def swapPending (d : Dev) : Bool := !d.rost.swaps.isEmpty

/-- The write of an entry's high word, with the low word its writer holds. A write to the active bank while a commit or a swap
freezes both banks is logged as one of a frozen bank (DESIGN CHOICE, log 58). -/
def entryLand (bank : Bool) (i : Nat) (low : Option Word) (hi : Word) (d : Dev) : Dev :=
  if d.domBusy 64 || swapPending d || d.rost.cmd ≠ 0 && bank ≠ activeBank d then liveWrite bank 1 i d
  else if bank = activeBank d then liveWrite bank 0 i d
  else
    let k := entryKey bank i
    let lo := low.getD ((entryAt d k).setWidth 32)
    let e : BitVec 64 := (hi.setWidth 64 <<< 32) ||| lo.setWidth 64
    d.setRost fun r => { r with ents := sput noEntry r.ents k e, wet := true }

/-- ROSTER_ENTRY_WRITE: a low word is held for its writer (R67), a high word lands the entry (log 58). -/
def entryWrite (who : Requester) (a : Nat) (val : Word) (d : Dev) : Dev :=
  match entryOf a with
  | none => d
  | some (bank, i, high) =>
    if !high then lowPut (requesterId who) a val d
    else
      let (low, d) := lowTake (requesterId who) (a - 4) d
      entryLand bank i low val d

/-- A read of a word of a bank. Bits of an entry that R195 reserves read as they were written (DESIGN CHOICE, log 4). -/
def entryRead (d : Dev) (a : Nat) : Word :=
  match entryOf a with
  | none => 0
  | some (bank, i, high) =>
    let e := entryAt d (entryKey bank i)
    if high then (e >>> 32).setWidth 32 else e.setWidth 32

/-! ### COPY and CLEAR (R215) -/

/-- A CMD write. -/
def rostCmd (val : Word) (d : Dev) : Dev :=
  let n := bits val 0 2
  if n = 0 then d
  else if n = 3 || d.rost.cmd ≠ 0 || d.domBusy 64 || swapPending d then d.raise rostP ROST.EVT.CMD_IGN
  else (d.progStart rostP true bankSize).setRost fun r => { r with cmd := n }

/-- Entries of the inactive bank after a command: none, or a copy of the active bank's. -/
def rostFill (d : Dev) : SMap (BitVec 64) :=
  let act := activeBank d
  let mine := bankEntries d act
  if d.rost.cmd = 1 then
    if act then mine.map (fun p => (p.1 - 16384, p.2)) ++ mine else mine ++ mine.map fun p => (p.1 + 16384, p.2)
  else mine

/-- ROSTER_CMD_DONE (log 58). -/
def rostCmdDone (d : Dev) : Dev :=
  if d.rost.cmd = 0 then d
  else
    let es := rostFill d
    ((d.setRost fun r => { r with ents := es, wet := false, cmd := 0 }).progValue rostP bankSize).progEnd rostP true

end Sys2Proof.Machine
end

