-- ==== Sys2Proof/Machine/Frames.lean ====
section
/-!
DEFINITION. Frames in time, and what takes effect at their reloads: starts, stops and lock instants (R164 to R168, R545), the
commit points of drive domains and what a commit brings to each page (R47 to R51, R105, R175, R176), bank swaps (R209 to
R211), re-gangs of stopped frames (R103), and the commits of domains 64 to 66.
-/

namespace Sys2Proof.Machine

/-! ### Periods and instants -/

def syncMode (d : Dev) (f : Nat) : Nat := d.fld (frameP f) FRAME.SYNC.MODE
def syncMaster (d : Dev) (f : Nat) : Nat := d.fld (frameP f) FRAME.SYNC.MASTER

/-- R164, R167, R168: the effective period of a frame: that of its master, which is the one of the master's present period
while the master runs. -/
def effPeriodIn (d : Dev) : Nat → Nat → Nat
  | 0, f => d.fld (frameP f) FRAME.CFG.PERIOD
  | k + 1, f =>
    if syncMode d f ≠ 1 then d.fld (frameP f) FRAME.CFG.PERIOD
    else if frameRun d (syncMaster d f) then peff d (syncMaster d f)
    else effPeriodIn d k (syncMaster d f)

def effPeriod (d : Dev) (f : Nat) : Nat := effPeriodIn d 16 f

/-- PHASE modulo the effective period. -/
def syncPhase (d : Dev) (f : Nat) : Nat := d.fld (frameP f) FRAME.SYNC.PHASE % max 1 (effPeriod d f)

/-- OFS, in 1/65,536 tick (R543). -/
def linkOfs (d : Dev) : Int :=
  signedOf 64 ((d.reg (linkP + 0x060)).toNat * 2 ^ 32 + (d.reg (linkP + 0x05C)).toNat)

/-- Whether the device has the link domain's time base: the root, or a node that is LOCKED (R544, R546) (log 37). -/
def linkBase (d : Dev) : Bool := d.on linkP LINK.PSTAT.LOCKED || d.on linkP LINK.PSTAT.ROOT_ACT

/-- R545: the first tick from `u` on that is the first at or after an instant of the domain's time. -/
def linkInstant (d : Dev) (f u : Nat) : Nat :=
  let p : Int := max 1 (effPeriod d f)
  let unit : Int := 65536
  let off : Int := syncPhase d f * unit - linkOfs d
  let k := (((u : Int) - 1) * unit - off).fdiv (p * unit) + 1
  (-((-(k * p * unit + off)).fdiv unit)).toNat

/-- R167: the lock instant that the present period of a frame's master gives (log 37). -/
def lockInstant (d : Dev) (f : Nat) : Nat := (d.frame (syncMaster d f)).reload + syncPhase d f

/-- The tick of the next reload of a frame that begins a period on tick `t`. -/
def nextReload (d : Dev) (f t : Nat) : Nat :=
  match syncMode d f with
  | 1 => if t < lockInstant d f then lockInstant d f else (d.frame (syncMaster d f)).next + syncPhase d f
  | 2 => if linkBase d then linkInstant d f (t + 1) else t + effPeriod d f
  | _ => t + effPeriod d f

/-- The tick of a reload that has come and has not been taken. A locked frame takes one per reload of its master (R167,
R168); a frame that starts takes the first instant from the tick of its start on (R166). -/
def dueReload (d : Dev) (f : Nat) : Option Nat :=
  let r := d.frame f
  let came := fun t => if t ≤ d.now then some t else none
  if frameRun d f then
    match syncMode d f with
    | 1 => if frameRun d (syncMaster d f) && r.reload < lockInstant d f then came (lockInstant d f) else none
    | _ => came r.next
  else if r.starting then
    match syncMode d f with
    | 1 => if frameRun d (syncMaster d f) && r.next ≤ lockInstant d f then came (lockInstant d f) else none
    | 2 => came (linkInstant d f r.next)
    | _ => came r.next
  else none

/-! ### What a commit brings to each page -/

/-- R176: a firmware duty sets at a commit point. -/
def firmwareDuty (g : Nat) (d : Dev) : Dev :=
  let f := gangFrame d g
  if gangEn d g && mselBit d f g then
    d.setReg (sdutyA f g) (sdutyWord true true false (bitOf (d.reg (sdutyA f g)) 28) (bits (d.reg (mdutyA f g)) 0 20))
  else d

/-- The registers of a gang's lists. -/
def gangLists (d : Dev) (g : Nat) : List Word := (List.range 9).map fun i => d.reg (gangP g + 0x058 + 4 * i)

/-- R105: a gang is formed from the lists a commit has set; a retired leg they name is dark and its slot is re-formed. A re-gang that
waits is taken at its own point, which may be this reload, also where the lists have dropped its leg.
The active count becomes L at every such commit (DEDUCED, log 39), and the rotation count is kept modulo the new L
(DESIGN CHOICE, log 109). -/
def reform (g : Nat) (d : Dev) : Dev :=
  let d := formGang d g
  let gone := (d.gang g).occ.any fun o => (d.leg (globalLeg d g o.leg)).retired
  let d := d.setGang g { d.gang g with dwell := 0, pend := .none }
  if gone then regang d g
  else
    let l := (liveList d g).length
    let p := gangP g
    let d := d.lower p GANG.STAT.SHED_PEND
    let d := d.setFld p GANG.STAT.ROT (if l = 0 then 0 else d.fld p GANG.STAT.ROT % l)
    let d := showGang (d.setGang g { d.gang g with act := l }) g l l
    if standing d g = 0 && !d.on p GANG.STAT.SHUT then understrength d g else d

/-- A gang that a commit has disabled: no duty of it is valid, and no leg of it is laid out (R82, R176). Its rotation count stays
for when it is enabled again (DESIGN CHOICE, log 109). -/
def dissolve (old : Dev) (g : Nat) (d : Dev) : Dev :=
  let d := d.setReg (sdutyA (gangFrame old g) g) 0
  let d := d.setGang g { gangReset g with collHold := (d.gang g).collHold }
  let d := each (List.range 8) (fun i d => d.setReg (gangP g + 0x088 + 4 * i) 0) (d.setReg (gangP g + 0x080) 0)
  d.setReg (gangP g + 0x084) (setBits (d.reg (gangP g + 0x084)) 0 7 0)

/-- R121: the drive die turns a leg's gates off, unless a safe command naming SHORT holds it. -/
def legDown (n : Nat) (d : Dev) : Dev := if (d.leg n).dieHold == .short then d else gatesOff n d

/-- R82, R88, R121: legs that a gang listed and none lists now stop, low on their drive die, and are dark no more. -/
def releaseLegs (old : Dev) (g : Nat) (d : Dev) : Dev :=
  each (gangLegs old g) (fun n d =>
    if (listedIn d n).isSome then d
    else
      let d := (stopLeg n d).setLeg n { d.leg n with dark := false, sw := false }
      legDown n (d.setPlan n { planReset n with due := (d.plan n).due })) d

/-- R88: legs that a commit adds to a gang's lists start at the reload, from both gates low and under fixed strong drive,
also where another gang listed them until now. -/
def addedLegs (old : Dev) (g : Nat) (d : Dev) : Dev :=
  each (gangLegs d g) (fun n d =>
    if gangEn old g && (gangLegs old g).contains n then d
    else legDown n ((stopLeg n d).setLeg n { d.leg n with sw := false })) d

/-- R323: a commit takes a gang away from an owner whose FAULTED hold still lies on it; the hold stays until recovery (log 111). -/
def keepHold (old : Dev) (g : Nat) (d : Dev) : Dev :=
  if !gangEn old g || !ownerFaultHeld old g || gangOwner old g = gangOwner d g || (d.gang g).collHold ≠ .none then d
  else d.setGang g { d.gang g with collHold := match ownerHold old g with | .none => .off | h => h }

/-- A commit has set registers of a gang's page. -/
def gangSet (old : Dev) (g : Nat) (d : Dev) : Dev :=
  let was := gangEn old g
  let now := gangEn d g
  let d := keepHold old g d
  let moved := was ≠ now || gangLists old g ≠ gangLists d g || gangDie old g ≠ gangDie d g
  let d := if was && !now then dissolve old g d else d
  let d := if !was && now then 
      (d.setReg (sdutyA (gangFrame d g) g) 0).setGang g
        { gangReset g with fresh := true, loadNew := (d.gang g).loadNew, collHold := (d.gang g).collHold }
    else d
  let d := if now && moved then addedLegs old g (reform g d) else d
  if was && moved then releaseLegs old g d else d

/-! ### Starting and stopping (R166, R177) -/

/-- R166, R172: every leg on the frame's gangs turns both gates off, and no duty waits for a reload of the frame. -/
def framesLow (f : Nat) (d : Dev) : Dev :=
  each (gangsOn d f) (fun g d => each (gangLegs d g) (fun n d =>
    (planLeg d.now 0 .low n d).setLeg n { d.leg n with sw := false, adaptive := false })
      ((d.setGang g { d.gang g with engWet := none }).lower (gangP g) GANG.STAT.RUN)) d

/-- A frame no longer runs: no period, no window, no entry; its jobs are dropped and a pending swap waits for the next
tick (R202, R211). Its deferred entries are dispatched no more (DESIGN CHOICE, log 57). `waits`: it keeps its set RUN and waits
for its master. -/
def stopOne (f : Nat) (waits : Bool) (d : Dev) : Dev :=
  let p := frameP f
  let d := (d.lower p FRAME.STAT.RUN).lower p FRAME.STAT.LOCKED
  let r := d.frame f
  let d := d.setFrame f { r with starting := waits, next := d.now, stopped := d.now, lastCp := none, acted := [] }
  let d := d.setRost fun (r : RostRec) => { r with
    swaps := r.swaps.map fun (g, a) => if g = f then (g, { a with at_ := d.now, ready := false }) else (g, a),
    deferred := r.deferred.filter (fun x => x.frame ≠ f),
    periods := sput zeroNat r.periods f (periodNo d f + 1) }
  framesLow f (jobsAtStop f d)

/-- R166: the frames locked to a frame (log 38). -/
def lockedTo (d : Dev) (f : Nat) : List Nat := (List.range 16).filter fun l => syncMode d l = 1 && syncMaster d l = f && l ≠ f

/-- A running frame whose master does not run (R166). -/
def masterless (d : Dev) (f : Nat) : Bool := syncMode d f = 1 && !frameRun d (syncMaster d f)

/-- A frame stops, or waits for its master, and with it every running frame whose master has stopped, along the chain of
masters (log 38). -/
def stopFrame (f : Nat) (waits : Bool) (d : Dev) : Dev :=
  let sweep := fun d => each (List.range 16) (fun l d =>
    if frameRun d l && masterless d l then stopOne l true d else d) d
  (List.range 16).foldl (fun d _ => sweep d) (stopOne f waits d)

/-! ### Bank swaps (R209 to R211) -/

/-- A frame swaps; the first swap changes BANK.ACTIVE, the last one sets the commit. -/
def swapFrame (f : Nat) (d : Dev) : Dev :=
  match d.rost.swaps.find? fun x => x.1 = f with
  | none => d
  | some (_, a) =>
    let first := !d.rost.swapped
    let d := if first then d.setFld rostP ROST.BANK.ACTIVE (1 - d.fld rostP ROST.BANK.ACTIVE) else d
    let r := d.frame f
    let d := d.setFrame f { r with bank := !r.bank, acted := [] }
    let d := d.setRost fun r => { r with
      swaps := r.swaps.filter fun x => x.1 ≠ f, swapped := true, slipped := r.slipped || a.slip,
      wet := if first then false else r.wet }
    d.setFld rostP ROST.BANK.PEND (d.fld rostP ROST.BANK.PEND &&& (0xFFFF - 2 ^ f))

/-- The commit of domain 64 has set: after the last swap, or where no frame was concerned. -/
def rosterSet (d : Dev) : Dev :=
  match d.commit.armed.find? fun (c : Commit) => c.dom = 64 with
  | none => d
  | some c =>
    if !d.rost.swaps.isEmpty then d
    else
      let d := reportSet { c with slip := d.rost.slipped } d
      let d := { d with commit := { d.commit with armed := d.commit.armed.filter fun (x : Commit) => x.dom ≠ 64 } }
      (d.setRost fun r => { r with swapped := false, slipped := false }).raise rostP ROST.EVT.SWAPPED

/-- The active bank of frames that no entry concerns follows BANK.ACTIVE. -/
def idleBanks (d : Dev) : Dev :=
  each (List.range 16) (fun f d =>
    if d.rost.swaps.any fun x => x.1 = f then d else d.setFrame f { d.frame f with bank := d.on rostP ROST.BANK.ACTIVE }) d

/-- A frame's swap at its swap point. -/
def swapAt (f : Nat) (d : Dev) : Dev := rosterSet (idleBanks (swapFrame f d))

/-! ### A period (R164, R196) -/

/-- Entries whose offset the period that ends did not reach. -/
def beyond (f t : Nat) (d : Dev) : Dev :=
  let r := d.frame f
  let n := ((frameEntries d f).filter fun e => decide (t - r.reload ≤ eOffset e.2)).length
  if n = 0 then d else (d.raise rostP ROST.EVT.BEYOND).bumpBy rostP ROST.COUNT2.BEYOND n

/-- The counter returns to 0. -/
def beginPeriod (f t : Nat) (d : Dev) : Dev :=
  let p := frameP f
  let first := !frameRun d f
  let dith := if first then 0 else (d.fld p FRAME.STAT.DITH + 1) % 16
  let d := if first then d else beyond f t d
  let d := ((d.wrapBump p FRAME.STAT.PCOUNT).setFld p FRAME.STAT.DITH dith).raise p FRAME.STAT.RUN
  let d := d.setFld p FRAME.STAT.PEFF (effPeriod d f)
  let d := d.setFld p FRAME.STAT.LOCKED (b2n (syncMode d f = 1 || (syncMode d f = 2 && linkBase d)))
  let r := d.frame f
  let d := d.setRost fun s => { s with periods := sput zeroNat s.periods f (periodNo d f + 1) }
  let d := d.setFrame f { r with reload := t, starting := false, lastCp := none, acted := [], past := r.reload :: r.past.take 7 }
  d.setFrame f { d.frame f with next := nextReload d f t }

/-- R168: the frames locked to a frame learn the next instant from its reload. -/
def tellLocked (f : Nat) (d : Dev) : Dev :=
  each (lockedTo d f) (fun l d =>
    if frameRun d l && (d.frame l).reload < lockInstant d l then d.setFrame l { d.frame l with next := lockInstant d l } else d) d

/-- Everything that follows a reload on tick `t`: the gangs, the owners, the captures. -/
def afterReload (f t : Nat) (hasCp : Bool) (d : Dev) : Dev :=
  let p := peff d f
  let j := d.fld (frameP f) FRAME.STAT.DITH
  let d := each (gangsOn d f) (reloadGang f t p j hasCp) d
  fbReload f (convReload f (axesReload f t d))

/-- The first reload of a frame that starts. -/
def firstReload (f t : Nat) (d : Dev) : Dev :=
  let d := each (gangsOn d f) (fun g d => d.setGang g { d.gang g with fresh := true }) d
  tellLocked f (afterReload f t false (beginPeriod f t d))

/-- R166: a commit has set RUN, PERIOD or SYNC of a frame that does not run: its first reload is the first instant from this
tick on (log 36). -/
def frameStart (f : Nat) (d : Dev) : Dev :=
  let d := d.setFrame f { d.frame f with starting := true, next := d.now }
  match dueReload d f with
  | some t => firstReload f t d
  | none => d

/-! ### Commits take effect -/

/-- The pages of one kind that lie in some domains, by their instances. -/
def inUnion (d : Dev) (union : List Nat) (base : Nat → Nat) (n : Nat) : List Nat :=
  (List.range n).filter fun i => union.contains (d.domAt (base i))

/-- What a drive commit that has set registers of the pages of `union` brings, beside its frame. `lost`: the legs whose setting
command fails its link check (R162). -/
def driveSet (lost : List Nat) (old : Dev) (union : List Nat) (d : Dev) : Dev :=
  let d := each (inUnion d union gangP 64) (gangSet old) d
  let d := each (List.range 64) (fun g d =>
    if union.contains (d.domAt (gangP g)) || union.contains (4 * gangFrame d g) then firmwareDuty g d else d) d
  let d := each (settingLegs old union) (fun n d => settingCommand n (!lost.contains n) d) d
  let d := each (inUnion d union axisP 16) axisSet d
  let d := each (inUnion d union convP 16) convSet d
  let d := each (inUnion d union fbP 16) (fbSet old) d
  d.reLimp

/-- Whether a commit carries a wet MDUTY (R175). -/
def carriesDuty (d : Dev) (c : Commit) : Bool :=
  d.wet.any fun e => c.union.contains (d.domAt e.1) && decide (0x41140000 ≤ e.1) && decide (e.1 < 0x41150000) &&
    decide (0x100 ≤ e.1 % 0x1000) && decide (e.1 % 0x1000 < 0x200)

/-- R49, R175: the registers of one commit become set, and its domains report it. -/
def setOne (c : Commit) (d : Dev) : Dev :=
  let p := frameP (c.dom / 4)
  let slipped := c.slip && c.dom < 64 && carriesDuty d c
  let d := reportSet c (applyWet c.union d)
  let d := { d with commit := { d.commit with armed := d.commit.armed.filter fun (x : Commit) => x.dom ≠ c.dom } }
  if slipped then (d.raise p FRAME.EVT.DUTY_SLIP).bump p FRAME.COUNT2.SLIP_COUNT else d

/-- R284: a commit that changes a context's chain discards its speculative run, where it is running or held. -/
def engineSet (old d : Dev) : Dev :=
  each (List.range 192) (fun c d => if chainWord old c ≠ chainWord d c then showEng c (dropSpec false c d) else d) d

def samplingSet (old d : Dev) : Dev :=
  if old.on adcP ADC.CFG.VREF_EXT ≠ d.on adcP ADC.CFG.VREF_EXT then vrefChanged d else d

/-- R47: a commit outside the reloads: of domain 64 for stopped frames, of 65 and 66, and of drive domains whose frame does
not run (log 35). -/
def commitSetLand (dom : Nat) (lost : List Nat) (d : Dev) : Dev :=
  match d.commit.armed.find? fun (c : Commit) => c.dom = dom with
  | none => d
  | some c =>
    if dom = 64 then
      if d.rost.swaps.isEmpty then
        if c.armedAt < d.now then
          let d := d.setFld rostP ROST.BANK.ACTIVE (1 - d.fld rostP ROST.BANK.ACTIVE)
          rosterSet (idleBanks (d.setRost fun r => { r with wet := false }))
        else d
      else
        each ((d.rost.swaps.filter fun x => !frameRun d x.1 && decide (x.2.at_ < d.now)).map (·.1)) swapAt d
    else if d.now ≤ c.armedAt then d
    else if dom = 65 then let e := setOne c d; samplingSet d e
    else if dom = 66 then let e := setOne c d; engineSet d e
    else
      let f := dom / 4
      if frameRun d f then d
      else
        let e := driveSet lost d c.union (setOne c d)
        if e.on (frameP f) FRAME.CFG.RUN then frameStart f e
        else e.setFrame f { e.frame f with starting := false }

/-- R47, R48: whether a commit of frame `f` sets at a reload on tick `t` (log 35). -/
def setsAt (f t : Nat) (hasCp : Bool) (c : Commit) : Bool :=
  decide (c.dom < 64) && c.dom / 4 == f && (if hasCp then c.ready else decide (c.armedAt < t))

/-- R48: a commit armed on the tick of the reload slips (log 34). -/
def slipArmed (f t : Nat) (hasCp : Bool) (d : Dev) : Dev :=
  let slips := fun (c : Commit) => decide (c.dom < 64) && c.dom / 4 == f && !hasCp && c.armedAt == t
  let d := { d with commit := { d.commit with armed := d.commit.armed.map fun (c : Commit) => if slips c then { c with slip := true } else c } }
  d.setRost fun r => { r with swaps := r.swaps.map fun (g, a) =>
    if g = f && !hasCp && a.at_ = t then (g, { a with slip := true }) else (g, a) }

/-- FRAME_RELOAD: commits and the bank swap take effect, then the period begins, or the frame stops or waits for its master
(R166). -/
def frameReloadLand (f : Nat) (lost : List Nat) (d : Dev) : Dev :=
  match dueReload d f with
  | none => d
  | some t =>
    if !frameRun d f then firstReload f t d
    else
      let hasCp := hasCommitPoint d f
      let d := slipArmed f t hasCp (latePoints f d)
      let due := d.commit.armed.filter (setsAt f t hasCp)
      let swap := d.rost.swaps.any fun x => x.1 = f && regangDue hasCp t x.2
      let old := d
      let d := due.foldl (fun d c => setOne c d) d
      if !d.on (frameP f) FRAME.CFG.RUN || masterless d f then
        let d := if swap then swapAt f d else d
        stopFrame f (d.on (frameP f) FRAME.CFG.RUN) (driveSet lost old (due.flatMap (·.union)) d)
      else
        let d := beginPeriod f t (jobsAtReload f d)
        let d := if swap then swapAt f d else d
        let d := if due.isEmpty then d else driveSet lost old (due.flatMap (·.union)) d
        tellLocked f (afterReload f t hasCp d)

/-! ### Ticks -/

/-- R108: a gang whose frame does not run is shut once every leg of it is retired, dark or held, as no reload comes to see it; a
latch alone would take its leg out of L at a reload (R147, log 45). -/
def gangsEmptied (d : Dev) : Dev :=
  (d.gangs.filterMap fun (g, r) =>
    if !r.occ.isEmpty && gangEn d g && !frameRun d (gangFrame d g) && !d.on (gangP g) GANG.STAT.SHUT &&
      r.occ.all (fun o => o.lost || (d.leg (globalLeg d g o.leg)).retired || heldApart d (globalLeg d g o.leg))
    then some g else none).foldl (fun d g => understrength d g) d

/-- R103: re-gangs of gangs whose frame does not run. -/
def regangsDue (d : Dev) : Dev :=
  (d.gangs.filterMap fun (g, r) => match r.regang with
    | some a => if gangEn d g && !frameRun d (gangFrame d g) && a.at_ < d.now then some g else none
    | none => none).foldl (fun d g => regang d g) d

end Sys2Proof.Machine
end

