-- ==== Sys2Proof/Machine/Authority.lean ====
section
/-!
DEFINITION. Authority over the drive dies: the claim latches, requests, handovers, the heartbeat and the conflict response,
and the blocking of writes from the side without authority (R453 to R461, R477).
-/

namespace Sys2Proof.Machine

def AUTH_REQ : Nat := authP + 0x058
def AUTH_HANDOVERS : Fld := ⟨0x06C, 16, 16⟩
def AUTH_BLOCKED : Fld := ⟨0x06C, 0, 16⟩

def authPhase (d : Dev) : Nat := d.fld authP AUTH.STATE.PHASE

/-- R457: cycle S. The latches change together, a holder command waits for every die, the heartbeat restarts, and the wet
sets of the drive domains without a commit on its way are dropped. `new`: 1 HEWER, 2 DEPUTY. -/
def switchTo (new : Nat) (d : Dev) : Dev :=
  let old := stamp d
  let d := (d.setFld authP AUTH.STATE.HCLAIM (b2n (new = 1))).setFld authP AUTH.STATE.DCLAIM (b2n (new = 2))
  let d := d.setFld authP AUTH.STATE.PHASE 2
  let d := each (List.range 4) (fun k d =>
    let r := d.die k
    d.setDie k { r with holderCmd := some (if r.holder = 0 then old else r.holder, new) }) d
  let d := d.setAuth { d.auth with lastBeat := d.now, late := false, due := none }
  let d := (d.bump authP AUTH_HANDOVERS).raise authP AUTH.EVT.SWITCHED
  each (List.range 64) (fun n d => if d.domBusy n then d else dropWet n d) d

/-- A pending request is cleared. -/
def clearReq (d : Dev) : Dev :=
  let d := d.setReg AUTH_REQ 0
  if authPhase d = 1 then d.setFld authP AUTH.STATE.PHASE 0 else d

/-- R457: a switch is due; it takes place on the CLK_SYS cycle after the command's (log 15). -/
def switchDue (new : Nat) (d : Dev) : Dev :=
  match d.auth.due with
  | some (_, n) => if n = new then d else d.setAuth { d.auth with due := some (d.now / 2, new) }
  | none => d.setAuth { d.auth with due := some (d.now / 2, new) }

/-- R453, R456, R461: authority passes to the Deputy as by a TAKE; a grant of the same cycle is lost. -/
def takeLand (d : Dev) : Dev :=
  let pend := authPhase d = 1
  let d := if pend then (clearReq d).raise authP AUTH.EVT.REQ_LOST else d
  let d := d.raise authP AUTH.EVT.TAKEN
  if stamp d = 1 then switchDue 2 d else d.setAuth { d.auth with due := none }

/-- EVT.WR_IGN of the AUTH page (R456, R477). -/
def authIgn (d : Dev) : Dev := d.raise authP AUTH.EVT.WR_IGN

/-- R456, R460: a Hewer core asks for authority. -/
def requestLand (core nonce : Nat) (d : Dev) : Dev :=
  if stamp d = 2 && authPhase d = 0 && d.auth.due.isNone && !d.flt.l4 then
    let d := d.setFld authP AUTH.STATE.PHASE 1
    let d := d.setReg AUTH_REQ (BitVec.ofNat 32 (2 ^ 31 + core * 2 ^ 24 + nonce % 2 ^ 16))
    (d.setAuth { d.auth with reqAt := d.now }).raise authP AUTH.EVT.REQUEST
  else authIgn d

/-- R456: a Hewer core gives authority back. -/
def releaseLand (d : Dev) : Dev := if stamp d = 1 then switchDue 2 d else authIgn d

/-- EVT bits that a command or a timeout of this cycle has set go back to what they were before it. -/
def evtUndo (mask : Word) (d : Dev) : Dev :=
  let w := d.reg (authP + 0x05C)
  d.setReg (authP + 0x05C) (w &&& (~~~mask ||| d.beforeEvents (authP + 0x05C)))

/-- R461: the request that timed out on this cycle, if it carries the nonce: a GRANT of the cycle acts all the same. -/
def expiredNow (nonce : Nat) (d : Dev) : Option Word :=
  match d.auth.expired with
  | some (c, w) => if c = d.now / 2 && bits w 0 16 = nonce % 2 ^ 16 && stamp d = 2 && authPhase d = 0 then some w else none
  | none => none

/-- R456, R461: the Deputy grants the pending request whose nonce it names (log 52). -/
def grantLand (nonce : Nat) (d : Dev) : Dev :=
  if authPhase d = 1 && bits (d.reg AUTH_REQ) 0 16 = nonce % 2 ^ 16 then switchDue 1 d
  else match expiredNow nonce d with
    | some w => switchDue 1 ((evtUndo 0x40 d).setFld authP AUTH.STATE.PHASE 1 |>.setReg AUTH_REQ w)
    | none => authIgn d

/-- R456: the Deputy denies a pending request. -/
def denyLand (d : Dev) : Dev :=
  if authPhase d = 1 && d.auth.due.isNone then (clearReq d).raise authP AUTH.EVT.DENIED else authIgn d

/-- R461: a command on the cycle of a conflict is ignored; the one that comes before it on that cycle is undone by it. -/
def authCmd (some_ : Bool) (f : Dev → Dev) (d : Dev) : Dev :=
  if !some_ then d
  else if d.auth.conflict == some (d.now / 2) then authIgn d
  else
    let seen := match d.auth.before with
      | some (c, _, _) => c == d.now / 2
      | none => false
    f (if seen then d
      else d.setAuth { d.auth with before := some (d.now / 2, d.reg (authP + 0x040), d.reg AUTH_REQ) })

/-- R456, R477: a write to HCMD. -/
def hcmdWrite (who : Requester) (val : Word) (d : Dev) : Dev :=
  authCmd (bits val 0 2 ≠ 0 || !isCore who) (hcmdAct who val) d
where
  isCore : Requester → Bool
    | .hewer _ => true
    | _ => false
  hcmdAct (who : Requester) (val : Word) (d : Dev) : Dev :=
  match who with
  | .hewer c =>
    match bitOf val 0, bitOf val 1 with
    | true, false => requestLand c.val (bits val 16 16) d
    | false, true => releaseLand d
    | true, true => authIgn d
    | false, false => d
  | _ => authIgn d

/-- R456, R477: a write to DCMD. -/
def dcmdWrite (who : Requester) (val : Word) (d : Dev) : Dev :=
  authCmd (bits val 0 3 ≠ 0 || who ≠ .deputy) (dcmdAct who val) d
where
  dcmdAct (who : Requester) (val : Word) (d : Dev) : Dev :=
  if who ≠ .deputy then authIgn d
  else match bitOf val 0, bitOf val 1, bitOf val 2 with
    | true, false, false => grantLand (bits val 16 16) d
    | false, true, false => takeLand d
    | false, false, true => denyLand d
    | false, false, false => d
    | _, _, _ => authIgn d

/-- R456, R461: a request neither granted nor denied within 1 ms (600,000 ticks). -/
def reqTimeoutLand (d : Dev) : Dev :=
  if authPhase d = 1 && d.auth.due.isNone && d.auth.reqAt + 600000 ≤ d.now then
    let d := d.setAuth { d.auth with expired := some (d.now / 2, d.reg AUTH_REQ) }
    (clearReq d).raise authP AUTH.EVT.REQ_TIMEOUT
  else d

/-- The registers that a conflict changes. -/
def conflictRegs : List Nat := [0x040, 0x058, 0x05C, 0x064, 0x06C].map (authP + ·)

/-- What a conflict has done to `b`. -/
def staleOf (b d : Dev) : Stale :=
  { cycle := d.now / 2, regs := regsTurn conflictRegs b d, msgs := d.flt.inflight.drop b.flt.inflight.length,
    lastBeat := b.auth.lastBeat, late := b.auth.late, due := b.auth.due, conflict := b.auth.conflict,
    cmds := (List.range 4).map fun k => ((b.die k).holderCmd, (d.die k).holderCmd),
    wets := (b.wet, d.wet), coats := (b.coat2, d.coat2), l4 := b.flt.l4 }

/-- R461: the conflict that a stale heartbeat has made on this cycle is undone. -/
def staleUndo (x : Stale) (d : Dev) : Dev :=
  let d := unsend x.msgs (undoRegs x.regs d)
  let d := d.setAuth { d.auth with lastBeat := x.lastBeat, late := x.late, due := x.due, conflict := x.conflict, stale := none }
  let d := each (List.range 4) (fun k d =>
    let (b, e) := x.cmds.getD k (none, none)
    if (d.die k).holderCmd = e then d.setDie k { d.die k with holderCmd := b } else d) d
  { d with
    flt := { d.flt with l4 := x.l4 }, wet := if d.wet = x.wets.2 then x.wets.1 else d.wet,
    coat2 := if d.coat2 = x.coats.2 then x.coats.1 else d.coat2 }

/-- R461: a beat of the side that held authority before the conflict of this cycle counts, and there is no conflict. -/
def beatFirst (side : Nat) (d : Dev) : Dev :=
  match d.auth.stale with
  | some x => if x.cycle = d.now / 2 && stamp (staleUndo x d) = side then staleUndo x d else d
  | none => d

/-- R458: a beat from the holder's side; the first DBEAT arms the check. One from the side that does not hold authority has no
effect. -/
def beatLand (who : Requester) (dbeat : Bool) (d : Dev) : Dev :=
  let side := match who with | .deputy => 2 | .hewer _ => 1 | _ => 0
  let d := if side = (if dbeat then 2 else 1) then beatFirst side d else d
  if side ≠ (if dbeat then 2 else 1) then authIgn d
  else if stamp d ≠ side then d
  else
    let d := if dbeat then d.setFld authP AUTH.STATE.ARMED 1 else d
    d.setAuth { d.auth with lastBeat := d.now, late := false }

def beatAge (d : Dev) : Nat := d.now - d.auth.lastBeat

/-- R458: 40 µs without a beat. -/
def beatLateLand (d : Dev) : Dev :=
  if d.on authP AUTH.STATE.ARMED && 24000 ≤ beatAge d && !d.auth.late then
    (d.setAuth { d.auth with late := true }).raise authP AUTH.EVT.BEAT_LATE
  else d

/-- R461: commands of the cycle of a conflict are ignored: what they did is undone. -/
def authUndo (d : Dev) : Dev :=
  match d.auth.before with
  | some (c, st, rq) =>
    if c = d.now / 2 then authIgn (evtUndo 0x36 ((d.setFld authP AUTH.STATE.PHASE (bits st 28 4)).setReg AUTH_REQ rq)) else d
  | none => d

/-- R459: the conflict response, by its cause. -/
def conflictLand (cause : Nat) (d : Dev) : Dev :=
  let d := authUndo (d.setAuth { d.auth with conflict := some (d.now / 2) })
  let old := stamp d
  -- R460: from here on a REQUEST is refused
  let d := { d with flt := { d.flt with l4 := true } }.send (faultOf authP 45 cause)
  let d := if authPhase d = 1 then (clearReq d).raise authP AUTH.EVT.REQ_LOST else d
  let d := switchTo 2 d
  let d := d.setReg (authP + 0x064) (BitVec.ofNat 32 (2 ^ 31 + old * 2 ^ 8 + cause))
  d.raise authP AUTH.EVT.CONFLICT

/-- R459: the heartbeat is stale at 50 µs while the check is armed. -/
def staleLand (d : Dev) : Dev :=
  if d.mode ≠ .powerUp && d.on authP AUTH.STATE.ARMED && 30000 ≤ beatAge d then
    let e := conflictLand 2 d
    e.setAuth { e.auth with stale := some (staleOf d e) }
  else d

/-- A tick of the AUTH block: cycle S of a switch that is due, with which a granted request is cleared (R457), and the check of the
two latches (R459). -/
def authTick (d : Dev) : Dev :=
  let d := match d.auth.due with
    | some (c, new) => if c < d.now / 2 then switchTo new (clearReq d) else d
    | none => d
  let h := d.on authP AUTH.STATE.HCLAIM
  if d.mode ≠ .powerUp && h == d.on authP AUTH.STATE.DCLAIM then conflictLand (if h then 0 else 1) d else d

/-! ### Blocking (R455) -/

/-- The side a requester writes from: 1 Hewer, 2 Deputy, 0 the device itself. -/
def sideOf : Requester → Nat
  | .hewer _ | .dma _ | .spi | .link => 1
  | .deputy => 2
  | .record | .night => 0

/-- The pages that only the holder's side may write. -/
def Page.driveSide : Page → Bool
  | .frame | .gang | .leg | .axis | .conv | .fb | .ddie => true
  | _ => false

/-- Whether R455 ignores a write of a requester to an address. -/
def blocked (d : Dev) (who : Requester) (a : Nat) : Bool :=
  match pageAt a with
  | none => false
  | some (r, _) => r.page.driveSide && sideOf who != 0 && stamp d != 0 && stamp d != sideOf who

/-- What an ignored write leaves in the AUTH page (log 56). -/
def logBlocked (who : Requester) (a : Nat) (d : Dev) : Dev :=
  let d := (d.raise authP AUTH.EVT.BLOCKED).bump authP AUTH_BLOCKED
  d.setReg (authP + 0x068) (BitVec.ofNat 32 (2 ^ 31 + requesterId who * 2 ^ 16 + srcOf (pageBase a)))

/-- A write to a page under R455: it acts, or it is ignored and logged. -/
def allowed (who : Requester) (a : Nat) (d : Dev) (f : Dev → Dev) : Dev :=
  if blocked d who a then logBlocked who a d else f d

end Sys2Proof.Machine
end

