-- ==== Sys2Proof/Machine/Collector.lean ====
section
/-!
DEFINITION. The fault collector: levels, classes, escalation, reactions, retries and retirement, the tally and FIRST,
recovery, and fault injection (R408 to R433, R151 to R153).
-/

namespace Sys2Proof.Machine

/-! ### Kinds and classes (R410, R411, R413) -/

/-- Level and class of a kind, by its code (R410); FB_FAULT, ENG_ECC_UE and TEMP_SHUT take theirs from `levelOf` (log 51). -/
def kindRow : Nat → Nat × Nat
  | 1 => (1, 0) | 2 => (1, 0) | 3 => (1, 1) | 4 => (1, 2) | 5 => (1, 3) | 6 => (0, 4)
  | 7 => (2, 5) | 8 => (2, 5) | 9 => (3, 6) | 10 => (3, 6) | 11 => (3, 7) | 12 => (2, 8)
  | 13 => (0, 9) | 14 => (0, 9) | 15 => (4, 9) | 16 => (0, 10) | 17 => (2, 11) | 18 => (0, 10)
  | 19 => (3, 12) | 20 => (0, 10) | 21 => (3, 12) | 22 => (0, 10) | 23 => (4, 12)
  | 24 => (0, 13) | 25 => (2, 13) | 26 => (2, 14) | 27 => (2, 15) | 28 => (0, 15) | 29 => (2, 14)
  | 30 => (0, 14) | 31 => (0, 16) | 32 => (0, 14) | 33 => (0, 17) | 34 => (0, 17) | 35 => (0, 17)
  | 36 => (2, 17) | 37 => (0, 18) | 38 => (2, 18) | 39 => (2, 18) | 40 => (2, 19) | 41 => (2, 20)
  | 42 => (0, 21) | 43 => (0, 22) | 44 => (0, 22) | 45 => (4, 23) | 46 => (4, 24) | 47 => (4, 25)
  | 48 => (4, 25) | 49 => (3, 26) | 50 => (4, 27) | 51 => (0, 28) | 52 => (3, 28) | 53 => (0, 29)
  | 54 => (0, 29) | 55 => (0, 30) | 56 => (4, 31) | _ => (0, 31)

def kindClass (k : Nat) : Nat := (kindRow k).2

/-- R410: the kinds taken with the hard-safe lines. -/
def hardKind (k : Nat) : Bool := k == 45 || k == 46 || k == 47 || k == 56

/-- R413: the level a class escalates to, if any. -/
def escalatesTo : Nat → Option Nat
  | 0 => some 2 | 1 => some 2 | 5 => some 3 | 6 => some 4 | 7 => some 4 | 8 => some 3 | 11 => some 4
  | 12 => some 4 | 13 => some 3 | 15 => some 3 | 18 => some 3 | 19 => some 3 | 26 => some 4 | 28 => some 4
  | _ => none

/-- SRC codes of the pages (R409). -/
def isLegSrc (s : Nat) : Bool := s < 0x100
def isGangSrc (s : Nat) : Bool := 0x100 ≤ s && s < 0x140
def isFrameSrc (s : Nat) : Bool := 0x140 ≤ s && s < 0x150
def isAxisSrc (s : Nat) : Bool := 0x150 ≤ s && s < 0x160
def isConvSrc (s : Nat) : Bool := 0x160 ≤ s && s < 0x170
def isFbSrc (s : Nat) : Bool := 0x170 ≤ s && s < 0x180
def isDieSrc (s : Nat) : Bool := 0x190 ≤ s && s < 0x194

/-- R416: the owner of a message's source. -/
def ownerOf (d : Dev) (m : FaultMsg) : Option Scope :=
  if isLegSrc m.src then (listedIn d m.src).map fun (g, _) => gangOwner d g
  else if isGangSrc m.src then
    let g := m.src - 0x100
    if gangEn d g then some (gangOwner d g) else none
  else if isFrameSrc m.src && m.kind = 12 then some (gangOwner d (m.addr % 64))
  else if isAxisSrc m.src then some (.axis (m.src - 0x150))
  else if isConvSrc m.src then some (.conv (m.src - 0x160))
  else if isFbSrc m.src then (fbAxis d (m.src - 0x170)).map .axis
  else if m.kind = 17 then ctxOwner d (m.full.toNat % 256)
  else none

/-- R289, R411: a context that CHAIN.BIND binds (log 51). -/
def chainBound (d : Dev) (c : Nat) : Bool := decide (c < 192) && d.on (engP + 4 * c) ENG.CHAIN.BIND

/-- R411: the level a kind has in its context. -/
def levelOf (d : Dev) (m : FaultMsg) : Nat :=
  if m.kind = 36 then if (ownerOf d m).isSome then 2 else 0
  else if m.kind = 52 then if isDieSrc m.src then 3 else 4
  else if m.kind = 17 then if (ownerOf d m).isNone && chainBound d (m.full.toNat % 256) then 0 else 2
  else (kindRow m.kind).1

/-- R414: LVL_MIN of a class; 5 to 7 count as 4. -/
def lvlMin (d : Dev) (k : Nat) : Nat := min 4 (bits (d.reg (fltP + 0x100 + 4 * k)) 0 3)

/-- R414: a fault at L2 without an owner is taken at L3. -/
def ownerless (d : Dev) (m : FaultMsg) (lvl : Nat) : Nat :=
  if lvl = 2 && (ownerOf d m).isNone then 3 else lvl

/-- R411, R414: the level of a message before escalation and R414's last step. -/
def ownLevel (d : Dev) (m : FaultMsg) : Nat := max (levelOf d m) (lvlMin d (kindClass m.kind))

/-- The level after R411 and R414, used for ordering (R415). -/
def orderLevel (d : Dev) (m : FaultMsg) : Nat := ownerless d m (ownLevel d m)

/-- R418: the instance a fault comes from. -/
def instanceOf (m : FaultMsg) : Nat := if kindClass m.kind ≤ 4 then m.addr % 256 else m.src

/-- ESC_WIN in ticks: units of 10 µs, 0 counts as 1 (R433). -/
def escWindow (d : Dev) : Nat := 6000 * max 1 (d.fld fltP FLT.ESC.ESC_WIN)

/-- The longest ESC_WIN in ticks: what lies further back never escalates. -/
def escLongest : Nat := 6000 * 65535

/-- R414, R418: the decided level, and whether it was escalated. -/
def decideLevel (d : Dev) (m : FaultMsg) : Nat × Bool :=
  let c := kindClass m.kind
  let own := ownLevel d m
  let other := d.flt.recent.any fun (k, i, t) => k = c && i ≠ instanceOf m && decide (d.now ≤ t + escWindow d)
  match escalatesTo c with
  | some e => if 1 ≤ own && other && own < e then (ownerless d m e, true) else (ownerless d m own, false)
  | none => (ownerless d m own, false)

/-! ### Small changes of the collector's record -/

def Dev.setFlt (d : Dev) (f : FltRec → FltRec) : Dev := { d with flt := f d.flt }

def scopeTick (l : List (Scope × Nat)) (s : Scope) : Option Nat := (l.find? fun p => p.1 = s).map (·.2)

/-- R427: a fault is noted for a scope's quiet period. -/
def noteFault (s : Scope) (d : Dev) : Dev :=
  d.setFlt fun f => { f with lastFault := (s, d.now) :: f.lastFault.filter fun p => p.1 ≠ s }

def openFault (s : Scope) (lvl : Nat) (d : Dev) : Dev :=
  d.setFlt fun f => { f with open_ := (s, lvl) :: f.open_ }

def closeFaults (ss : List Scope) (d : Dev) : Dev :=
  d.setFlt fun f => { f with open_ := f.open_.filter fun p => !ss.contains p.1 }

/-! ### Recovery requests (R427, R428) -/

/-- REC_STAT (R433). -/
def recStat (st scope idx reason : Nat) : Word :=
  BitVec.ofNat 32 (st * 2 ^ 28 + scope * 2 ^ 24 + idx * 2 ^ 16 + reason * 2 ^ 8)

def scopeCode : Scope → Nat × Nat
  | .gang g => (1, g) | .axis a => (2, a) | .conv c => (3, c) | .die k => (4, k) | .device => (5, 0) | .hewer => (0, 0)

def scopeOfCode : Nat → Nat → Option Scope
  | 1, g => if g < 64 then some (.gang g) else none
  | 2, a => if a < 16 then some (.axis a) else none
  | 3, c => if c < 16 then some (.conv c) else none
  | 4, k => if k < 4 then some (.die k) else none
  | 5, _ => some .device
  | _, _ => none

/-- A waiting request ends without release (R427, R428). -/
def recEnd (reason : Nat) (d : Dev) : Dev :=
  match d.flt.wait with
  | none => d
  | some w =>
    let (s, i) := scopeCode w.scope
    let d := d.setReg (fltP + 0x050) (recStat 3 s i reason)
    let d := d.setReg (fltP + 0x054) 0
    (d.setFlt fun f => { f with wait := none }).raise fltP FLT.EVT.REC_REFUSED

/-- R428: a decision at L3 or L4 supersedes a wait; `dies` is the L3 domain. -/
def supersede (lvl : Nat) (dies : List Nat) (d : Dev) : Dev :=
  match d.flt.wait with
  | none => d
  | some w =>
    match w.scope with
    | .device => if lvl = 4 && !w.deputy then recEnd 2 d else d
    | .die _ => if lvl = 4 then recEnd 5 d else d
    | s => if lvl = 4 || (lvl = 3 && (scopeGangs d s).any fun g => dies.contains (gangDie d g)) then recEnd 5 d else d

/-! ### Retirement by the collector (R422 to R424) -/

def retryMax (d : Dev) : Nat := max 1 (d.fld fltP FLT.RETRY.RETRY_MAX)

/-- R424: a retirement or return waits to be written to the journal. -/
def journal (leg kind : Nat) (ret : Bool) (d : Dev) : Dev :=
  d.setFlt fun f => { f with journal := f.journal ++ [⟨leg, kind, d.now, ret⟩] }

/-- R102, R112, R423, R424: the collector retires a leg. -/
def collectorRetire (n kind : Nat) (d : Dev) : Dev :=
  let d := d.setFlt fun f => { f with retry := f.retry.filter fun p => p.leg ≠ n }
  if (d.leg n).retired then d
  else ((journal n kind false (retireLeg d false n)).raise fltP FLT.EVT.RETIRED).reLimp

/-- The period of the frame a leg's gang runs on, in ticks (R422). -/
def legPeriod (d : Dev) (n : Nat) : Nat :=
  match listedIn d n with
  | none => 0
  | some (g, _) =>
    let p := frameP (gangFrame d g)
    let e := d.fld p FRAME.STAT.PEFF
    if e = 0 then d.fld p FRAME.CFG.PERIOD else e

def occCount (d : Dev) (n cls : Nat) : Nat := (d.flt.occ.filter fun o => o.leg = n && o.cls = cls).length

/-- R422, R423: an occurrence that arrived on tick `at_` is counted; at RETRY_MAX the fault is permanent. True where the leg
was retired. -/
def occur (n cls kind at_ det : Nat) (trip : Bool) (d : Dev) : Dev × Bool :=
  let d := d.setFlt fun f => { f with occ := f.occ ++ [⟨n, cls, at_, det, trip⟩] }
  if retryMax d ≤ occCount d n cls then (collectorRetire n kind d, true) else (d, false)

/-- R151: the detection tick of a trip message that arrived on tick `at_`. -/
def detectTick (at_ : Nat) (m : FaultMsg) : Nat :=
  if m.held then at_ else at_ - (at_ + 64 - m.addr / 256 % 64) % 64

/-- R152: the start of the period of a gang's frame that a detection tick falls in. -/
def periodStart (d : Dev) (g det : Nat) : Nat :=
  let r := d.frame (gangFrame d g)
  ((r.reload :: r.past).find? fun t => decide (t ≤ det)).getD 0

/-- R152: whether two detections in a gang fall in one period; with the frame stopped, within 600 ticks. -/
def samePeriod (d : Dev) (g a b : Nat) : Bool :=
  if d.on (frameP (gangFrame d g)) FRAME.STAT.RUN then periodStart d g a == periodStart d g b
  else decide (a ≤ b + 600) && decide (b ≤ a + 600)

/-- R110, R152, R153, R423: a trip is attributed to its gang, and shuts it where another leg tripped in the period.
(log 43). -/
def attributeTrip (g n det : Nat) (d : Dev) : Dev :=
  let r := d.gang g
  let same := fun t => samePeriod d g t det
  let shuts := (r.trips.any fun t => t.2 ≠ n && same t.1) && !(r.shutTrip.map same).getD false
  let kept := r.trips.filter fun t => same t.1 || decide (d.now ≤ t.1 + 700)
  let d := d.setGang g { r with trips := (det, n) :: kept, shutTrip := if shuts then some det else r.shutTrip }
  if !shuts then d
  else
    let mine := fun (l : Nat) => (listedIn d l).map (·.1) = some g
    let d := d.setFlt fun f => { f with
      occ := f.occ.filter fun o => !(o.cls = 0 && o.trip && mine o.leg && same o.detected),
      retry := f.retry.filter fun p => !(mine p.leg && same p.detected) }
    if d.on (gangP g) GANG.STAT.SHUT then d else (shutGang d g).send (faultOf (gangP g) 7 g)

/-- R152: the gang manager notes a trip message as it arrives (log 43). -/
def noteTrip (m : FaultMsg) (d : Dev) : Dev :=
  if !isLegSrc m.src || m.kind = 0 || 3 ≤ m.kind then d
  else match listedIn d m.src with
    | some (g, i) => if i < 32 then attributeTrip g m.src (detectTick d.now m) d else d
    | none => d

/-- R423: whether a trip lies in the period in which its gang was shut. -/
def tripShut (d : Dev) (g det : Nat) : Bool :=
  ((d.gang g).shutTrip.map fun t => samePeriod d g t det).getD false

/-- R422, R423: what a LEG message at L1 or above, which arrived on tick `at_`, does to the leg's counts and retries; a trip
decided at L2 or above leaves its latch to recovery. -/
def retryRules (m : FaultMsg) (at_ lvl : Nat) (d : Dev) : Dev :=
  let cls := kindClass m.kind
  if 4 ≤ cls || !isLegSrc m.src then d
  else
    let n := m.src
    match listedIn d n with
    | none => d
    | some (g, i) =>
      let det := if m.kind ≤ 2 then detectTick at_ m else at_
      let soft := m.kind == 2
      if m.kind ≤ 2 && i < 32 && tripShut d g det then d
      else
        let (d, gone) := occur n cls m.kind at_ det (m.kind ≤ 2) d
        if gone || 3 ≤ m.kind then d
        else if lvl ≠ 1 then d.setFlt fun f => { f with retry := f.retry.filter fun p => !(p.leg = n && p.soft == soft) }
        else
          let due := det + max 1 (d.fld fltP FLT.RETRY.RETRY_DLY) * legPeriod d n
          d.setFlt fun f => { f with retry := f.retry ++ [⟨n, soft, due, det⟩] }

/-! ### Reactions (R417 to R421) -/

/-- L2: the owner is held. -/
def reactOwner (o : Scope) (msg : Word) (d : Dev) : Dev :=
  match o with
  | .axis a => axisFault a d
  | .conv c => convFault c msg.toNat false d
  | .gang g => each (gangLegs d g) (fun n d => if (d.leg n).safe == .none then holdLeg .off n d else d) d
  | _ => d

/-- The owners with a gang on a die. -/
def ownersOn (d : Dev) (k : Nat) : List Scope :=
  (((enabledGangs d).filter fun g => gangDie d g = k).map (gangOwner d)).eraseDups

/-- Whether an owner's safe policy holds a leg (R417). -/
def policyHolds (d : Dev) (n : Nat) : Bool :=
  match listedIn d n with
  | some (g, _) => (match gangOwner d g with | .axis a => axisState d a = AX_FAULTED | .conv c => convState d c = CV_FAULTED | _ => false)
  | none => false

/-- L3 on one die: its owners as at L2, every leg no policy holds OFF, and the die marked. -/
def reactDie (msg : Word) (k : Nat) (d : Dev) : Dev :=
  let d := (ownersOn d k).foldl (fun d o => reactOwner o msg d) d
  let d := each ((List.range 64).map (64 * k + ·)) (fun n d =>
    if (listedIn d n).isSome && (d.leg n).safe == .none && !policyHolds d n then holdLeg .off n d else d) d
  d.setReg (fltP + 0x05C) (d.reg (fltP + 0x05C) ||| BitVec.ofNat 32 (2 ^ (24 + k)))

/-- R420: the drive dies of an L3 domain; none for the Hewer complex. -/
def domainOf (d : Dev) (m : FaultMsg) : Option (List Nat) :=
  if isDieSrc m.src then some [m.src - 0x190]
  else match ownerOf d m with
    | some o => some ((scopeGangs d o).map (gangDie d)).eraseDups
    | none =>
      if isLegSrc m.src then some [m.src / 64]
      else if isGangSrc m.src then some [gangDie d (m.src - 0x100)]
      else none

/-- R506: the modes that an L4 fault leaves for SAFE (log 73). -/
def Mode.faultsToSafe : Mode → Bool
  | .configure | .standby | .run | .limp | .park | .test => true
  | _ => false

/-- R417, R506: the device goes to SAFE; every axis and converter is FAULTED under its own hold, other gangs are held OFF.
(log 73). -/
def enterSafe (msg : Word) (d : Dev) : Dev :=
  let d := (noteMode none d).enter .safe
  let d := d.setSys fun r => { r with modeCycle := some (d.now / 2) }
  let d := each (List.range 16) axisFault d
  let d := each (List.range 16) (fun c d => convFault c 0 true d) d
  each ((enabledGangs d).filter fun g => gangOwner d g = .gang g) (fun g d => reactOwner (.gang g) msg d) d

/-- L3 and L4 scopes as lists of scopes. -/
def dieScopes (d : Dev) (ks : List Nat) : List Scope := ks.map .die ++ (ks.flatMap (ownersOn d)).eraseDups

def everyScope : List Scope :=
  Scope.device :: ((List.range 4).map Scope.die ++ (List.range 16).map Scope.axis ++ (List.range 16).map Scope.conv ++ (List.range 64).map Scope.gang)

/-- R417: the reaction of a decided level. An owner without an enabled gang has no drive die in its domain: it is held as at L2
(DEDUCED, log 100). -/
def react (m : FaultMsg) (lvl : Nat) (d : Dev) : Dev :=
  match lvl with
  | 2 =>
    match ownerOf d m with
    | some o => openFault o 2 (reactOwner o (msgWord m) d)
    | none => d
  | 3 =>
    match domainOf d m with
    | none => openFault .hewer 3 (takeLand d)
    | some [] =>
      match ownerOf d m with
      | some o => openFault o 3 (reactOwner o (msgWord m) d)
      | none => d
    | some ks => ks.foldl (fun d k => openFault (.die k) 3 (reactDie (msgWord m) k d)) d
  | 4 =>
    let d := displaceMode d
    let d := if d.mode.faultsToSafe then enterSafe (msgWord m) d else d
    openFault .device 4 (d.setFlt fun f => { f with l4 := true, l4Safe := f.l4Safe || d.mode == .safe })
  | _ => d

/-- R427: the scopes whose quiet period a fault restarts. -/
def touched (d : Dev) (m : FaultMsg) (lvl : Nat) : List Scope :=
  if lvl = 0 then []
  else if lvl = 4 then everyScope
  else
    let own := (ownerOf d m).toList
    let src := if isLegSrc m.src then [Scope.die (m.src / 64)]
      else if isGangSrc m.src then [.die (gangDie d (m.src - 0x100)), .gang (m.src - 0x100)]
      else if isDieSrc m.src then [.die (m.src - 0x190)] else []
    let dies := own.flatMap fun o => (scopeGangs d o).map fun g => Scope.die (gangDie d g)
    let dom := if lvl = 3 then dieScopes d ((domainOf d m).getD []) else []
    (own ++ src ++ dies ++ dom ++ (if 2 ≤ lvl then [Scope.device] else [])).eraseDups

/-! ### The tally and FIRST (R425, R426) -/

/-- TALLY_HI (R433). -/
def tallyHi (lvl : Nat) (esc inj act : Bool) (arrival : Nat) : Word :=
  BitVec.ofNat 32 (lvl * 2 ^ 29 + b2n esc * 2 ^ 28 + b2n inj * 2 ^ 27 + b2n act * 2 ^ 26 + arrival / 600 % 2 ^ 26)

/-- R425: a decided message enters the tally, or overflows it. -/
def tallyPut (lo hi : Word) (d : Dev) : Dev :=
  if 64 ≤ d.flt.tally.length then (d.bump fltP FLT.TSTAT.OVF).raise fltP FLT.EVT.TALLY_OVF
  else
    let d := d.setFlt fun f => { f with tally := f.tally ++ [(lo, hi)], tallied := f.tallied + 1 }
    d.setFld fltP FLT.TSTAT.DEPTH d.flt.tally.length

/-- R13: the tally as a read on this cycle finds it, before the entries of this cycle. -/
def tallyBefore (d : Dev) : List (Word × Word) :=
  d.flt.tally.take (d.flt.tally.length - (if d.flt.decCycle = d.now / 2 then d.flt.tallied else 0))

/-- R425: a read of TALLY_LO takes the oldest entry; the caller shadows its high word. -/
def tallyTake (d : Dev) : (Word × Word) × Dev :=
  match tallyBefore d with
  | [] => ((0, 0), d)
  | e :: _ => (e, (d.setFlt fun f => { f with tally := f.tally.drop 1 }).setFld fltP FLT.TSTAT.DEPTH (d.flt.tally.length - 1))

def clearTally (d : Dev) : Dev := (d.setFlt fun f => { f with tally := [] }).setFld fltP FLT.TSTAT.DEPTH 0

/-- R426: the tick in FIRST_TICK. -/
def firstTick (d : Dev) : Nat := (d.reg (fltP + 0x078)).toNat + (d.reg (fltP + 0x07C)).toNat * 2 ^ 32

/-- R426: CLR_FIRST empties FIRST; what arrives on the same CLK_SYS cycle counts as after it, as under R13 (DEDUCED, log 100). -/
def clearFirst (d : Dev) : Dev :=
  let d := d.setFlt fun f => { f with firstClr := d.now / 2 }
  if d.flt.firstTaken && firstTick d / 2 = d.now / 2 then d
  else
    let d := d.setFlt fun f => { f with firstTaken := false }
    each (List.range 4) (fun i d => d.setReg (fltP + 0x070 + 4 * i) 0) d

/-- R426: FIRST takes the first qualifying message. -/
def firstPut (lo hi : Word) (arrival : Nat) (d : Dev) : Dev :=
  if d.flt.firstTaken || decide (arrival / 2 < d.flt.firstClr) then d
  else
    let d := d.setFlt fun f => { f with firstTaken := true }
    let d := (d.setReg (fltP + 0x070) lo).setReg (fltP + 0x074) hi
    (d.setReg (fltP + 0x078) (BitVec.ofNat 32 arrival)).setReg (fltP + 0x07C) (BitVec.ofNat 32 (arrival / 2 ^ 32))

/-! ### Injection (R430 to R432) -/

/-- SRC of a target's checker. -/
def targetSrc : Nat → Nat
  | 0 => srcOf arbP | 1 => srcOf authP | 2 => srcOf nvP | _ => srcOf engP

def isEcc (k : Nat) : Bool := 16 ≤ k && k ≤ 23

/-- A session ends (R431, R432): its state, the kind and syndrome of the report. -/
def injEnd (st kind syn : Nat) (d : Dev) : Dev :=
  let d := d.setReg INJ_STAT (BitVec.ofNat 32 (st * 2 ^ 28 + kind * 2 ^ 14 + syn % 256))
  d.setReg INJ_CTL (setBits (d.reg INJ_CTL) 0 1 0)

/-- R432: a report from the SRC of an armed session's target. -/
def fromTarget (d : Dev) (m : FaultMsg) : Bool := injArmed d && m.src == targetSrc (bits (d.reg INJ_CTL) 24 3)

/-- R431: the report of the injected read, with exactly the injected syndrome. -/
def injReport (d : Dev) (m : FaultMsg) : Bool := fromTarget d m && isEcc m.kind && m.onInjected && m.syn == injSyn d

/-! ### Deciding (R415) -/

def CLSCNT (k : Nat) : Fld := ⟨0x180 + 4 * k, 0, 16⟩
def INJCNT : Fld := ⟨0x09C, 0, 16⟩

/-- What an injected report leaves (R431); no escalation touches its level. -/
def decideInjected (m : FaultMsg) (arrival : Nat) (d : Dev) : Dev :=
  let d := tallyPut (msgWord m) (tallyHi (orderLevel d m) false true false arrival) d
  injEnd 2 m.kind m.syn ((d.bump fltP INJCNT).raise fltP FLT.EVT.INJ_DONE)

/-- R415 to R432: one message is decided. -/
def decide1 (m : FaultMsg) (arrival : Nat) (d : Dev) : Dev :=
  let d := if isEcc m.kind && 18 ≤ m.kind then d.setReg (fltP + 0x06C) m.full else d
  if injReport d m then decideInjected m arrival d
  else
    let act := fromTarget d m
    let d := if act then (injEnd 3 m.kind m.syn d).raise fltP FLT.EVT.INJ_ABORT else d
    let (lvl, esc) := decideLevel d m
    let cls := kindClass m.kind
    let hi := tallyHi lvl esc false act arrival
    let d := tallyPut (msgWord m) hi d
    let d := (d.bump fltP (CLSCNT cls)).raiseBit (fltP + 0x060) lvl
    let d := if esc then d.raise fltP FLT.EVT.ESCALATED else d
    let d := if bitOf (d.reg (fltP + 0x100 + 4 * cls)) 8 then d.raise fltP FLT.EVT.CLASS else d
    let d := if 1 ≤ lvl then firstPut (msgWord m) hi arrival d else d
    let d := (touched d m lvl).foldl (fun d s => noteFault s d) d
    let d := supersede lvl (if lvl = 3 then (domainOf d m).getD [] else []) d
    let d := if 1 ≤ lvl then d.setFlt fun f => { f with
        recent := (cls, instanceOf m, d.now) :: f.recent.filter fun p => decide (d.now ≤ p.2.2 + escLongest) } else d
    let d := if hardKind m.kind then each (List.range 4) hardSafeAssert (d.raise fltP FLT.STAT.HARDSAFE) else d
    let d := react m lvl d
    let d := if 1 ≤ lvl then retryRules m arrival lvl d else d
    d.setFld fltP FLT.STAT.LEVEL (openLevel d)

/-- R415: higher level first, then earlier arrival, lower SRC, lower KIND. -/
def decidesBefore (d : Dev) (a b : FaultMsg × Nat) : Bool :=
  let la := orderLevel d a.1
  let lb := orderLevel d b.1
  if la ≠ lb then decide (lb < la)
  else if a.2 ≠ b.2 then decide (a.2 < b.2)
  else if a.1.src ≠ b.1.src then decide (a.1.src < b.1.src)
  else decide (a.1.kind < b.1.kind)

def insertMsg (d : Dev) (x : FaultMsg × Nat) : List (FaultMsg × Nat) → List (FaultMsg × Nat)
  | [] => [x]
  | y :: ys => if decidesBefore d x y then x :: y :: ys else y :: insertMsg d x ys

/-- Split a list by a mask; numbers past the mask stay. -/
def splitBy {α : Type} : List Bool → List α → List α × List α
  | [], l => ([], l)
  | _, [] => ([], [])
  | b :: bs, x :: xs =>
    let (p, r) := splitBy bs xs
    if b then (x :: p, r) else (p, x :: r)

/-- R432: of the messages decided on one cycle, the injected report comes after every real one from its SRC. -/
def realFirst (d : Dev) (l : List (FaultMsg × Nat)) : List (FaultMsg × Nat) :=
  let real := fun (x : FaultMsg × Nat) => fromTarget d x.1 && !injReport d x.1
  let tail := (l.reverse.takeWhile fun x => !real x).reverse
  let head := l.take (l.length - tail.length)
  head.filter (fun x => !injReport d x.1) ++ head.filter (fun x => injReport d x.1) ++ tail

/-- R415: what has arrived is decided in order, up to 8 messages per CLK_SYS cycle; the rest wait. -/
def decideCycle (d : Dev) : Dev :=
  let here := fun (x : FaultMsg × Nat) => decide (x.2 ≤ d.now)
  let queue := (d.flt.waiting.filter here).foldl (fun q x => insertMsg d x q) []
  let used := if d.flt.decCycle = d.now / 2 then d.flt.decided else 0
  let now := queue.take (8 - used)
  let later := queue.drop (8 - used) ++ d.flt.waiting.filter fun x => !here x
  let d := d.setFlt fun f => { f with
    waiting := later, decCycle := d.now / 2, decided := used + now.length,
    tallied := if f.decCycle = d.now / 2 then f.tallied else 0 }
  (realFirst d now).foldl (fun d x => decide1 x.1 x.2 d) d

/-- R415, FAULT_MESSAGE: on one CLK_SYS cycle the messages of `pick` among those under way arrive, with `ext` from
checkers outside the model's reach, and the cycle's decisions are made (log 43, 99). -/
def collect (pick : List Bool) (ext : List FaultMsg) (d : Dev) : Dev :=
  let (arr, rest) := splitBy pick d.flt.inflight
  let d := d.setFlt fun f => { f with inflight := rest, waiting := f.waiting ++ (arr ++ ext).map fun m => (m, d.now) }
  decideCycle ((arr ++ ext).foldl (fun d m => noteTrip m d) d)

/-! ### Retries and occurrences -/

/-- R422, R423: a refusal of a clear that the collector makes counts as an occurrence. -/
def refusal (n : Nat) (soft : Bool) (d : Dev) : Dev × Bool :=
  if (listedIn d n).isSome then occur n 0 (if soft then 2 else 1) d.now d.now false d else (d, false)

/-- R423: a refused clear of one latch: an occurrence, and, where the leg is not retired for it, another try one period later. -/
def retryRefused (n : Nat) (soft : Bool) (refused : List Retry) (d : Dev) : Dev :=
  let (d, gone) := refusal n soft d
  if gone then d
  else
    let again := (refused.filter fun p => p.soft == soft).map fun p => { p with due := p.due + legPeriod d n }
    d.setFlt fun f => { f with retry := f.retry ++ again.take 1 }

/-- R18, R423: the collector tries to clear the latches of a leg that are due; a try that the drive die discards is made again
one period later and is no occurrence (DESIGN CHOICE, log 100). -/
def retryClear (n : Nat) (chk : Bool) (hr sr : CompRead) (d : Dev) : Dev :=
  let due := d.flt.retry.filter fun p => p.leg = n && decide (p.due ≤ d.now)
  if due.isEmpty || (d.leg n).retired then d
  else
    let kept := d.flt.retry.filter fun p => !(p.leg = n && decide (p.due ≤ d.now))
    let (d, ok) := carry (n / 64) chk d
    if !ok then d.setFlt fun f => { f with retry := kept ++ due.map fun p => { p with due := p.due + legPeriod d n } }
    else
      let d := d.setFlt fun f => { f with retry := kept }
      let (d, noH, noS) := clearLatches n (due.any fun p => !p.soft) (due.any fun p => p.soft) hr sr d
      let d := if noH then retryRefused n false due d else d
      if noS && !(d.leg n).retired then retryRefused n true due d else d

/-- R422: an occurrence of a leg and class expires RETRY_WINDOW periods after its arrival. -/
def occExpire (n cls : Nat) (d : Dev) : Dev :=
  let win := max 1 (d.fld fltP FLT.RETRY.RETRY_WINDOW) * legPeriod d n
  d.setFlt fun f => { f with occ := f.occ.filter fun o => !(o.leg = n && o.cls = cls && decide (o.arrival + win ≤ d.now)) }

/-! ### Recovery (R427 to R429) -/

/-- R427: the length of a scope's quiet period in device ticks (log 48). -/
def quietTicks (d : Dev) (s : Scope) : Nat :=
  let ms := match s with
    | .die _ | .device => d.fld fltP FLT.QUIET.Q34
    | _ => d.fld fltP FLT.QUIET.Q2
  600000 * max 1 (min 10000 ms)

/-- The tick at which a scope's quiet period ends; a scope without a fault is quiet since device tick 0 (log 48). -/
def quietEnd (d : Dev) (s : Scope) : Nat :=
  match scopeTick d.flt.lastFault s with
  | some t => t + quietTicks d s
  | none => quietTicks d s

/-- R428: a scope that the device's mode refuses. -/
def recMode (d : Dev) (s : Scope) : Bool :=
  (s ≠ .device && (d.mode = .safe || d.mode = .halt)) || (s = .device && d.mode ≠ .safe)

/-- R428: why a request is refused at once; 0 if it is not (log 52). -/
def recRefusal (d : Dev) (who : Requester) (scope idx : Nat) : Nat :=
  match scopeOfCode scope idx with
  | none => 1
  | some s =>
    let badGang := match s with
      | .gang g => let k := d.fld (gangP g) GANG.ROLE.KIND; decide (1 ≤ k) && decide (k ≤ 4)
      | _ => false
    if badGang then 1
    else if recMode d s then 4
    else if s = .device && d.flt.l4Safe && who ≠ .deputy then 2
    else 0

/-- R427, R428: a RECOVER write with GO. -/
def recoverLand (who : Requester) (scope idx : Nat) (d : Dev) : Dev :=
  if d.flt.wait.isSome then d.raise fltP FLT.EVT.REC_IGN
  else
    let r := recRefusal d who scope idx
    match scopeOfCode scope idx with
    | some s =>
      if r = 0 then
        let d := d.setReg (fltP + 0x050) (recStat 1 scope idx 0)
        let left := (quietEnd d s - d.now + 599999) / 600000
        (d.setReg (fltP + 0x054) (BitVec.ofNat 32 (min 0xFFFF left))).setFlt fun f => { f with wait := some ⟨s, who == .deputy⟩ }
      else (d.setReg (fltP + 0x050) (recStat 3 scope idx r)).raise fltP FLT.EVT.REC_REFUSED
    | none => (d.setReg (fltP + 0x050) (recStat 3 scope idx 1)).raise fltP FLT.EVT.REC_REFUSED

/-- R428: CANCEL ends a wait with REASON 6. -/
def cancelLand (d : Dev) : Dev := recEnd 6 d

/-- The dies a DEVICE recovery checks, or the die of a DIE recovery (R429). -/
def recDies (d : Dev) : Scope → List Nat
  | .die k => [k]
  | .device => (List.range 4).filter fun k =>
      bitOf (d.reg (fltP + 0x05C)) (24 + k) || (enabledGangs d).any fun g => gangDie d g = k
  | _ => []

/-- The gangs a recovery releases: those of every owner it releases. -/
def recGangs (d : Dev) (s : Scope) : List Nat :=
  match s with
  | .die k => ((ownersOn d k).flatMap (scopeGangs d)).eraseDups
  | s => scopeGangs d s

/-- R429: live legs a gang would have once released and re-formed. -/
def liveAfter (d : Dev) (g : Nat) : Nat :=
  let occ := (d.gang g).occ
  let ok := fun l => !(d.leg (globalLeg d g l)).retired
  let standing := (occ.filter fun o => !o.lost && ok o.leg).length
  let dark := (occ.filter fun o => !o.lost && !ok o.leg).length
  let spares := ((spareLegs d g).filter fun p => ok p.2 && !(occ.any fun o => o.sub && o.leg == p.2)).length
  standing + min dark spares

def latchedLegs (d : Dev) (g : Nat) : List Nat :=
  (gangLegs d g).filter fun n => !(d.leg n).retired && latched d n

/-- R429, last point: what must be sound before the device is released; TEMP_SHUT conditions and the supplies stand in PWR,
the lock in CLK.STAT. -/
def deviceSound (d : Dev) : Bool :=
  bitOf (d.reg (clkP + 0x044)) 31 && stamp d != 0 && decide (beatAge d < 30000) &&
    bits (d.reg (pwrP + 0x040)) 0 3 == 7 && (List.range 5).all fun k => !(d.die k).shutSent

/-- The legs whose latches a recovery clears (R427). -/
def recLatched (d : Dev) (s : Scope) : List Nat := (recGangs d s).flatMap (latchedLegs d)

/-- R18, R162, R427: the clears of a recovery travel to the drive dies, in order; it tells the legs whose die obeys. `lost`: legs
whose clear fails its link check. -/
def sendClears (lost : List Nat) : List Nat → Dev → Dev × List Nat
  | [], d => (d, [])
  | n :: ns, d =>
    let (d, ok) := carry (n / 64) (!lost.contains n) d
    let (d, heard) := sendClears lost ns d
    (d, if ok then n :: heard else heard)

/-- R429: whether the release is refused; `refuse` names the legs whose comparators refuse a clear, `heard` those whose die obeys it.
A clear that a drive die does not obey counts as refused (DEDUCED, log 100). -/
def recBlocked (d : Dev) (s : Scope) (refuse heard : List Nat) : Bool :=
  let gs := recGangs d s
  ((recLatched d s).any fun n => refuse.contains n || !heard.contains n) ||
    (gs.any fun g => decide (liveAfter d g < minLive d g)) ||
    ((recDies d s).any fun k =>
      let r := d.die k
      r.vdrvUv || r.vdrvOv || (bits r.cfg 0 2 = 0 && (enabledGangs d).any fun g => gangDie d g = k) ||
        (r.hardsafe && !d.on fltP FLT.STAT.HARDSAFE)) ||
    (s = .device && !deviceSound d)

/-- R28, R427: a held leg is released: it stays low until the next reload. -/
def releaseLeg (n : Nat) (d : Dev) : Dev :=
  stopLeg n (gatesOff n (d.setLeg n { d.leg n with safe := .none, dieHold := .none, sw := false }))

/-- R427: a gang is released: latches clear, SHUT clears, and the legs that a reaction or their owner's FAULTED state holds are
held no more unless their die still is. -/
def releaseGang (g : Nat) (d : Dev) : Dev :=
  let all := ownerFaulted d g || ownerFaultHeld d g
  let d := d.setGang g { d.gang g with collHold := .none }
  let d := each (latchedLegs d g) (fun n d => d.wipe (legP n + 0x05C) 0x6) d
  let d := d.lower (gangP g) GANG.STAT.SHUT
  each ((gangLegs d g).filter fun n => !(d.leg n).retired) (fun n d =>
    if dieMarked d (n / 64) || ((d.leg n).safe == .none && !all) then d else releaseLeg n d) d

/-- R325, R388: an owner goes from FAULTED to IDLE. -/
def releaseOwner (s : Scope) (d : Dev) : Dev :=
  match s with
  | .axis a =>
    let d := d.setAxis a { d.axis a with owedFault := false, faultHeld := false }
    if axisState d a = AX_FAULTED then axisEnter a AX_IDLE .off false d else d
  | .conv c =>
    let d := d.setConv c { d.conv c with faultHeld := false }
    if convState d c = CV_FAULTED then convEnter c CV_IDLE .off (convTook c 1 d) else d
  | _ => d

/-- R427: a die is released: WD_SAFE, the hold of a VDRV condition and its L3 hold end; a WD_SAFE message not sent yet stays to
be sent (R161). -/
def releaseDie (device : Bool) (k : Nat) (d : Dev) : Dev :=
  let all := device || dieMarked d k || !dieFree d k
  let d := d.setDie k { d.die k with wdSafe := false, supHold := false }
  let d := d.setReg (fltP + 0x05C) (setBits (d.reg (fltP + 0x05C)) (24 + k) 1 0)
  each ((List.range 64).map (64 * k + ·)) (fun n d =>
    if (d.leg n).retired || ((d.leg n).safe == .none && !all) then d else releaseLeg n d) d

/-- R427: the owners a recovery releases. -/
def recOwners (d : Dev) : Scope → List Scope
  | .die k => ownersOn d k
  | .device => (List.range 16).map .axis ++ (List.range 16).map .conv ++ (enabledGangs d).map .gang
  | s => [s]

/-- R427: everything a recovery releases, on one cycle (log 55). -/
def release (s : Scope) (d : Dev) : Dev :=
  let d := match s with
    | .device => each (List.range 4) (fun k d => d.setDie k { d.die k with hardsafe := false }) (d.lower fltP FLT.STAT.HARDSAFE)
    | _ => d
  let dies := match s with | .die k => [k] | .device => List.range 4 | _ => []
  let gs := recGangs d s
  let owners := recOwners d s
  let d := each dies (releaseDie (s = .device)) d
  let d := each gs releaseGang d
  let d := owners.foldl (fun d o => releaseOwner o d) d
  let d := closeFaults (s :: (owners ++ dies.map .die)) d
  match s with
  | .device => (closeFaults everyScope d).setFlt (fun f => { f with l4 := false, l4Safe := false }) |>.enter .standby
  | _ => d

/-- R89: the live counts of gangs whose frame does not run follow a release at once; no reload comes to bring them.
(log 55). -/
def showStopped (d : Dev) : Dev :=
  (enabledGangs d).foldl (fun d g =>
    let l := (liveList d g).length
    if d.on (frameP (gangFrame d g)) FRAME.STAT.RUN || l = d.fld (gangP g) GANG.LIVE.LIVE then d else showGang d g l l) d

/-- R427, R429: the quiet period of the waiting request ends. A mode in which the request would be refused, entered by a debug halt,
refuses it now with the same REASON 4 (DEDUCED, log 112). -/
def quietLand (refuse lost : List Nat) (d : Dev) : Dev :=
  match d.flt.wait with
  | none => d
  | some w =>
    if d.now < quietEnd d w.scope then d
    else if recMode d w.scope then recEnd 4 d
    else
    let (d, heard) := sendClears lost (recLatched d w.scope) d
    if recBlocked d w.scope refuse heard then
      let bad := (recLatched d w.scope).filter fun n => refuse.contains n && heard.contains n
      let d := bad.foldl (fun d n =>
        let hard := d.on (legP n) LEG.TRIP.HARD_LAT
        let soft := d.on (legP n) LEG.TRIP.SOFT_LAT
        let d := d.raise (legP n) LEG.TRIP.CLR_REFUSED
        let d := if hard then (refusal n false d).1 else d
        if soft && !(d.leg n).retired then (refusal n true d).1 else d) d
      recEnd 3 d
    else
      let (s, i) := scopeCode w.scope
      let d := showStopped (release w.scope d)
      let d := d.setFlt fun f => { f with wait := none }
      let d := (d.setReg (fltP + 0x050) (recStat 2 s i 0)).setReg (fltP + 0x054) 0
      let d := d.setFld fltP FLT.STAT.LEVEL (openLevel d)
      (d.bump fltP ⟨0x058, 0, 16⟩).raise fltP FLT.EVT.REC_DONE

/-! ### Injection sessions (R430, R431) -/

/-- Whether an address is a word of the target memory (R430, R434). -/
def inTarget (t a : Nat) : Bool :=
  a % 4 == 0 && (match t with
    | 0 => decide (0x10000000 ≤ a ∧ a < 0x10200000)
    | 1 => decide (0x18000000 ≤ a ∧ a < 0x18080000)
    | 2 => decide (0x20000000 ≤ a ∧ a < 0x20800000)
    | 3 => decide (0x30000000 ≤ a ∧ a < 0x30030000)
    | 4 => decide (0x30040000 ≤ a ∧ a < 0x30060000)
    | _ => false)

/-- R430: a write to INJ_CTL. -/
def injWrite (val : Word) (d : Dev) : Dev :=
  let armed := injArmed d
  if armed then
    if bitOf val 0 then injEnd 5 0 0 d else d
  else
    let d := d.setReg INJ_CTL (val &&& 0x07030000)
    if !bitOf val 0 then d
    else
      let bitsN := bits val 16 2
      let a := (d.reg (fltP + 0x090)).toNat
      if (bitsN = 1 || bitsN = 2) && inTarget (bits val 24 3) a then
        let d := d.setReg INJ_CTL (val &&& 0x07030001)
        (d.setReg INJ_STAT (BitVec.ofNat 32 (2 ^ 28))).setFlt fun f => { f with injAt := d.now, injRead := false }
      else injEnd 5 0 0 d

/-- R431: INJ_TO µs without a decided report. -/
def injTimeoutLand (d : Dev) : Dev :=
  let lim := 600 * max 1 (bits (d.reg (fltP + 0x094)) 0 16)
  if injArmed d && d.flt.injAt + lim ≤ d.now then injEnd 4 0 0 d else d

end Sys2Proof.Machine
end

