-- ==== Sys2Proof/Machine/NightShift.lean ====
section
/-!
DEFINITION. The night shift: the skim passes, the MRAM journal, telemetry and the damp check (R402 to R404, R424, R479 to
R493).
-/

namespace Sys2Proof.Machine

/-- R479. -/
def nightRuns (d : Dev) : Bool := d.mode ≠ .powerUp && !asleep d

/-! ### The skim (R480, R483 to R485) -/

/-- A skim that the device may make: 0 Hewer SRAM, 1 MRAM, 2 Deputy SRAM. -/
structure SkimRow where
  page : Nat
  posOff : Nat
  first : Nat
  step : Nat
  last : Nat
  en : Fld
  pass : Fld
  ce : Fld
  ue : Fld
  wrap : Fld
  /-- page and kind of a corrected error's message -/
  src : Nat
  kind : Nat

def skimRow : Nat → SkimRow
  | 0 => ⟨bgP, 0x044, 0x10000000, 8, 0x101FFFF8, BG.SKCFG.EN_S, BG.SKPASS.S, BG.SKCNT.CE, BG.SKCNT.UE, BG.EVT.SKWRAP, arbP, 18⟩
  | 1 => ⟨nvP, 0x044, 0x20000000, 8, 0x207FFFF8, NV.NVSK.EN_M, NV.NVSK_PASS.MRAM, NV.NVSK_CNT.CE, NV.NVSK_CNT.UE, NV.EVT.SKWRAP, nvP, 20⟩
  | _ => ⟨bgP, 0x048, 0x18000000, 4, 0x1807FFFC, BG.SKCFG.EN_D, BG.SKPASS.D, BG.SKCNT.CE, BG.SKCNT.UE, BG.EVT.SKWRAP, authP, 22⟩

/-- Least ticks between two skim requests: phases of 8 ticks; 64 cycles for Deputy SRAM. -/
def skimGap (d : Dev) : Nat → Nat
  | 0 => 8 * max 1 (d.fld bgP BG.SKCFG.GAP_S)
  | 1 => 8 * max 1 (d.fld nvP NV.NVSK.GAP_M)
  | _ => 128

/-- Whether requester 6 is shut out by a mask or a freeze; a grant of its own that is running goes on (R469, R470). -/
def nightShut (d : Dev) : Bool := (masked d 6 || frozen d) && arbHolder d ≠ 6

/-- Whether FREEZE ends the running grant of requester 6 at its next beat boundary (R470). -/
def nightCut (d : Dev) : Bool := d.arb.cut && arbHolder d = 6

def skimFree (d : Dev) (m : Nat) : Bool :=
  let r := skimRow m
  nightRuns d && d.on r.page r.en && (m = 2 || !nightShut d) && (m ≠ 1 || d.mode ≠ .update) &&
    (match (d.night.skim[m]?).join with
     | some t => decide (t + skimGap d m ≤ d.now)
     | none => true)

/-- R441, R483: the corrected data is written back over the beat at `a`: memory holds what it held, and a reservation of the granule
is lost. -/
def writeBack (m a : Nat) (d : Dev) : Dev := if m = 0 then breakResv none a 8 d else d

/-- R485: the position moves on; after the last address the pass is over, and BG.PROG begins a new run. -/
def skimNext (m a : Nat) (d : Dev) : Dev :=
  let r := skimRow m
  if a = r.last then
    let d := if m = 0 then d.progStart bgP true 262144 else d
    ((d.setReg (r.page + r.posOff) (BitVec.ofNat 32 r.first)).bump r.page r.pass).raise r.page r.wrap
  else
    let d := if m = 0 then d.progValue bgP ((a - r.first) / 8 + 1) else d
    d.setReg (r.page + r.posOff) (BitVec.ofNat 32 (a + r.step))

/-- SKIM_BEAT, DEPUTY_SKIM: one word is read and checked, and written back where its error was corrected. Where FREEZE ends the
grant between the two, the write-back is abandoned, and the same beat is read again (R481). -/
def skimLand (m : Nat) (ecc : Ecc) (d : Dev) : Dev :=
  if !skimFree d m then d
  else
    let r := skimRow m
    let a := (d.reg (r.page + r.posOff)).toNat
    let d := d.setNight fun n => { n with skim := n.skim.set m (some d.now) }
    let d := if m = 0 && a = r.first then d.progStart bgP true 262144 else d
    let inj := ecc = .none && injHit d a r.step
    let at_ := if inj then (d.reg (fltP + 0x090)).toNat else a
    let say := fun (m : FaultMsg) (d : Dev) => if inj then injSend m d else d.send m
    let found := if inj then injEcc d else ecc
    let d := match found with
      | .none => d
      | .corrected => say (eccMsg r.src r.kind at_) (d.bump r.page r.ce)
      | .uncorrectable => say (eccMsg r.src (r.kind + 1) at_) (d.bump r.page r.ue)
    if found = .corrected && m ≠ 2 && nightCut d then d
    else skimNext m a (if found = .corrected then writeBack m at_ d else d)

/-! ### The journal (R424, R486 to R490) -/

def journalA (s : Nat) : Nat := 0x207F0000 + 16 * s
def journalHead (d : Dev) : Nat := d.fld nvP NV.JSTAT.HEAD
def journalReady (d : Dev) : Bool := d.on nvP NV.JSTAT.READY
def formatting (d : Dev) : Bool := d.on nvP HDR.PROG.RUN

/-- R430: the device itself reads the MRAM words in the `n` bytes from `a` up; an armed session's word is among them. Answers
whether every word could be read. -/
def nvRead (a n : Nat) (d : Dev) : Bool × Dev :=
  if injHit d a n then
    (injEcc d = .corrected, injSend (eccMsg nvP (if injEcc d = .corrected then 20 else 21) (d.reg (fltP + 0x090)).toNat) d)
  else (true, d)

def slotBytes (d : Dev) (s : Nat) : List Byte := memBytes d (journalA s) 16

/-- The slots that hold a record, ascending. -/
def recordSlots (d : Dev) : List Nat :=
  ((d.mem.filter fun c => decide (journalA 0 ≤ c.1) && decide (c.1 < journalA 4096)).map fun c => (c.1 - journalA 0) / 16).eraseDups

/-- A record slot is valid if its CRC checks. -/
def slotValid (d : Dev) (s : Nat) : Bool :=
  let b := slotBytes d s
  crc32 (b.take 12) == bytesWord (b.drop 12)

def slotLeg (d : Dev) (s : Nat) : Nat := (memByte d (journalA s + 2)).toNat
def slotRetires (d : Dev) (s : Nat) : Bool := memByte d (journalA s) == 0x54 && memByte d (journalA s + 1) == 0x52

/-- How many slots before the head a slot lies: 0 for the latest append. -/
def slotAge (d : Dev) (s : Nat) : Nat := (journalHead d + 4095 - s) % 4096

def validSlots (d : Dev) : List Nat := (recordSlots d).filter (slotValid d)

/-- The valid records as a pass over `n` slots from `s` up finds them: a slot with a word that cannot be read holds no valid
record for it (log 104). -/
def journalRead (s n : Nat) (d : Dev) : List Nat × Dev :=
  let valid := validSlots d
  let lost := (d.reg (fltP + 0x090)).toNat
  let (ok, d) := nvRead (journalA s) (16 * n) d
  (if ok then valid else valid.filter fun t => !(decide (journalA t ≤ lost) && decide (lost < journalA (t + 1))), d)

/-- The newest valid record of a leg. -/
def newestOf (d : Dev) (valid : List Nat) (leg : Nat) : Option Nat :=
  (valid.filter fun s => slotLeg d s = leg).foldl (fun (b : Option Nat) s => match b with
    | none => some s
    | some t => if slotAge d s < slotAge d t then some s else some t) none

def journalBytes (r : JournalRec) : List Byte :=
  let body := natBytes 2 (if r.ret then 0x5252 else 0x5254) ++ natBytes 1 r.leg ++ natBytes 1 r.kind ++ natBytes 8 r.tick
  body ++ natBytes 4 (crc32 body).toNat

def setJmap (leg : Nat) (v : Bool) (d : Dev) : Dev :=
  let a := nvP + 0x060 + leg / 32 * 4
  d.setReg a (setBits (d.reg a) (leg % 32) 1 (b2n v))

/-- Write 16 bytes at the head and advance it; on entry to a block the one after it is to be reclaimed (log 53). -/
def putAtHead (bs : List Byte) (d : Dev) : Dev :=
  let h := journalHead d
  let d := memPutAll (journalA h) bs d
  let n := (h + 1) % 4096
  let d := d.setFld nvP NV.JSTAT.HEAD n
  if n % 256 = 0 then d.setNight fun r => { r with reclaim := some ((n / 256 + 1) % 16) } else d

def showReclaim (d : Dev) : Dev := d.setFld nvP NV.JSTAT.RECLAIM (b2n d.night.reclaim.isSome)

/-- JOURNAL_APPEND; `ok`: MRAM takes the write (log 53). -/
def appendLand (ok : Bool) (d : Dev) : Dev :=
  match d.flt.journal with
  | [] => d
  | r :: rest =>
    if !nightRuns d || !journalReady d || d.night.reclaim.isSome || formatting d || recordShut d then d
    else
      let d := d.setFlt fun f => { f with journal := rest }
      if !ok then d.raise fltP FLT.EVT.JRNL_FAIL
      else showReclaim (setJmap r.leg (!r.ret) ((putAtHead (journalBytes r) d).bump nvP NV.JCNT.APPENDS))

/-- JOURNAL_RECLAIM (R488): copy forward, then clear. -/
def reclaimLand (d : Dev) : Dev :=
  match d.night.reclaim with
  | none => d
  | some b =>
    if !nightRuns d || !d.night.scanned || recordShut d then d
    else
      let (valid, d) := journalRead (256 * b) 256 d
      let mine := valid.filter fun s => s / 256 = b && newestOf d valid (slotLeg d s) = some s
      let d := d.setNight fun r => { r with reclaim := none }
      let d := each mine (fun s d => (putAtHead (slotBytes d s) d).bump nvP NV.JCNT.COPIES) d
      let d := each ((recordSlots d).filter fun s => s / 256 = b) (fun s d => memPutAll (journalA s) (List.replicate 16 0) d) d
      showReclaim ((d.raise nvP NV.EVT.RECLAIM).raise nvP NV.JSTAT.READY)

/-- Empty slots that follow a record slot, cyclically. -/
def emptyAfter (rs : List Nat) (s : Nat) : Nat :=
  rs.foldl (fun m t => if t = s then m else min m ((t + 4095 - s) % 4096)) 4095

/-- The head that R489 gives. -/
def scanHead (rs : List Nat) : Nat :=
  match rs.foldl (fun (b : Option Nat) s => match b with
    | none => some s
    | some t => if emptyAfter rs t < emptyAfter rs s then some s else some t) none with
  | none => 0
  | some s => (s + 1) % 4096

/-- JOURNAL_SCAN. -/
def scanLand (d : Dev) : Dev :=
  if !nightRuns d || d.night.scanned then d
  else
    let rs := recordSlots d
    let d := d.setFld nvP NV.JSTAT.HEAD (scanHead rs)
    let (valid, d) := journalRead 0 4096 d
    let d := each valid (fun s d => if newestOf d valid (slotLeg d s) = some s then setJmap (slotLeg d s) (slotRetires d s) d else d) d
    let b := (journalHead d / 256 + 1) % 16
    let dirty := rs.any fun s => s / 256 = b
    let d := d.setNight fun r => { r with scanned := true, reclaim := if dirty then some b else none }
    if dirty then showReclaim d else d.raise nvP NV.JSTAT.READY

/-- 64-bit beats of an image slot: PROG_TOTAL of an erasure or a check (R513). -/
def slotBeats : Nat := 393216

/-- R490: JCMD; FORMAT takes over the slots that a reclaim under way would clear (log 54). A long operation of UPD_CTL under way
keeps its PROG_TOTAL (R74, log 77). -/
def jcmdLand (who : Requester) (val : Word) (d : Dev) : Dev :=
  if !bitOf val 0 then d
  else if who ≠ .deputy || !(d.mode = .configure || d.mode = .update) || !d.flt.journal.isEmpty || formatting d ||
      !journalReady d then d.raise nvP NV.EVT.CMD_IGN
  else
    let d := showReclaim (d.setNight fun r => { r with reclaim := none })
    d.progStart nvP true (if d.sys.upd = 0 then 4096 else (d.reg (nvP + 0x030)).toNat)

/-- FORMAT_DONE. -/
def formatLand (d : Dev) : Dev :=
  if !formatting d || recordShut d then d
  else
    let d := { d with mem := d.mem.filter fun c => !(decide (journalA 0 ≤ c.1) && decide (c.1 < journalA 4096)) }
    let d := each (List.range 8) (fun i d => d.setReg (nvP + 0x060 + 4 * i) 0) d
    ((d.setFld nvP NV.JSTAT.HEAD 0).progValue nvP 4096).progEnd nvP true

/-! ### Background conversions (R244, R482) -/

/-- A request to the sampling arbiter with a tag of its own: gain ×1, 60 ticks of acquisition. -/
def bgRequest (tag input : Nat) (d : Dev) : Dev :=
  d.setSamp fun r => { r with reqs := r.reqs ++ [⟨17, tag, input, 0, 20, 0, 255, 0, d.now + 1, none⟩] }

def bgCode (d : Dev) (tag : Nat) : Option Nat := (d.samp.bg.find? fun x => x.1 = tag).map (·.2.1)

/-- The code of a conversion that was delivered by a tick. -/
def bgBy (d : Dev) (tag by_ : Nat) : Option Nat := (d.samp.bg.find? fun x => x.1 = tag && decide (x.2.2 ≤ by_)).map (·.2.1)

/-- Requests and results with tags from `lo` on, `n` of them, are given up. -/
def bgDrop (lo n : Nat) (d : Dev) : Dev :=
  let mine := fun (t : Nat) => decide (lo ≤ t) && decide (t < lo + n)
  d.setSamp fun r => { r with
    reqs := r.reqs.filter fun q => !(q.frame = 17 && mine q.entry), bg := r.bg.filter fun x => !mine x.1 }

/-! ### Telemetry (R491) -/

def telemInput (d : Dev) (i : Nat) : Nat := bits (d.reg (bgP + 0x058 + i / 4 * 4)) (8 * (i % 4)) 6

/-- TELEMETRY_PERIOD. -/
def telemStart (d : Dev) : Dev :=
  if !nightRuns d || !d.on bgP BG.TCFG.EN || d.night.telem.isSome then d
  else
    let mask := d.fld bgP BG.TCFG.MASK
    let tag := d.night.tag
    let d := d.setNight fun r => { r with
      telem := some ⟨d.now, 600000 * max 1 (d.fld bgP BG.TCFG.TPERIOD), mask, tag⟩, tag := tag + 8 }
    each (List.range 8) (fun i d => if mask.testBit i then bgRequest (tag + i) (telemInput d i) d else d) d

/-- The bytes of a record: a conversion delivered after the period's end is missing, whenever the record is written. -/
def telemBytes (d : Dev) (t : Telem) : List Byte :=
  let got := fun i => if t.mask.testBit i then bgBy d (t.tag + i) (t.start + t.len) else none
  let miss := (List.range 8).foldl (fun m i => if t.mask.testBit i && (got i).isNone then m + 2 ^ i else m) 0
  natBytes 2 (d.fld bgP BG.TSEQ.SEQ) ++ natBytes 1 t.mask ++ natBytes 1 miss ++ natBytes 4 ((t.start + t.len) / 600) ++
    (List.range 8).flatMap (fun i => natBytes 2 ((got i).getD 0xFFFF)) ++
    (List.range 4).flatMap (fun k => natBytes 1 (d.fld (ddieP k) DDIE.DSTAT.TEMP)) ++
    (List.range 4).flatMap (fun k => natBytes 1 (d.fld (ddieP k) DDIE.DSTAT.VDRV))

/-- TELEMETRY_RECORD. -/
def telemRecord (d : Dev) : Dev :=
  match d.night.telem with
  | none => d
  | some t =>
    if !nightRuns d || nightShut d || nightCut d || d.now < t.start + t.len then d
    else
      let a := (d.reg (bgP + 0x060)).toNat + 32 * (d.fld bgP BG.TSEQ.SEQ % max 1 (d.fld bgP BG.TLEN.TLEN))
      let d := breakResv none a 32 (memPutAll a (telemBytes d t) d)
      let d := bgDrop t.tag 8 (d.setNight fun r => { r with telem := none })
      (d.wrapBump bgP BG.TSEQ.SEQ).raise bgP BG.EVT.TREC

/-! ### The damp check (R402 to R404) -/

/-- R403: the modes a measurement may run in. -/
def dampModes (d : Dev) : Bool := d.mode = .run || d.mode = .limp || d.mode = .standby || d.mode = .park

/-- The switch opens and the measurement is over. -/
def dampOver (d : Dev) : Dev :=
  let d := match d.night.damp with
    | some x => if x.avg then bgDrop x.tag 128 d else d
    | none => d
  ((d.setFld bgP BG.DSTAT.STEP 0).lower bgP BG.DSTAT.SW).setNight fun r => { r with damp := none }

/-- The damp check is given up, with its event (log 68). -/
def dampAbandon (d : Dev) : Dev := (dampOver d).raise bgP BG.EVT.DAMP_ABANDON

/-- DAMP_MEASUREMENT_START. A write of DCFG acts from the next period (R492). -/
def dampStart (d : Dev) : Dev :=
  let due := match d.night.dampAt with
    | none => true
    | some t => decide (t + d.night.dampLen ≤ d.now)
  if !d.on bgP BG.DCFG.EN || !dampModes d || d.night.damp.isSome || !due then d
  else
    let len := 60000000 * max 1 (d.fld bgP BG.DCFG.DPERIOD)
    let d := d.setNight fun r => { r with
      damp := some ⟨false, d.now, 0, d.reg (bgP + 0x06C), 0, 0⟩, dampAt := some d.now, dampLen := len }
    d.setFld bgP BG.DSTAT.STEP 1

/-- DAMP_SETTLE_END: 64 conversions of each input are asked for. -/
def dampSettle (d : Dev) : Dev :=
  match d.night.damp with
  | none => d
  | some x =>
    if x.avg || d.now < x.since + 600000 * d.fld bgP BG.DSETTLE.DSETTLE then d
    else
      let tag := d.night.tag
      let d := d.setNight fun r => { r with tag := tag + 128, damp := some { x with avg := true, since := d.now, tag := tag } }
      each (List.range 64) (fun i d => bgRequest (tag + 64 + i) (bits x.cfg 16 6) (bgRequest (tag + i) (bits x.cfg 24 6) d)) d

/-- Sum of 64 delivered codes; none while one is missing. -/
def bgSum (d : Dev) (tag : Nat) : Option Nat :=
  (List.range 64).foldl (fun (s : Option Nat) i => match s, bgCode d (tag + i) with
    | some n, some c => some (n + c)
    | _, _ => none) (some 0)

/-- A node voltage in units of 1.5 V ÷ (16 × 16,384 × 64). -/
def nodeVolts (k sum : Nat) : Nat := k * sum

/-- 8 V in the same unit (log 68). -/
def eightVolts : Nat := 89478486

/-- R404: RISO in kΩ from the four voltages; none where invalid. A quotient by 0, or a resistance below 0, is not stated and
reads free (log 2). -/
def riso (vc0 vb0 vc1 vb1 rs ra : Int) (v : BitVec 64) : Option Nat :=
  let open_ := some (v.toNat % 65536)
  let d0 := vb0 - vc0
  let d1 := vb1 - vc1
  if d0 = 0 || d1 = 0 then open_
  else
    -- r1 − r0 = num / den, den positive
    let sg := (d0 * d1).sign
    let den := d0 * d1 * sg
    let num := (vc1 * d0 - vc0 * d1) * sg
    if num ≤ 0 || ra * den ≤ rs * num then none
    else if vc0 = 0 || rs = 0 then open_
    else
      let rp := roundDiv (rs * num * d0 * (vc0 * den).sign) (vc0 * den).natAbs
      let rn := roundDiv (rs * num * ra) (ra * den - rs * num)
      let r := min rp rn
      if r < 0 then open_ else some (min 0xFFFF r.toNat)

/-- One level's message: once per crossing. -/
def dampLevel (kind r lvl : Nat) (sent : Bool) (d : Dev) : Bool × Dev :=
  if lvl ≤ r then (false, d)
  else if sent then (true, d)
  else (true, (d.raise bgP BG.EVT.DAMP).send (faultOf bgP kind (min 16383 (r / 10))))

/-- A valid measurement's report (log 68). -/
def dampReport (r : Nat) (d : Dev) : Dev :=
  let d := (d.setFld bgP BG.DRES.RISO r).raise bgP BG.DRES.VALID
  let (w, d) := dampLevel 43 r (d.fld bgP BG.DLVL.RWARN) d.night.warned d
  let (l, d) := dampLevel 44 r (d.fld bgP BG.DLVL.RLOW) d.night.lowed d
  d.setNight fun n => { n with warned := w, lowed := l }

/-- DAMP_AVERAGE_DONE: every conversion of the step has been delivered. -/
def dampAverage (d : Dev) : Dev :=
  match d.night.damp with
  | none => d
  | some x =>
    match bgSum d x.tag, bgSum d (x.tag + 64) with
    | some sc, some sb =>
      if !x.avg then d
      else
        let d := bgDrop x.tag 128 d
        let vc := nodeVolts (d.fld bgP BG.DK.KD) sc
        let vb := nodeVolts (d.fld bgP BG.DK.KB) sb
        let (e, d) := if d.on adcP ADC.CFG.VREF_EXT then d.draw else (0, d)
        -- with an external reference the spec gives no volts per code: the comparison is free (log 2)
        if (if d.on adcP ADC.CFG.VREF_EXT then e.getLsbD 0 else decide (vb < eightVolts)) then dampAbandon d
        else if d.fld bgP BG.DSTAT.STEP = 1 then
          ((d.setFld bgP BG.DSTAT.STEP 2).raise bgP BG.DSTAT.SW).setNight fun r => { r with
            damp := some { x with avg := false, since := d.now, c0 := vc, b0 := vb } }
        else
          let (v, d) := d.draw
          let d := (dampOver d).wrapBump bgP BG.DSTAT.N
          match riso x.c0 x.b0 vc vb (d.fld bgP BG.DRA.RS) (d.fld bgP BG.DRA.RA) v with
          | none => d
          | some r => dampReport r d
    | _, _ => d

/-- DAMP_ABANDON: a step whose conversions are not all delivered within 100 ms. -/
def dampAbandonLand (d : Dev) : Dev :=
  match d.night.damp with
  | some x => if x.avg && x.since + 60000000 ≤ d.now then dampAbandon d else d
  | none => d

/-- R403, R479: the device's mode has changed. -/
def dampMode (d : Dev) : Dev := if d.night.damp.isSome && !dampModes d then dampAbandon d else d

/-! ### Writes to the BG and NV pages (R485, R492) -/

/-- Whether R492 lets a word be written at an offset of the BG page (log 19). -/
def bgWriteOk (d : Dev) (off : Nat) (w : Word) : Bool :=
  let ring := fun (base len : Nat) => base % 32 = 0 && 0x10000000 ≤ base && base + 32 * max 1 len ≤ 0x10200000
  match off with
  | 0x058 | 0x05C => (List.range 4).all fun i => decide (32 ≤ bits w (8 * i) 6)
  | 0x06C => decide (32 ≤ bits w 24 6) && decide (32 ≤ bits w 16 6)
  | 0x060 => ring w.toNat (d.fld bgP BG.TLEN.TLEN)
  | 0x064 => ring (d.reg (bgP + 0x060)).toNat (bits w 0 16)
  | _ => true

def bgWrite (who : Requester) (off : Nat) (val : Word) (d : Dev) : Dev :=
  let w := val &&& maskAt (bgP + off)
  if off = 0x040 && who ≠ .deputy then d
  else if bgWriteOk d off w then d.setReg (bgP + off) w
  else d.raise bgP BG.EVT.CFG_IGN

/-- R485: NVSK, which the Deputy alone may write (log 19). -/
def nvskWrite (who : Requester) (val : Word) (d : Dev) : Dev :=
  if who ≠ .deputy then d else d.setReg (nvP + 0x040) (val &&& maskAt (nvP + 0x040))

end Sys2Proof.Machine
end

