-- ==== Sys2Proof/Machine/System.lean ====
section
/-!
DEFINITION. Clocks, supplies and temperature, resets, device modes, sleep and wake, boot and update (R494 to R518), and the
debug halt (R451).
-/

namespace Sys2Proof.Machine

/-! ### Modes -/

def ownGangs (d : Dev) : List Nat := (enabledGangs d).filter (ownGang d)

/-- R325, R389, R403, R508: the device's mode has changed from `old`. -/
def modeHooks (old : Mode) (d : Dev) : Dev :=
  if d.mode = old then d
  else
    let d := each (List.range 16) (axisMode old) d
    let d := each (List.range 16) (convMode old) d
    let d := if old.ownSwitches && !d.mode.ownSwitches then gangsHeld .off (ownGangs d) d
      else if !old.ownSwitches && d.mode.ownSwitches then gangsHeld .none (ownGangs d) d
      else d
    -- R128, R129: what TEST kept of adaptive drive starts anew
    let d := if old = .test then each (d.legs.map (·.1)) adaptiveAgain d else d
    axesSettle (dampMode d)

/-- A change of mode and all that follows it. -/
def changeMode (m : Mode) (d : Dev) : Dev := modeHooks d.mode (d.enter m)

/-- R186, R451: the device enters HALT; gangs without an owner are held as on entry to SAFE. -/
def enterHalt (d : Dev) : Dev :=
  let d := displaceMode d
  let own := ownGangs d
  let d := changeMode .halt (d.setSys fun r => { r with modeCycle := some (d.now / 2) })
  each own (fun g d => reactOwner (.gang g) 0 d) d

/-! ### Debug (R450 to R452) -/

/-- R452: while LOCK is 1 the debug module refuses every DMI access. -/
def dmiLocked (d : Dev) : Bool := bitOf (d.reg (authP + 0x078)) 0

/-- A DMI access: refused with an error under LOCK, else carried out. -/
def dmi (f : Dev → Dev) (d : Dev) : Dev :=
  if dmiLocked d then d.setSys fun r => { r with dmiErr := true } else (f d).setSys fun r => { r with dmiErr := false }

/-- The trigger that a hart's trigger select names. -/
def trigIx (d : Dev) (h : Nat) : Nat := 4 * h + d.sys.tselect.getD h 0 % 4

/-- TDATA1 as type mcontrol holds a word: exact match, no supervisor mode (log 76). -/
def mcontrol (w : Word) : Word := (w &&& 0x081FF84F) ||| 0x20000000

/-- R450: the Access Register command on a halted hart: its trigger registers 0x7A0 to 0x7A2. Any other register lies in the core,
so that a read of it is free (log 76, 90). -/
def accessRegister (h no : Nat) (write : Bool) (d : Dev) : Dev :=
  if !d.sys.halted.contains h then d.setSys fun r => { r with cmdErr := 4 }
  else
    let i := trigIx d h
    let (a, b) := d.sys.triggers.getD i (0, 0)
    let w := d.sys.dmData
    let d := d.setSys fun r => { r with cmdErr := 0 }
    match write, no with
    | false, 0x7A0 => d.setSys fun r => { r with dmData := BitVec.ofNat 32 (r.tselect.getD h 0) }
    | false, 0x7A1 => d.setSys fun r => { r with dmData := a }
    | false, 0x7A2 => d.setSys fun r => { r with dmData := b }
    | true, 0x7A0 => d.setSys fun r => { r with tselect := r.tselect.set h (w.toNat % 4) }
    | true, 0x7A1 => d.setSys fun r => { r with triggers := r.triggers.set i (mcontrol w, b) }
    | true, 0x7A2 => d.setSys fun r => { r with triggers := r.triggers.set i (a, w) }
    | false, _ => let (v, d) := d.draw; d.setSys fun r => { r with dmData := v.setWidth 32 }
    | true, _ => d

/-- R450, R452: one action of the debugger. -/
def jtagOp (op : JtagOp) (d : Dev) : Dev :=
  match op with
  | .ir i => if dmiLocked d && (i = .extest || i = .intest) then d else d.setSys fun r => { r with tap := i }
  | .data w => dmi (·.setSys fun r => { r with dmData := w }) d
  | .prog i w => dmi (·.setSys fun r => { r with progbuf := r.progbuf.set i.val w }) d
  | .reg h no write => dmi (accessRegister h.val no.toNat write) d

/-- Whether a trigger of a hart is set to match an access and to enter debug mode. -/
def triggerSet (d : Dev) (h i : Nat) : Bool :=
  let a := (d.sys.triggers.getD (4 * h + i) (0, 0)).1
  bits a 0 3 ≠ 0 && bits a 12 4 = 1

/-- R451, R506: a hart is in debug halt. -/
def hartHalt (h : Nat) (d : Dev) : Dev :=
  let d := d.setSys fun r => { r with halted := if r.halted.contains h then r.halted else r.halted ++ [h] }
  if d.mode = .halt then d else enterHalt d

/-- DEBUG_HALT: a request over the DMI halts unless LOCK refuses it, a trigger where it is set. -/
def debugHaltLand (h : Nat) (req : HaltReq) (jtag : List JtagOp) (d : Dev) : Dev :=
  if d.mode = .powerUp || asleep d then d
  else
    let d := jtag.foldl (fun d op => jtagOp op d) d
    match req with
    | .dmi => dmi (hartHalt h) d
    | .trigger i => if triggerSet d h i.val then hartHalt h d else d
    | .own => hartHalt h d

/-- DEBUG_RESUME: a request over the DMI. -/
def debugResumeLand (h : Nat) (jtag : List JtagOp) (d : Dev) : Dev :=
  dmi (·.setSys fun r => { r with halted := r.halted.filter (· != h) }) (jtag.foldl (fun d op => jtagOp op d) d)

/-- R506: "Holder": the Deputy, or the Hewer side while HEWER holds authority. -/
def asHolder (d : Dev) (who : Requester) : Bool := who == .deputy || (sideOf who == 1 && stamp d == 1)

/-- Every drive die that carries an enabled gang is ready. -/
def diesReady (d : Dev) : Bool := ((enabledGangs d).map (gangDie d)).all (dieReady d)

def axesQuiet (d : Dev) : Bool := (List.range 16).all fun a =>
  !axOn d a || (let s := axisState d a; s == AX_IDLE || s == AX_HOLDING || s == AX_FAULTED)

def allIdle (d : Dev) : Bool :=
  (List.range 16).all (fun a => !axOn d a || axisState d a == AX_IDLE) &&
    (List.range 16).all (fun c => !convOn d c || convState d c == CV_IDLE)

/-- R509: what the device completes before it sleeps: a FORMAT under way, the journal, with any reclaim between, and the last-fault
records; a mask of RECORD does not keep them (log 78). -/
def drainRecords (d : Dev) : Dev :=
  let mask := d.arb.mask
  let d := reclaimLand (formatLand { d with arb := { d.arb with mask := 0 } })
  let d := (List.range d.flt.journal.length).foldl (fun d _ => reclaimLand (appendLand true d)) d
  let d := each (List.range 16) (fun c d => (List.range (d.conv c).lf.length).foldl (fun d _ => lfWrittenLand c true d) d) d
  { d with arb := { d.arb with mask := mask } }

/-- R561: a drive die while the core die is unpowered or in reset: every gate low, MODE NONE. -/
def dieAlone (k : Nat) (d : Dev) : Dev :=
  let d := dieOff k d
  d.setDie k { d.die k with cfg := setBits (d.die k).cfg 0 2 0 }

/-- R509: the entry to SLEEP is done: the records that wait are written, PWREN goes low, and the drive dies are on their own. -/
def sleepEnd (d : Dev) : Dev :=
  (each (List.range 4) dieAlone (drainRecords d)).setSys fun r => { r with pwren := false }

/-- R506: the rows that a request can take: who may ask (true: the holder; false: the Deputy), and the reason that its further
condition gives, 0 where it is met. -/
def modeRow (d : Dev) (target : Mode) : Option (Bool × Nat) :=
  let ready := if diesReady d then 0 else 4
  let quiet := if axesQuiet d then 0 else 3
  match d.mode, target with
  | .configure, .standby => some (true, 0)
  | .standby, .configure => some (false, 0)
  | .standby, .run => some (true, ready)
  | .park, .run => some (true, ready)
  | .run, .standby => some (true, quiet)
  | .run, .park => some (true, quiet)
  | .limp, .standby => some (true, quiet)
  | .limp, .park => some (true, quiet)
  | .standby, .park => some (true, 0)
  | .park, .standby => some (true, 0)
  | .configure, .test => some (false, 0)
  | .configure, .update => some (false, 0)
  | .standby, .test => some (false, 0)
  | .standby, .update => some (false, 0)
  | .test, .configure => some (false, 0)
  | .standby, .sleep => some (false, if allIdle d then 0 else 3)
  | .halt, .safe => some (false, if d.sys.halted.isEmpty then 0 else 3)
  | _, _ => none

/-- R505 to R507: a write to MODE_REQ. -/
def modeReqLand (who : Requester) (val : Word) (d : Dev) : Dev :=
  let t := bits val 0 4
  let cyc := d.now / 2
  if d.sys.reqCycle = some cyc then modeRefuse t 6 d
  else
    let superseded := d.sys.modeCycle = some cyc
    let d := d.setSys fun r => { r with reqCycle := some cyc }
    if superseded then modeRefuse t 5 d
    else match (Mode.ofCode t).bind fun m => (modeRow d m).map fun r => (m, r) with
      | none => modeRefuse t 1 d
      | some (m, holder, reason) =>
        if !(if holder then asHolder d who else who == .deputy) then modeRefuse t 2 d
        else if reason ≠ 0 then modeRefuse t reason d
        else changeMode (if m = .run && limpCond d then .limp else m) (noteMode (some t) d)

/-! ### Resets (R500 to R503) -/

/-- Registers of the always-on domain (R501, R517, R551). -/
def isAon (a : Nat) : Bool :=
  a == topP + 0x054 || (pwrP + 0x054 ≤ a && a < pwrP + 0x0A0) || (gpioP + 0x200 ≤ a && a < gpioP + 0x210)

/-- R500: a device reset for cause `bit`. Where the core rails have been away (`dark`) only MRAM keeps its content (log 5). -/
def deviceReset (bit : Nat) (dark : Bool) (d : Dev) : Dev :=
  let kept := { Dev.reset with
    mem := if dark then d.mem.filter fun c => inMram c.1 else d.mem
    free := d.free
    regs := d.regs.filter fun e => isAon e.1
    sys := { SysRec.reset with lfsr := d.sys.lfsr, misreads := d.sys.misreads, loopAt := d.sys.loopAt, coreLow := d.sys.coreLow, railUv := d.sys.railUv } }
  kept.setReg (topP + 0x054) (d.reg (topP + 0x054) ||| BitVec.ofNat 32 (2 ^ bit))

/-- R501: PORA resets everything, the always-on domain too; RSTCAUSE then reads PORA alone. -/
def poraLand (d : Dev) : Dev := { Dev.reset with mem := d.mem.filter fun c => inMram c.1, free := d.free }

/-- R498, R501: a core rail falls below its reset threshold: the core die is reset, and held in reset while the rail lies there
(log 79). -/
def porcLand (r : Nat) (d : Dev) : Dev :=
  if asleep d then d
  else (deviceReset 1 true d).setSys fun x => { x with coreLow := if x.coreLow.contains r then x.coreLow else x.coreLow ++ [r] }

/-- R501: PINRESET, which has no effect asleep (log 79). -/
def pinResetLand (d : Dev) : Dev := if asleep d then d else deviceReset 2 false d

/-- R497, R501: no relock within 2 ms. -/
def clkfailLand (d : Dev) : Dev := if d.sys.stopped then deviceReset 4 false d else d

/-- R503: HCTL, by the Deputy alone; a release of Hewer cores recovers the Hewer complex (R420) (log 75). -/
def hctlLand (who : Requester) (val : Word) (d : Dev) : Dev :=
  if who ≠ .deputy then d
  else
    let w := val &&& 0xF
    let up := w &&& ~~~(d.reg (topP + 0x058))
    let d := d.setReg (topP + 0x058) w
    if up = 0 then d
    else
      let d := closeFaults [.hewer] d
      d.setFld fltP FLT.STAT.LEVEL (openLevel d)

/-! ### Clocks (R494 to R497) -/

/-- R494. -/
def pllLockLand (d : Dev) : Dev := if asleep d then d else d.raise clkP CLK.STAT.LOCKED

/-- R495: a write to CLK.CFG (log 74). -/
def clkCfgLand (val : Word) (d : Dev) : Dev :=
  if (List.range 16).any fun f => d.on (frameP f) FRAME.CFG.RUN || syncMode d f = 2 then d.raise clkP CLK.EVT.CFG_IGN
  else (d.setReg (clkP + 0x040) (val &&& maskAt (clkP + 0x040))).setSys fun r => { r with
    spread := some (val &&& maskAt (clkP + 0x040)), spreadFrom := d.now }

/-- DEPTH in 0.25 %: values above 8 count as 8 (R516). -/
def spreadDepth (w : Word) : Nat := min 8 (bits w 0 4)

/-- R526: the limit that CAN sets on spreading. -/
def canLimit (w : Word) (rateSw : Bool) : Bool := bitOf w 31 && (decide (2 < spreadDepth w) || rateSw)

def canQueued (d : Dev) (n : Nat) : Word := d.reg (canP n + 0x064)
def setQueued (n : Nat) (w : Word) (d : Dev) : Dev := (d.setReg (canP n + 0x064) w).setReg (canP n + 0x05C) w

/-- Clear one bit of QUEUED. -/
def unqueue (n b : Nat) (d : Dev) : Dev := setQueued n (canQueued d n &&& ~~~(BitVec.ofNat 32 (2 ^ b))) d

/-- R528: a mailbox is withdrawn. -/
def canWithdraw (n b : Nat) (d : Dev) : Dev := (unqueue n b d).raise (canP n) CAN.EVT.TX_ABORTED

/-- The frame on the bus has ended. -/
def canBusFree (n : Nat) (d : Dev) : Dev := (d.setCan n { d.can n with bus := none, abort := false }).setReg (canP n + 0x060) 0

/-- The controller's own frame on the bus ends with an error: its mailbox is withdrawn where that was asked for, and not sent
again under ONESHOT (R528, R549). -/
def canFrameError (n : Nat) (d : Dev) : Dev :=
  let c := d.can n
  let d := canBusFree n d
  match c.bus with
  | none => d
  | some b => if c.abort then canWithdraw n b d else if d.on (canP n) CAN.MODE.ONESHOT then unqueue n b d else d

/-- R526: a controller leaves the bus; a frame in progress, its own or one it receives (`rx`), ends with an error, and the spec
does not say with which (log 82). -/
def canOffline (n : Nat) (rx : Bool) (d : Dev) : Dev :=
  let p := canP n
  let d := if (d.can n).bus.isSome || rx then
      let (v, d) := d.draw
      (canFrameError n d).setFld p CAN.STAT.LASTERR (1 + v.toNat % 6)
    else d
  let d := d.setCan n { d.can n with tec := 0 }
  let d := (d.setFld p CAN.MODE.OPMODE 0).setFld p CAN.STAT.STATE 0
  (d.setFld p CAN.STAT.TXERR 0).setFld p CAN.STAT.RXERR 0

/-- R547: the number of bottoms of the spread triangle up to a tick: they fall at multiples of 19,200 ticks of domain time. -/
def spreadBottom (d : Dev) (t : Nat) : Int := ((t * 65536 : Nat) + linkOfs d).fdiv (19200 * 65536)

/-- R495, R526: an accepted setting takes effect at the next bottom of the triangle; `rx`: the CAN controllers that are receiving
a frame (log 92). -/
def spreadChangeLand (rx : BitVec 2) (d : Dev) : Dev :=
  match d.sys.spread with
  | none => d
  | some w =>
    if spreadBottom d d.now ≤ spreadBottom d d.sys.spreadFrom then d
    else
    let d := d.setSys fun r => { r with spread := none, spreadNow := w }
    let d := d.setFld clkP CLK.STAT.SPREADING (b2n (bitOf w 31))
    each [0, 1] (fun n d =>
      let p := canP n
      if d.fld p CAN.MODE.OPMODE ≠ 0 && canLimit w (d.on p CAN.MODE.RATE_SW) then (canOffline n (rx.getLsbD n) d).raise p CAN.EVT.SPREAD
      else d) d

/-- R496, R497, R27: the monitor declares a loss: `stop` tells STOP from FREQ. -/
def clkLossLand (stop : Bool) (d : Dev) : Dev :=
  if d.sys.stopped || !d.on clkP CLK.STAT.LOCKED || asleep d then d
  else
    let d := each (List.range 4) hardSafeAssert d
    let d := (d.setFld clkP CLK.STAT.MON (if stop then 1 else 2)).lower clkP CLK.STAT.LOCKED
    let d := (d.lower clkP CLK.STAT.SPREADING).raise clkP CLK.EVT.LOSS
    d.setSys fun r => { r with stopped := true, spread := none, spreadNow := 0 }

/-- R497, R187, R419: the PLL has stayed locked for 100 µs and the derived clocks resume; CLK_LOSS is taken on the first device
tick after that. -/
def relockLand (d : Dev) : Dev :=
  if !d.sys.stopped then d
  else
    let d := d.setSys fun r => { r with stopped := false }
    let d := ((d.raise clkP CLK.STAT.LOCKED).lower clkP CLK.STAT.MON).lower clkP CLK.CFG.SPREAD_EN
    let d := each (List.range 16) (fun f d => d.lower (frameP f) FRAME.CFG.RUN) d
    let d := each (List.range 16) (fun f d =>
      if frameRun d f || (d.frame f).starting then stopOne f false d else d) d
    let old := d.mode
    let d := if d.mode.faultsToSafe then modeHooks old (enterSafe 0 d) else d
    let d := (d.raise fltP FLT.STAT.HARDSAFE).setFlt fun f => { f with waiting := f.waiting ++ [(faultOf clkP 46 0, d.now + 1)] }
    (d.raise clkP CLK.EVT.RELOCK).bump clkP ⟨0x050, 0, 16⟩

/-! ### Supplies and temperature (R498, R499) -/

def railIn (r : Nat) : Fld := ⟨0x040, r, 1⟩
def railOver (r : Nat) : Fld := ⟨0x040, 8 + r, 1⟩

/-- R498: a rail crosses a CORE_SUPPLY limit, once per crossing. From a reset on RAIL shows neither side until the first. -/
def coreSupplyLand (r : Nat) (high : Bool) (d : Dev) : Dev :=
  let known := d.on pwrP (railIn r) || d.on pwrP (railOver r) || d.sys.railUv.contains r
  if asleep d || (known && !d.on pwrP (railIn r) && d.on pwrP (railOver r) == high) then d
  else
    let d := d.setSys fun x => { x with railUv := if high then x.railUv.filter (· != r) else x.railUv ++ [r] }
    let d := (d.lower pwrP (railIn r)).setFld pwrP (railOver r) (b2n high)
    let d := d.raise pwrP (if high then PWR.EVT.RAIL_OV else PWR.EVT.RAIL_UV)
    d.send (faultOf pwrP 50 r)

/-- R498: a rail is back within its CORE_SUPPLY limits, and so above its reset threshold. -/
def coreSupplyReturnLand (r : Nat) (d : Dev) : Dev :=
  if asleep d then d
  else ((d.raise pwrP (railIn r)).lower pwrP (railOver r)).setSys fun x => { x with
    coreLow := x.coreLow.filter (· != r), railUv := x.railUv.filter (· != r) }

def tempWarnAt (d : Dev) : Nat := d.fld pwrP PWR.TEMPCFG.WARN

/-- The reading of a die's sensor; die 4 is the core die (log 80). -/
def setTemp (k t : Nat) (d : Dev) : Dev :=
  if k = 4 then d.setReg (pwrP + 0x044) (BitVec.ofNat 32 (t % 256)) else d.setDie k { d.die k with temp := t }

/-- R499: a temperature message of die `k`; 4 is the core die (log 80). -/
def sendTemp (k kind t : Nat) (evt : Fld) (d : Dev) : Dev :=
  if k = 4 then (d.raise pwrP evt).send (faultOf pwrP kind (t % 256)) else sendDie k (faultOf (ddieP k) kind (t % 256)) d

def tempWarnLand (k t : Nat) (d : Dev) : Dev :=
  if asleep d || t ≤ tempWarnAt d then d
  else
    let d := setTemp k t d
    if (d.die k).warnSent then d
    else sendTemp k 51 t PWR.EVT.TEMP_WARN (d.setDie k { d.die k with warnSent := true })

def tempShutLand (k t : Nat) (d : Dev) : Dev :=
  if asleep d || t ≤ Config.tempShut then d
  else
    let d := setTemp k t d
    if (d.die k).shutSent then d
    else sendTemp k 52 t PWR.EVT.TEMP_SHUT (d.setDie k { d.die k with shutSent := true })

/-- R499: a die has cooled; each message is armed again below its level less 10 °C. -/
def tempFallLand (k t : Nat) (d : Dev) : Dev :=
  if asleep d then d
  else
    let d := setTemp k t d
    let r := d.die k
    d.setDie k { r with
      warnSent := r.warnSent && decide (tempWarnAt d ≤ t + 10), shutSent := r.shutSent && decide (Config.tempShut ≤ t + 10) }

/-! ### Power up, sleep, wake (R506, R509, R510) -/

/-- R506: whether a rail is known to lie outside its CORE_SUPPLY limits. -/
def railBad (d : Dev) : Bool := !d.sys.railUv.isEmpty || (List.range 3).any fun r => d.on pwrP (railOver r)

/-- R454, R506: the rails have been within limits for 100 µs and the PLL is locked. -/
def powerUpDoneLand (d : Dev) : Dev :=
  if d.mode ≠ .powerUp || !d.on clkP CLK.STAT.LOCKED || railBad d then d
  else
    let d := d.setReg (pwrP + 0x040) 0x80000007
    changeMode .boot (d.raise authP AUTH.STATE.DCLAIM)

def rtcCount (d : Dev) : Nat := (d.reg (pwrP + 0x064)).toNat + (d.reg (pwrP + 0x068)).toNat * 2 ^ 32
def alarmCount (d : Dev) : Nat := (d.reg (pwrP + 0x06C)).toNat + (d.reg (pwrP + 0x070)).toNat * 2 ^ 32
def setRtc (n : Nat) (d : Dev) : Dev := (d.setReg (pwrP + 0x064) (lowWord n)).setReg (pwrP + 0x068) (highWord n)

/-- R510: rising crossings of a threshold in mV, each after a level at least 20 mV below it (log 79). -/
def pvwCross (th : Nat) (l : List Nat) : Nat :=
  (l.foldl (fun (p : Bool × Nat) v => if v + 20 ≤ th then (true, p.2) else if p.1 && th ≤ v then (false, p.2 + 1) else p) (false, 0)).2

/-- R510: the condition of a wake event: `level`: the level of a WAKE pin; `seen`: for how many µs that pin has held it or CAN0_RX has
been low; `pvw`: the turning points of the PVW pin within the last 1 s, in mV. A tamper input's is its event (R535). -/
def wakeMet (d : Dev) (ev : Nat) (level : Bool) (seen : Nat) (pvw : List Nat) : Bool :=
  match ev with
  | 0 | 1 => level == bitOf (d.reg (pwrP + 0x054)) (16 + ev) && decide (10 ≤ seen)
  | 6 => decide (max 1 (d.fld pwrP PWR.CANW.FILT) ≤ seen)
  | 7 => decide (max 1 (d.fld pwrP PWR.PVW.CNT) ≤ pvwCross (10 * max 10 (d.fld pwrP PWR.PVW.TH)) pvw)
  | 8 => decide (alarmCount d ≤ rtcCount d)
  | _ => bitOf (d.reg (gpioP + 0x204)) (ev - 2)

/-- R510: a wake event ends SLEEP. -/
def wakeUp (ev : Nat) (d : Dev) : Dev :=
  let d := d.raiseBit (pwrP + 0x058) ev
  let d := if d.fld pwrP PWR.WAKE_CAUSE.FIRST = 15 then d.setFld pwrP PWR.WAKE_CAUSE.FIRST ev else d
  deviceReset 5 true d

/-- R510: a wake event; one that comes during the entry to SLEEP acts when that is complete (log 79). -/
def wakeLand (ev : Nat) (level : Bool) (seen : Nat) (pvw : List Nat) (d : Dev) : Dev :=
  if d.mode ≠ .sleep || !bitOf (d.reg (pwrP + 0x054)) ev || !wakeMet d ev level seen pvw then d
  else if asleep d then wakeUp ev d
  else d.setSys fun r => { r with wakes := r.wakes ++ [ev] }

/-- R507, R509, R510: once the CLK_SYS cycle of an accepted request for SLEEP has passed, the entry completes, and a wake event that has
come meanwhile acts. -/
def sleepDue (d : Dev) : Dev :=
  if d.mode ≠ .sleep || asleep d || d.sys.reqCycle = some (d.now / 2) then d
  else
    let d := sleepEnd d
    match d.sys.wakes with
    | [] => d
    | ev :: _ => wakeUp ev (d.setSys fun r => { r with wakes := [] })

/-- R517: a write of ones to WAKE_CAUSE. -/
def wakeCauseWrite (val : Word) (d : Dev) : Dev :=
  let d := d.wipe (pwrP + 0x058) (val &&& 0x1FF)
  if bits (d.reg (pwrP + 0x058)) 0 9 = 0 then d.setFld pwrP PWR.WAKE_CAUSE.FIRST 15 else d

/-! ### Boot and update (R511 to R514) -/

def slotBase : Nat → Nat
  | 0 => 0x20000000
  | _ => 0x20300000

def imgWord (d : Dev) (s off : Nat) : Nat := (memWord d (slotBase s + off)).toNat

/-- R511. -/
def imageValid (d : Dev) (s : Nat) : Bool :=
  let len := imgWord d s 0x08
  let ent := imgWord d s 0x18
  imgWord d s 0 == 0x4D49584B && imgWord d s 0x04 != 0xFFFFFFFF && len % 4 == 0 && decide (64 ≤ len) && decide (len ≤ 0x300000) &&
    decide (imgWord d s 0x10 ≤ 0x80000) && decide (imgWord d s 0x0C + imgWord d s 0x10 ≤ len) &&
    decide (slotBase s ≤ ent) && decide (ent < slotBase s + len) &&
    crc32 (memBytes d (slotBase s) 0x3C ++ [0, 0, 0, 0] ++ memBytes d (slotBase s + 0x40) (len - 0x40)) == memWord d (slotBase s + 0x3C)

/-- Bytes from a slot's start that a check of it reads: the header, and the image where the header gives it a legal length. -/
def imageReach (d : Dev) (s : Nat) : Nat :=
  let len := imgWord d s 0x08
  if 64 ≤ len && len ≤ 0x300000 then len else 64

/-- R512: the slot that the boot ROM chooses, of those its check found valid. -/
def bootSlot (d : Dev) (okA okB : Bool) : Option Nat :=
  match okA, okB with
  | true, true => some (if imgWord d 0 4 < imgWord d 1 4 then 1 else 0)
  | true, false => some 0
  | false, true => some 1
  | false, false => none

/-- BOOT_DONE (R512, R514); a check that meets a word it cannot read finds its image not valid (R430, log 104). -/
def bootDoneLand (d : Dev) : Dev :=
  if d.mode ≠ .boot || !journalReady d then d
  else
    let (readA, d) := nvRead (slotBase 0) (imageReach d 0) d
    let (readB, d) := nvRead (slotBase 1) (imageReach d 1) d
    let okA := readA && imageValid d 0
    let okB := readB && imageValid d 1
    let d := d.setFld nvP NV.UPD_STAT.VALID_A (b2n okA)
    let d := d.setFld nvP NV.UPD_STAT.VALID_B (b2n okB)
    match bootSlot d okA okB with
    | none => changeMode .update d
    | some s =>
      let d := memPutAll 0x18000000 (memBytes d (slotBase s + imgWord d s 0x0C) (imgWord d s 0x10)) d
      let d := d.setReg (topP + 0x05C) (BitVec.ofNat 32 (imgWord d s 0x18))
      let d := (d.setFld nvP NV.UPD_STAT.ACTIVE s).raise nvP NV.UPD_STAT.BOOTED
      changeMode .configure d

/-- The slot that UPD_CTL acts on (R513). -/
def updSlot (d : Dev) : Nat := if d.on nvP NV.UPD_STAT.BOOTED then 1 - d.fld nvP NV.UPD_STAT.ACTIVE else 0

/-- R513, R518: a write to UPD_CTL (log 77). -/
def updCtlLand (val : Word) (d : Dev) : Dev :=
  if d.sys.upd ≠ 0 then d
  else match bitOf val 0, bitOf val 1 with
    | true, false => if d.mode = .update then start 1 d else updIgn d
    | false, true => start 2 d
    | _, _ => d
where
  start (op : Nat) (d : Dev) : Dev :=
    let d := (d.setFld nvP NV.UPD_STAT.STATE 1).setSys fun r => { r with upd := op }
    let d := d.setReg (nvP + 0x108) (BitVec.ofNat 32 (2 ^ 31 + 2 ^ 28))
    if formatting d then d else d.setReg (nvP + 0x030) (BitVec.ofNat 32 slotBeats)

/-- UPD_DONE (log 77); a check that meets a word it cannot read finds the image not valid (log 104). -/
def updDoneLand (d : Dev) : Dev :=
  if d.sys.upd = 0 then d
  else
    let s := updSlot d
    let (read, d) := if d.sys.upd = 1 then (true, d) else nvRead (slotBase s) (imageReach d s) d
    let ok := d.sys.upd = 1 || (read && imageValid d s)
    let d := if d.sys.upd = 1 then
        { d with mem := d.mem.filter fun c => slotAt c.1 != some s }
      else d.setFld nvP (if s = 0 then NV.UPD_STAT.VALID_A else NV.UPD_STAT.VALID_B) (b2n ok)
    let d := (d.setFld nvP NV.UPD_STAT.STATE (if ok then 2 else 3)).setSys fun r => { r with upd := 0 }
    let d := d.setReg (nvP + 0x108) (BitVec.ofNat 32 ((if ok then 2 ^ 30 else 2 ^ 29) + 2 ^ 28 + slotBeats))
    d.raise nvP NV.UPD_EVT.DONE

/-! ### Watchdogs (R446, R447, R504) -/

/-- A kick `age` ticks after the previous one under a window in µs: outside it. -/
def badKick (cfg : Word) (age : Nat) : Bool := decide (age < 600 * bits cfg 0 12)

/-- No kick within the window. -/
def lateKick (cfg : Word) (age : Nat) : Bool := decide (600 * bits cfg 16 12 ≤ age)

def hwdtA (h : Nat) : Nat := topP + 0x070 + 8 * h
def hKickAt (d : Dev) (h : Nat) : Nat := d.sys.kicks.getD h 0

def hewerWdtSend (h : Nat) (d : Dev) : Dev := d.send (faultOf topP 49 h)

/-- R504: HWDT of core `h`, by that core alone (log 72). -/
def hwdtLand (who : Requester) (h : Nat) (val : Word) (d : Dev) : Dev :=
  let cur := d.reg (hwdtA h)
  let mine := match who with | .hewer c => c.val == h | _ => false
  if !mine || (bitOf val 31 && decide (bits val 16 12 ≤ bits val 0 12)) then d
  else
    let d := d.setReg (hwdtA h) ((val &&& 0x0FFF0FFF) ||| ((val ||| cur) &&& 0x80000000))
    if bitOf val 31 && !bitOf cur 31 then
      d.setSys fun r => { r with kicks := r.kicks.set h d.now, wdtSent := r.wdtSent.set h false }
    else d

/-- R504: a kick of core `h`. -/
def hkickLand (who : Requester) (h : Nat) (val : Word) (d : Dev) : Dev :=
  let cfg := d.reg (hwdtA h)
  let mine := match who with | .hewer c => c.val == h | _ => false
  if !mine || !bitOf cfg 31 then d
  else if bits val 0 8 ≠ 0xA5 then hewerWdtSend h d
  else
    let age := d.now - hKickAt d h
    let late := lateKick cfg age && !d.sys.wdtSent.getD h false && decide (600 * bits cfg 16 12 < age)
    let d := if badKick cfg age || late then hewerWdtSend h d else d
    d.setSys fun r => { r with kicks := r.kicks.set h d.now, wdtSent := r.wdtSent.set h false }

/-- HEWER_WDT: no kick within WIN_HI; one message per window missed (log 72). -/
def hewerWdtLand (h : Nat) (d : Dev) : Dev :=
  let cfg := d.reg (hwdtA h)
  if !bitOf cfg 31 || d.sys.wdtSent.getD h false || !lateKick cfg (d.now - hKickAt d h) then d
  else hewerWdtSend h (d.setSys fun r => { r with wdtSent := r.wdtSent.set h true })

def dwdtA : Nat := authP + 0x070
def depWdtSend (d : Dev) : Dev := d.send (faultOf authP 48 0)

/-- R446, R477: DWDT, by the Deputy alone. -/
def dwdtLand (who : Requester) (val : Word) (d : Dev) : Dev :=
  let cur := d.reg dwdtA
  if who ≠ .deputy || (bitOf val 31 && decide (bits val 16 12 ≤ bits val 0 12)) then authIgn d
  else
    let d := d.setReg dwdtA ((val &&& 0x0FFF0FFF) ||| ((val ||| cur) &&& 0x80000000))
    if bitOf val 31 && !bitOf cur 31 then
      (d.setAuth { d.auth with kickAt := d.now }).setSys fun r => { r with depSent := false }
    else d

/-- R446: DKICK. -/
def dkickLand (who : Requester) (val : Word) (d : Dev) : Dev :=
  let cfg := d.reg dwdtA
  if who ≠ .deputy then authIgn d
  else if !bitOf cfg 31 then d
  else if bits val 0 8 ≠ 0xA5 then depWdtSend d
  else
    let age := d.now - d.auth.kickAt
    let late := !d.sys.depSent && decide (600 * bits cfg 16 12 < age)
    let d := if badKick cfg age || late then depWdtSend d else d
    (d.setAuth { d.auth with kickAt := d.now }).setSys fun r => { r with depSent := false }

/-- R446: the Deputy's watchdog sees its window pass without a kick (log 72). -/
def depWdtLand (d : Dev) : Dev :=
  let cfg := d.reg dwdtA
  if !bitOf cfg 31 || d.sys.depSent || !lateKick cfg (d.now - d.auth.kickAt) then d
  else depWdtSend (d.setSys fun r => { r with depSent := true })

/-- R452 (log 76). -/
def dbgLand (who : Requester) (val : Word) (d : Dev) : Dev :=
  if who ≠ .deputy then authIgn d else if bitOf val 0 then d.setReg (authP + 0x078) 1 else d

/-- R443. -/
def lockstepLand (d : Dev) : Dev := if d.mode = .powerUp || asleep d then d else d.send (faultOf authP 47 0)

end Sys2Proof.Machine
end

