-- ==== Sys2Proof/Machine/Io.lean ====
section
/-!
DEFINITION. CAN, UART, I²C, GPIO with its timers, and the tamper inputs (R525 to R537, R549 to R551).
-/

namespace Sys2Proof.Machine

/-! ### CAN (R525 to R528, R549) -/

def canMode (d : Dev) (n : Nat) : Nat := d.fld (canP n) CAN.MODE.OPMODE
def canState (d : Dev) (n : Nat) : Nat := d.fld (canP n) CAN.STAT.STATE

def mboxA (n b : Nat) : Nat := canP n + 0x200 + 72 * b

/-- The identifier in word W1 of an element: 11 bits, or 29 where EXT of W0 is 1 (R549). -/
def canId (w0 w1 : Word) : Word := w1 &&& if bitOf w0 31 then 0x1FFFFFFF else 0x7FF

/-- The identifier of a mailbox. -/
def mboxId (d : Dev) (n b : Nat) : Nat := (canId (d.reg (mboxA n b)) (d.reg (mboxA n b + 4))).toNat

/-- A queued mailbox that may be sent: one with FDF needs FD_EN (R549) (log 82). -/
def canReady (d : Dev) (n b : Nat) : Bool :=
  bitOf (canQueued d n) b && (!bitOf (d.reg (mboxA n b)) 29 || d.on (canP n) CAN.MODE.FD_EN)

/-- R527: the mailbox that goes first: the lowest identifier, then the lower mailbox. -/
def canWinner (d : Dev) (n : Nat) : Option Nat :=
  ((List.range 16).filter (canReady d n)).foldl (fun (best : Option Nat) b => match best with
    | none => some b
    | some a => if mboxId d n b < mboxId d n a then some b else some a) none

/-- The winner's frame goes onto the bus, where the controller may send. -/
def canStart (n : Nat) (starts : Bool) (d : Dev) : Dev :=
  if starts && (d.can n).bus.isNone && (canMode d n = 1 || canMode d n = 3) && canState d n ≠ 3 then
    d.setCan n { d.can n with bus := canWinner d n, abort := false }
  else d

/-- R526, R528, R549: a write to MODE; AUTO_REJOIN cleared in bus-off ends it in OFFLINE (log 82). -/
def canModeLand (n : Nat) (val : Word) (d : Dev) : Dev :=
  let p := canP n
  let new := bits val 28 4
  let old := canMode d n
  if 3 < new || (old = 0 && new ≠ 0 && canLimit d.sys.spreadNow (bitOf val 9)) then d.raise p CAN.EVT.CFG_IGN
  else
    let d := d.setReg (p + 0x040) (val &&& maskAt (p + 0x040))
    if old ≠ 0 && (new = 0 || (canState d n = 3 && !d.on p CAN.MODE.AUTO_REJOIN)) then canOffline n false d
    else if new ≠ 0 && old = 0 then d.setFld p CAN.STAT.STATE 1
    else d

/-- R527: a write to SEND (log 82). -/
def canSendLand (n : Nat) (val : Word) (d : Dev) : Dev := setQueued n (canQueued d n ||| (val &&& 0xFFFF)) d

/-- R528: a write to ABORT; a frame on the bus runs on. ABORT shows the request until it is decided (log 82). -/
def canAbortLand (n : Nat) (val : Word) (d : Dev) : Dev :=
  each ((List.range 16).filter fun b => bitOf val b && bitOf (canQueued d n) b) (fun b d =>
    if (d.can n).bus = some b then
      (d.setCan n { d.can n with abort := true }).setReg (canP n + 0x060) (BitVec.ofNat 32 (2 ^ b))
    else canWithdraw n b d) d

/-- The error counters as STATE shows them (R549; the rules of ISO 11898-1, log 10). -/
def canCounters (n tec rec : Nat) (d : Dev) : Dev :=
  let p := canP n
  let was := canState d n
  let d := d.setCan n { d.can n with tec := tec }
  let d := (d.setFld p CAN.STAT.TXERR (min 255 tec)).setFld p CAN.STAT.RXERR (min 255 rec)
  let st := if 127 < tec || 127 < rec then 2 else 1
  let d := d.setFld p CAN.STAT.STATE st
  if st = 2 && was = 1 then d.raise p CAN.EVT.PASSIVE else d

/-- A controller on the bus that is not bus-off. -/
def canLive (d : Dev) (n : Nat) : Bool := canMode d n != 0 && canState d n != 0 && canState d n != 3

/-- The head of the FIFO as RXFRAME, RXTIME and RXLEVEL show it (R549). -/
def canShow (n : Nat) (d : Dev) : Dev :=
  let p := canP n
  let f := (d.can n).fifo
  let d := d.setReg (p + 0x06C) (BitVec.ofNat 32 f.length)
  let (ws, t) := f.headD ([], 0)
  let d := (d.setReg (p + 0x074) (lowWord t)).setReg (p + 0x078) (highWord t)
  each (List.range 18) (fun i d => d.setReg (p + 0x680 + 4 * i) (ws.getD i 0)) d

/-- R527: the acceptance entry that takes a frame: 0 where none is enabled. -/
def canAccept (d : Dev) (n : Nat) (w0 w1 : Word) : Option Nat :=
  let e := fun i j => d.reg (canP n + 0x100 + 8 * i + 4 * j)
  let on := (List.range 32).filter fun i => bitOf (e i 0) 31
  if on.isEmpty then some 0
  else on.find? fun i =>
    bitOf (e i 0) 29 == bitOf w0 31 && (canId w0 w1 &&& e i 1 &&& 0x1FFFFFFF) == (e i 0 &&& e i 1 &&& 0x1FFFFFFF)

/-- R527: a frame passes the acceptance entries into the FIFO, or is discarded where that is full. -/
def canKeep (n : Nat) (ws : List Word) (sof : Nat) (d : Dev) : Dev :=
  let p := canP n
  let w0 := ws.getD 0 0
  let w1 := ws.getD 1 0
  match canAccept d n w0 w1 with
  | none => d
  | some i =>
    let c := d.can n
    if 32 ≤ c.fifo.length then (d.raise p CAN.EVT.RX_OVF).bump p CAN.COUNT.RX
    else
      let el := (setBits w0 0 5 i &&& 0xF8F0001F) :: canId w0 w1 :: (ws.drop 2).take 16
      canShow n ((d.setCan n { c with fifo := c.fifo ++ [(el, sof)] }).raise p CAN.EVT.RX)

/-- CAN_RX: a frame has been received from the bus, with the tick of its SOF. -/
def canRxLand (n : Nat) (ws : List Word) (sof : Nat) (d : Dev) : Dev :=
  let p := canP n
  if !canLive d n || canMode d n = 3 || (bitOf (ws.getD 0 0) 29 && !d.on p CAN.MODE.FD_EN) then d
  else
    let r := d.fld p CAN.STAT.RXERR
    let d := if canMode d n = 2 then d else canCounters n (d.can n).tec (if 127 < r then 119 else r - 1) d
    canKeep n ws sof d

/-- The data bytes that a frame carries by its header word W0 (the DLC of ISO 11898-1). -/
def canBytes (w0 : Word) : Nat :=
  let k := bits w0 20 4
  if k ≤ 8 then (if bitOf w0 30 && !bitOf w0 29 then 0 else k)
  else if !bitOf w0 29 then (if bitOf w0 30 then 0 else 8)
  else [12, 16, 20, 24, 32, 48, 64].getD (k - 9) 64

/-- `k` low bytes of one word, the others of another. -/
def lowBytes (k : Nat) (w v : Word) : Word :=
  let m := BitVec.ofNat 32 (2 ^ (8 * min k 4) - 1)
  (w &&& m) ||| (v &&& ~~~m)

/-- R525: a mailbox's frame as the internal loopback receives it; what its element holds past the frame's data is free (log 82). -/
def canLoop (n b sof : Nat) (d : Dev) : Dev :=
  let m := fun i => d.reg (mboxA n b + 4 * i)
  let bytes := canBytes (m 0)
  let w0 := if d.on (canP n) CAN.MODE.RATE_SW then m 0 else m 0 &&& ~~~0x10000000
  let data := (List.range 16).map fun i => lowBytes (bytes - 4 * i) (m (i + 2)) ((Config.freeValue (d.free + i)).setWidth 32)
  canKeep n (w0 :: m 1 :: data) sof { d with free := d.free + 16 }

/-- TX_DONE (R525, R527). -/
def txDoneLand (n b sof : Nat) (d : Dev) : Dev :=
  let mine := match (d.can n).bus with | some m => m == b | none => canWinner d n == some b
  if !canLive d n || canMode d n = 2 || !bitOf (canQueued d n) b || !mine then d
  else
    let p := canP n
    let d := canBusFree n (unqueue n b d)
    let d := (d.raiseBit (p + 0x068) b).raise p CAN.EVT.TX_DONE
    let d := canCounters n ((d.can n).tec - 1) (d.fld p CAN.STAT.RXERR) d
    if canMode d n = 3 then canLoop n b sof d else d

/-- RXNEXT. -/
def rxnextLand (n : Nat) (val : Word) (d : Dev) : Dev :=
  if bitOf val 0 then canShow n (d.setCan n { d.can n with fifo := (d.can n).fifo.drop 1 }) else d

/-- BUSOFF (R528): the transmit error counter has passed 255. -/
def busoffLand (n : Nat) (d : Dev) : Dev :=
  let p := canP n
  if !canLive d n || (d.can n).tec < 256 then d
  else
    let d := ((canBusFree n d).raise p CAN.EVT.BUSOFF).bump p ⟨0x07C, 0, 16⟩
    if d.on p CAN.MODE.AUTO_REJOIN then d.setFld p CAN.STAT.STATE 3 else canOffline n false d

/-- CAN_REJOIN (R528). -/
def canRejoinLand (n : Nat) (d : Dev) : Dev :=
  let p := canP n
  if canState d n = 3 && d.on p CAN.MODE.AUTO_REJOIN then canCounters n 0 0 (d.setFld p CAN.STAT.STATE 1) else d

/-- CAN_ERROR: a frame ends with an error; `tx`: it was this controller's own. -/
def canErrorLand (n kind : Nat) (tx : Bool) (d : Dev) : Dev :=
  let p := canP n
  if !canLive d n then d
  else
    let d := d.setFld p CAN.STAT.LASTERR kind
    if canMode d n = 2 then d
    else if !tx then canCounters n (d.can n).tec (min 255 (d.fld p CAN.STAT.RXERR + 1)) d
    else
      let tec := (d.can n).tec
      let d := canFrameError n d
      canCounters n (tec + 8) (d.fld p CAN.STAT.RXERR) d

/-- R528, R549: a write to a register of a CAN page that has no special meaning of its own. -/
def canWrite (n off : Nat) (val : Word) (d : Dev) : Dev :=
  let p := canP n
  let w := val &&& maskAt (p + off)
  if off = 0x044 || off = 0x048 || off = 0x04C then
    if canMode d n = 0 then d.setReg (p + off) w else d.raise p CAN.EVT.CFG_IGN
  else if 0x200 ≤ off && off < 0x680 && bitOf (canQueued d n) ((off - 0x200) / 72) then d
  else d.setReg (p + off) w

/-! ### UART (R529, R550) -/

def uartShow (n : Nat) (d : Dev) : Dev :=
  let u := d.uart n
  d.setReg (uartP n + 0x048) (BitVec.ofNat 32 (u.rx.length * 2 ^ 16 + u.tx.length))

/-- A write to DATA: a byte for the TX FIFO; where it is full the byte is lost (log 83). -/
def uartTxLand (n : Nat) (val : Word) (d : Dev) : Dev :=
  let u := d.uart n
  if 32 ≤ u.tx.length then d else uartShow n (d.setUart n { u with tx := u.tx ++ [val.setWidth 8] })

/-- R13: the RX FIFO as a read on this cycle finds it, before what this cycle has received. -/
def rxBefore (d : Dev) (n : Nat) : List Word :=
  let u := d.uart n
  u.rx.take (u.rx.length - (if u.rxCycle = d.now / 2 then u.rxNew else 0))

/-- Whether a UART checks parity: even or odd (R529, R550) (log 83). -/
def uartParity (d : Dev) (n : Nat) : Bool := let k := bits (d.reg (uartP n + 0x040)) 28 2; k == 1 || k == 2

/-- UART_RX_BYTE (R529); `perr`: the parity bit does not fit. -/
def uartRxLand (n : Nat) (b : Byte) (perr ferr brk : Bool) (d : Dev) : Dev :=
  let p := uartP n
  let u := d.uart n
  let perr := perr && uartParity d n
  if !d.on p UART.CFG.EN then d
  else
    let d := if brk then d.raise p UART.EVT.BREAK else d
    if 32 ≤ u.rx.length then d.raise p UART.EVT.OVF
    else
      let w := BitVec.ofNat 32 (2 ^ 31 + b2n perr * 2 ^ 10 + b2n ferr * 2 ^ 9 + b.toNat)
      let fresh := if u.rxCycle = d.now / 2 then u.rxNew else 0
      let d := uartShow n (d.setUart n { u with rx := u.rx ++ [w], rxCycle := d.now / 2, rxNew := fresh + 1 })
      let d := d.raise p UART.EVT.RX
      if perr || ferr then d.raise p UART.EVT.ERR else d

/-- A read of DATA takes the head of the RX FIFO; 0 where it is empty (log 83). -/
def uartTake (n : Nat) (d : Dev) : Word × Dev :=
  match rxBefore d n with
  | [] => (0, d)
  | w :: _ =>
    let u := d.uart n
    (w, uartShow n (d.setUart n { u with rx := u.rx.drop 1 }))

def uartTxByteLand (n : Nat) (d : Dev) : Dev :=
  let p := uartP n
  let u := d.uart n
  if !d.on p UART.CFG.EN || u.tx.isEmpty then d
  else
    let d := uartShow n (d.setUart n { u with tx := u.tx.drop 1 })
    if u.tx.length = 1 then d.raise p UART.EVT.TX_EMPTY else d

/-! ### I²C (R530, R550) -/

/-- The bytes that the host sends in a transaction: the address with the direction bit and WLEN bytes of WBUF, then the repeated
START and the address to read RLEN bytes, or the packet error code of a write (R530) (log 83). -/
def i2cSends (d : Dev) (val : Word) : List Byte :=
  let a := 2 * bits val 16 7
  let w := bits val 8 6
  let r := bits val 0 6
  let buf := ((List.range 8).flatMap fun i => wordBytes (d.reg (i2cP + 0x080 + 4 * i))).take w
  let out := (if 0 < w || r = 0 then BitVec.ofNat 8 a :: buf else []) ++ (if 0 < r then [BitVec.ofNat 8 (a + 1)] else [])
  if r = 0 && d.on i2cP I2C.CFG.PEC then out ++ [crc8 0 out] else out

/-- CMD, write-only, is kept for the transaction it starts (log 83). -/
def i2cCmdLand (val : Word) (d : Dev) : Dev :=
  if !bitOf val 31 then
    if d.fld i2cP I2C.STAT.STATE = 1 then d.raise i2cP I2C.EVT.CFG_IGN else d
  else if d.fld i2cP I2C.STAT.STATE = 1 || !d.on i2cP I2C.CFG.EN || 32 < bits val 8 6 || 32 < bits val 0 6 then
    d.raise i2cP I2C.EVT.CFG_IGN
  else ((d.setSys fun x => { x with i2cWire := i2cSends d val }).setReg (i2cP + 0x048) (BitVec.ofNat 32 (2 ^ 30))).setReg
    (i2cP + 0x044) val

/-- Whether the transaction of CMD can end so: DONE and PEC after all its bytes, with the packet error code (SMBus: CRC-8 from 0
over every byte, PRESUMED, log 83) right or wrong; NACK_ADDR at an address, NACK_DATA in the write; ARB_LOST and STRETCH anywhere. -/
def i2cCanEnd (cause done : Nat) (data : List Byte) (pec : Byte) (d : Dev) : Bool :=
  let w := bits (d.reg (i2cP + 0x044)) 8 6
  let r := bits (d.reg (i2cP + 0x044)) 0 6
  let all := data.length == r && (w + r == 64 || done == w + r)
  let checked := d.on i2cP I2C.CFG.PEC
  let good := pec == crc8 0 (d.sys.i2cWire ++ data)
  match cause with
  | 0 => all && (!checked || r == 0 || good)
  | 5 => checked && all && (r == 0 || !good)
  | 1 => data.isEmpty && (done == 0 || (done == w && r != 0))
  | 2 => data.isEmpty && w != 0 && decide (done ≤ w)
  | _ => decide (done ≤ w + r) && data.length == done - w

/-- I2C_DONE: `cause` 0 ends in DONE; `done` bytes done, `data` the bytes read, `pec` the packet error code read (log 83). -/
def i2cDoneLand (cause : Nat) (done : BitVec 6) (data : List Byte) (pec : Byte) (d : Dev) : Dev :=
  if d.fld i2cP I2C.STAT.STATE ≠ 1 || !i2cCanEnd cause done.toNat data pec d then d
  else
    let d := each (List.range ((data.length + 3) / 4)) (fun i d =>
      d.setReg (i2cP + 0x0A0 + 4 * i) (bytesWord ((data.drop (4 * i)).take 4))) d
    let d := d.setReg (i2cP + 0x048) (BitVec.ofNat 32 ((if cause = 0 then 2 else 3) * 2 ^ 30 + cause * 2 ^ 24 + done.toNat))
    d.raise i2cP (if cause = 0 then I2C.EVT.DONE else I2C.EVT.ERROR)

/-! ### GPIO and timers (R531 to R534, R551) -/

/-- A hard-safe line is asserted (R531). -/
def hardLine (d : Dev) : Bool :=
  d.on fltP FLT.STAT.HARDSAFE || d.sys.stopped || (List.range 4).any fun k => (d.die k).hardsafe

/-- FAULT_N: low while LEVEL is 2 or more or a hard-safe line is asserted (R531). -/
def faultN (d : Dev) : Bool :=
  !(decide (2 ≤ openLevel d) || hardLine d)

/-- DSAFE_N: low in POWER_UP, SAFE and HALT and while a hard-safe line is asserted (R531). -/
def dsafeN (d : Dev) : Bool :=
  !(d.mode = .powerUp || d.mode = .safe || d.mode = .halt || hardLine d)

/-- R532: a write to DIR or OUT is kept; where it changes a bit of an owned line, OUT_IGN is set (log 84). -/
def gpioOutWrite (off : Nat) (val : Word) (d : Dev) : Dev :=
  let a := gpioP + off
  let w := val &&& maskAt a
  let owned := if off % 8 = 0 then ownedWord d 0 32 else ownedWord d 32 16
  let d := if (w ^^^ d.reg a) &&& owned = 0 then d else d.raise gpioP GPIO.GEVT.OUT_IGN
  d.setReg a w

/-- What ECFG selects for a line. -/
def edgeSel (d : Dev) (n : Nat) : Nat := bits (d.reg (gpioP + 0x068 + n / 16 * 4)) (2 * (n % 16)) 2

/-- GPIO_EDGE (R533): an input's level changes; an edge selected in ECFG sets the line's event (log 84). -/
def gpioEdgeLand (n : Nat) (rising : Bool) (d : Dev) : Dev :=
  let a := gpioP + 0x050 + n / 32 * 4
  if (lineOut d n).isSome || bitOf (d.reg a) (n % 32) == rising then d
  else
    let d := d.setReg a (setBits (d.reg a) (n % 32) 1 (b2n rising))
    let sel := edgeSel d n
    if sel = 3 || (sel = 1 && rising) || (sel = 2 && !rising) then d.raiseBit (gpioP + 0x074 + n / 32 * 4) (n % 32) else d

def setTimer (k t : Nat) (d : Dev) : Dev := { d with timers := sput zeroNat d.timers k t }

/-- A write to TMRk_CFG: a channel that becomes enabled counts from 0. -/
def tmrCfgWrite (k : Nat) (val : Word) (d : Dev) : Dev :=
  let w := val &&& maskAt (tmrA k)
  let d := if bitOf w 31 && !bitOf (d.reg (tmrA k)) 31 then setTimer k d.now d else d
  d.setReg (tmrA k) w

/-- TIMER_WRAP: the count has run through PERIOD and restarts. -/
def timerWrapLand (k : Nat) (d : Dev) : Dev :=
  let p := (d.reg (tmrA k + 4)).toNat
  if !bitOf (d.reg (tmrA k)) 31 || tmrCount d k ≤ p then d
  else (setTimer k (sget zeroNat d.timers k + 6 * (p + 1)) d).raiseBit (gpioP + 0x084) (3 + k)

/-- TIMER_CAPTURE: an edge of the channel's line, where the channel selects it. -/
def timerCaptureLand (k : Nat) (rising : Bool) (d : Dev) : Dev :=
  let c := d.reg (tmrA k)
  if !bitOf c 31 || !bitOf c 30 || !bitOf c (if rising then 28 else 29) then d
  else (d.setReg (tmrA k + 0xC) (BitVec.ofNat 32 (tmrCount d k))).raiseBit (gpioP + 0x084) (3 + k)

/-! ### Tamper inputs (R535 to R537) -/

def TAMPCFG : Nat := gpioP + 0x200
def TAMPSTAT : Nat := gpioP + 0x204

/-- Whether RET0 to RET7 are wiped by input `i`. -/
def tampWipe (d : Dev) (i : Nat) : Bool := bitOf (d.reg TAMPCFG) (6 * i + 3)

/-- R535: an event is latched. -/
def tamperLatch (i : Nat) (d : Dev) : Dev :=
  let first := bits (d.reg TAMPSTAT) 0 4 = 0
  let d := d.raiseBit TAMPSTAT i
  let d := if first then
      ((d.setReg TAMPSTAT (setBits (d.reg TAMPSTAT) 16 4 i)).setReg (gpioP + 0x208) (d.reg (pwrP + 0x064))).setReg
        (gpioP + 0x20C) (d.reg (pwrP + 0x068))
    else d
  let d := if tampWipe d i then each (List.range 8) (fun j d => d.setReg (pwrP + 0x080 + 4 * j) 0) d else d
  wakeLand (2 + i) true 0 [] (d.raise gpioP GPIO.GEVT.TAMPER)

/-- TAMPER: an input has been active for `held` RTC cycles, or is active no longer (0): TAMPSTAT shows that; an enabled one
latches its event after (FILT + 1) × 4 (log 84). -/
def tamperLand (i held : Nat) (d : Dev) : Dev :=
  let c := d.reg TAMPCFG
  if bitOf c 31 && i < 2 then d
  else
    let d := d.setReg TAMPSTAT (setBits (d.reg TAMPSTAT) (4 + i) 1 (b2n (held != 0)))
    if !bitOf c (6 * i + 5) || held < 4 * (bits c (6 * i) 3 + 1) then d else tamperLatch i d

/-- The LFSR x^16 + x^14 + x^13 + x^11 + 1. -/
def lfsrNext (x : BitVec 16) : BitVec 16 :=
  (x <<< 1) ||| (BitVec.ofBool (x.getLsbD 15 ^^ x.getLsbD 13 ^^ x.getLsbD 12 ^^ x.getLsbD 10)).setWidth 16

/-- TAMPER_LOOP_STEP (R536): 8 RTC cycles have passed since the latest step. -/
def tamperLoopLand (misread : Bool) (d : Dev) : Dev :=
  if !bitOf (d.reg TAMPCFG) 31 || rtcCount d < d.sys.loopAt + 8 then d
  else
    let n := if misread then min 2 (d.sys.misreads + 1) else 0
    let d := d.setSys fun r => { r with lfsr := lfsrNext r.lfsr, misreads := n, loopAt := rtcCount d }
    if n = 2 then tamperLatch 1 d else d

/-- R537: TAMPCFG, by the Deputy alone. -/
def tampcfgWrite (who : Requester) (val : Word) (d : Dev) : Dev :=
  if who ≠ .deputy then d.raise gpioP GPIO.GEVT.CFG_IGN
  else
    let d := if bitOf val 31 then d else d.setSys fun r => { r with misreads := 0 }
    d.setReg TAMPCFG (val &&& maskAt TAMPCFG)

/-- R537: a write to TAMPSTAT clears the events it names whose inputs are no longer active. -/
def tampstatLand (who : Requester) (val : Word) (d : Dev) : Dev :=
  if who ≠ .deputy then d.raise gpioP GPIO.GEVT.CFG_IGN
  else
    let d := d.wipe TAMPSTAT (BitVec.ofNat 32 (bits val 0 4) &&& ~~~BitVec.ofNat 32 (bits (d.reg TAMPSTAT) 4 4))
    if bits (d.reg TAMPSTAT) 0 4 = 0 then d.setReg TAMPSTAT (setBits (d.reg TAMPSTAT) 16 4 15) else d

end Sys2Proof.Machine
end

