-- ==== Sys2Proof/Machine/Link.lean ====
section
/-!
DEFINITION. The Roentol link but for register access: ports, routing, acknowledgement, sending and receiving from the
registers, the time base (R538 to R546, R552).
-/

namespace Sys2Proof.Machine

/-! ### Ports (R538) -/

def portFld : Nat → Fld
  | 0 => LINK.PSTAT.UP
  | 1 => LINK.PSTAT.DNA
  | _ => LINK.PSTAT.DNB

def portEn (d : Dev) : Nat → Bool
  | 0 => d.on linkP LINK.CFG.EN_UP
  | 1 => d.on linkP LINK.CFG.EN_A
  | _ => d.on linkP LINK.CFG.EN_B

/-- UP of PSTAT is 2. -/
def portIsUp (d : Dev) (p : Nat) : Bool := d.fld linkP (portFld p) == 2

def linkRoot (d : Dev) : Bool := d.on linkP LINK.PSTAT.ROOT_ACT

def setOfs (x : Int) (d : Dev) : Dev :=
  let n := wrapTo 64 x
  (d.setReg (linkP + 0x05C) (lowWord n)).setReg (linkP + 0x060) (highWord n)

/-- R546: the device is locked no more; its MODE 2 frames free-run. -/
def linkUnlock (d : Dev) : Dev :=
  let d := d.setLink fun r => { r with near := 0, syncAt := none, t1 := none, t3 := none }
  if !d.on linkP LINK.PSTAT.LOCKED then d
  else
    let d := (d.lower linkP LINK.PSTAT.LOCKED).raise linkP LINK.EVT.UNLOCKED
    each ((List.range 16).filter fun f => syncMode d f = 2 && frameRun d f) (fun f d =>
      (d.raise (frameP f) FRAME.EVT.LOCK_LOST).lower (frameP f) FRAME.STAT.LOCKED) d

/-- A write to CFG: a port enabled starts training, one disabled goes down (R546 where it is UP); the device is the root where
ROOT is 1 or its ports are in use without UP, and domain time is then its own (R543) (log 11). -/
def linkCfgWrite (val : Word) (d : Dev) : Dev :=
  let up := portIsUp d 0
  let root := linkRoot d
  let d := d.setReg (linkP + 0x040) (val &&& maskAt (linkP + 0x040))
  let d := each [0, 1, 2] (fun p d =>
    if !portEn d p then d.setFld linkP (portFld p) 0
    else if d.fld linkP (portFld p) = 0 then d.setFld linkP (portFld p) 1 else d) d
  let d := d.setFld linkP LINK.PSTAT.ROOT_ACT
    (b2n (d.on linkP LINK.CFG.ROOT || ((portEn d 1 || portEn d 2) && !portEn d 0)))
  let d := if up && !portIsUp d 0 then linkUnlock d else d
  if linkRoot d && !root then setOfs 0 (d.setFld linkP LINK.PSTAT.HOPS 0) else d

/-- A write to SYNC; SYNC_INT is held to its range (R552). -/
def linkSyncWrite (val : Word) (d : Dev) : Dev :=
  let w := val &&& maskAt (linkP + 0x04C)
  d.setReg (linkP + 0x04C) (setBits w 0 16 (max 125 (min 8000 (bits w 0 16))))

/-- PORT_UP: 1,024 valid characters of idle. -/
def portUpLand (p : Nat) (d : Dev) : Dev :=
  if !portEn d p || portIsUp d p then d else (d.setFld linkP (portFld p) 2).raise linkP LINK.EVT.PORT_UP

/-- LINK_LOST. -/
def linkLostLand (p : Nat) (d : Dev) : Dev :=
  if !portIsUp d p then d
  else
    let d := ((d.setFld linkP (portFld p) 0).raise linkP LINK.EVT.PORT_DOWN).send (faultOf linkP 54 p)
    if p = 0 then linkUnlock d else d

/-! ### Errors and queues (R540, R541) -/

/-- ERRLOG (log 88). -/
def linkErr (port cause src : Nat) (d : Dev) : Dev :=
  (d.setReg (linkP + 0x070) (BitVec.ofNat 32 (2 ^ 31 + port * 2 ^ 24 + cause * 2 ^ 16 + src % 2 ^ 14))).raise linkP LINK.EVT.ERR

/-- A frame is dropped; `msg`: LINK_ERR is sent. -/
def linkDrop (port cause src : Nat) (msg : Bool) (d : Dev) : Dev :=
  let d := (linkErr port cause src d).bump linkP ⟨0x06C, 0, 16⟩
  if msg then d.send (faultOf linkP 53 port) else d

def outOf (d : Dev) (p : Nat) : List LinkOut := d.link.out.getD p []
def setOut (p : Nat) (l : List LinkOut) (d : Dev) : Dev := d.setLink fun r => { r with out := r.out.set p l }

/-- The bytes of a frame before its CRC (R539). -/
def frameBody (f : LinkFrame) : List Byte :=
  natBytes 2 (f.dst + 2 ^ 14 * b2n f.bcast) ++ natBytes 2 f.src ++
    [BitVec.ofNat 8 f.type, BitVec.ofNat 8 (16 * f.ttl + 8 * b2n f.barrier), BitVec.ofNat 8 (f.payload.length - 1), f.seq] ++ f.payload

/-- R539, R75: the CRC that a frame has to carry. -/
def frameCrc (f : LinkFrame) : Word := crc32 (frameBody f)

/-- The bytes of a frame between /S/ and /T/. -/
def frameBytes (f : LinkFrame) : List Byte := frameBody f ++ wordBytes (frameCrc f)

/-- A frame leaves on a port with the next sequence number of its hop, or waits behind the four unacknowledged ones (log 88). -/
def linkPut (p : Nat) (f : LinkFrame) (mine : Bool) (d : Dev) : Dev :=
  let k := d.link.seqs.getD p 0
  setOut p (outOf d p ++ [⟨{ f with seq := BitVec.ofNat 8 k }, 0, d.now, mine⟩])
    (d.setLink fun r => { r with seqs := r.seqs.set p ((k + 1) % 256) })

/-- R541: a frame of a port is done with; the frame that comes among the four unacknowledged ones for it leaves now. -/
def outErase (p i : Nat) (d : Dev) : Dev :=
  let l := (outOf d p).eraseIdx i
  setOut p (match l[3]? with
    | some o => l.set 3 { o with at_ := d.now }
    | none => l) d

/-- R541: the acknowledgement or refusal of a frame; time frames have none. -/
def linkReply (p : Nat) (f : LinkFrame) (ok : Bool) (d : Dev) : Dev :=
  if 4 ≤ f.type && f.type ≤ 6 then d else d.setLink fun r => { r with sentAck := some (p, f.seq, ok) }

def ownId (d : Dev) : Nat := d.fld linkP LINK.CFG.ID
def inRoute (w : Word) (n : Nat) : Bool := decide (bits w 0 14 ≤ n) && decide (n ≤ bits w 16 14)

/-- R540: the port a frame for another node leaves on; none at the root without a route. -/
def routeOf (d : Dev) (dst : Nat) : Option Nat :=
  if inRoute (d.reg (linkP + 0x044)) dst then some 1
  else if inRoute (d.reg (linkP + 0x048)) dst then some 2
  else if linkRoot d then none else some 0

/-! ### Reception (R540, R541) -/

/-- RXSTAT and RXBUF show the head of the FIFO (R552). -/
def rxShow (d : Dev) : Dev :=
  match d.link.rx with
  | [] => each (List.range 64) (fun i d => d.setReg (linkP + 0x500 + 4 * i) 0) (d.setReg (linkP + 0x07C) 0)
  | f :: rest =>
    let d := d.setReg (linkP + 0x07C) (BitVec.ofNat 32
      (2 ^ 31 + (rest.length + 1) * 2 ^ 24 + (f.payload.length - 1) % 256 * 2 ^ 16 + (if f.type = 3 then 2 ^ 14 else 0) + f.src % 2 ^ 14))
    each (List.range 64) (fun i d => d.setReg (linkP + 0x500 + 4 * i) (bytesWord ((f.payload.drop (4 * i)).take 4))) d

/-- R542: room for a frame in the RX FIFO. -/
def rxRoom (d : Dev) : Bool := decide (d.link.rx.length < 8)

/-- A frame for local firmware enters the RX FIFO. -/
def rxKeep (f : LinkFrame) (d : Dev) : Dev := rxShow ((d.setLink fun r => { r with rx := r.rx ++ [f] }).raise linkP LINK.EVT.RX)

/-- R541, R542: a frame for local firmware is taken and acknowledged, and `g` follows; a full FIFO refuses it. -/
def rxDeliver (p : Nat) (f : LinkFrame) (g : Dev → Dev) (d : Dev) : Dev :=
  if rxRoom d then g (rxKeep f (linkReply p f true d)) else linkReply p f false d

/-- A frame goes on to its next port. -/
def linkForward (p : Nat) (f : LinkFrame) (d : Dev) : Dev :=
  if f.ttl = 0 then linkDrop p 3 f.src true d
  else match routeOf d f.dst with
    | none => linkDrop p 4 f.src true d
    | some q => linkPut q { f with ttl := f.ttl - 1 } false d

/-- Copies of a broadcast on ports. -/
def linkCopies (ps : List Nat) (p : Nat) (f : LinkFrame) (d : Dev) : Dev :=
  if ps.isEmpty then d
  else if f.ttl = 0 then linkDrop p 3 f.src true d
  else each ps (fun q d => linkPut q { f with ttl := f.ttl - 1 } false d) d

def downPorts (d : Dev) : List Nat := [1, 2].filter (portEn d)

/-- A broadcast frame: DATA goes up to the root, then down every port, and every device delivers it; one that is refused sends
no copies on (log 88). -/
def linkBroadcast (p : Nat) (f : LinkFrame) (d : Dev) : Dev :=
  if f.type ≠ 0 then linkDrop p 5 f.src false (linkReply p f true d)
  else if p = 0 || linkRoot d then rxDeliver p f (linkCopies (downPorts d) p f) d
  else linkCopies [0] p f (linkReply p f true d)

/-- A frame arrives on a port that is UP; one whose CRC is wrong is refused (R541). -/
def linkArrives (p : Nat) (crc : Word) (f : LinkFrame) (d : Dev) (g : Dev → Dev) : Dev :=
  if !portIsUp d p then d else if crc = frameCrc f then g d else linkReply p f false (linkErr p 1 f.src d)

/-- LINK_FRAME_FORWARD: a frame that is not for this device alone; a time frame travels one hop (R541). -/
def linkForwardLand (p : Nat) (crc : Word) (f : LinkFrame) (d : Dev) : Dev :=
  linkArrives p crc f d fun d =>
    if f.bcast then linkBroadcast p f d
    else if f.dst = ownId d || (4 ≤ f.type && f.type ≤ 6) then d
    else linkForward p f (linkReply p f true d)

/-- LINK_DATA, LINK_RESP: a frame of one type for this device. -/
def linkDeliverLand (type p : Nat) (crc : Word) (f : LinkFrame) (d : Dev) : Dev :=
  linkArrives p crc f d fun d =>
    if f.type ≠ type then d
    else if f.bcast then linkBroadcast p f d
    else if f.dst = ownId d then rxDeliver p f id d else d

/-- RXCTL (R552). -/
def rxctlLand (val : Word) (d : Dev) : Dev :=
  if bitOf val 0 then rxShow (d.setLink fun r => { r with rx := r.rx.drop 1 }) else d

/-! ### Sending (R541, R552) -/

def setTx (st : Nat) (d : Dev) : Dev := d.setReg (linkP + 0x078) (BitVec.ofNat 32 (st * 2 ^ 30))
def txBusy (d : Dev) : Bool := bits (d.reg (linkP + 0x078)) 30 2 == 1
def mineOut (d : Dev) : Bool := d.link.out.any fun l => l.any (·.mine)

/-- The frame that TXCTL and TXBUF give. -/
def txFrame (d : Dev) (val : Word) : LinkFrame :=
  { seq := 0, dst := bits val 16 14, bcast := bitOf val 15, src := ownId d, type := bits val 12 3, ttl := 15, barrier := bitOf val 30,
    payload := ((List.range 64).flatMap fun i => wordBytes (d.reg (linkP + 0x400 + 4 * i))).take (bits val 0 8 + 1) }

def txDone (d : Dev) : Dev := (setTx 2 d).raise linkP LINK.EVT.TX_DONE

/-- A frame of this device for itself that its full FIFO refuses: resent three times on refusal and dropped on one cycle (R541,
R542) (log 88). -/
def txRefused (f : LinkFrame) (d : Dev) : Dev :=
  linkDrop 0 2 f.src true (each (List.range 3) (fun _ d => d.bump linkP ⟨0x06C, 16, 16⟩) (setTx 3 d))

/-- TXCTL (R552) (log 88). -/
def txctlLand (val : Word) (d : Dev) : Dev :=
  if txBusy d then d.raise linkP LINK.EVT.ERR
  else if !bitOf val 31 then d
  else if bits val 0 8 < 7 || 2 < bits val 12 3 then d.raise linkP LINK.EVT.ERR
  else
    let f := txFrame d val
    if f.bcast then
      if f.type ≠ 0 then linkDrop 0 5 f.src false (setTx 3 d)
      else if linkRoot d then if !rxRoom d then txRefused f d else
        let d := rxKeep f d
        if (downPorts d).isEmpty then txDone d else each (downPorts d) (fun q d => linkPut q f true d) (setTx 1 d)
      else linkPut 0 f true (setTx 1 d)
    else if f.dst = ownId d && f.type = 0 then if rxRoom d then txDone (rxKeep f d) else txRefused f d
    else match if f.dst = ownId d then none else routeOf d f.dst with
      | none => linkDrop 0 4 f.src true (setTx 3 d)
      | some q => linkPut q f true (setTx 1 d)

/-- LINK_ACK: one of the four unacknowledged frames of a port is acknowledged. -/
def linkAckLand (p i : Nat) (d : Dev) : Dev :=
  match (outOf d p)[i]? with
  | none => d
  | some o =>
    let d := outErase p i d
    if o.mine && txBusy d && !mineOut d then txDone d else d

/-- LINK_RESEND: a frame is refused, or 4 µs (2,400 ticks) pass without acknowledgement. -/
def linkResendLand (p i : Nat) (refused : Bool) (d : Dev) : Dev :=
  match (outOf d p)[i]? with
  | none => d
  | some o =>
    if !refused && d.now < o.at_ + 2400 then d
    else if o.resends < 3 then
      (setOut p ((outOf d p).set i { o with resends := o.resends + 1, at_ := d.now }) d).bump linkP ⟨0x06C, 16, 16⟩
    else
      let d := linkDrop p 2 o.frame.src true (outErase p i d)
      if o.mine && txBusy d then setTx 3 d else d

/-! ### Time base (R543 to R546) -/

/-- Domain time as the device holds it, in 1/65,536 tick (log 87). -/
def domainTime (d : Dev) (frac : Nat) : Int := (d.now * 65536 + frac : Nat) + linkOfs d

def syncInt (d : Dev) : Nat := 600 * max 125 (min 8000 (d.fld linkP LINK.SYNC.SYNC_INT))

/-- Whether a frame of the device is in SYNC MODE 2 (R544) (log 89). -/
def anyMode2 (d : Dev) : Bool := (List.range 16).any fun f => syncMode d f == 2

/-- R544: LOCKED sets; frames in MODE 2 lock to the domain's instants. -/
def linkLock (d : Dev) : Dev :=
  if d.on linkP LINK.PSTAT.LOCKED then d
  else
    let d := (d.raise linkP LINK.PSTAT.LOCKED).raise linkP LINK.EVT.LOCKED
    each ((List.range 16).filter fun f => syncMode d f = 2 && frameRun d f) (fun f d =>
      (d.raise (frameP f) FRAME.STAT.LOCKED).setFrame f { d.frame f with next := linkInstant d f (d.now + 1) }) d

/-- LINK_SYNC: SYNC arrives at UP with its parent's time and HOPS (log 87). -/
def linkSyncLand (t1 frac hops : Nat) (d : Dev) : Dev :=
  if !portIsUp d 0 || linkRoot d then d
  else
    let near := match d.link.offset with
      | some o => if o.natAbs ≤ 2 * 65536 then d.link.near + 1 else 0
      | none => 0
    let n := d.link.syncs + 1
    let due := d.link.dreqDue || decide (max 1 (d.fld linkP LINK.SYNC.DREQ_DIV) ≤ n)
    let t2 := wrapTo 64 (domainTime d frac)
    let d := d.setLink fun r => { r with
      t1 := some t1, t2 := t2, syncAt := some d.now, syncs := if due then 0 else n, dreqDue := due, near := near }
    let d := d.setFld linkP LINK.PSTAT.HOPS (min 15 (hops + 1))
    if 8 ≤ near then linkLock d else d

/-- SYNC_SEND: SYNC goes out on the downstream ports every SYNC_INT, and the DREQ that is due goes up. -/
def syncSendLand (frac : Nat) (d : Dev) : Dev :=
  let t := wrapTo 64 (domainTime d frac)
  let d := if [1, 2].any (portIsUp d) && d.link.sendAt + syncInt d ≤ d.now then
      d.setLink fun r => { r with sendAt := d.now, sentSync := some t }
    else d
  if d.link.dreqDue && portIsUp d 0 then d.setLink fun r => { r with dreqDue := false, t3 := some t } else d

/-- LINK_DREQ: a child asks; DRESP carries the domain time of arrival. -/
def linkDreqLand (p frac : Nat) (d : Dev) : Dev :=
  if p = 0 || !portIsUp d p then d
  else d.setLink fun r => { r with sentDresp := some (p, wrapTo 64 (domainTime d frac)) }

/-- LINK_DRESP: delay and offset; OFS steps where no frame is in MODE 2, else the PLL slews, which changes no count.
(log 87, 89). -/
def linkDrespLand (t4 : Nat) (d : Dev) : Dev :=
  match d.link.t1, d.link.t3 with
  | some t1, some t3 =>
    let a := signedOf 64 (wrapTo 64 ((d.link.t2 : Int) - t1))
    let b := signedOf 64 (wrapTo 64 ((t4 : Int) - t3))
    let delay := (a + b).fdiv 2
    let off := (a - b).fdiv 2
    let d := d.setLink fun r => { r with t3 := none, offset := some off }
    let d := d.setReg (linkP + 0x054) (BitVec.ofNat 32 (wrapTo 16 (satTo 16 (off.fdiv 4096))))
    let d := d.setReg (linkP + 0x058) (BitVec.ofNat 32 (satU 16 (delay.fdiv 4096)))
    if anyMode2 d then d else setOfs (linkOfs d - off) d
  | _, _ => d

/-- SYNC_LOSS: no SYNC within 4 × SYNC_INT. -/
def syncLossLand (d : Dev) : Dev :=
  match d.link.syncAt with
  | some t => if t + 4 * syncInt d ≤ d.now then linkUnlock d else d
  | none => d

end Sys2Proof.Machine
end

