-- ==== Sys2Proof/Machine/Arb.lean ====
section
/-!
DEFINITION. The Banksman and the ARB page, the DMA channels' registers, and the reset of the Hewer complex (R462 to R478,
R503).
-/

namespace Sys2Proof.Machine

/-! ### DMA registers (R474 to R476) -/

def dmaA (ch : Nat) : Nat := arbP + 0x100 + 0x10 * ch
def dmaState (d : Dev) (ch : Nat) : Nat := bits (d.reg (dmaA ch + 8)) 28 4
def setDma (ch st : Nat) (d : Dev) : Dev := d.setReg (dmaA ch + 8) (BitVec.ofNat 32 (st * 2 ^ 28))

/-- R475: a channel stops with an error. -/
def dmaErr (ch : Nat) (d : Dev) : Dev := (setDma ch 3 d).raise arbP ARB.EVT.DMA_ERR

/-- R474, R475: a write to DMA_CTL. -/
def dmaCtl (ch : Nat) (val : Word) (d : Dev) : Dev :=
  if bitOf val 1 then if dmaState d ch = 1 then setDma ch 2 d else d
  else if !bitOf val 0 || dmaState d ch = 1 then d
  else
    let desc := d.reg (dmaA ch)
    let d := d.setReg (dmaA ch + 0xC) desc
    if inSram desc.toNat then setDma ch 1 d else dmaErr ch d

/-! ### The port (R464 to R470) -/

def arbPrio (d : Dev) (r : Nat) : Nat := bits (d.reg (arbP + 0x04C + r / 8 * 4)) (4 * (r % 8)) 3
def privileged (r : Nat) : Bool := 4 ≤ r && r ≤ 6
def eligible (d : Dev) (r : Nat) : Bool := !masked d r && (!frozen d || r == 4 || r == 5)
def arbAge (d : Dev) (r : Nat) : Nat := sget zeroNat d.arb.ages r
def setAge (r a : Nat) (d : Dev) : Dev := { d with arb := { d.arb with ages := sput zeroNat d.arb.ages r a } }
def arbReserved (d : Dev) : Nat := d.fld arbP ARB.GSTAT.RESERVED

/-- The first of a list by an order: greater key first, then the lower ID. -/
def best (key : Nat → Nat) (l : List Nat) : Option Nat :=
  l.foldl (fun (b : Option Nat) r => match b with
    | none => some r
    | some s => if key s < key r then some r else some s) none

/-- The grant under way ends after `beats` beats; LONGEST keeps the longest. -/
def endGrant (d : Dev) : Dev :=
  let n := d.arb.beats
  let h := arbHolder d
  let d := d.event (arbP + 0x070) fun w => if bits w 0 24 < n then BitVec.ofNat 32 (h * 2 ^ 27 + min 0xFFFFFF n) else w
  { d with arb := { d.arb with beats := 0, cut := false } }.setFld arbP ARB.GSTAT.HOLDER 31

/-- R465, R467: one waiting requester ages by a phase (log 70). -/
def ageOne (r : Nat) (d : Dev) : Dev :=
  let a := min 65535 (arbAge d r + 1)
  let d := setAge r a d
  let d := d.event (arbP + 0x06C) fun w => if bits w 0 16 < a then BitVec.ofNat 32 (r * 2 ^ 27 + a) else w
  if privileged r && decide (max 1 (d.fld arbP ARB.STARVE.STARVE_LIM) ≤ a) && !d.arb.flagged.contains r then
    let d := { d with arb := { d.arb with flagged := d.arb.flagged ++ [r] } }
    (d.raiseBit (arbP + 0x060) r).raise arbP ARB.EVT.STARVED
  else d

/-- R466: the reservation at a phase. -/
def revise (waits : List Nat) (d : Dev) : Dev :=
  let cur := arbReserved d
  let d := if cur ≠ 31 && !(waits.contains cur && eligible d cur) then d.setFld arbP ARB.GSTAT.RESERVED 31 else d
  let lim := d.fld arbP ARB.CTL.RES_AGE
  if arbReserved d ≠ 31 || lim = 0 then d
  else match best (arbAge d) (waits.filter fun r => eligible d r && decide (lim ≤ arbAge d r)) with
    | none => d
    | some r => (d.setFld arbP ARB.GSTAT.RESERVED r).raise arbP ARB.EVT.RESERVED

/-- R466: whom a free port is granted to. -/
def granted (waits : List Nat) (d : Dev) : Option Nat :=
  let el := waits.filter (eligible d)
  let lim := max 1 (d.fld arbP ARB.STARVE.STARVE_LIM)
  match best (arbAge d) (el.filter fun r => privileged r && decide (lim ≤ arbAge d r)) with
  | some r => some r
  | none =>
    if arbReserved d ≠ 31 && el.contains (arbReserved d) then some (arbReserved d)
    else best (fun r => arbPrio d r * 65536 + arbAge d r) el

/-- R469: on the cycle of a phase the mask that SBMASK then holds comes into force. -/
def maskPhase (d : Dev) : Dev :=
  if d.now % 8 = 0 then { d with arb := { d.arb with mask := (d.reg (arbP + 0x048)).toNat } } else d

/-- R464: a cycle whose count since the end of POWER_UP is a multiple of 4, once. -/
def phaseNow (d : Dev) : Bool := d.now / 2 % 4 = 0 && d.arb.phaseAt != some (d.now / 2)

/-- The running grant at a phase: it has ended, or ended at a beat boundary since FREEZE cut it; or FREEZE cuts it now (R470). -/
def grantPhase (ended : Bool) (beats : Nat) (d : Dev) : Dev :=
  let h := arbHolder d
  if h = 31 then d
  else
    let d := { d with arb := { d.arb with beats := d.arb.beats + beats } }
    if ended || (d.arb.cut && decide (0 < beats)) then endGrant d
    else if frozen d && h ≠ 4 && h ≠ 5 then { d with arb := { d.arb with cut := true } }
    else d

/-- ARBITRATION_PHASE: `waits`: the requesters that wait; `beats`: beats the running grant has made since the latest phase;
`ended`: it has ended (log 70). -/
def phaseLand (waits : BitVec 17) (ended : Bool) (beats : Nat) (d : Dev) : Dev :=
  if !phaseNow d then d
  else
  let d := grantPhase ended beats { d with arb := { d.arb with phaseAt := some (d.now / 2) } }
  let ws := (List.range 17).filter fun r => waits.getLsbD r && r != arbHolder d
  let d := revise ws (each ws ageOne d)
  let d := if arbHolder d ≠ 31 then d else match granted ws d with
    | none => d
    | some r =>
      let d := setAge r 0 (d.setFld arbP ARB.GSTAT.HOLDER r)
      { d with arb := { d.arb with flagged := d.arb.flagged.filter (· != r) } }
  let left := (List.range 17).filter fun r => ws.contains r && r != arbHolder d
  let d := d.setReg (arbP + 0x05C) (BitVec.ofNat 32 (left.foldl (fun w r => w + 2 ^ r) 0))
  let h := arbHolder d
  d.setFld arbP ARB.GSTAT.FROZEN (b2n (frozen d && (h = 31 || h = 4 || h = 5)))

/-! ### Writes to the ARB page (R476, R478) -/

def isHewer : Requester → Bool
  | .hewer _ => true
  | _ => false

def isDma : Requester → Bool
  | .dma _ => true
  | _ => false

def arbIgn (d : Dev) : Dev := d.raise arbP ARB.EVT.WR_IGN

/-- The bits of an ARB register that the Deputy alone may write. -/
def arbDeputyBits (off : Nat) : Word := if off = 0x040 then 0x80000000 else if off = 0x044 then 0xFFFFFFFF else if off = 0x048 then 0x70 else 0

/-- A field that its writer may not change keeps its value, and a write that would change it sets WR_IGN; STARVE, which the
Deputy alone may write, is ignored whole (log 19). -/
def arbWrite (who : Requester) (off : Nat) (val : Word) (d : Dev) : Dev :=
  let a := arbP + off
  if !(isHewer who || who == .deputy) then arbIgn d
  else
    let w := val &&& maskAt a
    let shut := if who == .deputy then 0 else arbDeputyBits off &&& maskAt a
    let cur := d.reg a
    let d := if (w ^^^ cur) &&& shut = 0 && !(off = 0x044 && who != .deputy) then d else arbIgn d
    let d := d.setReg a ((w &&& ~~~shut) ||| (cur &&& shut))
    if off = 0x040 then
      let h := arbHolder d
      d.setFld arbP ARB.GSTAT.FROZEN (b2n (frozen d && (h = 31 || h = 4 || h = 5)))
    else d

def dmaRegWrite (who : Requester) (off : Nat) (val : Word) (d : Dev) : Dev :=
  if isDma who then arbIgn d
  else if off % 16 = 4 then dmaCtl ((off - 0x100) / 16) val d
  else if off % 16 = 0 then d.setReg (arbP + off) (val &&& maskAt (arbP + off))
  else d

/-! ### Reset of the Hewer complex (R453, R503) -/

/-- Words of contexts 0 to 3 in the Hewer interrupt controller: enables and thresholds. -/
def hewerPlicCtx (a : Nat) : Bool := (0x0C002000 ≤ a && a < 0x0C002200) || (0x0C200000 ≤ a && a < 0x0C204000)

/-- R453, R503: what a reset of the Hewer complex does at once (log 75). -/
def hewerResetLand (d : Dev) : Dev :=
  let d := if stamp d = 1 then switchTo 2 (d.raise authP AUTH.EVT.TAKEN) else d.lower authP AUTH.STATE.HCLAIM
  let d := d.setReg (topP + 0x058) 0
  let d := each (List.range 4) (fun h d => d.setReg (hwdtA h) 0) d
  let d := d.setSys fun r => { r with
    resv := List.replicate 4 none, scOk := List.replicate 4 false, kicks := List.replicate 4 0,
    wdtSent := List.replicate 4 false, halted := r.halted.filter (4 ≤ ·),
    plic := r.plic.filter fun e => !hewerPlicCtx e.1, service := r.service.filter fun e => 4 ≤ e.1 }
  let d := each (List.range 8) (fun ch d => if dmaState d ch = 1 then setDma ch 2 d else d) d
  d.raiseBit (topP + 0x054) 6

/-- R502, R503: a write to RST. -/
def rstLand (who : Requester) (val : Word) (d : Dev) : Dev :=
  if bits val 24 8 ≠ 0xB7 then d.raise topP TOP.EVT.CFG_IGN
  else if bitOf val 0 then
    if who = .deputy || (who = .spi && d.mode = .update) then deviceReset 3 false d else d.raise topP TOP.EVT.CFG_IGN
  else if bitOf val 1 then
    if who = .deputy then hewerResetLand d else d.raise topP TOP.EVT.CFG_IGN
  else d

end Sys2Proof.Machine
end

