-- ==== Sys2Proof/Machine/Plic.lean ====
section
/-!
DEFINITION. The interrupt controllers (R448, R449) in the RISC-V PLIC layout, whose offsets are the family's (log 12), and
the machine timer (R442).
-/

namespace Sys2Proof.Machine

/-! ### Sources -/

/-- Offsets of the event registers of a page with those of their enables (R448). -/
def evtPairs : Page → List (Nat × Nat)
  | .gang => [(0x0AC, 0x0B0)] | .frame => [(0x068, 0x06C)] | .axis => [(0x0A8, 0x0AC), (0x100, 0x104)]
  | .conv => [(0x094, 0x098)] | .fb => [(0x0A4, 0x0A8)] | .ddie => [(0x04C, 0x050)] | .top => [(0x068, 0x06C)]
  | .clk => [(0x048, 0x04C)] | .pwr => [(0x04C, 0x050)] | .flt => [(0x060, 0x064)] | .auth => [(0x05C, 0x060)]
  | .arb => [(0x064, 0x068)] | .nv => [(0x080, 0x084)] | .bg => [(0x088, 0x08C)] | .link => [(0x064, 0x068)]
  | .spi => [(0x044, 0x048)] | .can => [(0x054, 0x058)] | .uart => [(0x04C, 0x050)] | .i2c => [(0x04C, 0x050)]
  | .gpio => [(0x084, 0x088)] | .adc => [(0x05C, 0x060)] | .res => [(0x040, 0x048), (0x044, 0x04C)]
  | .eng => [(0x044, 0x048)] | .rost => [(0x058, 0x05C)] | _ => []

/-- Whether the event source of the page at `base` is asserted. -/
def pageSource (d : Dev) (base : Nat) : Bool :=
  match pageAt base with
  | none => false
  | some (r, _) => (evtPairs r.page).any fun (e, i) => d.reg (base + e) &&& d.reg (base + i) != 0

/-- R448: the sources of the Hewer interrupt controller. -/
def hewerSource (d : Dev) (s : Nat) : Bool :=
  if s = 0 then false
  else if s ≤ 64 then pageSource d (gangP (s - 1))
  else if s ≤ 80 then pageSource d (frameP (s - 65))
  else if s ≤ 96 then pageSource d (axisP (s - 81))
  else if s ≤ 112 then pageSource d (convP (s - 97))
  else if s ≤ 128 then pageSource d (fbP (s - 113))
  else if s ≤ 132 then pageSource d (ddieP (s - 129))
  else if s ≤ 136 then (List.range 64).any fun i => d.reg (legP (64 * (s - 133) + i) + 0x064) != 0
  else if s ≤ 157 then pageSource d (topP + 0x1000 * (s - 137))
  else if s ≤ 205 then
    let n := s - 158
    let o := n / 32 * 4
    bitOf (d.reg (gpioP + 0x074 + o)) (n % 32) && bitOf (d.reg (gpioP + 0x07C + o)) (n % 32)
  else false

/-- R449: the sources of the Deputy interrupt controller. -/
def deputySource (d : Dev) (s : Nat) : Bool :=
  match s with
  | 1 => d.reg (fltP + 0x060) != 0
  | 2 => d.reg (authP + 0x05C) != 0
  | 3 => d.reg (arbP + 0x060) != 0
  | 4 | 5 | 6 | 7 => bitOf (d.reg (fltP + 0x05C)) (20 + s)
  | 8 => d.on fltP FLT.STAT.HARDSAFE
  | _ => false

/-! ### The controllers -/

/-- A controller: its base, its number of sources and of contexts, and the number of its first context. -/
structure Plic where
  base : Nat
  sources : Nat
  contexts : Nat
  first : Nat

def hewerPlic : Plic := ⟨0x0C000000, 384, 4, 0⟩
def deputyPlic : Plic := ⟨0x0E000000, 128, 1, 4⟩

def plicWord (d : Dev) (a : Nat) : Word := sget noWord0 d.sys.plic a

def plicSource (c : Plic) (d : Dev) (s : Nat) : Bool := if c.first = 0 then hewerSource d s else deputySource d s

/-- A source that a hart has claimed and not completed is pending for none. -/
def plicPending (c : Plic) (d : Dev) (s : Nat) : Bool :=
  plicSource c d s && !(d.sys.service.any fun e => e.2 == s && (decide (e.1 < 4) == (c.first == 0)))

def plicPrio (c : Plic) (d : Dev) (s : Nat) : Nat := bits (plicWord d (c.base + 4 * s)) 0 3
def plicEnabled (c : Plic) (d : Dev) (ctx s : Nat) : Bool := bitOf (plicWord d (c.base + 0x2000 + 0x80 * ctx + s / 32 * 4)) (s % 32)

/-- The source that a claim takes: the highest priority, then the lowest number; priority 0 never. -/
def plicBest (c : Plic) (d : Dev) (ctx : Nat) : Option Nat :=
  best (plicPrio c d) ((List.range c.sources).filter fun s =>
    plicPending c d s && plicEnabled c d ctx s && plicPrio c d s != 0)

/-- Whether the controller interrupts a context. -/
def plicInterrupts (c : Plic) (d : Dev) (ctx : Nat) : Bool :=
  match plicBest c d ctx with
  | some s => decide (bits (plicWord d (c.base + 0x200000 + 0x1000 * ctx)) 0 3 < plicPrio c d s)
  | none => false

/-- A word of pending bits. -/
def pendingWord (c : Plic) (d : Dev) (i : Nat) : Word :=
  BitVec.ofNat 32 ((List.range 32).foldl (fun w b => if 32 * i + b < c.sources && plicPending c d (32 * i + b) then w + 2 ^ b else w) 0)

def plicRead (c : Plic) (a : Nat) (d : Dev) : Word × Dev :=
  let off := a - c.base
  if 0x1000 ≤ off && off < 0x1000 + c.sources / 8 then (pendingWord c d ((off - 0x1000) / 4), d)
  else if 0x200000 ≤ off && off < 0x200000 + 0x1000 * c.contexts && off % 0x1000 = 4 then
    let ctx := (off - 0x200000) / 0x1000
    match plicBest c d ctx with
    | none => (0, d)
    | some s => (BitVec.ofNat 32 s, d.setSys fun r => { r with service := r.service ++ [(c.first + ctx, s)] })
  else (plicWord d a, d)

/-- The bits of a controller's word that exist. -/
def plicMask (c : Plic) (off : Nat) : Word :=
  if 4 ≤ off && off < 4 * c.sources then 7
  else if 0x2000 ≤ off && off < 0x2000 + 0x80 * c.contexts && off % 0x80 < c.sources / 8 then
    if off % 0x80 = 0 then 0xFFFFFFFE else 0xFFFFFFFF
  else if 0x200000 ≤ off && off < 0x200000 + 0x1000 * c.contexts && off % 0x1000 = 0 then 7
  else 0

def plicWrite (c : Plic) (a : Nat) (val : Word) (d : Dev) : Dev :=
  let off := a - c.base
  if 0x200000 ≤ off && off < 0x200000 + 0x1000 * c.contexts && off % 0x1000 = 4 then
    let ctx := (off - 0x200000) / 0x1000
    let s := val.toNat
    if plicEnabled c d ctx s then d.setSys fun r => { r with service := r.service.filter (· != (c.first + ctx, s)) } else d
  else d.setSys fun r => { r with plic := sput noWord0 r.plic a (val &&& plicMask c off) }

/-! ### The machine timer (R442) -/

def mtimeBase : Nat := 0x02000000

/-- Compare value of a hart. -/
def mtimeCmp (d : Dev) (h : Nat) : Nat :=
  (d.reg (mtimeBase + 0x010 + 0x10 * h)).toNat + (d.reg (mtimeBase + 0x014 + 0x10 * h)).toNat * 2 ^ 32

/-- A hart's machine timer interrupt is pending while the count is at or above its compare value. -/
def timerPending (d : Dev) (h : Nat) : Bool := decide (mtimeCmp d h ≤ mtimeCount d)

def softPending (d : Dev) (h : Nat) : Bool := bitOf (d.reg (mtimeBase + 0x018 + 0x10 * h)) 0

/-- MACHINE_TIMER_INTERRUPT: the hart's pending bit follows the comparison (log 95). -/
def timerLand (h : Nat) (d : Dev) : Dev :=
  d.setSys fun r => { r with
    mtip := if timerPending d h then (if r.mtip.contains h then r.mtip else r.mtip ++ [h]) else r.mtip.filter (· != h) }

def mtimeWrite (who : Requester) (off : Nat) (val : Word) (d : Dev) : Dev :=
  let a := mtimeBase + off
  let h := (off - 0x010) / 0x10
  if off < 0x010 || 0x060 ≤ off || (h = 4 && who ≠ .deputy) then d
  else match off % 0x10 with
    | 0 => lowPut (requesterId who) a val d
    | 4 =>
      let (lo, d) := lowTake (requesterId who) (a - 4) d
      let d := d.setReg a val
      timerLand h (match lo with | some w => d.setReg (a - 4) w | none => d)
    | 8 => d.setReg a (val &&& 1)
    | _ => d

end Sys2Proof.Machine
end

