-- ==== Sys2Proof/Machine/Validate.lean ====
section
/-!
DEFINITION. The commit unit's validation: the checks of every chapter over the pages of a commit, claims, the roster's and the
engine's sums (R42, R43, R53 to R59, R81 to R86, R95, R117, R165 to R173, R205 to R208, R247, R285, R286, R292 to R294, R316,
R320, R350, R379, R382, R407).
-/

namespace Sys2Proof.Machine

/-- A failing field: its address, the word of COMMIT_ERR, and the word of the page's VERR where it has one. -/
structure Flaw where
  at_ : Nat
  err : Word
  verr : Option Word
deriving DecidableEq, Repr

/-- COMMIT_ERR of a code with a resource: kind, index, owner (R55). -/
def errWord (code rk ri owner : Nat) : Word := BitVec.ofNat 32 (code * 2 ^ 28 + rk * 2 ^ 24 + ri % 256 * 2 ^ 16 + owner)

def rangeAt (a : Nat) : Flaw := ⟨a, errWord 4 0 0 0, none⟩
def frameAt (a : Nat) : Flaw := ⟨a, errWord 3 0 0 0, none⟩
def claimAt (a rk ri owner : Nat) : Flaw := ⟨a, errWord 1 rk ri owner, none⟩

/-- COMMIT_ERR_AT of an address (R55). -/
def atWord (a : Nat) : Word := BitVec.ofNat 32 (srcOf (pageBase a) * 2 ^ 20 + a % 0x1000)

/-- A flaw where a condition holds. -/
def flawIf (c : Bool) (f : Flaw) : List Flaw := if c then [f] else []

/-- What a commit is judged by: the device as it stands (R53), the device as the commit would leave it, the same with every
ARMED commit set too (for the rules that take a set or ARMED state), the domains of the commit, the domains of ARMED commits. -/
structure Judge where
  set : Dev
  fut : Dev
  arm : Dev
  union : List Nat
  armed : List Nat

/-- A device with the wet values of some domains set. -/
def withWet (doms : List Nat) (d : Dev) : Dev :=
  (d.wet.filter fun e => doms.contains (d.domAt e.1)).foldl (fun x e => match e.2 with | some w => setWord e.1 w x | none => x) d

/-- R53: the views a commit is judged by: the device as it stands, with the commit's wet values, and with those of ARMED commits
before them, which rules that say 'set or ARMED' read (log 30). -/
def judgeOf (c : Commit) (d : Dev) : Judge :=
  let armed := d.commit.armed.flatMap (fun (c : Commit) => c.union)
  ⟨d, withWet c.union d, withWet c.union (withWet armed d), c.union, armed⟩

/-- An address lies in a page of the commit. -/
def Judge.mine (j : Judge) (a : Nat) : Bool := j.union.contains (j.set.domAt a)

/-- Something that holds of a rule's subject in its set or in its ARMED state. -/
def Judge.either (j : Judge) (p : Dev → Bool) : Bool := p j.fut || p j.arm

def Judge.wet (j : Judge) (a : Nat) : Bool := j.mine a && (j.set.wetAt a).isSome

/-- Whether the commit writes a page. -/
def Judge.writes (j : Judge) (base : Nat) : Bool := j.mine base && pageWet j.set base

/-- The register that a failure of several registers is reported at: the first of them that is wet. -/
def Judge.pick (j : Judge) (l : List Nat) : Nat := ((l.find? j.wet).orElse fun _ => l.head?).getD 0

/-- Instances of a page that lie in the commit. -/
def Judge.pages (j : Judge) (base : Nat → Nat) (n : Nat) : List Nat := (List.range n).filter fun i => j.mine (base i)

/-! ### Gangs and legs (R42, R43, R81 to R86, R95, R117, R165, R293, R407) -/

/-- The entries of a gang, slots then spares: register, valid, leg. -/
def entries (d : Dev) (g : Nat) : List (Nat × Bool × Nat) :=
  (List.range 36).map fun i =>
    let a := gangP g + (if i < 32 then 0x058 + i / 4 * 4 else 0x078)
    let b := bits (d.reg a) (8 * (i % 4)) 8
    (a, decide (128 ≤ b), b % 64)

/-- R81: the lists of an enabled gang. -/
def listFlaws (d : Dev) (g : Nat) : List Flaw :=
  let es := entries d g
  let slots := es.take 32
  let gap := (slots.zipIdx.filter fun (e, i) => e.2.1 && (i != 0) && (slots.take i).any fun x => !x.2.1).map fun (e, _) => rangeAt e.1
  let dup := (es.zipIdx.filter fun (e, i) => e.2.1 && (es.take i).any fun x => x.2.1 && x.2.2 == e.2.2).map fun (e, _) => rangeAt e.1
  flawIf (!(slots.headD (0, false, 0)).2.1) (rangeAt (gangP g + 0x058)) ++ gap ++ dup

/-- The owner class and number of a gang (R86). -/
def ownerKey (d : Dev) (g : Nat) : Nat × Nat × Nat :=
  let p := gangP g
  let k := d.fld p GANG.ROLE.KIND
  (if k = 1 then 1 else if 2 ≤ k && k ≤ 4 then 2 else 0, d.fld p GANG.ROLE.OWNER, d.fld p GANG.ROLE.PHASE_IX)

/-- The role of a converter (log 32). -/
def roleOf (d : Dev) (c : Nat) : Nat := d.fld (convP c) CONV.CFG.ROLE

/-- A gang page of the commit (log 33). -/
def gangFlaws (j : Judge) (g : Nat) : List Flaw :=
  let d := j.fut
  let p := gangP g
  let en := gangEn d g
  let n := (slotLegs d g).length
  let min := d.fld p GANG.SHED.MIN_ACTIVE
  let kind := d.fld p GANG.ROLE.KIND
  let key := ownerKey d g
  let came := !gangEn j.set g || ownerKey j.set g ≠ key
  let cast := !gangEn j.set g || j.set.reg (p + 0x044) ≠ d.reg (p + 0x044)
  let maxIx := match kind with | 1 => 5 | 2 => 7 | 3 | 4 => 3 | _ => 15
  flawIf (d.fld p GANG.SHED.DWELL = 0 || min = 0 || 32 < min || (en && n < min)) (rangeAt (p + 0x048)) ++
  flawIf (d.on p GANG.SHED.EN && d.fld p GANG.SHED_LVL.ADD_AT ≤ d.fld p GANG.SHED_LVL.SHED_AT) (rangeAt (j.pick [p + 0x04C, p + 0x048])) ++
  flawIf (32 < d.fld p GANG.ROLE.MIN_LIVE) (rangeAt (p + 0x044)) ++
  (if !en then [] else
    listFlaws d g ++
    flawIf (gangFrame d g ≠ d.domAt p / 4) (frameAt (p + 0x040)) ++
    flawIf (gangEn j.set g && (gangFrame d g ≠ gangFrame j.set g || gangDie d g ≠ gangDie j.set g)) (rangeAt (p + 0x040)) ++
    flawIf (maxIx < key.2.2) (rangeAt (p + 0x044)) ++
    flawIf (came && key.1 ≠ 0 && (enabledGangs d).any fun q => q ≠ g && ownerKey d q = key) (rangeAt (p + 0x044)) ++
    flawIf (cast && ((kind = 3 && roleOf d key.2.1 ≠ 5) || (kind = 4 && roleOf d key.2.1 ≠ 4))) (rangeAt (p + 0x044)))

/-- R293, R407: a gang's frame against its owner's. -/
def ownerFlaws (j : Judge) (g : Nat) : List Flaw :=
  let d := j.fut
  let p := gangP g
  let o := d.fld p GANG.ROLE.OWNER
  let f := gangFrame d g
  match (ownerKey d g).1 with
  | 1 => flawIf ((j.mine p || j.mine (axisP o)) && d.on (axisP o) AXIS.CFG.EN && d.fld (axisP o) AXIS.CFG.FRAME ≠ f)
      (frameAt (j.pick [p + 0x040, p + 0x044, axisP o + 0x040]))
  | 2 => flawIf ((j.mine p || j.mine (convP o)) && d.fld p GANG.ROLE.KIND = roleKind (convRole d o) && d.on (convP o) CONV.CFG.EN && d.fld (convP o) CONV.CFG.FRAME ≠ f)
      (frameAt (j.pick [p + 0x040, p + 0x044, convP o + 0x040]))
  | _ => []

/-- R42, R43: the LEG pages of an enabled gang. -/
def legDomainFlaws (j : Judge) (g : Nat) : List Flaw :=
  let d := j.fut
  (gangLegs d g).flatMap fun n =>
    let dom := d.domAt (legP n)
    flawIf ((j.mine (legP n) || j.mine (gangP g)) && (dom ≠ d.domAt (gangP g) || gangFrame d g ≠ dom / 4)) (frameAt (legP n + 0x008))

/-- A LEG page that the commit writes (R116, R117). -/
def legFlaws (j : Judge) (n : Nat) : List Flaw :=
  let d := j.fut
  let p := legP n
  let h := d.fld p LEG.THRESH.HARD
  let s := d.fld p LEG.THRESH.SOFT
  let r := d.fld p LEG.THRESH.PRES
  let b := bits (d.reg (p + 0x050)) 0 8
  flawIf (240 < h || 240 < s || 240 < r || h < s || s ≤ r) (rangeAt (p + 0x048)) ++
  flawIf (112 < d.fld p LEG.GATE.TTRAN) (rangeAt (p + 0x04C)) ++
  flawIf (b < 30 || 110 < b) (rangeAt (p + 0x050))

/-! ### Frames (R165 to R173, R208) -/

/-- A frame and the masters above it, down to the frame whose PERIOD it runs at. -/
def masterChain (d : Dev) : Nat → Nat → List Nat
  | 0, f => [f]
  | k + 1, f => f :: (if syncMode d f = 1 then masterChain d k (syncMaster d f) else [])

/-- R164, R167: the effective period that a frame's settings give it: a locked frame's is its master's, whether or not the master
runs now. A commit is judged by what its settings bring, not by the period that runs. -/
def confPeriodIn (d : Dev) : Nat → Nat → Nat
  | 0, f => d.fld (frameP f) FRAME.CFG.PERIOD
  | k + 1, f => if syncMode d f = 1 then confPeriodIn d k (syncMaster d f) else d.fld (frameP f) FRAME.CFG.PERIOD

def confPeriod (d : Dev) (f : Nat) : Nat := confPeriodIn d 16 f

/-- R165: a gang, enabled in its set or ARMED state, on a frame whose effective period, set or ARMED, is out of range, where the
commit brings it about: it writes the gang's CFG, or CFG or SYNC of a frame of the master chain. -/
def periodFlaws (j : Judge) (g : Nat) : List Flaw :=
  let frames := (if gangEn j.fut g then [gangFrame j.fut g] else []) ++ (if gangEn j.arm g then [gangFrame j.arm g] else [])
  frames.eraseDups.flatMap fun f =>
    if [confPeriod j.fut f, confPeriod j.arm f].all fun p => decide (1200 ≤ p) && decide (p ≤ 30000) then []
    else match ((gangP g + 0x040) :: (masterChain j.fut 16 f).flatMap fun l => [frameP l + 0x040, frameP l + 0x044]).find? j.wet with
      | some a => [rangeAt a]
      | none => []

/-- Occupancy in slice-seconds per second and engine load in stage-cycles per tick, each as a sum over frames of
numerator ÷ period (R206). -/
def entryLoad (cost : Nat → Nat) (es : List (Nat × BitVec 64)) : Nat × Nat :=
  es.foldl (fun (s, c) e => match eAction e.2 with
    | 1 => (s + max 24 (3 * eAcq e.2), c)
    | 2 => (s, c + cost (eCtx e.2))
    | _ => (s, c)) (0, 0)

/-- A sum of fractions over the sixteen frames. -/
def fracSum (l : List (Nat × Nat)) : Nat × Nat := l.foldl (fun (n, k) (a, p) => (n * max 1 p + a * k, k * max 1 p)) (0, 1)

/-- Cost of a context's chain under a CHAIN word; 0 where EN is 0. -/
def chainCost (d : Dev) (w : Word) : Nat :=
  if !bitOf w 31 then 0
  else ((List.range (chainNst w + 1)).map fun i => stageCost (stageOf (slotWords d (chainFirst w + i))).type).foldl (· + ·) 0

/-- The two sums for the entries that each frame acts on, at given periods. -/
def loadSums (period : Nat → Nat) (bank : Nat → List (Nat × BitVec 64)) (cost : Nat → Nat) : (Nat × Nat) × (Nat × Nat) :=
  let per := (List.range 16).map fun f =>
    let (s, c) := entryLoad cost ((bank f).filter fun e => eFrame e.2 = f && eAction e.2 ≠ 0)
    (s, c, period f)
  (fracSum (per.map fun x => (x.1, x.2.2)), fracSum (per.map fun x => (x.2.1, x.2.2)))

/-- The greater of two fractions. -/
def fracMax (a b : Nat × Nat) : Nat × Nat := if a.1 * b.2 < b.1 * a.2 then b else a

/-- R206: the sums at the frames' effective periods in their set or ARMED state, the greater where the two differ (DEDUCED,
log 113). -/
def worstSums (now armed : Dev) (bank : Nat → List (Nat × BitVec 64)) (cost : Nat → Nat) : (Nat × Nat) × (Nat × Nat) :=
  let a := loadSums (confPeriod now) bank cost
  let b := loadSums (confPeriod armed) bank cost
  (fracMax a.1 b.1, fracMax a.2 b.2)

def setCost (d : Dev) (c : Nat) : Nat := chainCost d (chainWord d c)

/-- R206: 11 slice-seconds per second; 2.4 G stage-cycles per second are 4 per tick. -/
def overSlice (s : Nat × Nat) : Bool := decide (11 * s.2 < s.1)
def overEngine (c : Nat × Nat) : Bool := decide (4 * c.2 < c.1)

/-- R208: a change of the effective period of a frame that carries entries. -/
def rosterLoadFlaws (j : Judge) (f : Nat) : List Flaw :=
  let p := frameP f
  let touched := (List.range 16).any fun l =>
    confPeriod j.fut l ≠ confPeriod j.set l && (masterChain j.fut 16 l).contains f && !(frameEntries j.set l).isEmpty
  if !touched then []
  else
    let (s, c) := worstSums j.fut j.arm (fun l => bankEntries j.set (j.set.frame l).bank) (setCost j.set)
    let a := j.pick [p + 0x040, p + 0x044]
    if overSlice s then [⟨a, errWord 5 3 0 0, none⟩] else if overEngine c then [⟨a, errWord 5 7 0 0, none⟩] else []

/-- A FRAME page that the commit writes. R167 is asked where the commit writes SYNC, the master's mode in its set or ARMED
state; R173 where it writes LATE, and on a frame with an enabled gang also where it writes PERIOD or SYNC. A frame without one may
run at any period, whatever LATE stands (R165; DEDUCED, log 102). -/
def frameFlaws (j : Judge) (f : Nat) : List Flaw :=
  let d := j.fut
  let p := frameP f
  let late := d.fld p FRAME.LATE.LATE
  flawIf (d.fld p FRAME.CFG.PERIOD < 2) (rangeAt (p + 0x040)) ++
  flawIf (j.wet (p + 0x044) && syncMode d f = 1 && (syncMaster d f = f || j.either fun x => syncMode x (syncMaster d f) = 1))
    (rangeAt (p + 0x044)) ++
  (let regs := (p + 0x048) :: (if (gangsOn d f).isEmpty then [] else [p + 0x040, p + 0x044])
   flawIf (regs.any j.wet && (late < 16 || confPeriod d f ≤ late)) (rangeAt (j.pick regs))) ++
  rosterLoadFlaws j f

/-! ### Axes (R42, R292, R316, R320, R350) -/

def phaseIxs (d : Dev) (gs : List Nat) : List Nat := gs.map fun g => d.fld (gangP g) GANG.ROLE.PHASE_IX

/-- The SIDX in use. -/
def sidxUsed (d : Dev) (a : Nat) : List Nat :=
  (setsOf d a).flatMap fun k => (phasesUsed d a).map (phaseSidx d a k)

def axisFlaws (j : Judge) (a : Nat) : List Flaw :=
  let d := j.fut
  let p := axisP a
  let en := d.on p AXIS.CFG.EN
  let taps := fun r => [0, 8, 16, 24].any fun s => 23 < bits (d.reg (p + r)) s 8
  let busLo := d.fld p AXIS.BUSL.BUS_LO
  let busHi := d.fld p AXIS.BUSW.BUS_HI
  let six := d.on p AXIS.CFG.SIX
  let news := (en && !j.set.on p AXIS.CFG.EN) || six ≠ j.set.on p AXIS.CFG.SIX
  let ixs := phaseIxs d (axisGangs d a) ++ phaseIxs j.arm (axisGangs j.arm a)
  flawIf ((d.on p AXIS.CFG.COMM_SRC && !d.on p AXIS.CFG.FB_EN) || d.fld p AXIS.CFG.SENSE = 3 || d.fld p AXIS.CFG.SAFE = 3 ||
    2 ≤ d.fld p AXIS.CFG.PARK || (en && 192 ≤ d.fld p AXIS.CFG.CTX)) (rangeAt (p + 0x040)) ++
  flawIf (taps 0x044) (rangeAt (p + 0x044)) ++ flawIf (taps 0x048) (rangeAt (p + 0x048)) ++
  flawIf (256 < d.fld p AXIS.VLIM.MI) (rangeAt (p + 0x04C)) ++
  flawIf (d.fld p AXIS.SRNG.HI < d.fld p AXIS.SRNG.LO) (rangeAt (p + 0x078)) ++
  flawIf (news && !((List.range (if six then 6 else 3)).all ixs.contains && ixs.all fun x => x < (if six then 6 else 3))) (rangeAt (p + 0x040)) ++
  (if !en then [] else
    flawIf (!(sidxUsed d a).Nodup) (rangeAt (j.pick [p + 0x064, p + 0x040])) ++
    flawIf (busHi ≤ busLo || d.fld p AXIS.BUSL.BUS_MAX ≤ busHi) (rangeAt (j.pick [p + 0x0E4, p + 0x0E8, p + 0x040])) ++
    flawIf (d.on p AXIS.SEL.DUMP_EN && roleOf d (d.fld p AXIS.SEL.DUMP) ≠ 5) (rangeAt (j.pick [p + 0x0EC, p + 0x040])))

/-! ### Converters (R382, R407) -/

def convFlaws (j : Judge) (c : Nat) : List Flaw :=
  let d := j.fut
  let p := convP c
  let en := d.on p CONV.CFG.EN
  let role := roleOf d c
  let nph := d.fld p CONV.CFG.NPH
  let badTap := fun f => 24 ≤ d.fld p f && d.fld p f < 0xFF
  let none := fun f => d.fld p f = 0xFF
  let base := (d.reg (p + 0x078)).toNat
  let top := base + 32 * max 1 (d.fld p CONV.LFCFG.LFN)
  let moved := role ≠ roleOf j.set c || nph ≠ j.set.fld p CONV.CFG.NPH
  let turned := en && !j.set.on p CONV.CFG.EN
  let owned := fun (x : Dev) => phaseIxs x ((convGangs x c).filter fun g => x.fld (gangP g) GANG.ROLE.KIND = roleKind role)
  let ixs := if roleKind role = 0 then List.range (nph + 1) else owned d ++ owned j.arm
  flawIf (6 ≤ role || ((role = 4 || role = 5) && 3 < nph) || (en && 192 ≤ d.fld p CONV.CFG.CTX)) (rangeAt (p + 0x040)) ++
  flawIf (badTap CONV.TAP.VIN || badTap CONV.TAP.VOUT || badTap CONV.TAP.IL) (rangeAt (p + 0x044)) ++
  flawIf ((1 ≤ role && role ≤ 4 && none CONV.TAP.VOUT) || ((role = 4 || role = 5) && none CONV.TAP.VIN)) (rangeAt (j.pick [p + 0x044, p + 0x040])) ++
  flawIf (en && 1 ≤ role && role ≤ 3 && d.fld p CONV.VREF.OV_V ≠ 0 && d.fld p CONV.VREF.OV_V ≤ d.fld p CONV.VREF.VTGT)
    (rangeAt (j.pick [p + 0x048, p + 0x040])) ++
  flawIf (en && role = 5 && d.fld p CONV.DUMP.DUMP_ON ≤ d.fld p CONV.DUMP.DUMP_OFF) (rangeAt (j.pick [p + 0x074, p + 0x040])) ++
  flawIf (d.on p CONV.PACK.CTC_EN && role ≠ 4) (rangeAt (j.pick [p + 0x070, p + 0x040])) ++
  flawIf (d.on p CONV.CFG.LFR_EN && (base % 32 ≠ 0 || base < 0x20000000 || 0x20800000 < top)) (rangeAt (j.pick [p + 0x078, p + 0x07C, p + 0x040])) ++
  flawIf (j.set.on p CONV.CFG.EN && en && role ≠ roleOf j.set c) (rangeAt (p + 0x040)) ++
  flawIf ((turned || moved) && !((List.range (nph + 1)).all ixs.contains && ixs.all fun x => x ≤ nph)) (rangeAt (p + 0x040)) ++
  flawIf (role ≠ roleOf j.set c && (enabledGangs d).any fun g =>
    d.fld (gangP g) GANG.ROLE.OWNER = c && ((d.fld (gangP g) GANG.ROLE.KIND = 3 && role ≠ 5) || (d.fld (gangP g) GANG.ROLE.KIND = 4 && role ≠ 4)))
    (rangeAt (p + 0x040))

/-! ### Feedback (R379) -/

def fbFlaws (j : Judge) (k : Nat) : List Flaw :=
  let d := j.fut
  let p := fbP k
  let en := fbOn d k
  let mode := fbMode d k
  let cpr := fbCpr d k
  let pb := d.fld p FB.ABS.PBITS
  let sb := d.fld p FB.ABS.SBITS
  let tc := 12 * (d.fld p FB.ABS.DIV + 1)
  let n := d.fld p FB.ABS.LEAD + pb + sb + absCheckBits (d.fld p FB.ABS.CHK)
  let emu := d.on p FB.EMU.EN
  let lines := en && (mode = 0 || mode = 2)
  flawIf (mode = 3 || (fbOn j.set k && en && mode ≠ fbMode j.set k)) (rangeAt (p + 0x040)) ++
  flawIf (lines && cpr < 4) (rangeAt (j.pick [p + 0x044, p + 0x040])) ++
  flawIf (lines && cpr ≤ (d.reg (p + 0x048)).toNat) (rangeAt (j.pick [p + 0x048, p + 0x044, p + 0x040])) ++
  flawIf (lines && cpr ≤ (d.reg (p + 0x04C)).toNat) (rangeAt (j.pick [p + 0x04C, p + 0x044, p + 0x040])) ++
  flawIf (d.fld p FB.EDGE.MIN_EDGE < 6) (rangeAt (p + 0x050)) ++
  flawIf (d.fld p FB.SPDCFG.GATE < 600 || d.fld p FB.SPDCFG.CO_HI ≤ d.fld p FB.SPDCFG.CO_LO) (rangeAt (p + 0x054)) ++
  flawIf (mode = 2 && (pb < 1 || 32 < pb || d.fld p FB.ABS.CHK = 3 || d.fld p FB.ABS.DIV < 4)) (rangeAt (j.pick [p + 0x05C, p + 0x040])) ++
  flawIf (mode = 2 && 2 ^ sb ≤ d.fld p FB.ABS2.ERR_MASK) (rangeAt (j.pick [p + 0x060, p + 0x05C, p + 0x040])) ++
  flawIf (mode = 2 && d.fld p FB.SPDCFG.GATE < (n + 1) * tc + 6 * d.fld p FB.ABS2.REC)
    (rangeAt (j.pick [p + 0x054, p + 0x05C, p + 0x060, p + 0x040])) ++
  flawIf (emu && (4 ≤ k || d.fld p FB.EMU.ELINES = 0)) (rangeAt (p + 0x064)) ++
  flawIf (d.fld p FB.EMU2.EMIN < 6) (rangeAt (p + 0x068))

/-! ### Claims (R56 to R59) -/

/-- A claim: kind, index, the register whose field names the resource. -/
structure Claim where
  kind : Nat
  index : Nat
  at_ : Nat
deriving DecidableEq, Repr

def gangClaims (d : Dev) (g : Nat) : List Claim :=
  (entries d g).filterMap fun e => if e.2.1 then some ⟨1, globalLeg d g e.2.2, e.1⟩ else none

def axisClaims (d : Dev) (a : Nat) : List Claim :=
  let p := axisP a
  if !d.on p AXIS.CFG.EN then []
  else ⟨7, d.fld p AXIS.CFG.CTX, p + 0x040⟩ :: (if d.on p AXIS.CFG.FB_EN then [⟨8, d.fld p AXIS.CFG.FB, p + 0x040⟩] else [])

def convClaims (d : Dev) (c : Nat) : List Claim :=
  let p := convP c
  if !d.on p CONV.CFG.EN then []
  else ⟨7, d.fld p CONV.CFG.CTX, p + 0x040⟩ ::
    (if roleOf d c = 4 && d.on p CONV.PACK.CTC_EN then [⟨5, d.fld p CONV.PACK.CTC_PIN, p + 0x070⟩] else [])

/-- R374: the pin functions that a feedback channel's emulation claims (log 33). -/
def fbClaims (d : Dev) (k : Nat) : List Claim :=
  if k < 4 && d.on (fbP k) FB.EMU.EN then (List.range 3).map fun i => ⟨5, 48 + 3 * k + i, fbP k + 0x064⟩ else []

def engClaims (d : Dev) : List Claim :=
  (List.range 192).filterMap fun c => if bitOf (chainWord d c) 29 then some ⟨7, c, chainA c⟩ else none

def adcClaims (d : Dev) : List Claim :=
  if d.on adcP ADC.MANRES.VALID then [⟨4, d.fld adcP ADC.MANRES.RES, adcP + 0x044⟩] else []

/-- RES of the SAMPLE entries in the banks frames act on, and in the other bank too while it is on its way (R57, R209). -/
def rostClaims (d : Dev) (both : Bool) : List Claim :=
  let es := (List.range 16).flatMap fun f =>
    ((if both then d.rost.ents else bankEntries d (d.frame f).bank).filter fun e => eFrame e.2 = f && eAction e.2 = 1)
  es.map fun e => ⟨4, eRes e.2, rostP + 0x04C⟩

/-- Every page that claims, in ascending order, with what it claims in a device. -/
def claimPages (d : Dev) : List (Nat × List Claim) :=
  [(adcP, adcClaims d), (engP, engClaims d)] ++
  (List.range 64).map (fun g => (gangP g, gangClaims d g)) ++ (List.range 16).map (fun a => (axisP a, axisClaims d a)) ++
  (List.range 16).map (fun c => (convP c, convClaims d c)) ++ (List.range 16).map (fun k => (fbP k, fbClaims d k))

/-- R58, R531, R534: resources that pages hold from reset: code of the refusal, and owner. -/
def fixedClaim (c : Claim) : Option (Nat × Nat) :=
  if c.kind = 5 then
    if c.index = 60 then some (2, srcOf fltP) else if c.index = 61 then some (2, srcOf authP)
    else if c.index = 62 then some (1, srcOf bgP) else none
  else none

def claims (c x : Claim) : Bool := c.kind == x.kind && c.index == x.index

/-- R57: what pages outside the commit hold, set or ARMED. -/
def heldBy (j : Judge) : List (Nat × Claim) :=
  let outside := fun (l : List (Nat × List Claim)) => (l.filter fun x => !j.mine x.1).flatMap fun x => x.2.map fun c => (x.1, c)
  let armed := withWet j.armed j.set
  let rost := if j.union.contains 64 then [] else
    (rostClaims j.set (j.armed.contains 64)).map fun c => (rostP, c)
  rost ++ outside (claimPages j.set) ++ outside ((claimPages armed).filter fun x => j.armed.contains (j.set.domAt x.1))

/-- R58: the claims of the commit's pages that fail. -/
def claimFlaws (j : Judge) : List Flaw :=
  let held := heldBy j
  let mine := ((claimPages j.fut).filter fun x => j.mine x.1).flatMap fun x => x.2.map fun c => (x.1, c)
  mine.flatMap fun (p, c) =>
    match fixedClaim c with
    | some (code, owner) => [⟨c.at_, errWord code c.kind c.index owner, none⟩]
    | none =>
      match (held ++ mine.filter fun x => x.1 < p).find? fun x => claims c x.2 with
      | some (q, _) => [claimAt c.at_ c.kind c.index (srcOf q)]
      | none => []

/-! ### Sampling and engine (R247, R285, R286) -/

def adcFlaws (j : Judge) : List Flaw :=
  flawIf (j.fut.on adcP ADC.CFG.VREF_EXT ≠ j.set.on adcP ADC.CFG.VREF_EXT && j.set.mode ≠ .configure && j.set.mode ≠ .test)
    (rangeAt (adcP + 0x040))

/-- The contexts bound by an AXIS or CONV page in its set state. -/
def boundSet (d : Dev) (c : Nat) : Bool := (ctxOwner d c).isSome

def engVerr (check ctx slot : Nat) : Word := BitVec.ofNat 32 (check * 2 ^ 28 + ctx * 2 ^ 16 + slot)

/-- R286: one CHAIN register of the commit. -/
def chainFlaw (j : Judge) (c : Nat) : Option Flaw :=
  let w := chainWord j.fut c
  let bad := fun k s => some (⟨chainA c, errWord 4 0 0 0, some (engVerr k c s)⟩ : Flaw)
  if !j.wet (chainA c) || !bitOf w 31 then none
  else if !bitOf w 29 && !boundSet j.set c then bad 1 0
  else if 4095 < chainFirst w + chainNst w then bad 2 0
  else (List.range (chainNst w + 1)).findSome? fun i =>
    let s := chainFirst w + i
    let k := checkSlot (stageOf (slotWords j.set s))
    if k = 0 then none else bad k s

def engFlaws (j : Judge) : List Flaw :=
  let new := fun c => chainCost j.set (chainWord j.fut c)
  let (_, e) := worstSums j.set j.arm (fun l => bankEntries j.set (j.set.frame l).bank) new
  let grown := (List.range 192).find? fun c => setCost j.set c < new c
  let c := (grown.orElse fun _ => (List.range 192).find? fun c => j.wet (chainA c)).getD 0
  (List.range 192).filterMap (chainFlaw j) ++ flawIf (overEngine e) ⟨chainA c, errWord 5 7 c 0, none⟩

/-! ### The roster (R205 to R207) -/

/-- Bits of ARG that an action names (R195). -/
def argMask : Nat → Nat
  | 1 => 0x3FFFFFFFF0 | 2 => 0xFF01 | 4 | 5 => 0x3F | 6 => 0x1FFF | 7 => 0x1FFFF | _ => 0

/-- SIDX that two samples of one sample set share (log 33). -/
def sidxClash (es : List (Nat × BitVec 64)) (e : Nat × BitVec 64) : Bool :=
  let home := fun (x : Nat × BitVec 64) => (firstFrom (jobsOf (es.filter fun y => eFrame y.2 = eFrame e.2) (eCtx e.2)) (eOffset x.2)).map (·.1)
  (home e).isSome && es.any fun x => x.1 ≠ e.1 && eAction x.2 = 1 && eFrame x.2 = eFrame e.2 && eCtx x.2 = eCtx e.2 && eSidx x.2 = eSidx e.2 && home x = home e

/-- The CHECK that an entry fails; 0 where it passes. `held`: result registers other pages claim. -/
def entryCheck (j : Judge) (es : List (Nat × BitVec 64)) (held : Nat → Bool) (e : Nat × BitVec 64) : Nat :=
  let x := e.2
  let act := eAction x
  let c := eCtx x
  let bound := fun c => boundSet j.set c || bitOf (chainWord j.set c) 29
  if 8 ≤ act then 1
  else if eBits x 0 40 &&& argMask act ≠ eBits x 0 40 then 2
  else if j.either fun v => decide (confPeriod v (eFrame x) ≤ eOffset x) then 3
  else if act = 1 && (!sargOk (eInput x) (eGain x) (eAcq x) || (192 ≤ c && c ≤ 254)) then 4
  else if act = 1 && held (eRes x) then 5
  else if (act = 2 || (act = 1 && c ≠ 255)) && (192 ≤ c || !bound c) then 6
  else if act = 2 && es.any (fun y => eAction y.2 = 2 && eCtx y.2 = c && eFrame y.2 ≠ eFrame x) then 7
  else if act = 1 && c ≠ 255 && sidxClash es e then 8
  else if act = 6 && (match pageOfSrc (eBits x 0 12) with
    | none => true
    | some b => eBits x 12 1 != 0 && j.set.domAt b == 127) then 9
  else if 8 < (es.filter fun y => eFrame y.2 = eFrame x && eOffset y.2 = eOffset x).length then 10
  else 0

def rostVerr (check frame entry : Nat) : Word := BitVec.ofNat 32 (check * 2 ^ 28 + frame * 2 ^ 16 + entry)

/-- Ceiling of k × a fraction, held to 16 bits. -/
def loadWord (k : Nat) (s : Nat × Nat) : Word := BitVec.ofNat 32 (min 0xFFFF ((k * s.1 + s.2 - 1) / s.2))

/-- R205 to R207: the flaws of the inactive bank, and LOAD_SLICE and LOAD_ENG where the sums are reached. -/
def rostFlaws (j : Judge) : List Flaw × Option (Word × Word) :=
  let d := j.set
  let bank := bankEntries d (!activeBank d)
  let es := bank.filter fun e => eAction e.2 ≠ 0
  let mans := adcClaims d ++ (if j.armed.contains 65 then adcClaims j.arm else [])
  let held := fun r => mans.any fun c => c.index = r
  let at_ := rostP + 0x04C
  match es.findSome? fun e => let k := entryCheck j es held e; if k = 0 then none else some (k, e) with
  | some (k, e) =>
    let err := match k with
      | 5 => errWord 1 4 (eRes e.2) (srcOf adcP)
      | 10 => errWord 5 3 (eFrame e.2) 0
      | _ => errWord 4 0 0 0
    ([⟨at_, err, some (rostVerr k (eFrame e.2) (e.1 % 16384))⟩], none)
  | none =>
    let (s, c) := worstSums j.fut j.arm (fun _ => es) (setCost d)
    let loads := some (loadWord 1000 s, loadWord 600 c)
    if overSlice s then ([⟨at_, errWord 5 3 0 0, some (rostVerr 11 0 0)⟩], loads)
    else if overEngine c then ([⟨at_, errWord 5 7 0 0, some (rostVerr 12 0 0)⟩], loads)
    else ([], loads)

/-! ### COMMIT_VALIDATION (R53, R55) -/

/-- R42: the frames of enabled axes and converters of the commit's domains. -/
def ownFrameFlaws (j : Judge) : List Flaw :=
  let d := j.fut
  (j.pages axisP 16).flatMap (fun a => flawIf (d.on (axisP a) AXIS.CFG.EN && d.fld (axisP a) AXIS.CFG.FRAME ≠ d.domAt (axisP a) / 4)
    (frameAt (axisP a + 0x040))) ++
  (j.pages convP 16).flatMap (fun c => flawIf (d.on (convP c) CONV.CFG.EN && d.fld (convP c) CONV.CFG.FRAME ≠ d.domAt (convP c) / 4)
    (frameAt (convP c + 0x040)))

/-- Every flaw of a commit outside domain 64 (log 31). -/
def flawsOf (j : Judge) : List Flaw :=
  let gangs := enabledGangs j.fut
  (j.pages gangP 64).flatMap (gangFlaws j) ++ gangs.flatMap (ownerFlaws j) ++ gangs.flatMap (legDomainFlaws j) ++
  (List.range 64).flatMap (periodFlaws j) ++
  ((List.range 256).filter fun n => j.writes (legP n)).flatMap (legFlaws j) ++
  ((List.range 16).filter fun f => j.writes (frameP f)).flatMap (frameFlaws j) ++ ownFrameFlaws j ++
  ((List.range 16).filter fun a => j.writes (axisP a)).flatMap (axisFlaws j) ++
  ((List.range 16).filter fun c => j.writes (convP c)).flatMap (convFlaws j) ++
  ((List.range 16).filter fun k => j.writes (fbP k)).flatMap (fbFlaws j) ++
  (if j.union.contains 65 then adcFlaws j else []) ++ (if j.union.contains 66 then engFlaws j else []) ++ claimFlaws j

/-- R55: the flaw reported, the first by page and then by offset; of one register the first check (log 31). -/
def firstFlaw : List Flaw → Option Flaw
  | [] => none
  | f :: fs => match firstFlaw fs with
    | none => some f
    | some g => if g.at_ < f.at_ then some g else some f

/-- R50: the refusal for a busy sibling (log 28). COMMIT_ERR_AT where that domain holds no page: DESIGN CHOICE, the word of the
address 0xFFFFF00C (log 103). -/
def busyFlaw (d : Dev) (n : Nat) : Flaw := ⟨(pagesOf d n).foldl min 0xFFFFF000 + 0x00C, errWord 6 0 n 0, none⟩

/-- R47, R48: an arm taken now slips on a reload or a COMMIT_POINT of this tick (log 34). -/
def armSlips (d : Dev) (f : Nat) : Bool :=
  frameRun d f && (if hasCommitPoint d f then (d.frame f).lastCp == some d.now else (d.frame f).reload == d.now)

/-- R209: domain 64 is ARMED; every concerned frame waits for its swap. -/
def armRoster (d : Dev) : Dev :=
  let fs := (List.range 16).filter fun f => d.rost.ents.any fun e => eFrame e.2 = f && eAction e.2 ≠ 0
  let d := d.setRost fun r => { r with swaps := fs.map fun f => (f, ⟨d.now, false, armSlips d f⟩), swapped := false, slipped := false }
  d.setFld rostP ROST.BANK.PEND (fs.foldl (fun m f => m + 2 ^ f) 0)

/-- The head of the queue is validated and ends ARMED or REFUSED (log 29). -/
def validateLand (d : Dev) : Dev :=
  match d.commit.queue with
  | [] => d
  | c :: rest =>
    let d := { d with commit := { d.commit with queue := rest } }
    let j := judgeOf c d
    let (flaws, loads) := if c.dom = 64 then rostFlaws j else (flawsOf j, none)
    let d := match loads with
      | some (s, e) => (d.setReg (rostP + 0x050) s).setReg (rostP + 0x054) e
      | none => d
    match c.bad.map (busyFlaw d) |>.orElse fun _ => firstFlaw flaws with
    | some f =>
      let d := match f.verr with
        | some v => d.setReg (if c.dom = 64 then rostP + 0x04C else engP + 0x050) v
        | none => d
      refuse c f.err (atWord f.at_) d
    | none => if c.dom = 64 then armRoster (arm c false d) else arm c (c.dom < 64 && armSlips d (c.dom / 4)) d

end Sys2Proof.Machine
end

