-- ==== Sys2Proof/Machine/VuythNames.lean ====
section
/-!
DEFINITION. What the Vuyth map names (R75 to R78): for each block type of R436 its registers in offset order, their fields from
the most significant down, and the enumerations of the fields, from the register and field tables of the chapters. Offsets,
access codes and reset values come from the register tables of RegMap. A field to which the spec gives no name of its own, and
an element of an array, has a name of the model's (log 26).
-/

namespace Sys2Proof.Machine

/-- A field as the map lists it: highest and lowest bit, its access code where it is not its register's, name, enumerations. -/
structure VField where
  msb : Nat
  lsb : Nat
  acc : Option Acc
  name : String
  enums : List (Nat × String)
deriving DecidableEq, Repr

/-- A register, or an array of `n` registers `stride` bytes apart that share their fields: offset, width, name. The elements of
an array carry its name with their index. -/
structure VReg where
  off : Nat
  n : Nat
  stride : Nat
  width : Nat
  name : String
  fields : List VField
deriving DecidableEq, Repr

/-- R78: the header registers of every block type (R36). -/
def vuyHeader : List VReg := [
  ⟨0x000, 1, 4, 32, "PAGE_ID", [⟨31, 24, some .ro, "TYPE", [(1, "LEG"), (2, "GANG"), (3, "FRAME"), (4, "AXIS"), (5, "CONV"), (6, "FB"), (7, "SLICE"), (8, "DDIE"), (16, "TOP"), (17, "CLK"), (18, "PWR"), (19, "FLT"), (20, "AUTH"), (21, "ARB"), (22, "NV"), (23, "BG"), (24, "LINK"), (25, "SPI"), (26, "CAN"), (27, "UART"), (28, "I2C"), (29, "GPIO"), (30, "ADC"), (31, "RES"), (32, "ENG"), (33, "ROST"), (34, "VUY")]⟩, ⟨23, 12, some .ro, "SRC", []⟩, ⟨11, 0, some .ro, "INST", []⟩]⟩,
  ⟨0x004, 1, 4, 32, "PAGE_STAT", [⟨2, 2, some .w1c, "DMN_IGN", []⟩, ⟨1, 1, some .ro, "COAT2", []⟩,
    ⟨0, 0, some .ro, "WET", []⟩]⟩,
  ⟨0x008, 1, 4, 32, "DOMAIN", [⟨6, 0, none, "DMN", []⟩]⟩,
  ⟨0x00C, 1, 4, 32, "COMMIT", [⟨31, 24, some .wo, "TAG", []⟩, ⟨7, 4, some .wo, "WITH", []⟩,
    ⟨1, 1, some .wo, "DISCARD", []⟩, ⟨0, 0, some .wo, "GO", []⟩]⟩,
  ⟨0x010, 1, 4, 32, "COMMIT_STAT", [⟨31, 24, some .ro, "TAG", []⟩, ⟨15, 8, some .ro, "COUNT", []⟩,
    ⟨7, 7, some .w1c, "SLIP", []⟩, ⟨6, 6, some .w1c, "DISC_IGN", []⟩, ⟨5, 5, some .w1c, "GO_IGN", []⟩,
    ⟨3, 0, some .ro, "STATE", [(0, "IDLE"), (1, "QUEUED"), (2, "VALIDATING"), (3, "ARMED"), (4, "SET"), (5, "REFUSED")]⟩]⟩,
  ⟨0x014, 1, 4, 32, "COMMIT_ERR", [
    ⟨31, 28, some .ro, "CODE", [(0, "NONE"), (1, "CLAIM"), (2, "PROTECTED"), (3, "FRAME"), (4, "RANGE"), (5, "BUDGET"), (6, "BUSY")]⟩,
    ⟨27, 24, some .ro, "RKIND", [(1, "LEG"), (2, "FRAME"), (3, "SLICE"), (4, "RESULT"), (5, "PIN"), (6, "TIMER"), (7, "CONTEXT"), (8, "FEEDBACK")]⟩, ⟨23, 16, some .ro, "RINDEX", []⟩, ⟨11, 0, some .ro, "OWNER", []⟩]⟩,
  ⟨0x018, 1, 4, 32, "COMMIT_ERR_AT", [⟨31, 20, none, "SRC", []⟩, ⟨11, 0, none, "OFFSET", []⟩]⟩,
  ⟨0x01C, 1, 4, 32, "CAST", [⟨1, 1, none, "DOMAIN", []⟩, ⟨0, 0, none, "GO", []⟩]⟩,
  ⟨0x020, 1, 4, 32, "CAST_STAT", [⟨31, 16, none, "SEQ", []⟩, ⟨0, 0, none, "BUSY", []⟩]⟩,
  ⟨0x024, 1, 4, 32, "CAST_STAMP_LO", [⟨31, 0, none, "CAST_STAMP_LO", []⟩]⟩,
  ⟨0x028, 1, 4, 32, "CAST_STAMP_HI", [⟨31, 0, none, "CAST_STAMP_HI", []⟩]⟩,
  ⟨0x02C, 1, 4, 32, "PROG", [⟨31, 31, some .ro, "RUN", []⟩, ⟨30, 30, some .ro, "DONE", []⟩, ⟨29, 29, some .ro, "FAIL", []⟩,
    ⟨28, 28, some .ro, "UNIT", [(0, "PERCENT"), (1, "POSITION")]⟩, ⟨23, 0, some .ro, "VALUE", []⟩]⟩,
  ⟨0x030, 1, 4, 32, "PROG_TOTAL", [⟨23, 0, none, "TOTAL", []⟩]⟩]

def vuyTop : List VReg := [
  ⟨0x040, 1, 4, 32, "ID", [⟨31, 24, none, "GRADE", []⟩, ⟨23, 16, none, "STEPPING", []⟩, ⟨15, 8, none, "STEPNUM", []⟩,
    ⟨7, 0, none, "PART", []⟩]⟩,
  ⟨0x044, 1, 4, 32, "MODE", [⟨31, 16, none, "CHANGES", []⟩, ⟨7, 4, none, "PREV", [(0, "POWER_UP"), (1, "BOOT"), (2, "CONFIGURE"), (3, "STANDBY"), (4, "RUN"), (5, "LIMP"), (6, "PARK"), (7, "SAFE"), (8, "SLEEP"), (9, "TEST"), (10, "HALT"), (11, "UPDATE")]⟩, ⟨3, 0, none, "MODE", [(0, "POWER_UP"), (1, "BOOT"), (2, "CONFIGURE"), (3, "STANDBY"), (4, "RUN"), (5, "LIMP"), (6, "PARK"), (7, "SAFE"), (8, "SLEEP"), (9, "TEST"), (10, "HALT"), (11, "UPDATE")]⟩]⟩,
  ⟨0x048, 1, 4, 32, "MODE_REQ", [⟨3, 0, none, "TARGET", [(0, "POWER_UP"), (1, "BOOT"), (2, "CONFIGURE"), (3, "STANDBY"), (4, "RUN"), (5, "LIMP"), (6, "PARK"), (7, "SAFE"), (8, "SLEEP"), (9, "TEST"), (10, "HALT"), (11, "UPDATE")]⟩]⟩,
  ⟨0x04C, 1, 4, 32, "MODE_STAT", [⟨31, 31, none, "VALID", []⟩, ⟨19, 16, none, "TARGET", [(0, "POWER_UP"), (1, "BOOT"), (2, "CONFIGURE"), (3, "STANDBY"), (4, "RUN"), (5, "LIMP"), (6, "PARK"), (7, "SAFE"), (8, "SLEEP"), (9, "TEST"), (10, "HALT"), (11, "UPDATE")]⟩,
    ⟨11, 8, none, "REASON", [(1, "TRANSITION"), (2, "SIDE"), (3, "BUSY"), (4, "NOTREADY"), (5, "SUPERSEDED"), (6, "BUSY_REQ")]⟩]⟩,
  ⟨0x050, 1, 4, 32, "RST", [⟨31, 24, none, "KEY", []⟩, ⟨1, 1, none, "HEWER", []⟩, ⟨0, 0, none, "DEVICE", []⟩]⟩,
  ⟨0x054, 1, 4, 32, "RSTCAUSE", [⟨6, 0, none, "RSTCAUSE", []⟩]⟩,
  ⟨0x058, 1, 4, 32, "HCTL", [⟨3, 0, none, "HCTL", []⟩]⟩,
  ⟨0x05C, 1, 4, 32, "HVEC", [⟨31, 0, none, "HVEC", []⟩]⟩,
  ⟨0x060, 1, 4, 32, "DEVTICK_LO", [⟨31, 0, none, "DEVTICK_LO", []⟩]⟩,
  ⟨0x064, 1, 4, 32, "DEVTICK_HI", [⟨31, 0, none, "DEVTICK_HI", []⟩]⟩,
  ⟨0x068, 1, 4, 32, "EVT", [⟨2, 2, none, "CFG_IGN", []⟩, ⟨1, 1, none, "MODE_REFUSED", []⟩, ⟨0, 0, none, "MODE_CHANGED", []⟩]⟩,
  ⟨0x06C, 1, 4, 32, "IEN", [⟨2, 2, none, "CFG_IGN", []⟩, ⟨1, 1, none, "MODE_REFUSED", []⟩, ⟨0, 0, none, "MODE_CHANGED", []⟩]⟩,
  ⟨0x070, 1, 4, 32, "HWDT0", [⟨31, 31, some .w1s, "EN", []⟩, ⟨27, 16, none, "WIN_HI", []⟩, ⟨11, 0, none, "WIN_LO", []⟩]⟩,
  ⟨0x074, 1, 4, 32, "HKICK0", [⟨7, 0, none, "KEY", []⟩]⟩,
  ⟨0x078, 1, 4, 32, "HWDT1", [⟨31, 31, some .w1s, "EN", []⟩, ⟨27, 16, none, "WIN_HI", []⟩, ⟨11, 0, none, "WIN_LO", []⟩]⟩,
  ⟨0x07C, 1, 4, 32, "HKICK1", [⟨7, 0, none, "KEY", []⟩]⟩,
  ⟨0x080, 1, 4, 32, "HWDT2", [⟨31, 31, some .w1s, "EN", []⟩, ⟨27, 16, none, "WIN_HI", []⟩, ⟨11, 0, none, "WIN_LO", []⟩]⟩,
  ⟨0x084, 1, 4, 32, "HKICK2", [⟨7, 0, none, "KEY", []⟩]⟩,
  ⟨0x088, 1, 4, 32, "HWDT3", [⟨31, 31, some .w1s, "EN", []⟩, ⟨27, 16, none, "WIN_HI", []⟩, ⟨11, 0, none, "WIN_LO", []⟩]⟩,
  ⟨0x08C, 1, 4, 32, "HKICK3", [⟨7, 0, none, "KEY", []⟩]⟩]

def vuyClk : List VReg := [
  ⟨0x040, 1, 4, 32, "CFG", [⟨31, 31, none, "SPREAD_EN", []⟩, ⟨3, 0, none, "DEPTH", []⟩]⟩,
  ⟨0x044, 1, 4, 32, "STAT", [⟨31, 31, none, "LOCKED", []⟩, ⟨30, 30, none, "SPREADING", []⟩,
    ⟨29, 28, none, "MON", [(0, "OK"), (1, "STOP"), (2, "FREQ")]⟩, ⟨15, 0, none, "CLK_PER", []⟩]⟩,
  ⟨0x048, 1, 4, 32, "EVT", [⟨2, 2, none, "CFG_IGN", []⟩, ⟨1, 1, none, "RELOCK", []⟩, ⟨0, 0, none, "LOSS", []⟩]⟩,
  ⟨0x04C, 1, 4, 32, "IEN", [⟨2, 2, none, "CFG_IGN", []⟩, ⟨1, 1, none, "RELOCK", []⟩, ⟨0, 0, none, "LOSS", []⟩]⟩,
  ⟨0x050, 1, 4, 32, "LOSSCNT", [⟨15, 0, none, "LOSSCNT", []⟩]⟩]

def vuyPwr : List VReg := [
  ⟨0x040, 1, 4, 32, "RAIL", [⟨31, 31, none, "VKA_OK", []⟩, ⟨10, 8, none, "ABOVE", []⟩, ⟨2, 0, none, "WITHIN", []⟩]⟩,
  ⟨0x044, 1, 4, 32, "TEMP", [⟨7, 0, none, "TEMP", []⟩]⟩,
  ⟨0x048, 1, 4, 32, "TEMPCFG", [⟨7, 0, none, "WARN", []⟩]⟩,
  ⟨0x04C, 1, 4, 32, "EVT", [⟨3, 3, none, "TEMP_SHUT", []⟩, ⟨2, 2, none, "TEMP_WARN", []⟩, ⟨1, 1, none, "RAIL_OV", []⟩,
    ⟨0, 0, none, "RAIL_UV", []⟩]⟩,
  ⟨0x050, 1, 4, 32, "IEN", [⟨3, 3, none, "TEMP_SHUT", []⟩, ⟨2, 2, none, "TEMP_WARN", []⟩, ⟨1, 1, none, "RAIL_OV", []⟩,
    ⟨0, 0, none, "RAIL_UV", []⟩]⟩,
  ⟨0x054, 1, 4, 32, "WAKE_EN", [⟨17, 16, none, "POL", []⟩, ⟨8, 0, none, "ENABLES", []⟩]⟩,
  ⟨0x058, 1, 4, 32, "WAKE_CAUSE", [⟨27, 24, none, "FIRST", []⟩, ⟨8, 0, none, "EVENTS", []⟩]⟩,
  ⟨0x05C, 1, 4, 32, "PVW", [⟨31, 24, none, "CNT", []⟩, ⟨6, 0, none, "TH", []⟩]⟩,
  ⟨0x060, 1, 4, 32, "CANW", [⟨7, 0, none, "FILT", []⟩]⟩,
  ⟨0x064, 1, 4, 32, "RTC_LO", [⟨31, 0, none, "RTC_LO", []⟩]⟩,
  ⟨0x068, 1, 4, 32, "RTC_HI", [⟨31, 0, none, "RTC_HI", []⟩]⟩,
  ⟨0x06C, 1, 4, 32, "ALARM_LO", [⟨31, 0, none, "ALARM_LO", []⟩]⟩,
  ⟨0x070, 1, 4, 32, "ALARM_HI", [⟨31, 0, none, "ALARM_HI", []⟩]⟩,
  ⟨0x080, 8, 4, 32, "RET", [⟨31, 0, none, "RET", []⟩]⟩]

def vuyFlt : List VReg := [
  ⟨0x040, 1, 4, 32, "RETRY", [⟨27, 24, none, "RETRY_MAX", []⟩, ⟨23, 16, none, "RETRY_DLY", []⟩,
    ⟨15, 0, none, "RETRY_WINDOW", []⟩]⟩,
  ⟨0x044, 1, 4, 32, "ESC", [⟨15, 0, none, "ESC_WIN", []⟩]⟩,
  ⟨0x048, 1, 4, 32, "QUIET", [⟨31, 16, none, "Q34", []⟩, ⟨15, 0, none, "Q2", []⟩]⟩,
  ⟨0x04C, 1, 4, 32, "RECOVER", [
    ⟨26, 24, none, "SCOPE", [(1, "GANG"), (2, "AXIS"), (3, "CONV"), (4, "DIE"), (5, "DEVICE")]⟩,
    ⟨21, 16, none, "INDEX", []⟩, ⟨1, 1, none, "CANCEL", []⟩, ⟨0, 0, none, "GO", []⟩]⟩,
  ⟨0x050, 1, 4, 32, "REC_STAT", [⟨31, 28, none, "STATE", [(0, "IDLE"), (1, "WAIT"), (2, "DONE"), (3, "REFUSED")]⟩,
    ⟨26, 24, none, "SCOPE", [(1, "GANG"), (2, "AXIS"), (3, "CONV"), (4, "DIE"), (5, "DEVICE")]⟩, ⟨21, 16, none, "INDEX", []⟩,
    ⟨11, 8, none, "REASON", [(0, "NONE"), (1, "SCOPE"), (2, "AUTH"), (3, "CAUSE"), (4, "MODE"), (5, "SUPERSEDED"), (6, "CANCELLED")]⟩]⟩,
  ⟨0x054, 1, 4, 32, "REC_LEFT", [⟨15, 0, none, "REC_LEFT", []⟩]⟩,
  ⟨0x058, 1, 4, 32, "RECCNT", [⟨15, 0, none, "RECCNT", []⟩]⟩,
  ⟨0x05C, 1, 4, 32, "STAT", [⟨31, 29, none, "LEVEL", []⟩, ⟨28, 28, none, "HARDSAFE", []⟩, ⟨27, 24, none, "DIES", []⟩]⟩,
  ⟨0x060, 1, 4, 32, "EVT", [⟨15, 15, none, "CFG_IGN", []⟩, ⟨14, 14, none, "JRNL_FAIL", []⟩, ⟨13, 13, none, "CLASS", []⟩,
    ⟨12, 12, none, "INJ_ABORT", []⟩, ⟨11, 11, none, "INJ_DONE", []⟩, ⟨10, 10, none, "REC_IGN", []⟩,
    ⟨9, 9, none, "REC_REFUSED", []⟩, ⟨8, 8, none, "REC_DONE", []⟩, ⟨7, 7, none, "TALLY_OVF", []⟩,
    ⟨6, 6, none, "RETIRED", []⟩, ⟨5, 5, none, "ESCALATED", []⟩, ⟨4, 4, none, "L4", []⟩, ⟨3, 3, none, "L3", []⟩,
    ⟨2, 2, none, "L2", []⟩, ⟨1, 1, none, "L1", []⟩, ⟨0, 0, none, "L0", []⟩]⟩,
  ⟨0x064, 1, 4, 32, "IEN", [⟨15, 15, none, "CFG_IGN", []⟩, ⟨14, 14, none, "JRNL_FAIL", []⟩, ⟨13, 13, none, "CLASS", []⟩,
    ⟨12, 12, none, "INJ_ABORT", []⟩, ⟨11, 11, none, "INJ_DONE", []⟩, ⟨10, 10, none, "REC_IGN", []⟩,
    ⟨9, 9, none, "REC_REFUSED", []⟩, ⟨8, 8, none, "REC_DONE", []⟩, ⟨7, 7, none, "TALLY_OVF", []⟩,
    ⟨6, 6, none, "RETIRED", []⟩, ⟨5, 5, none, "ESCALATED", []⟩, ⟨4, 4, none, "L4", []⟩, ⟨3, 3, none, "L3", []⟩,
    ⟨2, 2, none, "L2", []⟩, ⟨1, 1, none, "L1", []⟩, ⟨0, 0, none, "L0", []⟩]⟩,
  ⟨0x068, 1, 4, 32, "CMD", [⟨1, 1, none, "CLR_TALLY", []⟩, ⟨0, 0, none, "CLR_FIRST", []⟩]⟩,
  ⟨0x06C, 1, 4, 32, "ECCADDR", [⟨31, 0, none, "ECCADDR", []⟩]⟩,
  ⟨0x070, 1, 4, 32, "FIRST_LO", [⟨31, 0, none, "FIRST_LO", []⟩]⟩,
  ⟨0x074, 1, 4, 32, "FIRST_HI", [⟨31, 29, none, "LEVEL", []⟩, ⟨28, 28, none, "ESC", []⟩, ⟨27, 27, none, "INJ", []⟩,
    ⟨26, 26, none, "INJ_ACTIVE", []⟩, ⟨25, 0, none, "USEC", []⟩]⟩,
  ⟨0x078, 1, 4, 32, "FIRST_TICK_LO", [⟨31, 0, none, "FIRST_TICK_LO", []⟩]⟩,
  ⟨0x07C, 1, 4, 32, "FIRST_TICK_HI", [⟨31, 0, none, "FIRST_TICK_HI", []⟩]⟩,
  ⟨0x080, 1, 4, 32, "TALLY_LO", [⟨31, 0, none, "TALLY_LO", []⟩]⟩,
  ⟨0x084, 1, 4, 32, "TALLY_HI", [⟨31, 29, none, "LEVEL", []⟩, ⟨28, 28, none, "ESC", []⟩, ⟨27, 27, none, "INJ", []⟩,
    ⟨26, 26, none, "INJ_ACTIVE", []⟩, ⟨25, 0, none, "USEC", []⟩]⟩,
  ⟨0x088, 1, 4, 32, "TSTAT", [⟨31, 16, none, "OVF", []⟩, ⟨6, 0, none, "DEPTH", []⟩]⟩,
  ⟨0x08C, 1, 4, 32, "INJ_CTL", [
    ⟨26, 24, none, "TARGET", [(0, "HEWER_SRAM"), (1, "DEPUTY_SRAM"), (2, "MRAM"), (3, "CONTEXT_RAM"), (4, "STAGE_RAM")]⟩,
    ⟨17, 16, none, "BITS", [(1, "ONE"), (2, "TWO")]⟩, ⟨0, 0, none, "ARM", []⟩]⟩,
  ⟨0x090, 1, 4, 32, "INJ_ADDR", [⟨31, 0, none, "INJ_ADDR", []⟩]⟩,
  ⟨0x094, 1, 4, 32, "INJ_TO", [⟨15, 0, none, "INJ_TO", []⟩]⟩,
  ⟨0x098, 1, 4, 32, "INJ_STAT", [
    ⟨31, 28, none, "STATE", [(0, "IDLE"), (1, "ARMED"), (2, "DONE"), (3, "ABORTED"), (4, "TIMEOUT"), (5, "REFUSED")]⟩,
    ⟨19, 14, none, "KIND", []⟩, ⟨7, 0, none, "SYN", []⟩]⟩,
  ⟨0x09C, 1, 4, 32, "INJCNT", [⟨15, 0, none, "INJCNT", []⟩]⟩,
  ⟨0x100, 32, 4, 32, "CLSCFG", [⟨8, 8, none, "IRQ", []⟩, ⟨2, 0, none, "LVL_MIN", []⟩]⟩,
  ⟨0x180, 32, 4, 32, "CLSCNT", [⟨15, 0, none, "CLSCNT", []⟩]⟩]

def vuyAuth : List VReg := [
  ⟨0x040, 1, 4, 32, "STATE", [⟨31, 28, none, "PHASE", [(0, "STEADY"), (1, "REQ_PEND"), (2, "SWITCHING")]⟩,
    ⟨23, 20, none, "ACK", []⟩, ⟨17, 17, none, "DCLAIM", []⟩, ⟨16, 16, none, "HCLAIM", []⟩,
    ⟨9, 8, none, "HOLDER", [(0, "NONE"), (1, "HEWER"), (2, "DEPUTY")]⟩, ⟨0, 0, none, "ARMED", []⟩]⟩,
  ⟨0x044, 1, 4, 32, "HCMD", [⟨31, 16, none, "NONCE", []⟩, ⟨1, 1, none, "RELEASE", []⟩, ⟨0, 0, none, "REQUEST", []⟩]⟩,
  ⟨0x048, 1, 4, 32, "DCMD", [⟨31, 16, none, "NONCE", []⟩, ⟨2, 2, none, "DENY", []⟩, ⟨1, 1, none, "TAKE", []⟩,
    ⟨0, 0, none, "GRANT", []⟩]⟩,
  ⟨0x04C, 1, 4, 32, "HBEAT", [⟨31, 0, none, "HBEAT", []⟩]⟩,
  ⟨0x050, 1, 4, 32, "DBEAT", [⟨31, 0, none, "DBEAT", []⟩]⟩,
  ⟨0x054, 1, 4, 32, "BEAT_AGE", [⟨15, 0, none, "BEAT_AGE", []⟩]⟩,
  ⟨0x058, 1, 4, 32, "REQ", [⟨31, 31, none, "VALID", []⟩, ⟨25, 24, none, "CORE", []⟩, ⟨15, 0, none, "NONCE", []⟩]⟩,
  ⟨0x05C, 1, 4, 32, "EVT", [⟨9, 9, none, "WR_IGN", []⟩, ⟨8, 8, none, "BLOCKED", []⟩, ⟨7, 7, none, "CONFLICT", []⟩,
    ⟨6, 6, none, "REQ_TIMEOUT", []⟩, ⟨5, 5, none, "DENIED", []⟩, ⟨4, 4, none, "TAKEN", []⟩, ⟨3, 3, none, "SWITCHED", []⟩,
    ⟨2, 2, none, "REQ_LOST", []⟩, ⟨1, 1, none, "REQUEST", []⟩, ⟨0, 0, none, "BEAT_LATE", []⟩]⟩,
  ⟨0x060, 1, 4, 32, "IEN", [⟨9, 9, none, "WR_IGN", []⟩, ⟨8, 8, none, "BLOCKED", []⟩, ⟨7, 7, none, "CONFLICT", []⟩,
    ⟨6, 6, none, "REQ_TIMEOUT", []⟩, ⟨5, 5, none, "DENIED", []⟩, ⟨4, 4, none, "TAKEN", []⟩, ⟨3, 3, none, "SWITCHED", []⟩,
    ⟨2, 2, none, "REQ_LOST", []⟩, ⟨1, 1, none, "REQUEST", []⟩, ⟨0, 0, none, "BEAT_LATE", []⟩]⟩,
  ⟨0x064, 1, 4, 32, "CONFLICT", [⟨31, 31, none, "VALID", []⟩, ⟨9, 8, none, "HOLDER", [(0, "NONE"), (1, "HEWER"), (2, "DEPUTY")]⟩, ⟨1, 0, none, "CAUSE", [(0, "BOTH"), (1, "NEITHER"), (2, "STALE")]⟩]⟩,
  ⟨0x068, 1, 4, 32, "BLKLOG", [⟨31, 31, none, "VALID", []⟩, ⟨20, 16, none, "REQUESTER", []⟩, ⟨11, 0, none, "SRC", []⟩]⟩,
  ⟨0x06C, 1, 4, 32, "COUNT", [⟨31, 16, none, "HANDOVERS", []⟩, ⟨15, 0, none, "BLOCKED", []⟩]⟩,
  ⟨0x070, 1, 4, 32, "DWDT", [⟨31, 31, some .w1s, "EN", []⟩, ⟨27, 16, none, "WIN_HI", []⟩, ⟨11, 0, none, "WIN_LO", []⟩]⟩,
  ⟨0x074, 1, 4, 32, "DKICK", [⟨7, 0, none, "KEY", []⟩]⟩,
  ⟨0x078, 1, 4, 32, "DBG", [⟨0, 0, none, "LOCK", []⟩]⟩]

def vuyArb : List VReg := [
  ⟨0x040, 1, 4, 32, "CTL", [⟨31, 31, none, "FREEZE", []⟩, ⟨15, 0, none, "RES_AGE", []⟩]⟩,
  ⟨0x044, 1, 4, 32, "STARVE", [⟨15, 0, none, "STARVE_LIM", []⟩]⟩,
  ⟨0x048, 1, 4, 32, "SBMASK", [⟨16, 0, none, "SBMASK", []⟩]⟩,
  ⟨0x04C, 1, 4, 32, "PRIO0", [⟨30, 28, none, "R7", []⟩, ⟨26, 24, none, "R6", []⟩, ⟨22, 20, none, "R5", []⟩,
    ⟨18, 16, none, "R4", []⟩, ⟨14, 12, none, "R3", []⟩, ⟨10, 8, none, "R2", []⟩, ⟨6, 4, none, "R1", []⟩,
    ⟨2, 0, none, "R0", []⟩]⟩,
  ⟨0x050, 1, 4, 32, "PRIO1", [⟨30, 28, none, "R15", []⟩, ⟨26, 24, none, "R14", []⟩, ⟨22, 20, none, "R13", []⟩,
    ⟨18, 16, none, "R12", []⟩, ⟨14, 12, none, "R11", []⟩, ⟨10, 8, none, "R10", []⟩, ⟨6, 4, none, "R9", []⟩,
    ⟨2, 0, none, "R8", []⟩]⟩,
  ⟨0x054, 1, 4, 32, "PRIO2", [⟨2, 0, none, "R16", []⟩]⟩,
  ⟨0x058, 1, 4, 32, "GSTAT", [⟨31, 31, none, "FROZEN", []⟩, ⟨28, 24, none, "HOLDER", [(31, "NONE")]⟩, ⟨20, 16, none, "RESERVED", [(31, "NONE")]⟩]⟩,
  ⟨0x05C, 1, 4, 32, "WAITING", [⟨16, 0, none, "WAITING", []⟩]⟩,
  ⟨0x060, 1, 4, 32, "STARVED", [⟨6, 4, none, "STARVED", []⟩]⟩,
  ⟨0x064, 1, 4, 32, "EVT", [⟨4, 4, none, "WR_IGN", []⟩, ⟨3, 3, none, "DMA_ERR", []⟩, ⟨2, 2, none, "DMA_DONE", []⟩,
    ⟨1, 1, none, "RESERVED", []⟩, ⟨0, 0, none, "STARVED", []⟩]⟩,
  ⟨0x068, 1, 4, 32, "IEN", [⟨4, 4, none, "WR_IGN", []⟩, ⟨3, 3, none, "DMA_ERR", []⟩, ⟨2, 2, none, "DMA_DONE", []⟩,
    ⟨1, 1, none, "RESERVED", []⟩, ⟨0, 0, none, "STARVED", []⟩]⟩,
  ⟨0x06C, 1, 4, 32, "MAXAGE", [⟨31, 27, none, "REQUESTER", []⟩, ⟨15, 0, none, "AGE", []⟩]⟩,
  ⟨0x070, 1, 4, 32, "LONGEST", [⟨31, 27, none, "REQUESTER", []⟩, ⟨23, 0, none, "BEATS", []⟩]⟩,
  ⟨0x100, 1, 4, 32, "DMA0_DESC", [⟨31, 4, none, "DESC", []⟩]⟩,
  ⟨0x104, 1, 4, 32, "DMA0_CTL", [⟨1, 1, none, "ABORT", []⟩, ⟨0, 0, none, "GO", []⟩]⟩,
  ⟨0x108, 1, 4, 32, "DMA0_STAT", [⟨31, 28, none, "STATE", [(0, "IDLE"), (1, "RUN"), (2, "DONE"), (3, "ERROR")]⟩]⟩,
  ⟨0x10C, 1, 4, 32, "DMA0_CUR", [⟨31, 0, none, "DMA_CUR", []⟩]⟩,
  ⟨0x110, 1, 4, 32, "DMA1_DESC", [⟨31, 4, none, "DESC", []⟩]⟩,
  ⟨0x114, 1, 4, 32, "DMA1_CTL", [⟨1, 1, some .wo, "ABORT", []⟩, ⟨0, 0, some .wo, "GO", []⟩]⟩,
  ⟨0x118, 1, 4, 32, "DMA1_STAT", [⟨31, 28, some .ro, "STATE", [(0, "IDLE"), (1, "RUN"), (2, "DONE"), (3, "ERROR")]⟩]⟩,
  ⟨0x11C, 1, 4, 32, "DMA1_CUR", [⟨31, 0, none, "DMA_CUR", []⟩]⟩,
  ⟨0x120, 1, 4, 32, "DMA2_DESC", [⟨31, 4, none, "DESC", []⟩]⟩,
  ⟨0x124, 1, 4, 32, "DMA2_CTL", [⟨1, 1, some .wo, "ABORT", []⟩, ⟨0, 0, some .wo, "GO", []⟩]⟩,
  ⟨0x128, 1, 4, 32, "DMA2_STAT", [⟨31, 28, some .ro, "STATE", [(0, "IDLE"), (1, "RUN"), (2, "DONE"), (3, "ERROR")]⟩]⟩,
  ⟨0x12C, 1, 4, 32, "DMA2_CUR", [⟨31, 0, none, "DMA_CUR", []⟩]⟩,
  ⟨0x130, 1, 4, 32, "DMA3_DESC", [⟨31, 4, none, "DESC", []⟩]⟩,
  ⟨0x134, 1, 4, 32, "DMA3_CTL", [⟨1, 1, some .wo, "ABORT", []⟩, ⟨0, 0, some .wo, "GO", []⟩]⟩,
  ⟨0x138, 1, 4, 32, "DMA3_STAT", [⟨31, 28, some .ro, "STATE", [(0, "IDLE"), (1, "RUN"), (2, "DONE"), (3, "ERROR")]⟩]⟩,
  ⟨0x13C, 1, 4, 32, "DMA3_CUR", [⟨31, 0, none, "DMA_CUR", []⟩]⟩,
  ⟨0x140, 1, 4, 32, "DMA4_DESC", [⟨31, 4, none, "DESC", []⟩]⟩,
  ⟨0x144, 1, 4, 32, "DMA4_CTL", [⟨1, 1, some .wo, "ABORT", []⟩, ⟨0, 0, some .wo, "GO", []⟩]⟩,
  ⟨0x148, 1, 4, 32, "DMA4_STAT", [⟨31, 28, some .ro, "STATE", [(0, "IDLE"), (1, "RUN"), (2, "DONE"), (3, "ERROR")]⟩]⟩,
  ⟨0x14C, 1, 4, 32, "DMA4_CUR", [⟨31, 0, none, "DMA_CUR", []⟩]⟩,
  ⟨0x150, 1, 4, 32, "DMA5_DESC", [⟨31, 4, none, "DESC", []⟩]⟩,
  ⟨0x154, 1, 4, 32, "DMA5_CTL", [⟨1, 1, some .wo, "ABORT", []⟩, ⟨0, 0, some .wo, "GO", []⟩]⟩,
  ⟨0x158, 1, 4, 32, "DMA5_STAT", [⟨31, 28, some .ro, "STATE", [(0, "IDLE"), (1, "RUN"), (2, "DONE"), (3, "ERROR")]⟩]⟩,
  ⟨0x15C, 1, 4, 32, "DMA5_CUR", [⟨31, 0, none, "DMA_CUR", []⟩]⟩,
  ⟨0x160, 1, 4, 32, "DMA6_DESC", [⟨31, 4, none, "DESC", []⟩]⟩,
  ⟨0x164, 1, 4, 32, "DMA6_CTL", [⟨1, 1, some .wo, "ABORT", []⟩, ⟨0, 0, some .wo, "GO", []⟩]⟩,
  ⟨0x168, 1, 4, 32, "DMA6_STAT", [⟨31, 28, some .ro, "STATE", [(0, "IDLE"), (1, "RUN"), (2, "DONE"), (3, "ERROR")]⟩]⟩,
  ⟨0x16C, 1, 4, 32, "DMA6_CUR", [⟨31, 0, none, "DMA_CUR", []⟩]⟩,
  ⟨0x170, 1, 4, 32, "DMA7_DESC", [⟨31, 4, none, "DESC", []⟩]⟩,
  ⟨0x174, 1, 4, 32, "DMA7_CTL", [⟨1, 1, some .wo, "ABORT", []⟩, ⟨0, 0, some .wo, "GO", []⟩]⟩,
  ⟨0x178, 1, 4, 32, "DMA7_STAT", [⟨31, 28, some .ro, "STATE", [(0, "IDLE"), (1, "RUN"), (2, "DONE"), (3, "ERROR")]⟩]⟩,
  ⟨0x17C, 1, 4, 32, "DMA7_CUR", [⟨31, 0, none, "DMA_CUR", []⟩]⟩]

def vuyNv : List VReg := [
  ⟨0x040, 1, 4, 32, "NVSK", [⟨31, 31, none, "EN_M", []⟩, ⟨7, 0, none, "GAP_M", []⟩]⟩,
  ⟨0x044, 1, 4, 32, "NVSK_POS", [⟨31, 0, none, "NVSK_POS", []⟩]⟩,
  ⟨0x048, 1, 4, 32, "NVSK_CNT", [⟨31, 16, none, "CE", []⟩, ⟨15, 0, none, "UE", []⟩]⟩,
  ⟨0x04C, 1, 4, 32, "NVSK_PASS", [⟨15, 0, none, "MRAM", []⟩]⟩,
  ⟨0x050, 1, 4, 32, "JSTAT", [⟨31, 31, none, "READY", []⟩, ⟨30, 30, none, "RECLAIM", []⟩, ⟨11, 0, none, "HEAD", []⟩]⟩,
  ⟨0x054, 1, 4, 32, "JCMD", [⟨0, 0, none, "FORMAT", []⟩]⟩,
  ⟨0x058, 1, 4, 32, "JCNT", [⟨31, 16, none, "APPENDS", []⟩, ⟨15, 0, none, "COPIES", []⟩]⟩,
  ⟨0x060, 8, 4, 32, "JMAP", [⟨31, 0, none, "JMAP", []⟩]⟩,
  ⟨0x080, 1, 4, 32, "EVT", [⟨2, 2, none, "CMD_IGN", []⟩, ⟨1, 1, none, "RECLAIM", []⟩, ⟨0, 0, none, "SKWRAP", []⟩]⟩,
  ⟨0x084, 1, 4, 32, "IEN", [⟨2, 2, none, "CMD_IGN", []⟩, ⟨1, 1, none, "RECLAIM", []⟩, ⟨0, 0, none, "SKWRAP", []⟩]⟩,
  ⟨0x100, 1, 4, 32, "UPD_CTL", [⟨1, 1, none, "VERIFY", []⟩, ⟨0, 0, none, "ERASE", []⟩]⟩,
  ⟨0x104, 1, 4, 32, "UPD_STAT", [⟨31, 30, none, "STATE", [(0, "IDLE"), (1, "RUN"), (2, "DONE"), (3, "FAIL")]⟩,
    ⟨29, 29, none, "ACTIVE", [(0, "A"), (1, "B")]⟩, ⟨28, 28, none, "BOOTED", [(0, "NONE"), (1, "BOOTED")]⟩, ⟨1, 1, none, "VALID_B", []⟩, ⟨0, 0, none, "VALID_A", []⟩]⟩,
  ⟨0x108, 1, 4, 32, "UPD_PROG", [⟨31, 31, none, "RUN", []⟩, ⟨30, 30, none, "DONE", []⟩, ⟨29, 29, none, "FAIL", []⟩,
    ⟨28, 28, none, "UNIT", [(0, "PERCENT"), (1, "POSITION")]⟩, ⟨23, 0, none, "VALUE", []⟩]⟩,
  ⟨0x10C, 1, 4, 32, "UPD_EVT", [⟨1, 1, none, "DONE", []⟩, ⟨0, 0, none, "WR_IGN", []⟩]⟩]

def vuyBg : List VReg := [
  ⟨0x040, 1, 4, 32, "SKCFG", [⟨31, 31, none, "EN_S", []⟩, ⟨30, 30, none, "EN_D", []⟩, ⟨7, 0, none, "GAP_S", []⟩]⟩,
  ⟨0x044, 1, 4, 32, "SKPOS_S", [⟨31, 0, none, "SKPOS_S", []⟩]⟩,
  ⟨0x048, 1, 4, 32, "SKPOS_D", [⟨31, 0, none, "SKPOS_D", []⟩]⟩,
  ⟨0x04C, 1, 4, 32, "SKPASS", [⟨31, 16, none, "S", []⟩, ⟨15, 0, none, "D", []⟩]⟩,
  ⟨0x050, 1, 4, 32, "SKCNT", [⟨31, 16, none, "CE", []⟩, ⟨15, 0, none, "UE", []⟩]⟩,
  ⟨0x054, 1, 4, 32, "TCFG", [⟨31, 31, none, "EN", []⟩, ⟨23, 16, none, "MASK", []⟩, ⟨15, 0, none, "TPERIOD", []⟩]⟩,
  ⟨0x058, 1, 4, 32, "TIN0", [⟨29, 24, none, "TIN3", []⟩, ⟨21, 16, none, "TIN2", []⟩, ⟨13, 8, none, "TIN1", []⟩,
    ⟨5, 0, none, "TIN0", []⟩]⟩,
  ⟨0x05C, 1, 4, 32, "TIN1", [⟨29, 24, none, "TIN7", []⟩, ⟨21, 16, none, "TIN6", []⟩, ⟨13, 8, none, "TIN5", []⟩,
    ⟨5, 0, none, "TIN4", []⟩]⟩,
  ⟨0x060, 1, 4, 32, "TBASE", [⟨31, 0, none, "TBASE", []⟩]⟩,
  ⟨0x064, 1, 4, 32, "TLEN", [⟨15, 0, none, "TLEN", []⟩]⟩,
  ⟨0x068, 1, 4, 32, "TSEQ", [⟨15, 0, none, "TSEQ", []⟩]⟩,
  ⟨0x06C, 1, 4, 32, "DCFG", [⟨31, 31, none, "EN", []⟩, ⟨29, 24, none, "C", []⟩, ⟨21, 16, none, "B", []⟩,
    ⟨15, 0, none, "DPERIOD", []⟩]⟩,
  ⟨0x070, 1, 4, 32, "DSETTLE", [⟨15, 0, none, "DSETTLE", []⟩]⟩,
  ⟨0x074, 1, 4, 32, "DRA", [⟨31, 16, none, "RA", []⟩, ⟨15, 0, none, "RS", []⟩]⟩,
  ⟨0x078, 1, 4, 32, "DK", [⟨31, 16, none, "KD", []⟩, ⟨15, 0, none, "KB", []⟩]⟩,
  ⟨0x07C, 1, 4, 32, "DLVL", [⟨31, 16, none, "RWARN", []⟩, ⟨15, 0, none, "RLOW", []⟩]⟩,
  ⟨0x080, 1, 4, 32, "DRES", [⟨31, 31, none, "VALID", []⟩, ⟨15, 0, none, "RISO", []⟩]⟩,
  ⟨0x084, 1, 4, 32, "DSTAT", [⟨29, 28, none, "STEP", [(0, "IDLE"), (1, "OPEN"), (2, "CLOSED")]⟩, ⟨27, 27, none, "SW", [(1, "CLOSED")]⟩,
    ⟨15, 0, none, "N", []⟩]⟩,
  ⟨0x088, 1, 4, 32, "EVT", [⟨4, 4, none, "CFG_IGN", []⟩, ⟨3, 3, none, "DAMP_ABANDON", []⟩, ⟨2, 2, none, "DAMP", []⟩,
    ⟨1, 1, none, "TREC", []⟩, ⟨0, 0, none, "SKWRAP", []⟩]⟩,
  ⟨0x08C, 1, 4, 32, "IEN", [⟨4, 4, none, "CFG_IGN", []⟩, ⟨3, 3, none, "DAMP_ABANDON", []⟩, ⟨2, 2, none, "DAMP", []⟩,
    ⟨1, 1, none, "TREC", []⟩, ⟨0, 0, none, "SKWRAP", []⟩]⟩]

def vuyLink : List VReg := [
  ⟨0x040, 1, 4, 32, "CFG", [⟨31, 31, none, "EN_UP", []⟩, ⟨30, 30, none, "EN_A", []⟩, ⟨29, 29, none, "EN_B", []⟩,
    ⟨28, 28, none, "ROOT", []⟩, ⟨13, 0, none, "ID", []⟩]⟩,
  ⟨0x044, 1, 4, 32, "ROUTE_A", [⟨29, 16, none, "HI", []⟩, ⟨13, 0, none, "LO", []⟩]⟩,
  ⟨0x048, 1, 4, 32, "ROUTE_B", [⟨29, 16, none, "HI", []⟩, ⟨13, 0, none, "LO", []⟩]⟩,
  ⟨0x04C, 1, 4, 32, "SYNC", [⟨23, 16, none, "DREQ_DIV", []⟩, ⟨15, 0, none, "SYNC_INT", []⟩]⟩,
  ⟨0x050, 1, 4, 32, "PSTAT", [⟨31, 31, none, "LOCKED", []⟩, ⟨30, 30, none, "ROOT_ACT", []⟩, ⟨27, 24, none, "HOPS", []⟩,
    ⟨11, 8, none, "UP", [(0, "DOWN"), (1, "TRAINING"), (2, "UP")]⟩, ⟨7, 4, none, "DNA", [(0, "DOWN"), (1, "TRAINING"), (2, "UP")]⟩, ⟨3, 0, none, "DNB", [(0, "DOWN"), (1, "TRAINING"), (2, "UP")]⟩]⟩,
  ⟨0x054, 1, 4, 32, "TSERR", [⟨15, 0, none, "TSERR", []⟩]⟩,
  ⟨0x058, 1, 4, 32, "DELAY", [⟨15, 0, none, "DELAY", []⟩]⟩,
  ⟨0x05C, 1, 4, 32, "OFS_LO", [⟨31, 0, none, "OFS_LO", []⟩]⟩,
  ⟨0x060, 1, 4, 32, "OFS_HI", [⟨31, 0, none, "OFS_HI", []⟩]⟩,
  ⟨0x064, 1, 4, 32, "EVT", [⟨6, 6, none, "TX_DONE", []⟩, ⟨5, 5, none, "RX", []⟩, ⟨4, 4, none, "LOCKED", []⟩,
    ⟨3, 3, none, "UNLOCKED", []⟩, ⟨2, 2, none, "PORT_DOWN", []⟩, ⟨1, 1, none, "PORT_UP", []⟩, ⟨0, 0, none, "ERR", []⟩]⟩,
  ⟨0x068, 1, 4, 32, "IEN", [⟨6, 6, none, "TX_DONE", []⟩, ⟨5, 5, none, "RX", []⟩, ⟨4, 4, none, "LOCKED", []⟩,
    ⟨3, 3, none, "UNLOCKED", []⟩, ⟨2, 2, none, "PORT_DOWN", []⟩, ⟨1, 1, none, "PORT_UP", []⟩, ⟨0, 0, none, "ERR", []⟩]⟩,
  ⟨0x06C, 1, 4, 32, "COUNT", [⟨31, 16, none, "RESENDS", []⟩, ⟨15, 0, none, "DROPS", []⟩]⟩,
  ⟨0x070, 1, 4, 32, "ERRLOG", [⟨31, 31, none, "VALID", []⟩, ⟨25, 24, none, "PORT", [(0, "UP"), (1, "DNA"), (2, "DNB")]⟩,
    ⟨19, 16, none, "CAUSE", [(1, "CRC"), (2, "RESEND_LIMIT"), (3, "TTL"), (4, "NO_ROUTE"), (5, "BCAST_TYPE")]⟩,
    ⟨13, 0, none, "SRC", []⟩]⟩,
  ⟨0x074, 1, 4, 32, "TXCTL", [⟨31, 31, none, "GO", []⟩, ⟨30, 30, none, "BARRIER", []⟩, ⟨29, 16, none, "DST", []⟩,
    ⟨15, 15, none, "BCAST", []⟩, ⟨14, 12, none, "TYPE", []⟩, ⟨7, 0, none, "LEN", []⟩]⟩,
  ⟨0x078, 1, 4, 32, "TXSTAT", [⟨31, 30, none, "STATE", [(0, "IDLE"), (1, "BUSY"), (2, "DONE"), (3, "FAIL")]⟩]⟩,
  ⟨0x07C, 1, 4, 32, "RXSTAT", [⟨31, 31, none, "VALID", []⟩, ⟨27, 24, none, "LEVEL", []⟩, ⟨23, 16, none, "LEN", []⟩,
    ⟨15, 14, none, "KIND", [(0, "DATA"), (1, "RESP")]⟩, ⟨13, 0, none, "SRC", []⟩]⟩,
  ⟨0x080, 1, 4, 32, "RXCTL", [⟨0, 0, none, "POP", []⟩]⟩,
  ⟨0x400, 64, 4, 32, "TXBUF", [⟨31, 0, none, "TXBUF", []⟩]⟩,
  ⟨0x500, 64, 4, 32, "RXBUF", [⟨31, 0, none, "RXBUF", []⟩]⟩]

def vuySpi : List VReg := [
  ⟨0x040, 1, 4, 32, "CFG", [⟨15, 0, none, "TMO", []⟩]⟩,
  ⟨0x044, 1, 4, 32, "EVT", [⟨4, 4, none, "BUSY_REJ", []⟩, ⟨3, 3, none, "TIMEOUT", []⟩, ⟨2, 2, none, "FRAME", []⟩,
    ⟨1, 1, none, "ACCESS", []⟩, ⟨0, 0, none, "CRC", []⟩]⟩,
  ⟨0x048, 1, 4, 32, "IEN", [⟨4, 4, none, "BUSY_REJ", []⟩, ⟨3, 3, none, "TIMEOUT", []⟩, ⟨2, 2, none, "FRAME", []⟩,
    ⟨1, 1, none, "ACCESS", []⟩, ⟨0, 0, none, "CRC", []⟩]⟩,
  ⟨0x04C, 1, 4, 32, "COUNT", [⟨31, 16, none, "CRC", []⟩, ⟨15, 0, none, "TIMEOUT", []⟩]⟩,
  ⟨0x050, 1, 4, 32, "ERRLOG", [⟨31, 31, none, "VALID", []⟩, ⟨27, 24, none, "CAUSE", [(1, "CRC"), (2, "ACCESS"), (3, "FRAME"), (5, "COMMAND")]⟩, ⟨20, 16, none, "WORD", []⟩,
    ⟨7, 0, none, "CMD", []⟩]⟩,
  ⟨0x054, 1, 4, 32, "ERRADDR", [⟨31, 0, none, "ERRADDR", []⟩]⟩]

def vuyCanHead : List VReg := [
  ⟨0x040, 1, 4, 32, "MODE", [⟨31, 28, none, "OPMODE", [(0, "OFFLINE"), (1, "ONLINE"), (2, "LISTEN"), (3, "SELFTEST")]⟩,
    ⟨11, 11, none, "ONESHOT", []⟩, ⟨10, 10, none, "AUTO_REJOIN", []⟩, ⟨9, 9, none, "RATE_SW", []⟩, ⟨8, 8, none, "FD_EN", []⟩]⟩,
  ⟨0x044, 1, 4, 32, "ARBTIME", [⟨30, 22, none, "PRESC", []⟩, ⟨21, 14, none, "SEG1", []⟩, ⟨13, 7, none, "SEG2", []⟩,
    ⟨6, 0, none, "JUMP", []⟩]⟩,
  ⟨0x048, 1, 4, 32, "DATATIME", [⟨20, 16, none, "PRESC", []⟩, ⟨12, 8, none, "SEG1", []⟩, ⟨7, 4, none, "SEG2", []⟩,
    ⟨3, 0, none, "JUMP", []⟩]⟩,
  ⟨0x04C, 1, 4, 32, "XDC", [⟨31, 31, none, "EN", []⟩, ⟨7, 0, none, "SSP_OFS", []⟩]⟩,
  ⟨0x050, 1, 4, 32, "STAT", [
    ⟨31, 29, none, "STATE", [(0, "OFFLINE"), (1, "ERROR_ACTIVE"), (2, "ERROR_PASSIVE"), (3, "BUS_OFF")]⟩,
    ⟨26, 24, none, "LASTERR", [(0, "NONE"), (1, "STUFF"), (2, "FORM"), (3, "ACKNOWLEDGEMENT"), (4, "BIT_1"), (5, "BIT_0"), (6, "CRC")]⟩,
    ⟨15, 8, none, "TXERR", []⟩, ⟨7, 0, none, "RXERR", []⟩]⟩,
  ⟨0x054, 1, 4, 32, "EVT", [⟨7, 7, none, "SPREAD", []⟩, ⟨6, 6, none, "BUSOFF", []⟩, ⟨5, 5, none, "PASSIVE", []⟩,
    ⟨4, 4, none, "RX_OVF", []⟩, ⟨3, 3, none, "RX", []⟩, ⟨2, 2, none, "TX_DONE", []⟩, ⟨1, 1, none, "TX_ABORTED", []⟩,
    ⟨0, 0, none, "CFG_IGN", []⟩]⟩,
  ⟨0x058, 1, 4, 32, "IEN", [⟨7, 7, none, "SPREAD", []⟩, ⟨6, 6, none, "BUSOFF", []⟩, ⟨5, 5, none, "PASSIVE", []⟩,
    ⟨4, 4, none, "RX_OVF", []⟩, ⟨3, 3, none, "RX", []⟩, ⟨2, 2, none, "TX_DONE", []⟩, ⟨1, 1, none, "TX_ABORTED", []⟩,
    ⟨0, 0, none, "CFG_IGN", []⟩]⟩,
  ⟨0x05C, 1, 4, 32, "SEND", [⟨15, 0, none, "SEND", []⟩]⟩,
  ⟨0x060, 1, 4, 32, "ABORT", [⟨15, 0, none, "ABORT", []⟩]⟩,
  ⟨0x064, 1, 4, 32, "QUEUED", [⟨15, 0, none, "QUEUED", []⟩]⟩,
  ⟨0x068, 1, 4, 32, "SENT", [⟨15, 0, none, "SENT", []⟩]⟩,
  ⟨0x06C, 1, 4, 32, "RXLEVEL", [⟨5, 0, none, "FIFO", []⟩]⟩,
  ⟨0x070, 1, 4, 32, "RXNEXT", [⟨0, 0, none, "RXNEXT", []⟩]⟩,
  ⟨0x074, 1, 4, 32, "RXTIME_LO", [⟨31, 0, none, "RXTIME_LO", []⟩]⟩,
  ⟨0x078, 1, 4, 32, "RXTIME_HI", [⟨31, 0, none, "RXTIME_HI", []⟩]⟩,
  ⟨0x07C, 1, 4, 32, "COUNT", [⟨31, 16, none, "RX", []⟩, ⟨15, 0, none, "BUSOFF", []⟩]⟩]

/-- An element of R549: W0, W1 and its sixteen data words; a received one names its accepting entry. -/
def vuyElement (base : Nat) (name : String) (rx : Bool) : List VReg :=
  [⟨base, 1, 4, 32, name ++ "_W0", [⟨31, 31, none, "EXT", []⟩, ⟨30, 30, none, "RTR", []⟩, ⟨29, 29, none, "FDF", []⟩,
      ⟨28, 28, none, "BRS", []⟩, ⟨27, 27, none, "ESI", []⟩, ⟨23, 20, none, "DLC", []⟩] ++
      (if rx then [⟨4, 0, none, "ENTRY", []⟩] else [])⟩,
    ⟨base + 4, 1, 4, 32, name ++ "_W1", [⟨28, 0, none, "ID", []⟩]⟩] ++
  (List.range 16).map fun k => ⟨base + 8 + 4 * k, 1, 4, 32, name ++ "_W" ++ toString (k + 2), [⟨31, 0, none, "DATA", []⟩]⟩

/-- R549: the acceptance entries, the mailboxes and the head element after the plain registers. -/
def vuyCan : List VReg :=
  vuyCanHead ++
  ((List.range 32).flatMap fun a => [
    ⟨0x100 + 8 * a, 1, 4, 32, "ACCEPT" ++ toString a ++ "_W0", [⟨31, 31, none, "EN", []⟩, ⟨29, 29, none, "EXT", []⟩,
      ⟨28, 0, none, "CODE", []⟩]⟩,
    ⟨0x104 + 8 * a, 1, 4, 32, "ACCEPT" ++ toString a ++ "_W1", [⟨28, 0, none, "MASK", []⟩]⟩]) ++
  ((List.range 16).flatMap fun b => vuyElement (0x200 + 72 * b) ("MBOX" ++ toString b) false) ++
  vuyElement 0x680 "RXFRAME" true

def vuyUart : List VReg := [
  ⟨0x040, 1, 4, 32, "CFG", [⟨31, 31, none, "EN", []⟩, ⟨29, 28, none, "PARITY", [(0, "NONE"), (1, "EVEN"), (2, "ODD")]⟩,
    ⟨27, 27, none, "STOP2", []⟩, ⟨19, 4, none, "DI", []⟩, ⟨3, 0, none, "DF", []⟩]⟩,
  ⟨0x044, 1, 4, 32, "DATA", [⟨31, 31, none, "VALID", []⟩, ⟨10, 10, none, "PERR", []⟩, ⟨9, 9, none, "FERR", []⟩,
    ⟨7, 0, none, "BYTE", []⟩]⟩,
  ⟨0x048, 1, 4, 32, "STAT", [⟨21, 16, none, "RX", []⟩, ⟨5, 0, none, "TX", []⟩]⟩,
  ⟨0x04C, 1, 4, 32, "EVT", [⟨4, 4, none, "BREAK", []⟩, ⟨3, 3, none, "OVF", []⟩, ⟨2, 2, none, "ERR", []⟩,
    ⟨1, 1, none, "RX", []⟩, ⟨0, 0, none, "TX_EMPTY", []⟩]⟩,
  ⟨0x050, 1, 4, 32, "IEN", [⟨4, 4, none, "BREAK", []⟩, ⟨3, 3, none, "OVF", []⟩, ⟨2, 2, none, "ERR", []⟩,
    ⟨1, 1, none, "RX", []⟩, ⟨0, 0, none, "TX_EMPTY", []⟩]⟩]

def vuyI2c : List VReg := [
  ⟨0x040, 1, 4, 32, "CFG", [⟨31, 31, none, "EN", []⟩, ⟨25, 24, none, "SPEED", [(0, "100_KHZ"), (1, "400_KHZ"), (2, "1_MHZ")]⟩, ⟨23, 23, none, "PEC", []⟩,
    ⟨15, 0, none, "STRETCH_TMO", []⟩]⟩,
  ⟨0x044, 1, 4, 32, "CMD", [⟨31, 31, none, "GO", []⟩, ⟨22, 16, none, "ADDR", []⟩, ⟨13, 8, none, "WLEN", []⟩,
    ⟨5, 0, none, "RLEN", []⟩]⟩,
  ⟨0x048, 1, 4, 32, "STAT", [⟨31, 30, none, "STATE", [(0, "IDLE"), (1, "BUSY"), (2, "DONE"), (3, "ERROR")]⟩,
    ⟨27, 24, none, "CAUSE", [(1, "NACK_ADDR"), (2, "NACK_DATA"), (3, "ARB_LOST"), (4, "STRETCH"), (5, "PEC")]⟩,
    ⟨5, 0, none, "BYTES", []⟩]⟩,
  ⟨0x04C, 1, 4, 32, "EVT", [⟨2, 2, none, "CFG_IGN", []⟩, ⟨1, 1, none, "ERROR", []⟩, ⟨0, 0, none, "DONE", []⟩]⟩,
  ⟨0x050, 1, 4, 32, "IEN", [⟨2, 2, none, "CFG_IGN", []⟩, ⟨1, 1, none, "ERROR", []⟩, ⟨0, 0, none, "DONE", []⟩]⟩,
  ⟨0x080, 8, 4, 32, "WBUF", [⟨31, 0, none, "WBUF", []⟩]⟩,
  ⟨0x0A0, 8, 4, 32, "RBUF", [⟨31, 0, none, "RBUF", []⟩]⟩]

def vuyGpio : List VReg := [
  ⟨0x040, 1, 4, 32, "DIR_LO", [⟨31, 0, none, "DIR_LO", []⟩]⟩,
  ⟨0x044, 1, 4, 32, "DIR_HI", [⟨15, 0, none, "DIR_HI", []⟩]⟩,
  ⟨0x048, 1, 4, 32, "OUT_LO", [⟨31, 0, none, "OUT_LO", []⟩]⟩,
  ⟨0x04C, 1, 4, 32, "OUT_HI", [⟨15, 0, none, "OUT_HI", []⟩]⟩,
  ⟨0x050, 1, 4, 32, "IN_LO", [⟨31, 0, none, "IN_LO", []⟩]⟩,
  ⟨0x054, 1, 4, 32, "IN_HI", [⟨15, 0, none, "IN_HI", []⟩]⟩,
  ⟨0x058, 1, 4, 32, "PUP_LO", [⟨31, 0, none, "PUP_LO", []⟩]⟩,
  ⟨0x05C, 1, 4, 32, "PUP_HI", [⟨15, 0, none, "PUP_HI", []⟩]⟩,
  ⟨0x060, 1, 4, 32, "OWNED_LO", [⟨31, 0, none, "OWNED_LO", []⟩]⟩,
  ⟨0x064, 1, 4, 32, "OWNED_HI", [⟨15, 0, none, "OWNED_HI", []⟩]⟩,
  ⟨0x068, 3, 4, 32, "ECFG", [⟨31, 0, none, "ECFG", []⟩]⟩,
  ⟨0x074, 1, 4, 32, "EVT_LO", [⟨31, 0, none, "EVT_LO", []⟩]⟩,
  ⟨0x078, 1, 4, 32, "EVT_HI", [⟨15, 0, none, "EVT_HI", []⟩]⟩,
  ⟨0x07C, 1, 4, 32, "IEN_LO", [⟨31, 0, none, "IEN_LO", []⟩]⟩,
  ⟨0x080, 1, 4, 32, "IEN_HI", [⟨15, 0, none, "IEN_HI", []⟩]⟩,
  ⟨0x084, 1, 4, 32, "GEVT", [⟨10, 3, none, "TMR", []⟩, ⟨2, 2, none, "TAMPER", []⟩, ⟨1, 1, none, "CFG_IGN", []⟩,
    ⟨0, 0, none, "OUT_IGN", []⟩]⟩,
  ⟨0x088, 1, 4, 32, "GIEN", [⟨10, 3, none, "TMR", []⟩, ⟨2, 2, none, "TAMPER", []⟩, ⟨1, 1, none, "CFG_IGN", []⟩,
    ⟨0, 0, none, "OUT_IGN", []⟩]⟩,
  ⟨0x100, 1, 4, 32, "TMR0_CFG", [⟨31, 31, none, "EN", []⟩, ⟨30, 30, none, "MODE", [(0, "PWM"), (1, "CAPTURE")]⟩,
    ⟨29, 28, none, "EDGE", [(1, "RISING"), (2, "FALLING"), (3, "BOTH")]⟩, ⟨5, 0, none, "LINE", []⟩]⟩,
  ⟨0x104, 1, 4, 32, "TMR0_PERIOD", [⟨31, 0, none, "TMR_PERIOD", []⟩]⟩,
  ⟨0x108, 1, 4, 32, "TMR0_CMP", [⟨31, 0, none, "TMR_CMP", []⟩]⟩,
  ⟨0x10C, 1, 4, 32, "TMR0_CAP", [⟨31, 0, none, "TMR_CAP", []⟩]⟩,
  ⟨0x110, 1, 4, 32, "TMR1_CFG", [⟨31, 31, none, "EN", []⟩, ⟨30, 30, none, "MODE", [(0, "PWM"), (1, "CAPTURE")]⟩,
    ⟨29, 28, none, "EDGE", [(1, "RISING"), (2, "FALLING"), (3, "BOTH")]⟩, ⟨5, 0, none, "LINE", []⟩]⟩,
  ⟨0x114, 1, 4, 32, "TMR1_PERIOD", [⟨31, 0, none, "TMR_PERIOD", []⟩]⟩,
  ⟨0x118, 1, 4, 32, "TMR1_CMP", [⟨31, 0, none, "TMR_CMP", []⟩]⟩,
  ⟨0x11C, 1, 4, 32, "TMR1_CAP", [⟨31, 0, none, "TMR_CAP", []⟩]⟩,
  ⟨0x120, 1, 4, 32, "TMR2_CFG", [⟨31, 31, none, "EN", []⟩, ⟨30, 30, none, "MODE", [(0, "PWM"), (1, "CAPTURE")]⟩,
    ⟨29, 28, none, "EDGE", [(1, "RISING"), (2, "FALLING"), (3, "BOTH")]⟩, ⟨5, 0, none, "LINE", []⟩]⟩,
  ⟨0x124, 1, 4, 32, "TMR2_PERIOD", [⟨31, 0, none, "TMR_PERIOD", []⟩]⟩,
  ⟨0x128, 1, 4, 32, "TMR2_CMP", [⟨31, 0, none, "TMR_CMP", []⟩]⟩,
  ⟨0x12C, 1, 4, 32, "TMR2_CAP", [⟨31, 0, none, "TMR_CAP", []⟩]⟩,
  ⟨0x130, 1, 4, 32, "TMR3_CFG", [⟨31, 31, none, "EN", []⟩, ⟨30, 30, none, "MODE", [(0, "PWM"), (1, "CAPTURE")]⟩,
    ⟨29, 28, none, "EDGE", [(1, "RISING"), (2, "FALLING"), (3, "BOTH")]⟩, ⟨5, 0, none, "LINE", []⟩]⟩,
  ⟨0x134, 1, 4, 32, "TMR3_PERIOD", [⟨31, 0, none, "TMR_PERIOD", []⟩]⟩,
  ⟨0x138, 1, 4, 32, "TMR3_CMP", [⟨31, 0, none, "TMR_CMP", []⟩]⟩,
  ⟨0x13C, 1, 4, 32, "TMR3_CAP", [⟨31, 0, none, "TMR_CAP", []⟩]⟩,
  ⟨0x140, 1, 4, 32, "TMR4_CFG", [⟨31, 31, none, "EN", []⟩, ⟨30, 30, none, "MODE", [(0, "PWM"), (1, "CAPTURE")]⟩,
    ⟨29, 28, none, "EDGE", [(1, "RISING"), (2, "FALLING"), (3, "BOTH")]⟩, ⟨5, 0, none, "LINE", []⟩]⟩,
  ⟨0x144, 1, 4, 32, "TMR4_PERIOD", [⟨31, 0, none, "TMR_PERIOD", []⟩]⟩,
  ⟨0x148, 1, 4, 32, "TMR4_CMP", [⟨31, 0, none, "TMR_CMP", []⟩]⟩,
  ⟨0x14C, 1, 4, 32, "TMR4_CAP", [⟨31, 0, none, "TMR_CAP", []⟩]⟩,
  ⟨0x150, 1, 4, 32, "TMR5_CFG", [⟨31, 31, none, "EN", []⟩, ⟨30, 30, none, "MODE", [(0, "PWM"), (1, "CAPTURE")]⟩,
    ⟨29, 28, none, "EDGE", [(1, "RISING"), (2, "FALLING"), (3, "BOTH")]⟩, ⟨5, 0, none, "LINE", []⟩]⟩,
  ⟨0x154, 1, 4, 32, "TMR5_PERIOD", [⟨31, 0, none, "TMR_PERIOD", []⟩]⟩,
  ⟨0x158, 1, 4, 32, "TMR5_CMP", [⟨31, 0, none, "TMR_CMP", []⟩]⟩,
  ⟨0x15C, 1, 4, 32, "TMR5_CAP", [⟨31, 0, none, "TMR_CAP", []⟩]⟩,
  ⟨0x160, 1, 4, 32, "TMR6_CFG", [⟨31, 31, none, "EN", []⟩, ⟨30, 30, none, "MODE", [(0, "PWM"), (1, "CAPTURE")]⟩,
    ⟨29, 28, none, "EDGE", [(1, "RISING"), (2, "FALLING"), (3, "BOTH")]⟩, ⟨5, 0, none, "LINE", []⟩]⟩,
  ⟨0x164, 1, 4, 32, "TMR6_PERIOD", [⟨31, 0, none, "TMR_PERIOD", []⟩]⟩,
  ⟨0x168, 1, 4, 32, "TMR6_CMP", [⟨31, 0, none, "TMR_CMP", []⟩]⟩,
  ⟨0x16C, 1, 4, 32, "TMR6_CAP", [⟨31, 0, none, "TMR_CAP", []⟩]⟩,
  ⟨0x170, 1, 4, 32, "TMR7_CFG", [⟨31, 31, none, "EN", []⟩, ⟨30, 30, none, "MODE", [(0, "PWM"), (1, "CAPTURE")]⟩,
    ⟨29, 28, none, "EDGE", [(1, "RISING"), (2, "FALLING"), (3, "BOTH")]⟩, ⟨5, 0, none, "LINE", []⟩]⟩,
  ⟨0x174, 1, 4, 32, "TMR7_PERIOD", [⟨31, 0, none, "TMR_PERIOD", []⟩]⟩,
  ⟨0x178, 1, 4, 32, "TMR7_CMP", [⟨31, 0, none, "TMR_CMP", []⟩]⟩,
  ⟨0x17C, 1, 4, 32, "TMR7_CAP", [⟨31, 0, none, "TMR_CAP", []⟩]⟩,
  ⟨0x200, 1, 4, 32, "TAMPCFG", [⟨31, 31, none, "LOOP", []⟩, ⟨23, 23, none, "EN3", []⟩, ⟨22, 22, none, "LVL3", []⟩,
    ⟨21, 21, none, "WIPE3", []⟩, ⟨20, 18, none, "FILT3", []⟩, ⟨17, 17, none, "EN2", []⟩, ⟨16, 16, none, "LVL2", []⟩,
    ⟨15, 15, none, "WIPE2", []⟩, ⟨14, 12, none, "FILT2", []⟩, ⟨11, 11, none, "EN1", []⟩, ⟨10, 10, none, "LVL1", []⟩,
    ⟨9, 9, none, "WIPE1", []⟩, ⟨8, 6, none, "FILT1", []⟩, ⟨5, 5, none, "EN0", []⟩, ⟨4, 4, none, "LVL0", []⟩,
    ⟨3, 3, none, "WIPE0", []⟩, ⟨2, 0, none, "FILT0", []⟩]⟩,
  ⟨0x204, 1, 4, 32, "TAMPSTAT", [⟨19, 16, none, "FIRST", []⟩, ⟨7, 4, some .ro, "LIVE", []⟩, ⟨3, 0, none, "LATCHED", []⟩]⟩,
  ⟨0x208, 1, 4, 32, "TAMPSTAMP_LO", [⟨31, 0, none, "TAMPSTAMP_LO", []⟩]⟩,
  ⟨0x20C, 1, 4, 32, "TAMPSTAMP_HI", [⟨31, 0, none, "TAMPSTAMP_HI", []⟩]⟩]

def vuyAdc : List VReg := [
  ⟨0x040, 1, 4, 32, "CFG", [⟨1, 1, none, "TDMON_EN", []⟩, ⟨0, 0, none, "VREF_EXT", [(0, "INTERNAL"), (1, "VREF")]⟩]⟩,
  ⟨0x044, 1, 4, 32, "MANRES", [⟨7, 7, none, "VALID", []⟩, ⟨5, 0, none, "RES", []⟩]⟩,
  ⟨0x048, 1, 4, 32, "MAN", [⟨31, 29, none, "GAIN", []⟩, ⟨28, 22, none, "ACQ", []⟩, ⟨21, 16, none, "RES", []⟩,
    ⟨13, 8, none, "INPUT", []⟩, ⟨0, 0, none, "GO", []⟩]⟩,
  ⟨0x04C, 1, 4, 32, "TDCMD", [⟨27, 16, none, "CODE", []⟩, ⟨13, 8, none, "INPUT", []⟩, ⟨1, 1, none, "ABORT", []⟩,
    ⟨0, 0, none, "GO", []⟩]⟩,
  ⟨0x050, 1, 4, 32, "TDTOL", [⟨7, 0, none, "TOL", []⟩]⟩,
  ⟨0x054, 1, 4, 32, "TDRES", [⟨31, 31, none, "VALID", []⟩, ⟨30, 30, none, "PASS", []⟩, ⟨29, 16, none, "EXP", []⟩,
    ⟨13, 0, none, "MEAS", []⟩]⟩,
  ⟨0x058, 1, 4, 32, "STAT", [⟨31, 31, none, "READY", []⟩, ⟨30, 30, none, "PLUMB_OFF", []⟩,
    ⟨29, 28, none, "TD", [(0, "IDLE"), (1, "WAIT_DAC"), (2, "ARMED")]⟩, ⟨27, 24, none, "PLUMB", [(15, "NONE")]⟩,
    ⟨23, 20, none, "WDRAWN", [(15, "NONE")]⟩,
    ⟨17, 16, none, "DACOWN", [(0, "NONE"), (1, "PLUMB"), (2, "DIAGNOSIS"), (3, "COMPARATOR_SELF_TEST")]⟩,
    ⟨3, 0, none, "ONSHIFT", []⟩]⟩,
  ⟨0x05C, 1, 4, 32, "EVT", [⟨6, 6, none, "SLICE_WITHDRAWN", []⟩, ⟨5, 5, none, "TD_TIMEOUT", []⟩,
    ⟨4, 4, none, "TD_FAIL", []⟩, ⟨3, 3, none, "TD_DONE", []⟩, ⟨2, 2, none, "MAN_DONE", []⟩, ⟨1, 1, none, "MAN_IGN", []⟩,
    ⟨0, 0, none, "STALE", []⟩]⟩,
  ⟨0x060, 1, 4, 32, "IEN", [⟨6, 6, none, "SLICE_WITHDRAWN", []⟩, ⟨5, 5, none, "TD_TIMEOUT", []⟩,
    ⟨4, 4, none, "TD_FAIL", []⟩, ⟨3, 3, none, "TD_DONE", []⟩, ⟨2, 2, none, "MAN_DONE", []⟩, ⟨1, 1, none, "MAN_IGN", []⟩,
    ⟨0, 0, none, "STALE", []⟩]⟩,
  ⟨0x064, 1, 4, 32, "COUNT", [⟨31, 16, none, "GUARD_SKIP", []⟩, ⟨15, 0, none, "STALE", []⟩]⟩,
  ⟨0x068, 1, 4, 32, "COUNT2", [⟨31, 16, none, "TD_FAIL", []⟩]⟩,
  ⟨0x100, 64, 4, 32, "GUARD", [⟨31, 31, none, "EN", []⟩, ⟨27, 24, none, "FRAME", []⟩, ⟨7, 0, none, "SETTLE", []⟩]⟩]

def vuyRes : List VReg := [
  ⟨0x040, 1, 4, 32, "EVT_LO", [⟨31, 0, none, "EVT_LO", []⟩]⟩,
  ⟨0x044, 1, 4, 32, "EVT_HI", [⟨31, 0, none, "EVT_HI", []⟩]⟩,
  ⟨0x048, 1, 4, 32, "IEN_LO", [⟨31, 0, none, "IEN_LO", []⟩]⟩,
  ⟨0x04C, 1, 4, 32, "IEN_HI", [⟨31, 0, none, "IEN_HI", []⟩]⟩,
  ⟨0x050, 1, 4, 32, "WSTAT_LO", [⟨31, 0, none, "WSTAT_LO", []⟩]⟩,
  ⟨0x054, 1, 4, 32, "WSTAT_HI", [⟨31, 0, none, "WSTAT_HI", []⟩]⟩,
  ⟨0x100, 64, 8, 64, "RESULT", [⟨63, 60, none, "SEQ", []⟩, ⟨59, 56, none, "FRAME", []⟩, ⟨55, 32, none, "FTICK", []⟩,
    ⟨31, 31, none, "VALID", []⟩, ⟨30, 30, none, "PRED", []⟩, ⟨29, 29, none, "CLIP", []⟩, ⟨28, 28, none, "NEWER", []⟩,
    ⟨27, 27, none, "TDAC", []⟩, ⟨26, 23, none, "SLICE", [(15, "SKIPPED")]⟩, ⟨22, 22, none, "MAN", []⟩, ⟨21, 16, none, "INPUT", []⟩,
    ⟨13, 0, none, "VALUE", []⟩]⟩,
  ⟨0x300, 64, 4, 32, "WINLIM", [⟨29, 16, none, "HI", []⟩, ⟨13, 0, none, "LO", []⟩]⟩,
  ⟨0x400, 64, 4, 32, "WINCFG", [⟨31, 31, none, "EN", []⟩,
    ⟨29, 28, none, "MODE", [(0, "BELOW"), (1, "ABOVE"), (2, "OUTSIDE"), (3, "INSIDE")]⟩, ⟨25, 24, none, "CNT", []⟩]⟩]

def vuyEng : List VReg := [
  ⟨0x040, 1, 4, 32, "STAT", [⟨27, 20, none, "QDEPTH", []⟩, ⟨19, 12, none, "SPEC", []⟩, ⟨3, 0, none, "BUSY", []⟩]⟩,
  ⟨0x044, 1, 4, 32, "EVT", [⟨9, 9, none, "FRAME_MISMATCH", []⟩, ⟨8, 8, none, "NOCHAIN", []⟩,
    ⟨7, 7, none, "RESET_DONE", []⟩, ⟨6, 6, none, "CMD_IGN", []⟩, ⟨5, 5, none, "STAGE_LIVE_WRITE", []⟩,
    ⟨4, 4, none, "CTX_LIVE_WRITE", []⟩, ⟨3, 3, none, "CMP", []⟩, ⟨2, 2, none, "SAT", []⟩, ⟨1, 1, none, "SQUASH", []⟩,
    ⟨0, 0, none, "DEADLINE_MISS", []⟩]⟩,
  ⟨0x048, 1, 4, 32, "IEN", [⟨9, 9, none, "FRAME_MISMATCH", []⟩, ⟨8, 8, none, "NOCHAIN", []⟩,
    ⟨7, 7, none, "RESET_DONE", []⟩, ⟨6, 6, none, "CMD_IGN", []⟩, ⟨5, 5, none, "STAGE_LIVE_WRITE", []⟩,
    ⟨4, 4, none, "CTX_LIVE_WRITE", []⟩, ⟨3, 3, none, "CMP", []⟩, ⟨2, 2, none, "SAT", []⟩, ⟨1, 1, none, "SQUASH", []⟩,
    ⟨0, 0, none, "DEADLINE_MISS", []⟩]⟩,
  ⟨0x04C, 1, 4, 32, "CTXCMD", [⟨15, 8, none, "CTX", []⟩, ⟨0, 0, none, "RESET", []⟩]⟩,
  ⟨0x050, 1, 4, 32, "VERR", [
    ⟨31, 28, none, "CHECK", [(0, "NONE"), (1, "BOUND"), (2, "SPAN"), (3, "TYPE"), (4, "RSVD"), (5, "SOURCE"), (6, "DEST"), (7, "STATE"), (8, "COUNT"), (9, "PREIX")]⟩,
    ⟨23, 16, none, "CTX", []⟩, ⟨11, 0, none, "SLOT", []⟩]⟩,
  ⟨0x054, 1, 4, 32, "EVTLOG", [⟨31, 31, none, "VALID", []⟩, ⟨30, 27, none, "KIND", [(0, "DEADLINE_MISS"), (1, "SQUASH"), (2, "SAT"), (3, "CMP"), (4, "CTX_LIVE_WRITE"), (5, "STAGE_LIVE_WRITE"), (6, "CMD_IGN"), (7, "RESET_DONE"), (8, "NOCHAIN"), (9, "FRAME_MISMATCH")]⟩, ⟨23, 16, none, "CTX", []⟩,
    ⟨11, 0, none, "DETAIL", []⟩]⟩,
  ⟨0x058, 1, 4, 32, "COUNT", [⟨31, 16, none, "DEADLINE_MISS", []⟩, ⟨15, 0, none, "SQUASH", []⟩]⟩,
  ⟨0x05C, 1, 4, 32, "COUNT2", [⟨31, 16, none, "SPEC_COMMIT", []⟩, ⟨15, 0, none, "SAT", []⟩]⟩,
  ⟨0x060, 1, 4, 32, "CYC_LO", [⟨31, 0, none, "CYC_LO", []⟩]⟩,
  ⟨0x064, 1, 4, 32, "CYC_HI", [⟨31, 0, none, "CYC_HI", []⟩]⟩,
  ⟨0x100, 192, 4, 32, "CHAIN", [⟨31, 31, none, "EN", []⟩, ⟨30, 30, none, "RA", []⟩, ⟨29, 29, none, "BIND", []⟩,
    ⟨23, 18, none, "NST", []⟩, ⟨17, 12, none, "TOL", []⟩, ⟨11, 0, none, "FIRST", []⟩]⟩,
  ⟨0x400, 192, 4, 32, "CSTAT", [
    ⟨31, 28, none, "STATE", [(0, "IDLE"), (1, "QUEUED"), (2, "RUNNING"), (3, "SPEC_RUN"), (4, "SPEC_HELD"), (5, "RERUN"), (6, "RESETTING")]⟩,
    ⟨27, 20, none, "TAG", []⟩, ⟨19, 19, none, "SAT", []⟩, ⟨18, 18, none, "MISS", []⟩, ⟨17, 17, none, "SQUASHED", []⟩,
    ⟨16, 16, none, "PRED", []⟩, ⟨11, 0, none, "SLACK", []⟩]⟩]

def vuyRost : List VReg := [
  ⟨0x044, 1, 4, 32, "BANK", [⟨31, 16, none, "PEND", []⟩, ⟨0, 0, none, "ACTIVE", [(0, "A"), (1, "B")]⟩]⟩,
  ⟨0x048, 1, 4, 32, "CMD", [⟨1, 1, none, "CLEAR", []⟩, ⟨0, 0, none, "COPY", []⟩]⟩,
  ⟨0x04C, 1, 4, 32, "VERR", [
    ⟨31, 28, none, "CHECK", [(0, "NONE"), (1, "ACTION"), (2, "RSVD"), (3, "OFFSET"), (4, "SARG"), (5, "RES"), (6, "UNBOUND"), (7, "CTXFRAME"), (8, "SIDX"), (9, "CSRC"), (10, "CROWD"), (11, "SLICE"), (12, "ENGINE")]⟩,
    ⟨19, 16, none, "FRAME", []⟩, ⟨13, 0, none, "ENTRY", []⟩]⟩,
  ⟨0x050, 1, 4, 32, "LOAD_SLICE", [⟨15, 0, none, "LOAD_SLICE", []⟩]⟩,
  ⟨0x054, 1, 4, 32, "LOAD_ENG", [⟨15, 0, none, "LOAD_ENG", []⟩]⟩,
  ⟨0x058, 1, 4, 32, "EVT", [⟨8, 8, none, "CMD_IGN", []⟩, ⟨7, 7, none, "NO_EFFECT", []⟩, ⟨6, 6, none, "SWAPPED", []⟩,
    ⟨5, 5, none, "MARK", []⟩, ⟨4, 4, none, "BEYOND", []⟩, ⟨3, 3, none, "DISP_LATE", []⟩, ⟨2, 2, none, "JOB_OVERRUN", []⟩,
    ⟨1, 1, none, "JOB_DROP", []⟩, ⟨0, 0, none, "LIVE_WRITE", []⟩]⟩,
  ⟨0x05C, 1, 4, 32, "IEN", [⟨8, 8, none, "CMD_IGN", []⟩, ⟨7, 7, none, "NO_EFFECT", []⟩, ⟨6, 6, none, "SWAPPED", []⟩,
    ⟨5, 5, none, "MARK", []⟩, ⟨4, 4, none, "BEYOND", []⟩, ⟨3, 3, none, "DISP_LATE", []⟩, ⟨2, 2, none, "JOB_OVERRUN", []⟩,
    ⟨1, 1, none, "JOB_DROP", []⟩, ⟨0, 0, none, "LIVE_WRITE", []⟩]⟩,
  ⟨0x060, 1, 4, 32, "COUNT", [⟨31, 16, none, "LIVE_WRITES", []⟩, ⟨15, 0, none, "JOB_DROPS", []⟩]⟩,
  ⟨0x064, 1, 4, 32, "COUNT2", [⟨31, 16, none, "DISP_LATE", []⟩, ⟨15, 0, none, "BEYOND", []⟩]⟩,
  ⟨0x068, 1, 4, 32, "JOBLOG", [⟨31, 31, none, "VALID", []⟩,
    ⟨30, 30, none, "KIND", [(0, "SET_INCOMPLETE"), (1, "OVERRUN")]⟩, ⟨19, 16, none, "FRAME", []⟩, ⟨13, 0, none, "ENTRY", []⟩]⟩,
  ⟨0x06C, 1, 4, 32, "LIVELOG", [⟨31, 31, none, "VALID", []⟩, ⟨30, 30, none, "BANK", [(0, "A"), (1, "B")]⟩, ⟨29, 29, none, "KIND", [(0, "ACTIVE"), (1, "FROZEN")]⟩,
    ⟨13, 0, none, "ENTRY", []⟩]⟩,
  ⟨0x070, 1, 4, 32, "MARKLOG", [⟨31, 31, none, "VALID", []⟩, ⟨19, 16, none, "FRAME", []⟩, ⟨15, 0, none, "ID", []⟩]⟩,
  ⟨0x074, 1, 4, 32, "MARK_TICK_LO", [⟨31, 0, none, "MARK_TICK_LO", []⟩]⟩,
  ⟨0x078, 1, 4, 32, "MARK_TICK_HI", [⟨31, 0, none, "MARK_TICK_HI", []⟩]⟩]

def vuyVuy : List VReg := []

def vuyLeg : List VReg := [
  ⟨0x040, 1, 4, 32, "DEAD", [⟨15, 8, none, "DT_LH", []⟩, ⟨7, 0, none, "DT_HL", []⟩]⟩,
  ⟨0x044, 1, 4, 32, "BLANK", [⟨7, 0, none, "BLANK", []⟩]⟩,
  ⟨0x048, 1, 4, 32, "THRESH", [⟨23, 16, none, "HARD", []⟩, ⟨15, 8, none, "SOFT", []⟩, ⟨7, 0, none, "PRES", []⟩]⟩,
  ⟨0x04C, 1, 4, 32, "GATE", [⟨31, 31, none, "FIXED", []⟩, ⟨22, 16, none, "TTRAN", []⟩, ⟨12, 8, none, "SRC_INIT", []⟩,
    ⟨4, 0, none, "SNK_INIT", []⟩]⟩,
  ⟨0x050, 1, 4, 32, "BSTUV", [⟨7, 0, none, "BST", []⟩]⟩,
  ⟨0x054, 1, 4, 32, "CMD", [⟨1, 1, none, "RETIRE", []⟩, ⟨0, 0, none, "RETURN", []⟩]⟩,
  ⟨0x058, 1, 4, 32, "LSTAT", [
    ⟨31, 28, none, "STATE", [(0, "FREE"), (1, "ACTIVE"), (2, "SHED"), (3, "SPARE"), (4, "DARK"), (5, "RETIRED"), (6, "SAFE"), (7, "OFF")]⟩,
    ⟨21, 16, none, "SLOT", []⟩, ⟨13, 8, none, "GANG", []⟩, ⟨7, 7, none, "STRONG", []⟩, ⟨1, 1, none, "FW_RET", []⟩,
    ⟨0, 0, none, "LISTED", []⟩]⟩,
  ⟨0x05C, 1, 4, 32, "TRIP", [⟨5, 5, some .w1c, "CLR_REFUSED", []⟩, ⟨4, 4, some .w1c, "BST_UV", []⟩,
    ⟨3, 3, some .w1c, "PRES_MISS", []⟩, ⟨2, 2, some .w1c, "HARD_LAT", []⟩, ⟨1, 1, some .w1c, "SOFT_LAT", []⟩]⟩,
  ⟨0x060, 1, 4, 32, "STRENGTH", [⟨22, 16, none, "TMEAS", []⟩, ⟨12, 8, none, "SRC", []⟩, ⟨4, 0, none, "SNK", []⟩]⟩,
  ⟨0x064, 1, 4, 32, "EVT", [⟨2, 2, none, "JOINED", []⟩, ⟨1, 1, none, "RETIRED", []⟩, ⟨0, 0, none, "CMD_IGN", []⟩]⟩,
  ⟨0x068, 1, 4, 32, "COUNT", [⟨31, 16, none, "TRIPS", []⟩, ⟨15, 0, none, "PRES_MISSES", []⟩]⟩]

def vuyGang : List VReg := [
  ⟨0x040, 1, 4, 32, "CFG", [⟨31, 31, none, "EN", []⟩, ⟨27, 24, none, "FRAME", []⟩, ⟨23, 23, none, "SPREF_OFF", []⟩,
    ⟨21, 20, none, "DIE", []⟩, ⟨17, 16, none, "ROT", [(0, "OFF"), (1, "PERIOD"), (2, "ROSTER")]⟩, ⟨15, 0, none, "PHASE", []⟩]⟩,
  ⟨0x044, 1, 4, 32, "ROLE", [
    ⟨31, 28, none, "KIND", [(0, "NONE"), (1, "AXIS"), (2, "CONV"), (3, "DUMP"), (4, "PRECHARGE")]⟩,
    ⟨19, 16, none, "OWNER", []⟩, ⟨13, 8, none, "MIN_LIVE", []⟩, ⟨3, 0, none, "PHASE_IX", []⟩]⟩,
  ⟨0x048, 1, 4, 32, "SHED", [⟨31, 31, none, "EN", []⟩, ⟨29, 24, none, "MIN_ACTIVE", []⟩, ⟨23, 16, none, "DWELL", []⟩,
    ⟨15, 0, none, "HOLDOFF", []⟩]⟩,
  ⟨0x04C, 1, 4, 32, "SHED_LVL", [⟨31, 16, none, "ADD_AT", []⟩, ⟨15, 0, none, "SHED_AT", []⟩]⟩,
  ⟨0x050, 1, 4, 32, "FF", [⟨31, 31, none, "EN", []⟩, ⟨30, 28, none, "SRC", [(0, "WINDOW"), (1, "COMPARE_EVT")]⟩, ⟨21, 16, none, "INDEX", []⟩,
    ⟨15, 8, none, "DUTY_MIN", []⟩]⟩,
  ⟨0x054, 1, 4, 32, "PRES", [⟨15, 0, none, "PRES_LEVEL", []⟩]⟩,
  ⟨0x058, 8, 4, 32, "SLOT", [⟨31, 31, none, "VALID3", []⟩, ⟨29, 24, none, "LEG3", []⟩, ⟨23, 23, none, "VALID2", []⟩,
    ⟨21, 16, none, "LEG2", []⟩, ⟨15, 15, none, "VALID1", []⟩, ⟨13, 8, none, "LEG1", []⟩, ⟨7, 7, none, "VALID0", []⟩,
    ⟨5, 0, none, "LEG0", []⟩]⟩,
  ⟨0x078, 1, 4, 32, "SPARE", [⟨31, 31, none, "VALID3", []⟩, ⟨29, 24, none, "LEG3", []⟩, ⟨23, 23, none, "VALID2", []⟩,
    ⟨21, 16, none, "LEG2", []⟩, ⟨15, 15, none, "VALID1", []⟩, ⟨13, 8, none, "LEG1", []⟩, ⟨7, 7, none, "VALID0", []⟩,
    ⟨5, 0, none, "LEG0", []⟩]⟩,
  ⟨0x080, 1, 4, 32, "LIVE", [⟨31, 23, none, "SCALE", []⟩, ⟨22, 20, none, "SPARES_LEFT", []⟩, ⟨17, 12, none, "ACTIVE", []⟩,
    ⟨11, 6, none, "LIVE", []⟩, ⟨5, 0, none, "ASSIGNED", []⟩]⟩,
  ⟨0x084, 1, 4, 32, "STAT", [⟨20, 16, none, "ROT", []⟩, ⟨7, 7, none, "SHUT", []⟩, ⟨6, 6, none, "REGANG_PEND", []⟩,
    ⟨5, 5, none, "FF_NOW", []⟩, ⟨4, 4, none, "HOLDOFF", []⟩, ⟨3, 3, none, "SHED_PEND", []⟩, ⟨2, 2, none, "LOAD_STALE", []⟩,
    ⟨1, 1, none, "DERATED", []⟩, ⟨0, 0, none, "RUN", []⟩]⟩,
  ⟨0x088, 8, 4, 32, "MAP", [⟨31, 31, none, "LIVE3", []⟩, ⟨30, 30, none, "SUB3", []⟩, ⟨29, 24, none, "LEG3", []⟩,
    ⟨23, 23, none, "LIVE2", []⟩, ⟨22, 22, none, "SUB2", []⟩, ⟨21, 16, none, "LEG2", []⟩, ⟨15, 15, none, "LIVE1", []⟩,
    ⟨14, 14, none, "SUB1", []⟩, ⟨13, 8, none, "LEG1", []⟩, ⟨7, 7, none, "LIVE0", []⟩, ⟨6, 6, none, "SUB0", []⟩,
    ⟨5, 0, none, "LEG0", []⟩]⟩,
  ⟨0x0A8, 1, 4, 32, "LOAD", [⟨15, 0, none, "LOAD", []⟩]⟩,
  ⟨0x0AC, 1, 4, 32, "EVT", [⟨5, 5, none, "UNDERSTRENGTH", []⟩, ⟨4, 4, none, "SLOT_LOST", []⟩,
    ⟨3, 3, none, "SPARE_JOINED", []⟩, ⟨2, 2, none, "FF", []⟩, ⟨1, 1, none, "SHED_ABANDONED", []⟩,
    ⟨0, 0, none, "LOAD_STALE", []⟩]⟩,
  ⟨0x0B0, 1, 4, 32, "IEN", [⟨5, 5, none, "UNDERSTRENGTH", []⟩, ⟨4, 4, none, "SLOT_LOST", []⟩,
    ⟨3, 3, none, "SPARE_JOINED", []⟩, ⟨2, 2, none, "FF", []⟩, ⟨1, 1, none, "SHED_ABANDONED", []⟩,
    ⟨0, 0, none, "LOAD_STALE", []⟩]⟩,
  ⟨0x0B4, 1, 4, 32, "COUNT", [⟨31, 16, none, "FF_COUNT", []⟩, ⟨15, 0, none, "SHED_COUNT", []⟩]⟩,
  ⟨0x0B8, 1, 4, 32, "REGANG", [⟨15, 0, none, "REGANG_COUNT", []⟩]⟩]

def vuyFrame : List VReg := [
  ⟨0x040, 1, 4, 32, "CFG", [⟨31, 31, none, "RUN", []⟩, ⟨15, 0, none, "PERIOD", []⟩]⟩,
  ⟨0x044, 1, 4, 32, "SYNC", [⟨31, 30, none, "MODE", [(0, "FREE"), (1, "FRAME"), (2, "LINK")]⟩,
    ⟨27, 24, none, "MASTER", []⟩, ⟨15, 0, none, "PHASE", []⟩]⟩,
  ⟨0x048, 1, 4, 32, "LATE", [⟨11, 0, none, "LATE", []⟩]⟩,
  ⟨0x04C, 1, 4, 32, "REFR", [⟨31, 31, none, "EN", []⟩, ⟨15, 0, none, "DMAX", []⟩]⟩,
  ⟨0x050, 1, 4, 32, "DHOLD", [⟨7, 0, none, "HOLD_MAX", []⟩]⟩,
  ⟨0x054, 1, 4, 32, "MSEL_LO", [⟨31, 0, none, "MSEL_LO", []⟩]⟩,
  ⟨0x058, 1, 4, 32, "MSEL_HI", [⟨31, 0, none, "MSEL_HI", []⟩]⟩,
  ⟨0x060, 1, 4, 32, "STAT", [⟨31, 24, none, "PCOUNT", []⟩, ⟨23, 20, none, "DITH", []⟩, ⟨18, 18, none, "HALTED", []⟩,
    ⟨17, 17, none, "LOCKED", []⟩, ⟨16, 16, none, "RUN", []⟩, ⟨15, 0, none, "PEFF", []⟩]⟩,
  ⟨0x064, 1, 4, 32, "TICK", [⟨15, 0, none, "TICK", []⟩]⟩,
  ⟨0x068, 1, 4, 32, "EVT", [⟨6, 6, none, "STARVED", []⟩, ⟨5, 5, none, "LOCK_LOST", []⟩, ⟨4, 4, none, "FORCED_REFR", []⟩,
    ⟨3, 3, none, "DUTY_HELD", []⟩, ⟨2, 2, none, "DUTY_SLIP", []⟩, ⟨1, 1, none, "DUTY_AHEAD", []⟩,
    ⟨0, 0, none, "DUTY_LATE", []⟩]⟩,
  ⟨0x06C, 1, 4, 32, "IEN", [⟨6, 6, none, "STARVED", []⟩, ⟨5, 5, none, "LOCK_LOST", []⟩, ⟨4, 4, none, "FORCED_REFR", []⟩,
    ⟨3, 3, none, "DUTY_HELD", []⟩, ⟨2, 2, none, "DUTY_SLIP", []⟩, ⟨1, 1, none, "DUTY_AHEAD", []⟩,
    ⟨0, 0, none, "DUTY_LATE", []⟩]⟩,
  ⟨0x070, 1, 4, 32, "LATELOG", [⟨31, 31, none, "VALID", []⟩, ⟨30, 30, none, "KIND", [(0, "LATE"), (1, "AHEAD")]⟩,
    ⟨29, 24, none, "GANG", []⟩, ⟨23, 16, none, "TAG", []⟩, ⟨15, 0, none, "AT", []⟩]⟩,
  ⟨0x074, 1, 4, 32, "COUNT", [⟨31, 16, none, "LATE_COUNT", []⟩, ⟨15, 0, none, "HELD_COUNT", []⟩]⟩,
  ⟨0x078, 1, 4, 32, "COUNT2", [⟨31, 16, none, "SLIP_COUNT", []⟩, ⟨15, 0, none, "AHEAD_COUNT", []⟩]⟩,
  ⟨0x100, 64, 4, 32, "MDUTY", [⟨19, 0, none, "DUTY", []⟩]⟩,
  ⟨0x200, 64, 4, 32, "SDUTY", [⟨31, 31, none, "VALID", []⟩, ⟨30, 30, none, "SRC", [(0, "ENGINE"), (1, "FIRMWARE")]⟩,
    ⟨29, 29, none, "HELD", []⟩, ⟨28, 28, none, "REFR", []⟩, ⟨19, 0, none, "DUTY", []⟩]⟩]

def vuyAxis : List VReg := [
  ⟨0x040, 1, 4, 32, "CFG", [⟨31, 31, none, "EN", []⟩, ⟨30, 30, none, "SIX", [(0, "THREE_PHASE"), (1, "SIX_PHASE")]⟩,
    ⟨29, 28, none, "SENSE", [(0, "INLINE3"), (1, "INLINE2"), (2, "DCLINK")]⟩, ⟨27, 24, none, "FRAME", []⟩,
    ⟨23, 16, none, "CTX", []⟩, ⟨15, 15, none, "FB_EN", []⟩, ⟨14, 14, none, "COMM_SRC", [(0, "THETA"), (1, "FEEDBACK")]⟩, ⟨11, 8, none, "FB", []⟩,
    ⟨7, 6, none, "SAFE", [(0, "OFF"), (1, "SHORT"), (2, "SPEED_SELECT")]⟩, ⟨5, 4, none, "PARK", [(0, "OFF"), (1, "SHORT")]⟩]⟩,
  ⟨0x044, 1, 4, 32, "TAP0", [⟨31, 24, none, "THETA", []⟩, ⟨23, 16, none, "OMEGA", []⟩, ⟨15, 8, none, "ID", []⟩,
    ⟨7, 0, none, "IQ", []⟩]⟩,
  ⟨0x048, 1, 4, 32, "TAP1", [⟨31, 24, none, "VD", []⟩, ⟨23, 16, none, "VQ", []⟩, ⟨15, 8, none, "VBUS", []⟩,
    ⟨7, 0, none, "RESID", []⟩]⟩,
  ⟨0x04C, 1, 4, 32, "VLIM", [⟨24, 16, none, "MI", []⟩, ⟨11, 0, none, "LC", []⟩]⟩,
  ⟨0x050, 1, 4, 32, "VLIM2", [⟨27, 16, none, "PID", []⟩, ⟨11, 0, none, "PIQ", []⟩]⟩,
  ⟨0x054, 1, 4, 32, "ILIM", [⟨31, 24, none, "FO_PCT", []⟩, ⟨15, 0, none, "IMAX", []⟩]⟩,
  ⟨0x058, 1, 4, 32, "TLIM", [⟨31, 16, none, "IQ_MOT", []⟩, ⟨15, 0, none, "IQ_GEN", []⟩]⟩,
  ⟨0x05C, 1, 4, 32, "SLIM", [⟨31, 16, none, "SPD_MAX", []⟩, ⟨15, 0, none, "SPD_BAND", []⟩]⟩,
  ⟨0x060, 1, 4, 32, "REFFMT", [⟨7, 0, none, "EXP", []⟩]⟩,
  ⟨0x064, 1, 4, 32, "PHIN", [⟨23, 20, none, "W_B", []⟩, ⟨19, 16, none, "V_B", []⟩, ⟨15, 12, none, "U_B", []⟩,
    ⟨11, 8, none, "W_A", []⟩, ⟨7, 4, none, "V_A", []⟩, ⟨3, 0, none, "U_A", []⟩]⟩,
  ⟨0x068, 1, 4, 32, "PHK", [⟨23, 0, none, "PHK", []⟩]⟩,
  ⟨0x06C, 1, 4, 32, "DCK", [⟨23, 0, none, "DCK", []⟩]⟩,
  ⟨0x070, 1, 4, 32, "ZERO", [⟨29, 16, none, "DCZ", []⟩, ⟨13, 0, none, "PHZ", []⟩]⟩,
  ⟨0x074, 1, 4, 32, "DCR", [⟨31, 31, none, "EN_A", []⟩, ⟨29, 24, none, "IN_A", []⟩, ⟨23, 23, none, "EN_B", []⟩,
    ⟨21, 16, none, "IN_B", []⟩, ⟨15, 8, none, "DET_MIN", []⟩, ⟨7, 0, none, "PRED_MAX", []⟩]⟩,
  ⟨0x078, 1, 4, 32, "SRNG", [⟨29, 16, none, "HI", []⟩, ⟨13, 0, none, "LO", []⟩]⟩,
  ⟨0x07C, 1, 4, 32, "SSUM", [⟨31, 31, none, "PLAUS_EN", []⟩, ⟨15, 0, none, "SUM_MAX", []⟩]⟩,
  ⟨0x080, 1, 4, 32, "LR", [⟨31, 16, none, "LR_IQ", []⟩, ⟨15, 0, none, "LR_TIME", []⟩]⟩,
  ⟨0x084, 1, 4, 32, "SOUND", [⟨31, 16, none, "WIN", []⟩, ⟨15, 0, none, "CATCH_MAX", []⟩]⟩,
  ⟨0x088, 1, 4, 32, "IREQ", [⟨31, 16, none, "IQ_REQ", []⟩, ⟨15, 0, none, "ID_REQ", []⟩]⟩,
  ⟨0x08C, 1, 4, 32, "CMD", [⟨3, 3, none, "FO_RESET", []⟩, ⟨2, 2, none, "COAST", []⟩, ⟨1, 1, none, "STOP", []⟩,
    ⟨0, 0, none, "START", []⟩]⟩,
  ⟨0x090, 1, 4, 32, "ASTAT", [
    ⟨31, 28, none, "STATE", [(0, "IDLE"), (1, "SOUNDING"), (2, "CATCHING"), (3, "STARTING"), (4, "RUNNING"), (5, "DECELERATING"), (6, "COASTING"), (7, "HOLDING"), (8, "FAULTED")]⟩,
    ⟨22, 22, none, "SETB_DROP", []⟩, ⟨21, 21, none, "FO_B", []⟩, ⟨20, 20, none, "FO_A", []⟩,
    ⟨19, 19, none, "PRED_NOW", []⟩, ⟨18, 18, none, "LR_ARMED", []⟩, ⟨17, 17, none, "SPDLIM", []⟩,
    ⟨16, 16, none, "VSAT", []⟩, ⟨8, 0, none, "MINSCALE", []⟩]⟩,
  ⟨0x094, 1, 4, 32, "IEFF", [⟨31, 16, none, "IEFF", []⟩, ⟨15, 0, none, "IQREF", []⟩]⟩,
  ⟨0x098, 1, 4, 32, "SPEED", [⟨31, 16, none, "FE", []⟩, ⟨15, 0, none, "NOCOMM", []⟩]⟩,
  ⟨0x09C, 1, 4, 32, "VSTAT", [⟨31, 16, none, "LIM", []⟩, ⟨15, 0, none, "VMAG", []⟩]⟩,
  ⟨0x0A0, 1, 4, 32, "RECON_A", [⟨31, 16, none, "IU", []⟩, ⟨15, 0, none, "IV", []⟩]⟩,
  ⟨0x0A4, 1, 4, 32, "RECON_B", [⟨31, 16, none, "IU", []⟩, ⟨15, 0, none, "IV", []⟩]⟩,
  ⟨0x0A8, 1, 4, 32, "EVT", [⟨8, 8, none, "SLOT_TYPE", []⟩, ⟨7, 7, none, "CMD_IGN", []⟩, ⟨6, 6, none, "LOCKED", []⟩,
    ⟨5, 5, none, "SENS_LOST", []⟩, ⟨4, 4, none, "FAILOVER", []⟩, ⟨3, 3, none, "RANGE", []⟩, ⟨2, 2, none, "SUM", []⟩,
    ⟨1, 1, none, "SPDLIM", []⟩, ⟨0, 0, none, "VSAT", []⟩]⟩,
  ⟨0x0AC, 1, 4, 32, "IEN", [⟨8, 8, none, "SLOT_TYPE", []⟩, ⟨7, 7, none, "CMD_IGN", []⟩, ⟨6, 6, none, "LOCKED", []⟩,
    ⟨5, 5, none, "SENS_LOST", []⟩, ⟨4, 4, none, "FAILOVER", []⟩, ⟨3, 3, none, "RANGE", []⟩, ⟨2, 2, none, "SUM", []⟩,
    ⟨1, 1, none, "SPDLIM", []⟩, ⟨0, 0, none, "VSAT", []⟩]⟩,
  ⟨0x0B0, 1, 4, 32, "COUNT", [⟨31, 16, none, "PRED_COUNT", []⟩, ⟨15, 0, none, "VSAT_COUNT", []⟩]⟩,
  ⟨0x0C0, 1, 4, 32, "SNDA", [⟨21, 16, none, "W", []⟩, ⟨13, 8, none, "V", []⟩, ⟨5, 0, none, "U", []⟩]⟩,
  ⟨0x0C4, 1, 4, 32, "SNDB", [⟨21, 16, none, "W", []⟩, ⟨13, 8, none, "V", []⟩, ⟨5, 0, none, "U", []⟩]⟩,
  ⟨0x0C8, 1, 4, 32, "SNDK", [⟨23, 0, none, "VK", []⟩]⟩,
  ⟨0x0CC, 1, 4, 32, "SNDL", [⟨31, 16, none, "VMIN", []⟩, ⟨13, 0, none, "VZ", []⟩]⟩,
  ⟨0x0D0, 1, 4, 32, "SEED", [⟨27, 16, none, "PLL", []⟩, ⟨11, 0, none, "OBS", []⟩]⟩,
  ⟨0x0D4, 1, 4, 32, "CATCH", [⟨31, 24, none, "CATCH_T", []⟩, ⟨19, 16, none, "TRIES", []⟩, ⟨15, 0, none, "RESOUND", []⟩]⟩,
  ⟨0x0D8, 1, 4, 32, "RUN", [⟨31, 16, none, "START_HZ", []⟩, ⟨15, 0, none, "ZERO_HZ", []⟩]⟩,
  ⟨0x0DC, 1, 4, 32, "DEC", [⟨31, 16, none, "DEC_IQ", []⟩, ⟨15, 0, none, "OPEN_I", []⟩]⟩,
  ⟨0x0E0, 1, 4, 32, "OBSL", [⟨31, 24, none, "EXP", []⟩, ⟨23, 0, none, "M", []⟩]⟩,
  ⟨0x0E4, 1, 4, 32, "BUSW", [⟨31, 16, none, "BUS_HI", []⟩, ⟨15, 0, none, "BUS_BAND", []⟩]⟩,
  ⟨0x0E8, 1, 4, 32, "BUSL", [⟨31, 16, none, "BUS_MAX", []⟩, ⟨15, 0, none, "BUS_LO", []⟩]⟩,
  ⟨0x0EC, 1, 4, 32, "SEL", [⟨31, 31, none, "DUMP_EN", []⟩, ⟨27, 24, none, "DUMP", []⟩, ⟨23, 0, none, "KE", []⟩]⟩,
  ⟨0x0F0, 1, 4, 32, "HOLD", [⟨31, 31, none, "ESC", []⟩, ⟨15, 0, none, "ROLL_HZ", []⟩]⟩,
  ⟨0x0F4, 1, 4, 32, "HSTAT", [⟨31, 31, none, "RUNREQ", []⟩, ⟨30, 30, none, "LOST", []⟩,
    ⟨29, 28, none, "HOLD", [(0, "SWITCHING"), (1, "OFF"), (2, "SHORT")]⟩, ⟨27, 26, none, "DROP", []⟩,
    ⟨25, 25, none, "FORCED", []⟩, ⟨19, 16, none, "CFAILS", []⟩, ⟨15, 0, none, "UHAT", []⟩]⟩,
  ⟨0x0F8, 1, 4, 32, "SNDR", [
    ⟨31, 28, none, "RESULT", [(0, "NONE"), (1, "STATIONARY"), (2, "FORWARD"), (3, "BACKWARD"), (4, "INVALID")]⟩,
    ⟨15, 8, none, "SETS", []⟩]⟩,
  ⟨0x0FC, 1, 4, 32, "SNDV", [⟨31, 16, none, "FE", []⟩, ⟨15, 0, none, "AMP", []⟩]⟩,
  ⟨0x100, 1, 4, 32, "EVT2", [⟨7, 7, none, "ROLL", []⟩, ⟨6, 6, none, "BUS_LOST", []⟩, ⟨5, 5, none, "BUS_OV", []⟩,
    ⟨4, 4, none, "SET_DROP", []⟩, ⟨3, 3, none, "PHASE_OPEN", []⟩, ⟨2, 2, none, "OBS_LOST", []⟩,
    ⟨1, 1, none, "CATCH_FAIL", []⟩, ⟨0, 0, none, "SOUND_FAIL", []⟩]⟩,
  ⟨0x104, 1, 4, 32, "IEN2", [⟨7, 7, none, "ROLL", []⟩, ⟨6, 6, none, "BUS_LOST", []⟩,
    ⟨5, 5, none, "BUS_OV", []⟩, ⟨4, 4, none, "SET_DROP", []⟩, ⟨3, 3, none, "PHASE_OPEN", []⟩,
    ⟨2, 2, none, "OBS_LOST", []⟩, ⟨1, 1, none, "CATCH_FAIL", []⟩, ⟨0, 0, none, "SOUND_FAIL", []⟩]⟩,
  ⟨0x108, 1, 4, 32, "COUNT2", [⟨31, 16, none, "OBS_LOST", []⟩, ⟨15, 0, none, "CATCH_FAILS", []⟩]⟩]

def vuyConv : List VReg := [
  ⟨0x040, 1, 4, 32, "CFG", [⟨31, 31, none, "EN", []⟩,
    ⟨30, 28, none, "ROLE", [(0, "NONE"), (1, "BUCK"), (2, "BOOST"), (3, "BIDIR"), (4, "PRECHARGE"), (5, "DUMP")]⟩,
    ⟨27, 24, none, "FRAME", []⟩, ⟨23, 16, none, "CTX", []⟩, ⟨15, 13, none, "NPH", []⟩, ⟨12, 12, none, "AUTO", []⟩,
    ⟨11, 11, none, "LFR_EN", []⟩, ⟨7, 0, none, "REFEXP", []⟩]⟩,
  ⟨0x044, 1, 4, 32, "TAP", [⟨31, 24, none, "VIN", []⟩, ⟨23, 16, none, "VOUT", []⟩, ⟨15, 8, none, "IL", []⟩]⟩,
  ⟨0x048, 1, 4, 32, "VREF", [⟨31, 16, none, "VTGT", []⟩, ⟨15, 0, none, "OV_V", []⟩]⟩,
  ⟨0x04C, 1, 4, 32, "SS", [⟨31, 16, none, "FOLD_STEP", []⟩, ⟨15, 0, none, "SS_STEP", []⟩]⟩,
  ⟨0x050, 1, 4, 32, "ILIM", [⟨31, 16, none, "FOLD_I", []⟩, ⟨15, 0, none, "OL_I", []⟩]⟩,
  ⟨0x054, 1, 4, 32, "OLT", [⟨15, 0, none, "OL_TIME", []⟩]⟩,
  ⟨0x058, 1, 4, 32, "FAST", [⟨29, 24, none, "RES", []⟩, ⟨13, 0, none, "IZ", []⟩]⟩,
  ⟨0x05C, 1, 4, 32, "FASTK", [⟨23, 0, none, "IK", []⟩]⟩,
  ⟨0x060, 1, 4, 32, "FASTL", [⟨31, 16, none, "FAST_I", []⟩, ⟨15, 8, none, "FAST_OFF", []⟩, ⟨7, 0, none, "FAST_MAX", []⟩]⟩,
  ⟨0x064, 1, 4, 32, "FASTW", [⟨15, 0, none, "FAST_WIN", []⟩]⟩,
  ⟨0x068, 1, 4, 32, "PCHG", [⟨31, 16, none, "PC_I", []⟩, ⟨15, 0, none, "PC_DONE", []⟩]⟩,
  ⟨0x06C, 1, 4, 32, "PCHG2", [⟨31, 16, none, "PC_TMAX", []⟩, ⟨15, 0, none, "CT_DLY", []⟩]⟩,
  ⟨0x070, 1, 4, 32, "PACK", [⟨31, 31, none, "CTC_EN", []⟩, ⟨23, 16, none, "CTC_PIN", []⟩, ⟨15, 0, none, "PACK_MIN", []⟩]⟩,
  ⟨0x074, 1, 4, 32, "DUMP", [⟨31, 16, none, "DUMP_ON", []⟩, ⟨15, 0, none, "DUMP_OFF", []⟩]⟩,
  ⟨0x078, 1, 4, 32, "LFBASE", [⟨31, 0, none, "LFBASE", []⟩]⟩,
  ⟨0x07C, 1, 4, 32, "LFCFG", [⟨31, 16, none, "NEXT", []⟩, ⟨3, 0, none, "LFN", []⟩]⟩,
  ⟨0x080, 1, 4, 32, "CMD", [⟨1, 1, none, "STOP", []⟩, ⟨0, 0, none, "START", []⟩]⟩,
  ⟨0x084, 1, 4, 32, "CSTAT", [
    ⟨31, 28, none, "STATE", [(0, "IDLE"), (3, "STARTING"), (4, "RUNNING"), (7, "HOLDING"), (8, "FAULTED")]⟩,
    ⟨27, 27, none, "CTC", []⟩, ⟨26, 26, none, "FOLD", []⟩, ⟨25, 25, none, "PAUSE", []⟩, ⟨24, 24, none, "PACK", []⟩,
    ⟨23, 20, none, "FTRIPS", []⟩, ⟨8, 0, none, "MINSCALE", []⟩]⟩,
  ⟨0x088, 1, 4, 32, "VSTAT", [⟨31, 16, none, "VSS", []⟩, ⟨15, 0, none, "OLCNT", []⟩]⟩,
  ⟨0x08C, 1, 4, 32, "MEAS", [⟨31, 16, none, "VOUT", []⟩, ⟨15, 0, none, "IL", []⟩]⟩,
  ⟨0x090, 1, 4, 32, "MEAS2", [⟨31, 16, none, "VIN", []⟩]⟩,
  ⟨0x094, 1, 4, 32, "EVT", [⟨11, 11, none, "SS_DONE", []⟩, ⟨10, 10, none, "CMD_IGN", []⟩, ⟨9, 9, none, "LF_LOST", []⟩,
    ⟨8, 8, none, "LF_WRITTEN", []⟩, ⟨7, 7, none, "DUMP_ON", []⟩, ⟨6, 6, none, "PACK_LOST", []⟩,
    ⟨5, 5, none, "PC_DONE", []⟩, ⟨4, 4, none, "PC_TIMEOUT", []⟩, ⟨3, 3, none, "OV", []⟩, ⟨2, 2, none, "OVERLOAD", []⟩,
    ⟨1, 1, none, "SHORT", []⟩, ⟨0, 0, none, "FAST", []⟩]⟩,
  ⟨0x098, 1, 4, 32, "IEN", [⟨11, 11, none, "SS_DONE", []⟩, ⟨10, 10, none, "CMD_IGN", []⟩, ⟨9, 9, none, "LF_LOST", []⟩,
    ⟨8, 8, none, "LF_WRITTEN", []⟩, ⟨7, 7, none, "DUMP_ON", []⟩, ⟨6, 6, none, "PACK_LOST", []⟩,
    ⟨5, 5, none, "PC_DONE", []⟩, ⟨4, 4, none, "PC_TIMEOUT", []⟩, ⟨3, 3, none, "OV", []⟩, ⟨2, 2, none, "OVERLOAD", []⟩,
    ⟨1, 1, none, "SHORT", []⟩, ⟨0, 0, none, "FAST", []⟩]⟩,
  ⟨0x09C, 1, 4, 32, "COUNT", [⟨31, 16, none, "FAST_TRIPS", []⟩, ⟨15, 0, none, "FOLDS", []⟩]⟩,
  ⟨0x0A0, 1, 4, 32, "LFSTAT", [⟨31, 16, none, "SEQ", []⟩,
    ⟨1, 0, none, "STAT", [(0, "NONE"), (1, "WRITING"), (2, "DONE"), (3, "FAILED")]⟩]⟩]

def vuyFb : List VReg := [
  ⟨0x040, 1, 4, 32, "CFG", [⟨31, 31, none, "EN", []⟩, ⟨30, 30, none, "REV", []⟩,
    ⟨29, 28, none, "MODE", [(0, "INC"), (1, "HALL"), (2, "ABS")]⟩,
    ⟨27, 26, none, "IDX_POL", [(0, "LOG"), (1, "SNAP"), (2, "FAULT")]⟩, ⟨25, 25, none, "IDX_EN", []⟩,
    ⟨23, 16, none, "FILT", []⟩, ⟨13, 8, none, "PP", []⟩, ⟨1, 1, none, "IQ_B", []⟩, ⟨0, 0, none, "IQ_A", []⟩]⟩,
  ⟨0x044, 1, 4, 32, "CPR", [⟨31, 0, none, "CPR", []⟩]⟩,
  ⟨0x048, 1, 4, 32, "IDXPOS", [⟨31, 0, none, "IDXPOS", []⟩]⟩,
  ⟨0x04C, 1, 4, 32, "EOFS", [⟨31, 0, none, "EOFS", []⟩]⟩,
  ⟨0x050, 1, 4, 32, "EDGE", [⟨31, 24, none, "EDGE_MAX", []⟩, ⟨15, 0, none, "MIN_EDGE", []⟩]⟩,
  ⟨0x054, 1, 4, 32, "SPDCFG", [⟨31, 16, none, "GATE", []⟩, ⟨15, 8, none, "CO_HI", []⟩, ⟨7, 0, none, "CO_LO", []⟩]⟩,
  ⟨0x058, 1, 4, 32, "ZEROT", [⟨15, 0, none, "ZERO_T", []⟩]⟩,
  ⟨0x05C, 1, 4, 32, "ABS", [⟨31, 26, none, "PBITS", []⟩, ⟨25, 23, none, "SBITS", []⟩,
    ⟨22, 21, none, "CHK", [(0, "NONE"), (1, "EVEN_PARITY"), (2, "CRC_6")]⟩, ⟨20, 20, none, "GRAY", []⟩,
    ⟨19, 18, none, "LEAD", []⟩, ⟨15, 8, none, "DIV", []⟩, ⟨7, 0, none, "LAT", []⟩]⟩,
  ⟨0x060, 1, 4, 32, "ABS2", [⟨30, 24, none, "ERR_MASK", []⟩, ⟨23, 16, none, "ABS_MAX", []⟩, ⟨15, 0, none, "REC", []⟩]⟩,
  ⟨0x064, 1, 4, 32, "EMU", [⟨31, 31, none, "EN", []⟩, ⟨30, 30, none, "ZEN", []⟩, ⟨21, 0, none, "ELINES", []⟩]⟩,
  ⟨0x068, 1, 4, 32, "EMU2", [⟨31, 16, none, "EMAX", []⟩, ⟨15, 0, none, "EMIN", []⟩]⟩,
  ⟨0x06C, 1, 4, 32, "CAP", [⟨31, 31, none, "EN", []⟩, ⟨27, 24, none, "FRAME", []⟩]⟩,
  ⟨0x070, 1, 4, 32, "CMD", [⟨2, 2, none, "CLR_FAIL", []⟩, ⟨1, 1, none, "CLR_HOMED", []⟩, ⟨0, 0, none, "SET_POS", []⟩]⟩,
  ⟨0x074, 1, 4, 32, "PRESET", [⟨31, 0, none, "PRESET", []⟩]⟩,
  ⟨0x080, 1, 4, 32, "POS", [⟨31, 0, none, "POS", []⟩]⟩,
  ⟨0x084, 1, 4, 32, "SPEED", [⟨31, 0, none, "SPEED", []⟩]⟩,
  ⟨0x088, 1, 4, 32, "ESPEED", [⟨31, 0, none, "ESPEED", []⟩]⟩,
  ⟨0x08C, 1, 4, 32, "FSTAT", [⟨31, 29, none, "SECTOR", []⟩, ⟨28, 28, none, "HOMED", []⟩, ⟨27, 27, none, "FAILED", []⟩,
    ⟨26, 26, none, "METHOD", [(0, "PERIOD"), (1, "COUNT")]⟩, ⟨25, 25, none, "DIR", [(0, "FORWARD"), (1, "REVERSE")]⟩,
    ⟨24, 24, none, "MOVING", []⟩, ⟨22, 20, none, "LINES", []⟩, ⟨15, 8, none, "ERRCNT", []⟩, ⟨2, 0, none, "MISS", []⟩]⟩,
  ⟨0x090, 1, 4, 32, "IDXCAP", [⟨31, 0, none, "IDXCAP", []⟩]⟩,
  ⟨0x094, 1, 4, 32, "IDXDEV", [⟨31, 31, none, "VALID", []⟩, ⟨30, 30, none, "MATCH", []⟩, ⟨29, 0, none, "D", []⟩]⟩,
  ⟨0x098, 1, 4, 32, "ABSWORD", [⟨31, 0, none, "ABSWORD", []⟩]⟩,
  ⟨0x09C, 1, 4, 32, "ABSSTAT", [⟨31, 31, none, "VALID", []⟩,
    ⟨29, 28, none, "CAUSE", [(0, "NONE"), (1, "CHECK"), (2, "IDLE"), (3, "ERRBIT")]⟩, ⟨22, 16, none, "STATUS", []⟩,
    ⟨5, 0, none, "CHECK", []⟩]⟩,
  ⟨0x0A0, 1, 4, 32, "POSCAP", [⟨31, 0, none, "POSCAP", []⟩]⟩,
  ⟨0x0A4, 1, 4, 32, "EVT", [⟨6, 6, none, "EMU_LAG", []⟩, ⟨5, 5, none, "FAILED", []⟩, ⟨4, 4, none, "ABS_FAIL", []⟩,
    ⟨3, 3, none, "HOMED", []⟩, ⟨2, 2, none, "INDEX_MISSING", []⟩, ⟨1, 1, none, "INDEX_MISMATCH", []⟩,
    ⟨0, 0, none, "EDGE", []⟩]⟩,
  ⟨0x0A8, 1, 4, 32, "IEN", [⟨6, 6, none, "EMU_LAG", []⟩, ⟨5, 5, none, "FAILED", []⟩, ⟨4, 4, none, "ABS_FAIL", []⟩,
    ⟨3, 3, none, "HOMED", []⟩, ⟨2, 2, none, "INDEX_MISSING", []⟩, ⟨1, 1, none, "INDEX_MISMATCH", []⟩,
    ⟨0, 0, none, "EDGE", []⟩]⟩,
  ⟨0x0AC, 1, 4, 32, "COUNT", [⟨31, 16, none, "EDGE", []⟩, ⟨15, 0, none, "MISMATCH", []⟩]⟩,
  ⟨0x0B0, 1, 4, 32, "COUNT2", [⟨31, 16, none, "ABS_FAIL", []⟩, ⟨15, 0, none, "EMU_LAG", []⟩]⟩]

def vuySlice : List VReg := [
  ⟨0x040, 1, 4, 32, "SSTAT", [⟨31, 28, none, "STATE", [(0, "INIT"), (1, "ON_SHIFT"), (2, "DRAINING"), (3, "PLUMB"), (4, "WITHDRAWN")]⟩, ⟨25, 24, none, "FAILS", []⟩, ⟨15, 0, none, "PLUMBS", []⟩]⟩,
  ⟨0x044, 1, 4, 32, "OFS", [⟨9, 0, none, "OFS", []⟩]⟩,
  ⟨0x048, 1, 4, 32, "GAIN", [⟨11, 0, none, "GAIN", []⟩]⟩,
  ⟨0x04C, 1, 4, 32, "SKEW", [⟨5, 0, none, "SKEW", []⟩]⟩,
  ⟨0x050, 1, 4, 32, "CONV_LO", [⟨31, 0, none, "CONV_LO", []⟩]⟩,
  ⟨0x054, 1, 4, 32, "CONV_HI", [⟨31, 0, none, "CONV_HI", []⟩]⟩,
  ⟨0x058, 1, 4, 32, "LASTFAIL", [⟨31, 31, none, "VALID", []⟩, ⟨2, 0, none, "CAUSE", [(1, "OFFSET"), (2, "GAIN"), (3, "SKEW"), (4, "RESIDUAL")]⟩]⟩]

def vuyDdie : List VReg := [
  ⟨0x040, 1, 4, 32, "CFG", [⟨31, 24, none, "PRES_MIN", []⟩, ⟨23, 16, none, "INTLK_TO", []⟩, ⟨11, 8, none, "SOFT_FILT", []⟩,
    ⟨1, 0, none, "MODE", [(0, "NONE"), (1, "GAN"), (2, "SI10"), (3, "SI12")]⟩]⟩,
  ⟨0x044, 1, 4, 32, "VDRV_UV", [⟨7, 0, none, "THRESH", []⟩]⟩,
  ⟨0x048, 1, 4, 32, "DSTAT", [⟨31, 24, none, "VDRV", []⟩, ⟨23, 16, none, "TEMP", []⟩,
    ⟨9, 8, none, "HOLDER", [(0, "NONE"), (1, "HEWER"), (2, "DEPUTY")]⟩, ⟨4, 4, none, "VDRV_OV", []⟩,
    ⟨3, 3, none, "WD_SAFE", []⟩, ⟨2, 2, none, "VDRV_UV", []⟩, ⟨1, 1, none, "HARDSAFE", []⟩, ⟨0, 0, none, "READY", []⟩]⟩,
  ⟨0x04C, 1, 4, 32, "EVT", [⟨9, 9, none, "ST_DONE", []⟩, ⟨8, 8, none, "CFG_IGN", []⟩, ⟨7, 7, none, "MODE_IGN", []⟩,
    ⟨6, 6, none, "AUTH_DISCARD", []⟩, ⟨5, 5, none, "STRENGTH_LIMIT", []⟩, ⟨4, 4, none, "INTLK_TIMEOUT", []⟩,
    ⟨3, 3, none, "VDRV_OV", []⟩, ⟨2, 2, none, "HARDSAFE", []⟩, ⟨1, 1, none, "WD_SAFE", []⟩, ⟨0, 0, none, "VDRV_UV", []⟩]⟩,
  ⟨0x050, 1, 4, 32, "IEN", [⟨9, 9, none, "ST_DONE", []⟩, ⟨8, 8, none, "CFG_IGN", []⟩,
    ⟨7, 7, none, "MODE_IGN", []⟩, ⟨6, 6, none, "AUTH_DISCARD", []⟩, ⟨5, 5, none, "STRENGTH_LIMIT", []⟩,
    ⟨4, 4, none, "INTLK_TIMEOUT", []⟩, ⟨3, 3, none, "VDRV_OV", []⟩, ⟨2, 2, none, "HARDSAFE", []⟩,
    ⟨1, 1, none, "WD_SAFE", []⟩, ⟨0, 0, none, "VDRV_UV", []⟩]⟩,
  ⟨0x054, 1, 4, 32, "LINKCNT", [⟨31, 16, none, "CHECK_FAIL", []⟩, ⟨15, 0, none, "AUTH_DISC", []⟩]⟩,
  ⟨0x058, 1, 4, 32, "LEGCNT", [⟨31, 16, none, "INTLK_TO", []⟩, ⟨15, 0, none, "BLANK_HITS", []⟩]⟩,
  ⟨0x05C, 1, 4, 32, "STRCNT", [⟨15, 0, none, "STR_LIMIT", []⟩]⟩,
  ⟨0x060, 1, 4, 32, "ST_CMD", [⟨15, 8, none, "MARGIN", []⟩, ⟨1, 1, none, "ABORT", []⟩, ⟨0, 0, none, "START", []⟩]⟩,
  ⟨0x064, 1, 4, 32, "ST_MASK_LO", [⟨31, 0, none, "ST_MASK_LO", []⟩]⟩,
  ⟨0x068, 1, 4, 32, "ST_MASK_HI", [⟨31, 0, none, "ST_MASK_HI", []⟩]⟩,
  ⟨0x06C, 1, 4, 32, "ST_FAIL_LO", [⟨31, 0, none, "ST_FAIL_LO", []⟩]⟩,
  ⟨0x070, 1, 4, 32, "ST_FAIL_HI", [⟨31, 0, none, "ST_FAIL_HI", []⟩]⟩,
  ⟨0x074, 1, 4, 32, "ST_SKIP_LO", [⟨31, 0, none, "ST_SKIP_LO", []⟩]⟩,
  ⟨0x078, 1, 4, 32, "ST_SKIP_HI", [⟨31, 0, none, "ST_SKIP_HI", []⟩]⟩,
  ⟨0x07C, 1, 4, 32, "ST_FIRST", [⟨31, 31, none, "VALID", []⟩, ⟨13, 8, none, "LEG", []⟩,
    ⟨5, 4, none, "COMP", [(0, "HARD"), (1, "SOFT"), (2, "PRESENCE")]⟩, ⟨0, 0, none, "LEVEL", [(0, "BELOW"), (1, "ABOVE")]⟩]⟩]

/-- A page's own registers. -/
def vuyRegs : Page → List VReg
  | .top => vuyTop
  | .clk => vuyClk
  | .pwr => vuyPwr
  | .flt => vuyFlt
  | .auth => vuyAuth
  | .arb => vuyArb
  | .nv => vuyNv
  | .bg => vuyBg
  | .link => vuyLink
  | .spi => vuySpi
  | .can => vuyCan
  | .uart => vuyUart
  | .i2c => vuyI2c
  | .gpio => vuyGpio
  | .adc => vuyAdc
  | .res => vuyRes
  | .eng => vuyEng
  | .rost => vuyRost
  | .vuy => vuyVuy
  | .leg => vuyLeg
  | .gang => vuyGang
  | .frame => vuyFrame
  | .axis => vuyAxis
  | .conv => vuyConv
  | .fb => vuyFb
  | .slice => vuySlice
  | .ddie => vuyDdie
  | .mtime => []

end Sys2Proof.Machine
end

