-- ==== Sys2Proof/Machine/Vuyth.lean ====
section
/-!
DEFINITION. The Vuyth map in ROM: its records, tables and header built from the register tables (R75 to R78). The spec gives the
record layouts; the order of the tables, the order of the records within them and which records share field records are the
model's (log 26).
-/

namespace Sys2Proof.Machine

/-- The tables as they grow, latest chunk first, with the number of field and enumeration records and of string bytes so far. -/
structure VuyAcc where
  regs : List (List Byte)
  fields : List (List Byte)
  enums : List (List Byte)
  strs : List (List Byte)
  nRegs : Nat
  nFields : Nat
  nEnums : Nat
  nStr : Nat

/-- A name enters the string table, NUL-terminated and aligned on 2 bytes (R76, R77); answers its offset ÷ 2. -/
def vuyName (s : String) (v : VuyAcc) : Nat × VuyAcc :=
  let b := (s.toList.map fun c => BitVec.ofNat 8 c.toNat) ++ [0]
  let b := if b.length % 2 = 0 then b else b ++ [0]
  (v.nStr / 2, { v with strs := b :: v.strs, nStr := v.nStr + b.length })

/-- R77. -/
def Acc.code : Acc → Nat
  | .rw => 0 | .ro => 1 | .wo => 2 | .w1c => 3 | .w1s => 4 | .rc => 5 | .rww => 6 | .roc => 7

def vuyEnum (e : Nat × String) (v : VuyAcc) : VuyAcc :=
  let (n, v) := vuyName e.2 v
  { v with enums := (natBytes 4 e.1 ++ natBytes 2 n ++ [0, 0]) :: v.enums, nEnums := v.nEnums + 1 }

/-- A field record; its access code is its own, or its register's. -/
def vuyField (acc : Acc) (f : VField) (v : VuyAcc) : VuyAcc :=
  let (n, v) := vuyName f.name v
  let first := v.nEnums
  let v := f.enums.foldl (fun v e => vuyEnum e v) v
  { v with
    fields := (natBytes 1 f.msb ++ natBytes 1 f.lsb ++ natBytes 1 (f.acc.getD acc).code ++ natBytes 1 f.enums.length ++ natBytes 2 first ++
      natBytes 2 n) :: v.fields
    nFields := v.nFields + 1 }

/-- The reset value a register record holds: all ones where it differs by instance (R77). -/
def vuyReset (r : PageRow) (off : Nat) : Word :=
  let w := resetWord (r.base + off)
  if (List.range r.count).all fun i => resetWord (r.base + i * 0x1000 + off) == w then w else 0xFFFFFFFF

/-- The domain kind of a page (R39, R76). -/
def vuyDomain (p : Page) : Nat :=
  let n := domainReset p 0
  if n < 64 then 0 else if n = 64 then 1 else if n = 65 then 2 else if n = 66 then 3 else 4

/-- R41: the pages whose DOMAIN is RW. -/
def vuyMoves : Page → Bool
  | .gang | .leg | .axis | .conv | .fb => true
  | _ => false

/-- The default access code of a register (R76); DOMAIN is RW in the pages that move (R41). DESIGN CHOICE (log 26): a register to
which its table gives two codes (PAGE_STAT, COMMIT_STAT, TRIP, HWDT, DWDT, UART DATA) records the first of them; its fields have
their own. -/
def vuyAcc (p : Page) (off : Nat) : Acc :=
  if off = 0x008 then (if vuyMoves p then .rw else .ro)
  else ((defAt p off).map (·.acc)).getD .ro

/-- The records of a register, or of each element of an array, whose field records start at `first`. -/
def vuyReg (r : PageRow) (first : Nat) (x : VReg) (v : VuyAcc) : VuyAcc :=
  (List.range x.n).foldl (fun v i =>
    let off := x.off + i * x.stride
    let (n, v) := vuyName (if x.n = 1 then x.name else x.name ++ toString i) v
    { v with
      regs := (natBytes 2 off ++ natBytes 1 x.width ++ natBytes 1 (vuyAcc r.page off).code ++ natBytes 4 (vuyReset r off).toNat ++
        natBytes 2 first ++ natBytes 1 x.fields.length ++ natBytes 1 (vuyDomain r.page) ++ natBytes 2 n ++ [0, 0]) :: v.regs
      nRegs := v.nRegs + 1 }) v

/-- A register with field records of its own. -/
def vuyOwn (r : PageRow) (x : VReg) (v : VuyAcc) : VuyAcc :=
  let first := v.nFields
  vuyReg r first x (x.fields.foldl (fun v f => vuyField (vuyAcc r.page x.off) f v) v)

/-- Name of a block type (R436). -/
def pageName : Page → String
  | .leg => "LEG" | .gang => "GANG" | .frame => "FRAME" | .axis => "AXIS" | .conv => "CONV" | .fb => "FB" | .slice => "SLICE"
  | .ddie => "DDIE" | .top => "TOP" | .clk => "CLK" | .pwr => "PWR" | .flt => "FLT" | .auth => "AUTH" | .arb => "ARB" | .nv => "NV"
  | .bg => "BG" | .link => "LINK" | .spi => "SPI" | .can => "CAN" | .uart => "UART" | .i2c => "I2C" | .gpio => "GPIO" | .adc => "ADC"
  | .res => "RES" | .eng => "ENG" | .rost => "ROST" | .vuy => "VUY" | .mtime => "MTIME"

/-- A block type: its record, and those of its registers, the header registers first (R78); `rwDomain` is the first field record of
a DOMAIN that is RW. -/
def vuyType (heads : List Nat) (rwDomain : Nat) (r : PageRow) (p : List (List Byte) × VuyAcc) : List (List Byte) × VuyAcc :=
  let (types, v) := p
  let (n, v) := vuyName (pageName r.page) v
  let first := v.nRegs
  let v := (vuyHeader.zip heads).foldl (fun v x => vuyReg r (if x.1.off = 0x008 && vuyMoves r.page then rwDomain else x.2) x.1 v) v
  let v := (vuyRegs r.page).foldl (fun v x => vuyOwn r x v) v
  ((natBytes 1 r.type ++ [0] ++ natBytes 2 r.count ++ natBytes 4 r.base ++ natBytes 2 4 ++ natBytes 2 first ++ natBytes 2 (v.nRegs - first) ++
    natBytes 2 n) :: types, v)

/-- The header registers' field records, which every block type shares but that of a DOMAIN that is RW; with the first record of
each. -/
def vuyHeads : List Nat × VuyAcc :=
  vuyHeader.foldl (fun (l, v) x => (l ++ [v.nFields], x.fields.foldl (fun v f => vuyField (vuyAcc .top x.off) f v) v))
    ([], ⟨[], [], [], [], 0, 0, 0, 0⟩)

/-- The block types of the map: every page of R436, in its order. -/
def vuyPages : List PageRow := (systemPages ++ blockPages).filter fun r => r.page ≠ .mtime

/-- The map's tables: block types, registers, fields, enumerations, strings. -/
def vuyTables : List Byte × VuyAcc :=
  let (heads, v) := vuyHeads
  let rwDomain := v.nFields
  let v := vuyField .rw ⟨6, 0, none, "DMN", []⟩ v
  let (types, v) := vuyPages.foldl (fun p r => vuyType heads rwDomain r p) ([], v)
  (types.reverse.flatten, v)

/-- The bytes of the map from 0x0001_0000 up, with CRC 0: the header (R75), then the tables in the order of its words. -/
def vuyBytes : List Byte :=
  let (types, v) := vuyTables
  let regsAt := 64 + types.length
  let fieldsAt := regsAt + 16 * v.nRegs
  let enumsAt := fieldsAt + 8 * v.nFields
  let strsAt := enumsAt + 8 * v.nEnums
  ([0x314D5956, 0x00014200, 64, vuyPages.length, regsAt, v.nRegs, fieldsAt, v.nFields, enumsAt, v.nEnums, strsAt, strsAt + v.nStr,
    0, 0, 0, 0].flatMap fun w => natBytes 4 w) ++
  types ++ v.regs.reverse.flatten ++ v.fields.reverse.flatten ++ v.enums.reverse.flatten ++ v.strs.reverse.flatten

/-- R75: the CRC of the map, with its own field as 0. -/
def vuyCrc : Word := crc32 vuyBytes

end Sys2Proof.Machine
end

