-- ==== Sys2Proof/Machine/Access.lean ====
section
/-!
DEFINITION. An access of a requester to an address: the map of R434, access faults (R435), reads and writes of every page by
the access codes of R12, 64-bit values (R64 to R67), the writes that a page gives a meaning of its own, and injected reads
(R430).
-/

namespace Sys2Proof.Machine

/-! ### What a register reads as -/

/-- The word that a register shows now, with REC_LEFT and the oldest tally entry (R425, R427). -/
def shown (d : Dev) (a : Nat) : Word :=
  if a = fltP + 0x054 then
    match d.flt.wait with
    | some w => BitVec.ofNat 32 (min 0xFFFF ((quietEnd d w.scope - d.now + 599999) / 600000))
    | none => 0
  else if a = fltP + 0x080 then ((tallyBefore d).headD (0, 0)).1
  else if a = fltP + 0x084 then ((tallyBefore d).headD (0, 0)).2
  else liveWord d a

/-- R12: the word an access code gives a read, without what the read does. -/
def codeWord (d : Dev) (a : Nat) (acc : Acc) : Word :=
  match acc with
  | .wo => 0
  | .roc => castWord d a
  | .rc => if (d.eventAt a).isSome then d.beforeEvents a else shown d a
  | _ => shown d a

def accAt (p : Page) (off : Nat) : Option Acc := (defAt p off).map (·.acc)

/-- The word at an offset of a page, without what the read does. -/
def peek (d : Dev) (p : Page) (a : Nat) : Word :=
  match accAt p (a % 0x1000) with
  | none => 0
  | some acc => codeWord d a acc

/-- What a read of a register does: RC clears, a DATA read of a UART takes the head, a TALLY_LO read the oldest entry. -/
def readEffect (p : Page) (inst a : Nat) (d : Dev) : Dev :=
  let off := a % 0x1000
  match p, off with
  | .uart, 0x044 => (uartTake inst d).2
  | .flt, 0x080 => (tallyTake d).2
  | _, _ => if accAt p off = some .rc then d.readClear a else d

def NEWER : Nat := 28

/-- A read of a page's register by a requester. -/
def pageRead (who : Requester) (p : Page) (inst a : Nat) (d : Dev) : Word × Dev :=
  let rid := requesterId who
  let off := a % 0x1000
  if isPairHigh a then
    match pairTake (sget noPairs d.pairs rid) a with
    | some (w, rest) => (w, { d with pairs := sput noPairs d.pairs rid rest })
    | none => (peek d p a, d)
  else
    let w := if p = .uart && off = 0x044 then (uartTake inst d).1 else peek d p a
    let d := if isPairLow a then pairPut rid (a + 4) (peek d p (a + 4)) d else d
    let d := readEffect p inst a d
    if p = .res && 0x100 ≤ off && off < 0x300 then
      let (n, d) := newerRead rid ((off - 0x100) / 8) d
      (setBits w NEWER 1 (b2n n), d)
    else (w, d)

/-! ### Writes that a page gives a meaning of its own -/

/-- R113: a write to CMD of a leg (log 44). -/
def legCmd (n : Nat) (val : Word) (d : Dev) : Dev :=
  if bitOf val 1 then
    if (d.leg n).retired then d else (journal n 0 false (retireLeg d true n)).reLimp
  else if !bitOf val 0 then d
  else if !(d.leg n).retired || (listedIn d n).isSome || (d.leg n).retCycle == some (d.now / 2) then d.raise (legP n) LEG.EVT.CMD_IGN
  else (journal n 0 true (d.setLeg n { d.leg n with retired := false, fwRet := false, dark := false, dieRetired := false })).reLimp

/-- What a comparator shows where the access names nothing of it: free (log 2) (log 25). -/
def freeComp (d : Dev) : CompRead × Dev :=
  let (v, d) := d.draw
  (⟨v.getLsbD 0, v.toNat / 2⟩, d)

/-- R162: whether a command on a drive link passes its check, for a write that does not name it: free (log 25). -/
def freeCheck (d : Dev) : Bool × Dev :=
  let (v, d) := d.draw
  (!v.getLsbD 0, d)

/-- A write to TRIP that is no row of its own (log 25). -/
def tripLand (n : Nat) (val : Word) (d : Dev) : Dev :=
  let (h, d) := freeComp d
  let (s, d) := freeComp d
  let (chk, d) := freeCheck d
  tripWrite n val chk h s d

/-- R67, R163: the high word of ST_MASK is written; `chk` tells whether the command passes its link check. -/
def maskHigh (who : Requester) (k : Nat) (chk : Bool) (val : Word) (d : Dev) : Dev :=
  let (lo, d) := lowTake (requesterId who) (ddieP k + 0x064) d
  maskCommand k (lo.getD (d.die k).maskLo) val chk d

/-- R163: writes to a DDIE page that travel to the die; whether those of rows without the operand pass the link check is free (log 25). -/
def ddieWrite (who : Requester) (k off : Nat) (val : Word) (d : Dev) : Option Dev :=
  let sent := fun (f : Bool → Dev → Dev) => let (chk, d) := freeCheck d; some (f chk d)
  match off with
  | 0x040 => sent (cfgCommand k val)
  | 0x044 => sent (uvCommand k val)
  | 0x060 => sent (stCommand k val)
  | 0x064 => some (lowPut (requesterId who) (ddieP k + 0x064) val d)
  | 0x068 => sent fun chk => maskHigh who k chk val
  | _ => none

def topWrite (who : Requester) (off : Nat) (val : Word) (d : Dev) : Option Dev :=
  match off with
  | 0x048 => some (modeReqLand who val d)
  | 0x050 => some (rstLand who val d)
  | 0x058 => some (hctlLand who val d)
  | 0x05C => some (if who = .deputy then d.setReg (topP + 0x05C) val else d)
  | _ =>
    if 0x070 ≤ off && off < 0x090 then
      some (if off % 8 = 0 then hwdtLand who ((off - 0x070) / 8) val d else hkickLand who ((off - 0x074) / 8) val d)
    else none

/-- R427, R428: RECOVER; both bits set count as CANCEL. -/
def recoverWrite (who : Requester) (val : Word) (d : Dev) : Dev :=
  if bitOf val 1 then cancelLand d
  else if bitOf val 0 then recoverLand who (bits val 24 3) (bits val 16 6) d
  else if d.flt.wait.isSome then d.raise fltP FLT.EVT.REC_IGN else d

def fltWrite (who : Requester) (off : Nat) (val : Word) (d : Dev) : Option Dev :=
  if off = 0x040 || off = 0x044 || off = 0x048 || (0x100 ≤ off && off < 0x180) then
    some (if d.mode = .configure || who = .deputy then d.setReg (fltP + off) (val &&& maskAt (fltP + off))
      else d.raise fltP FLT.EVT.CFG_IGN)
  else match off with
    | 0x04C => some (recoverWrite who val d)
    | 0x068 =>
      let d := if bitOf val 1 then clearTally d else d
      some (if bitOf val 0 then clearFirst d else d)
    | 0x08C => some (injWrite val d)
    | _ => none

def authWrite (who : Requester) (off : Nat) (val : Word) (d : Dev) : Option Dev :=
  match off with
  | 0x044 => some (hcmdWrite who val d)
  | 0x048 => some (dcmdWrite who val d)
  | 0x04C => some (beatLand who false d)
  | 0x050 => some (beatLand who true d)
  | 0x070 => some (dwdtLand who val d)
  | 0x074 => some (dkickLand who val d)
  | 0x078 => some (dbgLand who val d)
  | _ => none

def adcWrite (off : Nat) (val : Word) (d : Dev) : Option Dev :=
  match off with
  | 0x048 => some (manLand val d)
  | 0x04C => some (if bitOf val 1 then tdAbort d else if bitOf val 0 then tdGo val d else d)
  | _ => none

def linkWrite (off : Nat) (val : Word) (d : Dev) : Option Dev :=
  match off with
  | 0x040 => some (linkCfgWrite val d)
  | 0x04C => some (linkSyncWrite val d)
  | 0x074 => some (txctlLand val d)
  | 0x080 => some (rxctlLand val d)
  | _ => none

def canRegWrite (n off : Nat) (val : Word) (d : Dev) : Option Dev :=
  match off with
  | 0x040 => some (canModeLand n val d)
  | 0x05C => some (canSendLand n val d)
  | 0x060 => some (canAbortLand n val d)
  | 0x070 => some (rxnextLand n val d)
  | _ => if 0x044 ≤ off && off < 0x050 || 0x100 ≤ off && off < 0x680 then some (canWrite n off val d) else none

def gpioWrite (who : Requester) (off : Nat) (val : Word) (d : Dev) : Option Dev :=
  match off with
  | 0x040 | 0x044 | 0x048 | 0x04C => some (gpioOutWrite off val d)
  | 0x200 => some (tampcfgWrite who val d)
  | 0x204 => some (tampstatLand who val d)
  | _ => if 0x100 ≤ off && off < 0x180 && off % 16 = 0 then some (tmrCfgWrite ((off - 0x100) / 16) val d) else none

/-- R67: ALARM takes effect when its high word is written. -/
def alarmWrite (who : Requester) (high : Bool) (val : Word) (d : Dev) : Dev :=
  let lo := pwrP + 0x06C
  if !high then lowPut (requesterId who) lo val d
  else
    let (w, d) := lowTake (requesterId who) lo d
    let d := d.setReg (pwrP + 0x070) val
    match w with
    | some w => d.setReg lo w
    | none => d

def pwrWrite (who : Requester) (off : Nat) (val : Word) (d : Dev) : Option Dev :=
  match off with
  | 0x058 => some (wakeCauseWrite val d)
  | 0x06C => some (alarmWrite who false val d)
  | 0x070 => some (alarmWrite who true val d)
  | _ => none

/-- R406: NEXT of LFCFG is RW, LFN is RWW. -/
def lfcfgWrite (c : Nat) (val : Word) (d : Dev) : Dev :=
  wetLand (convP c + 0x07C) val (d.setFld (convP c) CONV.LFCFG.NEXT (bits val 16 16))

/-- The writes to a page's registers that do more than their access code says. -/
def specialWrite (who : Requester) (p : Page) (inst off : Nat) (val : Word) (d : Dev) : Option Dev :=
  match p with
  | .leg => if off = 0x054 then some (axesSettle (legCmd inst val d)) else if off = 0x05C then some (tripLand inst val d) else none
  | .gang => if off = 0x0A8 then some (setLoad inst (bits val 0 16) d) else none
  | .axis => if off = 0x08C then some (axisCmd inst val d) else none
  | .conv => if off = 0x080 then some (convCmd inst val d) else if off = 0x07C then some (lfcfgWrite inst val d) else none
  | .fb => if off = 0x070 then some (fbCmd inst val d) else none
  | .ddie => ddieWrite who inst off val d
  | .top => topWrite who off val d
  | .clk => if off = 0x040 then some (clkCfgLand val d) else none
  | .pwr => pwrWrite who off val d
  | .flt => fltWrite who off val d
  | .auth => authWrite who off val d
  | .arb => if 0x100 ≤ off && off < 0x180 then some (dmaRegWrite who off val d)
    else if 0x040 ≤ off && off < 0x058 || off = 0x068 then some (arbWrite who off val d)
    else if (off = 0x060 || off = 0x064) && !(isHewer who || who == .deputy) then some (arbIgn d)
    else none
  | .nv => if off = 0x040 then some (nvskWrite who val d) else if off = 0x054 then some (jcmdLand who val d)
    else if off = 0x100 then some (updCtlLand val d) else none
  | .bg => if 0x040 ≤ off && off < 0x080 && accAt .bg off = some .rw then some (bgWrite who off val d) else none
  | .link => linkWrite off val d
  | .can => canRegWrite inst off val d
  | .uart => if off = 0x044 then some (uartTxLand inst val d) else none
  | .i2c => if off = 0x044 then some (i2cCmdLand val d) else none
  | .gpio => gpioWrite who off val d
  | .adc => adcWrite off val d
  | .res => if 0x300 ≤ off then some (wincfgLand (resP + off) val d) else none
  | .eng => if off = 0x04C then some (ctxcmdLand val d) else none
  | .rost => if off = 0x048 then some (rostCmd val d) else none
  | .mtime => some (mtimeWrite who off val d)
  | _ => none

/-- Writes to the header (R36). -/
def headerWrite (base off : Nat) (val : Word) (d : Dev) : Dev :=
  match off with
  | 0x004 => if bitOf val 2 then d.wipe (base + 0x004) 4 else d
  | 0x008 => domainLand base val d
  | 0x00C => commitWrite base val d
  | 0x010 => commitStatWrite base val d
  | 0x01C => if bitOf val 0 then castLand base (bitOf val 1) d else d
  | _ => d

/-- R12: what a write does by its access code. -/
def codeWrite (a : Nat) (acc : Acc) (val : Word) (d : Dev) : Dev :=
  let w := val &&& maskAt a
  match acc with
  | .rw => d.setReg a w
  | .w1c => d.wipe a w
  | .w1s => d.setReg a (d.reg a ||| w)
  | .rww => wetLand a val d
  | _ => d

/-- A write past the header of a page: what the page makes of it, or what its access code says. -/
def bodyWrite (who : Requester) (p : Page) (inst a : Nat) (val : Word) (d : Dev) : Dev :=
  match specialWrite who p inst (a % 0x1000) val d with
  | some d => d
  | none => match accAt p (a % 0x1000) with
    | some acc => codeWrite a acc val d
    | none => d

/-- A write to a page that R455 does not ignore. -/
def pageWrite (who : Requester) (p : Page) (inst a : Nat) (val : Word) (d : Dev) : Dev :=
  if p ≠ .mtime && a % 0x1000 < 0x040 then headerWrite (pageBase a) (a % 0x1000) val d else bodyWrite who p inst a val d

/-! ### The address map (R434, R435) -/

/-- A region, as its accesses go. -/
inductive Region where
  | rom | vuyth | timer | plicH | plicD | sram | deputy | mram | ctx | stage | roster
  | page (p : Page) (inst : Nat)
deriving DecidableEq, Repr

def regionAt (a : Nat) : Option Region :=
  if a < 0x10000 then some .rom
  else if a < 0x40000 then some .vuyth
  else if 0x02000000 ≤ a && a < 0x02010000 then some .timer
  else if 0x0C000000 ≤ a && a < 0x0C400000 then some .plicH
  else if 0x0E000000 ≤ a && a < 0x0E400000 then some .plicD
  else if inSram a then some .sram
  else if inDeputy a then some .deputy
  else if inMram a then some .mram
  else if 0x30000000 ≤ a && a < 0x30030000 then some .ctx
  else if 0x30040000 ≤ a && a < 0x30060000 then some .stage
  else if 0x31000000 ≤ a && a < 0x31040000 then some .roster
  else if a < 0x40000000 then none
  else (pageAt a).map fun (r, i) => .page r.page i

/-- The requesters that a region serves. -/
def serves (who : Requester) : Region → Bool
  | .timer => isHewer who || who == .deputy
  | .plicH => isHewer who
  | .plicD => who == .deputy
  | .deputy => who == .deputy
  | _ => true

def Region.readOnly : Region → Bool
  | .rom | .vuyth => true
  | _ => false

/-- The region that serves an access; none: an access fault. -/
def access (who : Requester) (a : Nat) (write : Bool) : Option Region :=
  match regionAt a with
  | none => none
  | some r => if serves who r && !(write && r.readOnly) then some r else none

/-- The regions that instructions are fetched from (R434). -/
def Region.executes : Region → Bool
  | .rom | .sram | .deputy | .mram => true
  | _ => false

/-- R434, R435: whether the map permits an access; AMOs, LR and SC act in Hewer SRAM alone (R441). -/
def permitted (who : Requester) (a : Nat) (kind : AccKind) : Bool :=
  match access who a (kind = .store || kind = .amo) with
  | none => false
  | some r => match kind with
    | .fetch => r.executes
    | .amo => r = .sram
    | _ => true

/-! ### Reads -/

def romWord (f : Nat → Byte) (a : Nat) : Word := bytesWord ((List.range 4).map fun i => f (a + i))

/-- R75 to R78: a word of the Vuyth map; the bytes above LENGTH as the device holds them (log 26). -/
def vuythWord (a : Nat) : Word :=
  let off := a - 0x10000
  if off = 0x3C then vuyCrc
  else match (vuyBytes.drop off).take 4 with
    | [b0, b1, b2, b3] => bytesWord [b0, b1, b2, b3]
    | bs => bytesWord (bs ++ ((List.range 4).map fun i => Config.vuythByte (a + i)).drop bs.length)

/-- Page and CE kind of the checker of a memory (R410). -/
def checker : Region → Option (Nat × Nat)
  | .sram => some (arbP, 18)
  | .deputy => some (authP, 22)
  | .mram => some (nvP, 20)
  | .ctx => some (engP, 16)
  | .stage => some (engP, 16)
  | _ => none

/-- The report that a read of the word at `a` makes, with the kind of its error. -/
def checkMsg (base kind a : Nat) : FaultMsg :=
  if base = engP then
    if a < 0x30040000 then { faultOf engP kind ((a - 0x30000000) / 0x400) with full := BitVec.ofNat 32 ((a - 0x30000000) / 0x400) }
    else { faultOf engP kind (2 ^ 13 + (a - 0x30040000) / 32) with full := 0xFF }
  else eccMsg base kind a

/-- R430: the injected read: a correctable error is corrected, an uncorrectable one ends in an error response (log 23). -/
def injRead (r : Region) (a : Nat) (d : Dev) : Dev × Bool :=
  match checker r with
  | none => (d, true)
  | some (base, kind) =>
    if !injHit d a 4 then (d, true)
    else if injEcc d = .corrected then (injSend (checkMsg base kind a) d, true)
    else (injSend (checkMsg base (kind + 1) a) d, false)

/-- The word of a region. -/
def regionRead (who : Requester) (r : Region) (a : Nat) (d : Dev) : Word × Dev :=
  match r with
  | .rom => (romWord Config.bootRomByte a, d)
  | .vuyth => (vuythWord a, d)
  | .timer => if a < 0x02001000 then pageRead who .mtime 0 a d else (0, d)
  | .plicH => plicRead hewerPlic a d
  | .plicD => plicRead deputyPlic a d
  | .sram | .deputy | .mram => (memWord d a, d)
  | .ctx => (ctxRead d ((a - 0x30000000) / 0x400) (a % 0x400), d)
  | .stage => (slotWord d ((a - 0x30040000) / 32) (a % 32 / 4), d)
  | .roster =>
    let rid := requesterId who
    if a % 8 = 0 then (entryRead d a, pairPut rid (a + 4) (entryRead d (a + 4)) d)
    else match pairTake (sget noPairs d.pairs rid) a with
      | some (w, rest) => (w, { d with pairs := sput noPairs d.pairs rid rest })
      | none => (entryRead d a, d)
  | .page p i => pageRead who p i a d

/-- A requester's latest access: the word it read, and whether the access ended in a fault. -/
def answer (who : Requester) (w : Word) (bad : Bool) (d : Dev) : Dev :=
  let rid := requesterId who
  { d with resp := sput noWord0 d.resp rid w, afault := sput (fun _ => false) d.afault rid bad }

/-- R435, R441, R475: an access fault; a Hewer core traps and loses its reservation, a DMA channel stops with an error. -/
def accessFaultAt (who : Requester) (d : Dev) : Dev :=
  let d := match who with
    | .hewer c => d.setSys fun r => { r with resv := r.resv.set c.val none }
    | .dma ch => if dmaState d ch.val = 1 then dmaErr ch.val d else d
    | _ => d
  answer who 0 true d

/-- Words are read and written whole: the two low bits of an address count as 0 (log 7). -/
def wordAddr (a : Word) : Nat := a.toNat / 4 * 4

/-- R469: the core whose accesses a mask stalls. -/
def stalled (d : Dev) : Requester → Option (Fin 4)
  | .hewer c => if masked d c.val then some c else none
  | _ => none

/-- R469: an access of a masked core stalls; it is made once the mask is gone (log 70). -/
def stall (c : Fin 4) (op : CoreOp) (d : Dev) : Dev := { d with arb := { d.arb with stalls := d.arb.stalls ++ [(c, op)] } }

/-- A read of a word: what it returns, and whether it succeeds (log 7, 71). -/
def busRead (who : Requester) (addr : Word) (d : Dev) : Option Word × Dev :=
  let a := wordAddr addr
  match stalled d who, access who a false with
  | some c, _ => (none, stall c (.read addr) d)
  | none, none => (none, accessFaultAt who d)
  | none, some r =>
    let (d, ok) := injRead r a d
    if !ok then (none, accessFaultAt who d)
    else
      let (w, d) := regionRead who r a d
      (some w, answer who w false d)

/-! ### Writes -/

/-- How a write ends. -/
inductive WriteEnd where
  | landed | blocked | fault | stalled
deriving DecidableEq, Repr

def ownCore : Requester → Option Nat
  | .hewer c => some c.val
  | _ => none

def regionWrite (who : Requester) (r : Region) (a : Nat) (val : Word) (d : Dev) : Dev :=
  match r with
  | .rom | .vuyth => d
  | .timer => if a < 0x02001000 then mtimeWrite who (a % 0x1000) val d else d
  | .plicH => plicWrite hewerPlic a val d
  | .plicD => plicWrite deputyPlic a val d
  | .sram => breakResv (ownCore who) a 4 (memPutAll a (wordBytes val) d)
  | .deputy => memPutAll a (wordBytes val) d
  | .mram => if slotIgnored d a then updIgn d else memPutAll a (wordBytes val) d
  | .ctx => ctxWrite ((a - 0x30000000) / 0x400) (a % 0x400) val d
  | .stage => stageWrite ((a - 0x30040000) / 32) (a % 32 / 4) val d
  | .roster => entryWrite who a val d
  | .page p i => pageWrite who p i a val d

/-- A write of a word (log 7, 71). -/
def busWriteEnd (who : Requester) (addr : Word) (val : Word) (d : Dev) : WriteEnd × Dev :=
  let a := wordAddr addr
  match stalled d who, access who a true with
  | some c, _ => (.stalled, stall c (.write addr val) d)
  | none, none => (.fault, accessFaultAt who d)
  | none, some r =>
    if blocked d who a then (.blocked, answer who 0 false (logBlocked who a d))
    else (.landed, answer who 0 false (regionWrite who r a val d))

def busWrite (who : Requester) (addr : Word) (val : Word) (d : Dev) : Dev := (busWriteEnd who addr val d).2

end Sys2Proof.Machine
end

