-- ==== Sys2Proof/Machine/Banksman.lean ====
section
/-!
DEFINITION. Accesses that the cores and the DMA channels make of their own: LR, SC and AMOs (R441), DMA copies (R472 to
R475), the reset of a running channel (R503).
-/

namespace Sys2Proof.Machine

/-! ### DMA (R472 to R475) -/

/-- Copy one word; false: an access fault. -/
def dmaWord (ch : Fin 8) (src dst : Nat) (d : Dev) : Bool × Dev :=
  match busRead (.dma ch) (BitVec.ofNat 32 src) d with
  | (none, d) => (false, d)
  | (some w, d) =>
    match busWriteEnd (.dma ch) (BitVec.ofNat 32 dst) w d with
    | (.fault, d) => (false, d)
    | (_, d) => (true, d)

/-- Copy words in ascending order up to an access fault. -/
def dmaCopy (ch : Fin 8) : Nat → Nat → Nat → Dev → Bool × Dev
  | 0, _, _, d => (true, d)
  | n + 1, src, dst, d =>
    match dmaWord ch src dst d with
    | (true, d) => dmaCopy ch n (src + 4) (dst + 4) d
    | r => r

/-- The words of the descriptor at an address, as the channel reads them; none where a read fails (log 69). -/
def dmaDescriptor (ch : Fin 8) (a : Nat) (d : Dev) : Option (List Word) × Dev :=
  [0, 4, 8, 12].foldl (fun (p : Option (List Word) × Dev) o => match p with
    | (some ws, d) =>
      let (w, d) := busRead (.dma ch) (BitVec.ofNat 32 (a + o)) d
      (w.map fun w => ws ++ [w], d)
    | q => q) (some [], d)

/-- R473, R475: a running channel moves `most` words of its present descriptor at most; what the descriptor's W3 holds
where nothing goes wrong. -/
def dmaRun (ch : Fin 8) (most : Nat) (d : Dev) : Option Word × Dev :=
  match dmaDescriptor ch (d.reg (dmaA ch.val + 0xC)).toNat d with
  | (none, d) => (none, dmaErr ch.val d)
  | (some ws, d) =>
    let len := bits (ws.getD 2 0) 0 24
    if len % 4 ≠ 0 then (none, dmaErr ch.val d)
    else match dmaCopy ch (min most (len / 4)) (ws.getD 0 0).toNat (ws.getD 1 0).toNat d with
      | (false, d) => (none, dmaErr ch.val d)
      | (true, d) => (some (ws.getD 3 0), d)

/-- Whether the present descriptor of a channel moves words through the port (R472). -/
def dmaOnPort (d : Dev) (ch : Nat) : Bool :=
  let a := (d.reg (dmaA ch + 0xC)).toNat
  [a, a + 4].any fun w => let x := (memWord d w).toNat; inSram x || inMram x

/-- R469, R470: a masked channel pauses, unless its grant is running; under FREEZE one that needs the port waits, and one whose
grant has been cut at a beat boundary. -/
def dmaPaused (d : Dev) (ch : Nat) : Bool :=
  if arbHolder d = 9 + ch then d.arb.cut else masked d (9 + ch) || (frozen d && dmaOnPort d ch)

/-- DMA_DESCRIPTOR_DONE: the channel has moved its whole descriptor, and follows NEXT or stops at END. -/
def dmaDescLand (ch : Fin 8) (d : Dev) : Dev :=
  if dmaState d ch.val ≠ 1 || dmaPaused d ch.val then d
  else match dmaRun ch (2 ^ 22) d with
    | (none, d) => d
    | (some w3, d) =>
      let d := if bitOf w3 1 then d.raise arbP ARB.EVT.DMA_DONE else d
      if bitOf w3 0 then setDma ch.val 2 d
      else
        let next := bits w3 4 28 * 16
        let d := d.setReg (dmaA ch.val + 0xC) (BitVec.ofNat 32 next)
        if inSram next then d else dmaErr ch.val d

/-- The beats a running channel has made of its descriptor before it is stopped (log 69). -/
def dmaMoved (ch : Fin 8) (n : Nat) (d : Dev) : Dev :=
  if dmaState d ch.val ≠ 1 || n = 0 then d else (dmaRun ch n d).2

/-- DMA_ABORT: the words moved so far, then the write of ABORT. -/
def dmaAbortLand (who : Requester) (ch : Fin 8) (val : Word) (moved : Nat) (d : Dev) : Dev :=
  let d := if isDma who || !bitOf val 1 then d else dmaMoved ch moved d
  busWrite who (BitVec.ofNat 32 (dmaA ch.val + 4)) val d

/-- HEWER_RESET: the words that each running channel has moved, then the write of RST. -/
def hewerResetWrite (who : Requester) (val : Word) (moved : List Nat) (d : Dev) : Dev :=
  let stops := who = .deputy && bits val 24 8 = 0xB7 && bitOf val 1 && !bitOf val 0
  let d := if stops then (List.finRange 8).foldl (fun d ch => dmaMoved ch (moved.getD ch.val 0) d) d else d
  busWrite who (BitVec.ofNat 32 (topP + 0x050)) val d

/-! ### LR, SC and AMO (R441) -/

def resvOf (d : Dev) (c : Nat) : Option (Nat × Nat) := d.sys.resv.getD c none
def setResv (c : Nat) (r : Option (Nat × Nat)) (d : Dev) : Dev := d.setSys fun s => { s with resv := s.resv.set c r }

/-- LR, SC and AMOs are valid in Hewer SRAM, on words (log 13); elsewhere they end in an access fault. -/
def atomicAt (addr : Word) : Bool := inSram addr.toNat && addr.toNat % 4 == 0

/-- LR reserves the 32-byte granule of its address. -/
def lrLand (c : Fin 4) (addr : Word) (d : Dev) : Dev :=
  if masked d c.val then stall c (.lr addr) d
  else if !atomicAt addr then accessFaultAt (.hewer c) d
  else match busRead (.hewer c) addr d with
    | (none, d) => d
    | (some _, d) => setResv c.val (some (addr.toNat / 32 * 32, d.now)) d

/-- Whether a core's reservation covers an address and has not expired. -/
def reserved (d : Dev) (c a : Nat) : Bool :=
  match resvOf d c with
  | some (g, t) => decide (g = a / 32 * 32) && decide (d.now < t + 256)
  | none => false

/-- SC stores where the reservation holds; it reads 0 then, else 1, and ends the reservation. -/
def scLand (c : Fin 4) (addr val : Word) (d : Dev) : Dev :=
  if masked d c.val then stall c (.sc addr val) d
  else if !atomicAt addr then accessFaultAt (.hewer c) d
  else
    let ok := reserved d c.val addr.toNat
    let d := if ok then busWrite (.hewer c) addr val d else d
    let d := d.setSys fun s => { s with resv := s.resv.set c.val none, scOk := s.scOk.set c.val ok }
    answer (.hewer c) (if ok then 0 else 1) false d

/-- The RV32A operations. -/
def amoWord (op : AmoOp) (x y : Word) : Word :=
  match op with
  | .swap => y
  | .add => x + y
  | .xor => x ^^^ y
  | .and => x &&& y
  | .or => x ||| y
  | .min => if x.toInt ≤ y.toInt then x else y
  | .max => if x.toInt ≤ y.toInt then y else x
  | .minu => if x.toNat ≤ y.toNat then x else y
  | .maxu => if x.toNat ≤ y.toNat then y else x

/-- AMO: reads and writes in one grant; the core gets the old word. -/
def amoLand (c : Fin 4) (op : AmoOp) (addr val : Word) (d : Dev) : Dev :=
  if masked d c.val then stall c (.amo op addr val) d
  else if !atomicAt addr then accessFaultAt (.hewer c) d
  else match busRead (.hewer c) addr d with
    | (none, d) => d
    | (some w, d) => answer (.hewer c) w false (busWrite (.hewer c) addr (amoWord op w val) d)

/-- A stalled access is made. -/
def coreOp (c : Fin 4) (op : CoreOp) (d : Dev) : Dev :=
  match op with
  | .read a => (busRead (.hewer c) a d).2
  | .write a v => busWrite (.hewer c) a v d
  | .lr a => lrLand c a d
  | .sc a v => scLand c a v d
  | .amo op a v => amoLand c op a v d

/-- R469: the accesses of cores that are masked no more, in the order in which they came. -/
def unstall (d : Dev) : Dev :=
  let go := d.arb.stalls.filter fun x => !masked d x.1.val
  go.foldl (fun d x => coreOp x.1 x.2 d) { d with arb := { d.arb with stalls := d.arb.stalls.filter fun x => masked d x.1.val } }

/-- RESERVATION_EXPIRY: 256 CLK_CPU cycles, a tick each, after the LR. -/
def resvExpiryLand (c : Nat) (d : Dev) : Dev :=
  match resvOf d c with
  | some (_, t) => if t + 256 ≤ d.now then setResv c none d else d
  | none => d

end Sys2Proof.Machine
end

