-- ==== Sys2Proof/Machine/Spi.lean ====
section
/-!
DEFINITION. Register access from outside: the SPI target (R519 to R524, R548) and the link's RD and WR frames (R542).
-/

namespace Sys2Proof.Machine

/-! ### Words in order (R523, R542) -/

/-- Reads of `n` words from an address up, stopping at an access fault: what they returned, and the word that faulted. -/
def readWords (who : Requester) : Nat → Nat → Nat → Dev → List Word × Option Nat × Dev
  | 0, _, _, d => ([], none, d)
  | n + 1, a, k, d =>
    match busRead who (BitVec.ofNat 32 a) d with
    | (none, d) => (List.replicate (n + 1) 0, some k, d)
    | (some w, d) =>
      let (ws, e, d) := readWords who n (a + 4) (k + 1) d
      (w :: ws, e, d)

/-- Writes of words from an address up, stopping at an access fault: whether one was blocked, the word that faulted. -/
def writeWords (who : Requester) : List Word → Nat → Nat → Dev → Bool × Option Nat × Dev
  | [], _, _, d => (false, none, d)
  | w :: ws, a, k, d =>
    match busWriteEnd who (BitVec.ofNat 32 a) w d with
    | (.fault, d) => (false, some k, d)
    | (e, d) =>
      let (b, f, d) := writeWords who ws (a + 4) (k + 1) d
      (b || e == .blocked, f, d)

/-! ### STATUS (R521) -/

def CRCERR : Nat := 128
def ACCERR : Nat := 64
def TIMEOUT : Nat := 32
def BUSY : Nat := 16
def BLOCKED : Nat := 8
def CMDERR : Nat := 4

/-! ### The SPI target (R520 to R524) -/

/-- The bytes of a request before its CRC (R519, R520). -/
def spiBytes (r : SpiReq) : List Byte := r.cmd :: (wordBytesHigh r.addr ++ r.vals.flatMap wordBytesHigh)

/-- R521: the CRC that a request has to carry. -/
def spiCrc (r : SpiReq) : Byte := crc8 0xFF (spiBytes r)

/-- R520: a response from its start byte to its CRC. -/
def spiFrame (status : Nat) (data : List Word) : List Byte :=
  let b := 0x5A#8 :: (data.flatMap wordBytesHigh ++ [BitVec.ofNat 8 status])
  b ++ [crc8 0xFF b]

/-- R522: a request that HOST_ERR reports. -/
def hostErr (cause word : Nat) (r : SpiReq) (d : Dev) : Dev :=
  let d := d.setReg (spiP + 0x050) (BitVec.ofNat 32 (2 ^ 31 + cause * 2 ^ 24 + word * 2 ^ 16 + r.cmd.toNat))
  (d.setReg (spiP + 0x054) r.addr).send (faultOf spiP 55 cause)

def spiCmd (r : SpiReq) : Nat := r.cmd.toNat / 32
def spiLow (r : SpiReq) : Nat := r.cmd.toNat % 32

/-- R522: a command that does not exist, or a low field that has to be 0 and is not. -/
def spiBad (r : SpiReq) : Bool :=
  match spiCmd r with
  | 2 | 3 => false
  | 0 | 1 | 4 => spiLow r != 0
  | 5 => decide (1 < spiLow r)
  | _ => true

def spiAccErr (k : Option Nat) (r : SpiReq) (d : Dev) : Nat × Dev :=
  match k with
  | none => (0, d)
  | some k => (ACCERR, (hostErr 2 k r d).raise spiP SPI.EVT.ACCESS)

/-- The accesses of a request: STATUS and the data it returns. -/
def spiAccess (r : SpiReq) (d : Dev) : Nat × List Word × Dev :=
  let a := wordAddr r.addr
  let write := fun (vals : List Word) (d : Dev) =>
    let (b, e, d) := writeWords .spi vals a 0 d
    let (s, d) := spiAccErr e r d
    (s + if b then BLOCKED else 0, ([] : List Word), d)
  let read := fun (n : Nat) (d : Dev) =>
    let (ws, e, d) := readWords .spi n a 0 d
    let (s, d) := spiAccErr e r d
    (s, ws, d)
  match spiCmd r with
  | 0 => read 1 d
  | 2 => read (spiLow r + 1) d
  | 1 | 3 => write r.vals d
  | 5 =>
    let (e, d) := match regionAt a with
      | some (.page _ _) =>
        busWriteEnd .spi (BitVec.ofNat 32 (pageBase a + 0x01C)) (BitVec.ofNat 32 (1 + 2 * (spiLow r % 2))) d
      | _ => (.fault, d)
    let (s, d) := spiAccErr (if e = .fault then some 0 else none) r d
    (s + if e = .blocked then BLOCKED else 0, [], d)
  | _ => (0, [], d)

/-- Words that a READ or BURST_RD returns in any case. -/
def spiZeros (r : SpiReq) : List Word :=
  match spiCmd r with
  | 0 => [0]
  | 2 => List.replicate (spiLow r + 1) 0
  | _ => []

/-- The response to a request, or none (R520, R522). -/
def spiRespond (sent : Bool) (status : Nat) (data : List Word) (d : Dev) : Dev :=
  let resp := if sent then spiFrame status data else []
  { d with spi := { d.spi with resp := resp, sent := sent, status := status, data := data } }

/-- R521 to R523: the checks of a request that came with a CRC; what they refuse, as STATUS bits (log 85). -/
def spiChecks (r : SpiReq) (crc : Byte) (d : Dev) : Nat × Dev :=
  let (s, d) := if crc ≠ spiCrc r then (CRCERR, ((hostErr 1 0 r d).raise spiP SPI.EVT.CRC).bump spiP SPI.COUNT.CRC)
    else if spiBad r then (CMDERR, hostErr 5 0 r d) else (0, d)
  if d.spi.busy.isSome then (s + BUSY, d.raise spiP SPI.EVT.BUSY_REJ) else (s, d)

/-- A request and its response (log 85). -/
def spiServe (r : SpiReq) (crc : Byte) (d : Dev) : Dev :=
  let (s, d) := spiChecks r crc d
  if s ≠ 0 then spiRespond true s (spiZeros r) d
  else
    let (s, ws, d) := spiAccess r d
    spiRespond true s ws d

/-- SPI_FRAME_ABORT: CS_N rises before the request CRC ends, or after that CRC: then the request is served and its response
lost (log 85). -/
def spiAbortLand (r : SpiReq) (crc : Option Byte) (d : Dev) : Dev :=
  let d := match crc with
    | some c => spiServe r c d
    | none => d
  spiRespond false 0 [] ((hostErr 3 0 r d).raise spiP SPI.EVT.FRAME)

def SPI_TIMEOUTS : Fld := ⟨0x04C, 0, 16⟩

/-- SPI_TIMEOUT: the access of a request has not returned within TMO. -/
def spiTimeoutLand (r : SpiReq) (crc : Byte) (d : Dev) : Dev :=
  let (s, d) := spiChecks r crc d
  if s ≠ 0 then spiRespond true s (spiZeros r) d
  else
    let d := spiRespond true TIMEOUT (spiZeros r) d
    ({ d with spi := { d.spi with busy := some r } }.raise spiP SPI.EVT.TIMEOUT).bump spiP SPI_TIMEOUTS

/-- SPI_LATE_COMPLETION: a write lands, read data is discarded. -/
def spiLateLand (d : Dev) : Dev :=
  match d.spi.busy with
  | none => d
  | some r =>
    let (_, _, d) := spiAccess r d
    { d with spi := { d.spi with busy := none } }

/-! ### RD and WR frames (R542) -/

/-- The answer to a frame: STATUS, n, six bytes of 0, data (log 86). -/
def linkAnswer (f : LinkFrame) (status n : Nat) (ws : List Word) (d : Dev) : Dev :=
  let g : LinkFrame :=
    { seq := 0, dst := f.src, bcast := false, src := ownId d, type := 3, ttl := 15, barrier := false,
      payload := [BitVec.ofNat 8 status, BitVec.ofNat 8 n] ++ List.replicate 6 0 ++ ws.flatMap wordBytes }
  match routeOf d g.dst with
  | none => linkDrop 0 4 g.src true d
  | some q => linkPut q g false d

def frameAddr (f : LinkFrame) : Nat := (bytesWord (f.payload.take 4)).toNat / 4 * 4

/-- An RD frame for this device (log 86). -/
def linkRead (f : LinkFrame) (d : Dev) : Dev :=
  let n := (f.payload.getD 4 0).toNat + 1
  if 32 < n then linkAnswer f CMDERR n [] d
  else
    let (ws, e, d) := readWords .link n (frameAddr f) 0 d
    linkAnswer f (if e.isSome then ACCERR else 0) n ws d

/-- The words that a WR frame carries. -/
def frameWords (f : LinkFrame) : List Word :=
  (List.range ((f.payload.length - 8) / 4)).map fun i => bytesWord ((f.payload.drop (8 + 4 * i)).take 4)

/-- A WR frame for this device (log 86). -/
def linkWrite1 (f : LinkFrame) (d : Dev) : Dev :=
  let ws := frameWords f
  if ws.isEmpty || f.payload.length % 4 ≠ 0 then linkAnswer f CMDERR ws.length [] d
  else
    let (b, e, d) := writeWords .link ws (frameAddr f) 0 d
    linkAnswer f ((if e.isSome then ACCERR else 0) + if b then BLOCKED else 0) ws.length [] d

/-- LINK_RD and LINK_WR: a frame of one type for this device; a broadcast of it is dropped. -/
def linkAccessLand (type p : Nat) (crc : Word) (f : LinkFrame) (d : Dev) : Dev :=
  linkArrives p crc f d fun d =>
    if f.type ≠ type then d
    else if f.bcast then linkBroadcast p f d
    else if f.dst ≠ ownId d then d
    else
      let d := linkReply p f true d
      if type = 1 then linkRead f d else linkWrite1 f d

end Sys2Proof.Machine
end

