-- ==== Sys2Proof/WellFormed.lean ====
section
/-!
DEFINITION. Which terms of `Instr` are commands of the spec: operands whose type is wider than the rule allows are checked
here, and the meanings stop on the rest.
-/

namespace Sys2Proof

/-- A commit domain (R39). -/
def okDomain (dom : Nat) : Bool := decide (dom < 67)

/-- A roster entry (R192). -/
def okEntry (idx : Nat) : Bool := decide (idx < 16384)

/-- A fault message of a checker: SRC, KIND and ADDR fit their fields, and the kind is one of R410. -/
def okMsg (m : FaultMsg) : Bool := decide (m.src < 4096) && decide (1 ≤ m.kind) && decide (m.kind ≤ 56) && decide (m.addr < 16384)

def okMsgs (ms : List FaultMsg) : Bool := ms.all okMsg

/-- A result for each slice (R238). -/
def okResults (rs : List PlumbResult) : Bool := rs.length == 12

/-- Words moved, for eight DMA channels at most. -/
def okMoved (l : List Nat) : Bool := decide (l.length ≤ 8)

/-- Words of an SPI burst (R520). -/
def okWords (n : Nat) : Bool := decide (1 ≤ n) && decide (n ≤ 32)

/-- The row of READ takes commands 0, 6 and 7, whose requests have no data and no count (R520, log 3). -/
def okReadCmd (cmd : Byte) : Bool := cmd.toNat / 32 == 0 || cmd.toNat / 32 == 6 || cmd.toNat / 32 == 7

/-- A request carries the data its command asks for. -/
def okSpi (r : SpiReq) : Bool :=
  match r.cmd.toNat / 32 with
  | 1 => r.vals.length == 1
  | 3 => r.vals.length == r.cmd.toNat % 32 + 1
  | _ => r.vals.isEmpty

/-- An element of a CAN FIFO: two header words and up to 64 bytes (R549). -/
def okElement (ws : List Word) : Bool := decide (2 ≤ ws.length) && decide (ws.length ≤ 18)

/-- An error that LASTERR names (R549). -/
def okCanError (kind : Nat) : Bool := decide (1 ≤ kind) && decide (kind ≤ 6)

/-- An end of an I²C transaction: a cause of R550 or 0, 32 bytes at most. -/
def okI2c (cause : Nat) (data : List Byte) : Bool := decide (cause ≤ 5) && decide (data.length ≤ 32)

/-- A frame's fields fit (R539). -/
def okFrame (f : LinkFrame) : Bool :=
  decide (f.dst < 16384) && decide (f.src < 16384) && decide (f.type < 256) && decide (f.ttl < 16) &&
    decide (8 ≤ f.payload.length) && decide (f.payload.length ≤ 256)

/-- Well-formed commands. -/
def Instr.wf : Instr → Bool
  | .keepAlive _ _ => true
  | .watchdogExpiry _ => true
  | .edgeCommand _ _ _ _ _ _ _ => true
  | .interlockTurnOn _ _ => true
  | .intlkTimeout _ => true
  | .safeCommand _ _ _ _ => true
  | .retireCommand _ _ => true
  | .holderCommand _ _ => true
  | .ddieRefresh _ _ _ => true
  | .hardSafeAssert _ => true
  | .hardTrip _ _ => true
  | .softTrip _ _ _ => true
  | .presenceSeen _ _ => true
  | .bstUv _ => true
  | .vdrvUv _ => true
  | .vdrvOv _ => true
  | .vdrvRecover _ _ => true
  | .tripLatchClear _ _ _ _ _ _ => true
  | .ddieCfgWrite _ _ _ _ => true
  | .ddieVdrvUvWrite _ _ _ _ => true
  | .stStart _ _ _ _ => true
  | .stAbort _ _ _ _ => true
  | .stStep _ _ => true
  | .faultMessage _ ext => okMsgs ext
  | .retryClear _ _ _ _ => true
  | .occurrenceExpiry _ _ => true
  | .recover _ _ => true
  | .cancel _ _ => true
  | .quietPeriodEnd _ _ => true
  | .tallyRead _ => true
  | .clrTally _ _ => true
  | .clrFirst _ _ => true
  | .injArm _ _ => true
  | .injTimeout => true
  | .journalAppend _ => true
  | .journalReclaim => true
  | .journalScan => true
  | .format _ _ => true
  | .formatDone => true
  | .commitGo _ _ _ _ => true
  | .commitDiscard _ _ => true
  | .commitValidation => true
  | .commitSet dom _ => okDomain dom
  | .wetWrite _ _ _ => true
  | .domainWrite _ _ _ => true
  | .cast _ _ _ => true
  | .pairReadLow _ _ => true
  | .pairReadHigh _ _ => true
  | .pairWriteLow _ _ _ => true
  | .pairWriteHigh _ _ _ _ => true
  | .registerWrite _ _ _ => true
  | .rcRead _ _ => true
  | .fence _ => true
  | .frameReload _ _ => true
  | .strongDriveEnd _ _ => true
  | .loadStale _ => true
  | .retire _ _ _ => true
  | .returnLeg _ _ _ => true
  | .engineDutyLands => true
  | .sample _ idx => okEntry idx
  | .job _ idx => okEntry idx
  | .commitPoint _ idx => okEntry idx
  | .refresh _ idx => okEntry idx
  | .rotate _ idx => okEntry idx
  | .castPoint _ idx => okEntry idx
  | .mark _ idx => okEntry idx
  | .jobReady _ => true
  | .rosterEntryWrite _ _ _ => true
  | .copy _ _ => true
  | .clear _ _ => true
  | .rosterCmdDone => true
  | .sliceAssign => true
  | .stale => true
  | .resultDelivery _ _ => true
  | .slicePlumbStart _ => true
  | .plumbCycleEnd _ => true
  | .initCalibrationEnd results => okResults results
  | .testDacGrant => true
  | .tdcmdGo _ _ => true
  | .tdcmdAbort _ _ => true
  | .tdTimeout => true
  | .man _ _ => true
  | .wincfgWrite _ _ _ => true
  | .workStart => true
  | .workRun _ _ _ => true
  | .jobCommit _ => true
  | .verify _ => true
  | .ctxcmdReset _ _ => true
  | .resetDone _ => true
  | .contextWrite _ _ _ => true
  | .stageWrite _ _ _ => true
  | .start _ _ _ => true
  | .stop _ _ _ => true
  | .coast _ _ _ => true
  | .foReset _ _ _ => true
  | .soundingWindowEnd _ => true
  | .catchEnd _ => true
  | .resoundStart _ => true
  | .obsLossRampEnd _ => true
  | .lockedRotor _ => true
  | .fbCount _ _ _ => true
  | .indexEvent _ => true
  | .fbGate _ => true
  | .absReadEnd _ => true
  | .emuStep _ => true
  | .setPos _ _ _ => true
  | .clrHomed _ _ _ => true
  | .clrFail _ _ _ => true
  | .convStart _ _ _ => true
  | .convStop _ _ _ => true
  | .fastWinExpiry _ => true
  | .fastPauseEnd _ => true
  | .overloadStep _ => true
  | .contactorDelayEnd _ => true
  | .pcTimeout _ => true
  | .lfWritten _ _ => true
  | .dampMeasurementStart => true
  | .dampSettleEnd => true
  | .dampAverageDone => true
  | .dampAbandon => true
  | .telemetryPeriod => true
  | .telemetryRecord => true
  | .skimBeat _ _ => true
  | .deputySkim _ => true
  | .arbitrationPhase _ _ _ => true
  | .freeze _ _ => true
  | .dmaGo _ _ _ => true
  | .dmaAbort _ _ _ _ => true
  | .dmaDescriptorDone _ => true
  | .lr _ _ => true
  | .sc _ _ _ => true
  | .amo _ _ _ _ => true
  | .reservationExpiry _ => true
  | .accessFault _ _ _ => true
  | .machineTimerInterrupt _ => true
  | .lockstep => true
  | .dwdtArm _ _ => true
  | .dkick _ _ => true
  | .depWdt => true
  | .hkick _ _ => true
  | .hewerWdt _ => true
  | .debugHalt _ _ _ => true
  | .dbgLock _ _ => true
  | .request _ _ => true
  | .release _ _ => true
  | .grant _ _ => true
  | .deny _ _ => true
  | .take _ _ => true
  | .reqTimeout => true
  | .hbeat _ => true
  | .dbeat _ => true
  | .beatLate => true
  | .heartbeatStale => true
  | .pllLock => true
  | .clkCfgWrite _ _ => true
  | .spreadChange _ => true
  | .clkLoss _ => true
  | .relock => true
  | .clkfail => true
  | .coreSupply _ _ => true
  | .porc _ => true
  | .pora => true
  | .pinReset => true
  | .softReset _ _ => true
  | .hewerReset _ _ moved => okMoved moved
  | .hctlRelease _ _ => true
  | .tempWarn _ _ => true
  | .tempShut _ _ => true
  | .modeReq _ _ => true
  | .powerUpDone => true
  | .wakeEvent _ _ _ _ => true
  | .bootDone => true
  | .erase _ _ => true
  | .verifySlot _ _ => true
  | .updDone => true
  | .slotWrite _ _ _ => true
  | .spiRead cmd _ _ => okReadCmd cmd
  | .spiWrite _ _ _ _ => true
  | .burstRd _ n _ => okWords n
  | .burstWr _ vals _ => okWords vals.length
  | .barrier _ _ _ => true
  | .spiCast _ _ _ => true
  | .spiFrameAbort req _ => okSpi req
  | .spiTimeout req _ => okSpi req
  | .spiLateCompletion => true
  | .canModeWrite _ _ _ => true
  | .canSend _ _ _ _ => true
  | .canAbort _ _ _ _ => true
  | .txDone _ _ _ _ => true
  | .canRx _ words _ => okElement words
  | .rxnext _ _ _ => true
  | .busoff _ => true
  | .canRejoin _ => true
  | .uartTxWrite _ _ _ => true
  | .uartRxByte _ _ _ _ _ => true
  | .uartDataRead _ _ => true
  | .uartTxByte _ => true
  | .i2cCmd _ _ => true
  | .i2cDone cause _ data _ => okI2c cause data
  | .gpioEdge _ _ => true
  | .timerWrap _ => true
  | .timerCapture _ _ => true
  | .tamper _ _ => true
  | .tamperLoopStep _ => true
  | .tampstatWrite _ _ => true
  | .portUp _ => true
  | .linkLost _ => true
  | .linkFrameForward _ _ frame => okFrame frame
  | .linkData _ _ frame => okFrame frame
  | .linkRd _ _ frame => okFrame frame
  | .linkWr _ _ frame => okFrame frame
  | .linkResp _ _ frame => okFrame frame
  | .linkSync _ _ _ => true
  | .linkDreq _ _ => true
  | .linkDresp _ => true
  | .syncSend _ => true
  | .syncLoss => true
  | .linkResend _ _ _ => true
  | .linkAck _ _ => true
  | .txctlGo _ _ => true
  | .rxctlPop _ _ => true
  | .driveLinkLoss _ => true
  | .driveLinkReturn _ => true
  | .tempFall _ _ => true
  | .coreSupplyReturn _ => true
  | .debugResume _ _ => true
  | .hwdtArm _ _ => true
  | .canError _ kind _ => okCanError kind

end Sys2Proof
end

