-- ==== Sys2Proof/Machine/Run.lean ====
section
/-!
DEFINITION. What the meanings of the commands share: which commands act while clocks are stopped or the device sleeps, and
the effects of a command that come from more than one part of the device.
-/

namespace Sys2Proof.Machine

abbrev Out := Host.Outcome State Fault Refusal

/-- The state with another device. -/
def State.put (s : State) (d : Dev) : State := { s with dev := d }

/-- A command of the clocked part of the device; without clocks nothing happens (log 16, 17, 92). -/
def act (s : State) (f : Dev → Dev) : Out := .next (s.put (if awake s.dev then f s.dev else s.dev))

/-- A command that a drive die carries out on its own, clocks or not (R17, R19) (log 17). -/
def onDie (s : State) (f : Dev → Dev) : Out := .next (s.put (if asleep s.dev then s.dev else f s.dev))

/-- A command of the always-on domain, the supplies or the root clock. -/
def always (s : State) (f : Dev → Dev) : Out := .next (s.put (f s.dev))

/-- Operands that are no command of the spec stop the model. -/
def checked (ok : Bool) (o : Out) : Out := if ok then o else .fault .illFormed

def at_ (a : Nat) : Word := BitVec.ofNat 32 a

/-- A read whose word goes to the requester alone. -/
def readOnly (who : Requester) (addr : Word) (d : Dev) : Dev := (busRead who addr d).2

/-- A write that travels to a drive die under R455, with operands of the die's own; that of a masked core stalls (R469). -/
def dieWrite (who : Requester) (a : Nat) (val : Word) (f : Dev → Dev) (d : Dev) : Dev :=
  match stalled d who with
  | some c => stall c (.write (at_ a) val) d
  | none => answer who 0 false (allowed who a d f)

/-- R67: a write of the high word of a 64-bit value; that of ST_MASK travels to its die, which checks it (R162). -/
def pairHighLand (who : Requester) (addr val : Word) (chk : Bool) (d : Dev) : Dev :=
  let a := wordAddr addr
  match regionAt a with
  | some (.page .ddie k) => if a % 0x1000 = 0x068 then dieWrite who a val (maskHigh who k chk val) d else busWrite who addr val d
  | _ => busWrite who addr val d

/-- R19: a keep-alive command, which the core die sends where 256 ticks have passed without another command of the link. -/
def keptAlive (k : Nat) (chk : Bool) (d : Dev) : Dev :=
  if d.now < (d.die k).lastSent + 256 then d else carried k chk d fun e => e

/-- COMMIT with GO: the tag and the siblings of WITH (R46). -/
def goWord (tag : Byte) (with_ : BitVec 4) : Word := BitVec.ofNat 32 (tag.toNat * 2 ^ 24 + with_.toNat * 2 ^ 4 + 1)

/-- FAULT_MESSAGE: the messages are decided, and axes, converters and gangs follow. -/
def messagesLand (pick : List Bool) (ext : List FaultMsg) (d : Dev) : Dev :=
  let old := d.mode
  let (arr, _) := splitBy pick d.flt.inflight
  let d := collect pick ext d
  let d := ((arr ++ ext).filter fun m => m.kind = 14).foldl (fun d m => pathFailed (m.addr % 64) d) d
  modeHooks old (axesSettle d)

/-- QUIET_PERIOD_END: a DEVICE recovery changes the mode. -/
def quietEndLand (refuse lost : List Nat) (d : Dev) : Dev := modeHooks d.mode (axesSettle (quietLand refuse lost d))

/-- WORK_START, with what a converter latches as its work starts (R384, R386). -/
def workBegins (d : Dev) : Dev :=
  match freeLane d, waitingWork d with
  | some _, some w => convLatch w.ctx (workStart d)
  | _, _ => d

/-- JOB_COMMIT, with what the axes and the converters of the context do. -/
def workCommits (c : Nat) (d : Dev) : Dev :=
  match committable d c with
  | some w => convCommit c (axisCommit c (commitWork w d))
  | none => d

/-- RESET_DONE. -/
def resetEnds (c : Nat) (d : Dev) : Dev :=
  let d := resetBegin c d
  match d.eng.resets.find? fun r => r.ctx = c && r.begun with
  | none => d
  | some r =>
    let d := zeroCtx c d
    let d := match r.axis with
      | some a => axisSeed a d
      | none => d
    let d := engEvt 7 c 0 d
    showEng c (d.setEng fun e => { e with resets := e.resets.erase r })

/-- ACCESS_FAULT: an access that the map does not permit; another access is not this command. -/
def faultLand (who : Requester) (addr : Word) (kind : AccKind) (d : Dev) : Dev :=
  if permitted who (wordAddr addr) kind then d else accessFaultAt who d

/-- The CMD byte of an SPI request (R520). -/
def cmdByte (op : Nat) (low : BitVec 5) : Byte := BitVec.ofNat 8 (op * 32 + low.toNat)
def spiReq (cmd : Byte) (addr : Word) (vals : List Word) : SpiReq := ⟨cmd, addr, vals⟩

end Sys2Proof.Machine
end

