-- ==== Sys2Proof/Machine/CmdAxis.lean ====
section
/-!
DEFINITION. Meanings. Axes (R290 to R351).
-/

namespace Sys2Proof.Machine

/-- R326: CMD.START. -/
def execStart (who : Requester) (a : Fin 16) (val : Word) (s : State) : Out :=
  act s (busWrite who (at_ (axisP a.val + 0x08C)) val)

/-- R326: CMD.STOP. -/
def execStop (who : Requester) (a : Fin 16) (val : Word) (s : State) : Out :=
  act s (busWrite who (at_ (axisP a.val + 0x08C)) val)

/-- R326: CMD.COAST. -/
def execCoast (who : Requester) (a : Fin 16) (val : Word) (s : State) : Out :=
  act s (busWrite who (at_ (axisP a.val + 0x08C)) val)

/-- R315: CMD.FO_RESET. -/
def execFoReset (who : Requester) (a : Fin 16) (val : Word) (s : State) : Out :=
  act s (busWrite who (at_ (axisP a.val + 0x08C)) val)

/-- R330, R331. -/
def execSoundingWindowEnd (a : Fin 16) (s : State) : Out := act s (windowEnd a.val)

/-- R332. -/
def execCatchEnd (a : Fin 16) (s : State) : Out := act s (catchEndLand a.val)

/-- R339. -/
def execResoundStart (a : Fin 16) (s : State) : Out := act s (resoundLand a.val)

/-- R346. -/
def execObsLossRampEnd (a : Fin 16) (s : State) : Out := act s (lossRampEnd a.val)

/-- R317. -/
def execLockedRotor (a : Fin 16) (s : State) : Out := act s (lockedLand a.val)

end Sys2Proof.Machine
end

