-- ==== Sys2Proof/Machine/CmdCommit.lean ====
section
/-!
DEFINITION. Meanings. Commits, casts, 64-bit values and plain register accesses (R12, R35 to R78).
-/

namespace Sys2Proof.Machine

/-- R46: COMMIT.GO. -/
def execCommitGo (who : Requester) (addr : Word) (tag : Byte) (with_ : BitVec 4) (s : State) : Out :=
  act s (busWrite who (at_ (pageBase addr.toNat + 0x00C)) (goWord tag with_))

/-- R54: COMMIT.DISCARD. -/
def execCommitDiscard (who : Requester) (addr : Word) (s : State) : Out :=
  act s (busWrite who (at_ (pageBase addr.toNat + 0x00C)) 2)

/-- R53 (log 29). -/
def execCommitValidation (s : State) : Out := act s validateLand

/-- R47 to R51: a commit outside the reloads sets. -/
def execCommitSet (dom : Nat) (lost : List (Fin 256)) (s : State) : Out :=
  checked (okDomain dom) (act s (fun d => axesSettle (commitSetLand dom (lost.map (·.val)) d)))

/-- R45: a write to an RWW register. -/
def execWetWrite (who : Requester) (addr : Word) (val : Word) (s : State) : Out := act s (busWrite who addr val)

/-- R40, R41: DOMAIN. -/
def execDomainWrite (who : Requester) (addr : Word) (val : Word) (s : State) : Out :=
  act s (busWrite who (at_ (pageBase addr.toNat + 0x008)) val)

/-- R60, R61: CAST. -/
def execCast (who : Requester) (addr : Word) (val : Word) (s : State) : Out :=
  act s (busWrite who (at_ (pageBase addr.toNat + 0x01C)) val)

/-- R64, R65: a read of the low word of a 64-bit value. -/
def execPairReadLow (who : Requester) (addr : Word) (s : State) : Out := act s (readOnly who addr)

/-- R64, R65: a read of its high word. -/
def execPairReadHigh (who : Requester) (addr : Word) (s : State) : Out := act s (readOnly who addr)

/-- R67: a write of its low word. -/
def execPairWriteLow (who : Requester) (addr : Word) (val : Word) (s : State) : Out := act s (busWrite who addr val)

/-- R67: a write of its high word. -/
def execPairWriteHigh (who : Requester) (addr : Word) (val : Word) (chk : Bool) (s : State) : Out :=
  act s (pairHighLand who addr val chk)

/-- R12, R455: a write by its access code. -/
def execRegisterWrite (who : Requester) (addr : Word) (val : Word) (s : State) : Out := act s (busWrite who addr val)

/-- R12: a read that clears. -/
def execRcRead (who : Requester) (addr : Word) (s : State) : Out := act s (readOnly who addr)

/-- R69, R70: every earlier access has landed (log 1). -/
def execFence (_who : Requester) (s : State) : Out := act s (fun d => d)

end Sys2Proof.Machine
end

