-- ==== Sys2Proof/Machine/CmdConverter.lean ====
section
/-!
DEFINITION. Meanings. Converters (R380 to R407).
-/

namespace Sys2Proof.Machine

/-- R389: CMD.START. -/
def execConvStart (who : Requester) (c : Fin 16) (val : Word) (s : State) : Out :=
  act s (busWrite who (at_ (convP c.val + 0x080)) val)

/-- R389: CMD.STOP. -/
def execConvStop (who : Requester) (c : Fin 16) (val : Word) (s : State) : Out :=
  act s (busWrite who (at_ (convP c.val + 0x080)) val)

/-- R392. -/
def execFastWinExpiry (c : Fin 16) (s : State) : Out := act s (fastWinLand c.val)

/-- R388. -/
def execFastPauseEnd (c : Fin 16) (s : State) : Out := act s (fastPauseEndLand c.val)

/-- R393. -/
def execOverloadStep (c : Fin 16) (s : State) : Out := act s (overloadLand c.val)

/-- R396. -/
def execContactorDelayEnd (c : Fin 16) (s : State) : Out := act s (contactorLand c.val)

/-- R396. -/
def execPcTimeout (c : Fin 16) (s : State) : Out := act s (pcTimeoutLand c.val)

/-- R399 to R401. -/
def execLfWritten (c : Fin 16) (ok : Bool) (s : State) : Out := act s (lfWrittenLand c.val ok)

end Sys2Proof.Machine
end

