-- ==== Sys2Proof/Machine/CmdCores.lean ====
section
/-!
DEFINITION. Meanings. The Banksman, the cores as the block sees them, authority (R434 to R478, R504).
-/

namespace Sys2Proof.Machine

/-- R464 to R470. -/
def execArbitrationPhase (waits : BitVec 17) (ended : Bool) (beats : Nat) (s : State) : Out :=
  act s (phaseLand waits ended beats)

/-- R470: CTL.FREEZE. -/
def execFreeze (who : Requester) (val : Word) (s : State) : Out := act s (busWrite who (at_ (arbP + 0x040)) val)

/-- R474: DMA_CTL.GO. -/
def execDmaGo (who : Requester) (ch : Fin 8) (val : Word) (s : State) : Out :=
  act s (busWrite who (at_ (dmaA ch.val + 4)) val)

/-- R474: DMA_CTL.ABORT after the words moved so far. -/
def execDmaAbort (who : Requester) (ch : Fin 8) (val : Word) (moved : Nat) (s : State) : Out :=
  act s (dmaAbortLand who ch val moved)

/-- R472, R473, R475. -/
def execDmaDescriptorDone (ch : Fin 8) (s : State) : Out := act s (dmaDescLand ch)

/-- R441. -/
def execLr (core : Fin 4) (addr : Word) (s : State) : Out := act s (lrLand core addr)

/-- R441. -/
def execSc (core : Fin 4) (addr : Word) (val : Word) (s : State) : Out := act s (scLand core addr val)

/-- R441. -/
def execAmo (core : Fin 4) (op : AmoOp) (addr : Word) (val : Word) (s : State) : Out := act s (amoLand core op addr val)

/-- R441. -/
def execReservationExpiry (core : Fin 4) (s : State) : Out := act s (resvExpiryLand core.val)

/-- R435, R445. -/
def execAccessFault (who : Requester) (addr : Word) (kind : AccKind) (s : State) : Out := act s (faultLand who addr kind)

/-- R442. -/
def execMachineTimerInterrupt (h : Fin 5) (s : State) : Out := act s (timerLand h.val)

/-- R443 (log 90). -/
def execLockstep (s : State) : Out := act s lockstepLand

/-- R446: DWDT. -/
def execDwdtArm (who : Requester) (val : Word) (s : State) : Out := act s (busWrite who (at_ (authP + 0x070)) val)

/-- R446: DKICK. -/
def execDkick (who : Requester) (val : Word) (s : State) : Out := act s (busWrite who (at_ (authP + 0x074)) val)

/-- R446. -/
def execDepWdt (s : State) : Out := act s depWdtLand

/-- R504: HWDT of the core that writes. -/
def execHwdtArm (core : Fin 4) (val : Word) (s : State) : Out :=
  act s (busWrite (.hewer core) (at_ (topP + 0x070 + 8 * core.val)) val)

/-- R504: HKICK of the core that writes. -/
def execHkick (core : Fin 4) (val : Word) (s : State) : Out :=
  act s (busWrite (.hewer core) (at_ (topP + 0x074 + 8 * core.val)) val)

/-- R447, R504. -/
def execHewerWdt (core : Fin 4) (s : State) : Out := act s (hewerWdtLand core.val)

/-- R450 to R452: what the debugger does over JTAG, then the halt. -/
def execDebugHalt (h : Fin 5) (req : HaltReq) (jtag : List JtagOp) (s : State) : Out := act s (debugHaltLand h.val req jtag)

/-- R450 to R452: what the debugger does over JTAG, then its request to resume. -/
def execDebugResume (h : Fin 5) (jtag : List JtagOp) (s : State) : Out := act s (debugResumeLand h.val jtag)

/-- R452: DBG.LOCK. -/
def execDbgLock (who : Requester) (val : Word) (s : State) : Out := act s (busWrite who (at_ (authP + 0x078)) val)

/-- R456: HCMD.REQUEST. -/
def execRequest (core : Fin 4) (val : Word) (s : State) : Out :=
  act s (busWrite (.hewer core) (at_ (authP + 0x044)) val)

/-- R456: HCMD.RELEASE. -/
def execRelease (core : Fin 4) (val : Word) (s : State) : Out :=
  act s (busWrite (.hewer core) (at_ (authP + 0x044)) val)

/-- R456: DCMD.GRANT. -/
def execGrant (who : Requester) (val : Word) (s : State) : Out := act s (busWrite who (at_ (authP + 0x048)) val)

/-- R456: DCMD.DENY. -/
def execDeny (who : Requester) (val : Word) (s : State) : Out := act s (busWrite who (at_ (authP + 0x048)) val)

/-- R456: DCMD.TAKE. -/
def execTake (who : Requester) (val : Word) (s : State) : Out := act s (busWrite who (at_ (authP + 0x048)) val)

/-- R456. -/
def execReqTimeout (s : State) : Out := act s reqTimeoutLand

/-- R458: HBEAT. -/
def execHbeat (who : Requester) (s : State) : Out := act s (busWrite who (at_ (authP + 0x04C)) 0)

/-- R458: DBEAT. -/
def execDbeat (who : Requester) (s : State) : Out := act s (busWrite who (at_ (authP + 0x050)) 0)

/-- R458. -/
def execBeatLate (s : State) : Out := act s beatLateLand

/-- R459. -/
def execHeartbeatStale (s : State) : Out := act s staleLand

end Sys2Proof.Machine
end

