-- ==== Sys2Proof/Machine/CmdDrive.lean ====
section
/-!
DEFINITION. Meanings. Commands of the drive dies and their links (R17 to R28, R120 to R163, R454, R457).
-/

namespace Sys2Proof.Machine

/-- R19, R161, R162: the keep-alive command. -/
def execKeepAlive (d : Fin 4) (chk : Bool) (s : State) : Out := act s (keptAlive d.val chk)

/-- R19: a drive die without a valid command for 2 µs. -/
def execWatchdogExpiry (d : Fin 4) (s : State) : Out := onDie s (watchdogExpiry d.val)

/-- R134 to R146: an edge command at the drive die. -/
def execEdgeCommand (leg : Fin 256) (gate : Gate) (on : Bool) (chk : Bool) (oppLow : Bool) (bstLow : Bool) (meas : List Transition) (s : State) : Out :=
  act s (edgeCommand leg.val gate on chk oppLow bstLow meas)

/-- R134: the waiting gate turns on. -/
def execInterlockTurnOn (leg : Fin 256) (bstLow : Bool) (s : State) : Out := onDie s (interlockTurnOn leg.val bstLow)

/-- R135. -/
def execIntlkTimeout (leg : Fin 256) (s : State) : Out := onDie s (intlkTimeout leg.val)

/-- R28, R121. -/
def execSafeCommand (leg : Fin 256) (hold : Hold) (chk : Bool) (ghLow : Bool) (s : State) : Out :=
  act s (safeCommand leg.val hold chk ghLow)

/-- R102. -/
def execRetireCommand (leg : Fin 256) (chk : Bool) (s : State) : Out := act s (retireCommand leg.val chk)

/-- R457. -/
def execHolderCommand (d : Fin 4) (chk : Bool) (s : State) : Out := act s (holderCommand d.val chk)

/-- R163. -/
def execDdieRefresh (d : Fin 4) (vdrv : BitVec 8) (temp : BitVec 8) (s : State) : Out :=
  act s (ddieRefresh d.val vdrv.toNat temp.toNat)

/-- R17, R27, R122. -/
def execHardSafeAssert (d : Fin 4) (s : State) : Out := onDie s (hardSafeAssert d.val)

/-- R142. -/
def execHardTrip (leg : Fin 256) (above : Nat) (s : State) : Out := onDie s (hardTrip leg.val above)

/-- R143 (log 91). -/
def execSoftTrip (leg : Fin 256) (above : Nat) (released : Bool) (s : State) : Out := onDie s (softTrip leg.val above released)

/-- R145. -/
def execPresenceSeen (leg : Fin 256) (above : Nat) (s : State) : Out := onDie s (presenceSeen leg.val above)

/-- R136. -/
def execBstUv (leg : Fin 256) (s : State) : Out := onDie s (bstUv leg.val)

/-- R125. -/
def execVdrvUv (d : Fin 4) (s : State) : Out := onDie s (vdrvUv d.val)

/-- R125. -/
def execVdrvOv (d : Fin 4) (s : State) : Out := onDie s (vdrvOv d.val)

/-- R125. -/
def execVdrvRecover (d : Fin 4) (ov : Bool) (s : State) : Out := onDie s (vdrvRecover d.val ov)

/-- R148, R455: a write to TRIP of a leg, with what the comparators see. -/
def execTripLatchClear (who : Requester) (leg : Fin 256) (val : Word) (chk : Bool) (hard : CompRead) (soft : CompRead) (s : State) : Out :=
  act s (dieWrite who (legP leg.val + 0x05C) val (tripWrite leg.val val chk hard soft))

/-- R124, R163. -/
def execDdieCfgWrite (who : Requester) (d : Fin 4) (val : Word) (chk : Bool) (s : State) : Out :=
  act s (dieWrite who (ddieP d.val + 0x040) val (cfgCommand d.val val chk))

/-- R126, R163. -/
def execDdieVdrvUvWrite (who : Requester) (d : Fin 4) (val : Word) (chk : Bool) (s : State) : Out :=
  act s (dieWrite who (ddieP d.val + 0x044) val (uvCommand d.val val chk))

/-- R154: ST_CMD.START. -/
def execStStart (who : Requester) (d : Fin 4) (val : Word) (chk : Bool) (s : State) : Out :=
  act s (dieWrite who (ddieP d.val + 0x060) val (stCommand d.val val chk))

/-- R154: ST_CMD.ABORT. -/
def execStAbort (who : Requester) (d : Fin 4) (val : Word) (chk : Bool) (s : State) : Out :=
  act s (dieWrite who (ddieP d.val + 0x060) val (stCommand d.val val chk))

/-- R155 to R158. -/
def execStStep (d : Fin 4) (after : Option Nat) (s : State) : Out := onDie s (stStep d.val after)

/-- R163. -/
def execDriveLinkLoss (d : Fin 4) (s : State) : Out := onDie s (linkLoss d.val)

/-- R151, R457. -/
def execDriveLinkReturn (d : Fin 4) (s : State) : Out := onDie s (linkReturn d.val)

end Sys2Proof.Machine
end

