-- ==== Sys2Proof/Machine/CmdEngine.lean ====
section
/-!
DEFINITION. Meanings. The engine (R250 to R289).
-/

namespace Sys2Proof.Machine

/-- R251, R255, R384. -/
def execWorkStart (s : State) : Out := act s workBegins

/-- R250, R256 to R288. -/
def execWorkRun (lane : Fin 4) (ecc : Ecc) (inSlot : Bool) (s : State) : Out := act s (workRun lane.val ecc inSlot)

/-- R274, R278, and what axes and converters do at a commit. -/
def execJobCommit (ctx : Fin 256) (s : State) : Out := act s (workCommits ctx.val)

/-- R279 to R281. -/
def execVerify (ctx : Fin 256) (s : State) : Out := act s (verify ctx.val)

/-- R287: CTXCMD.RESET. -/
def execCtxcmdReset (who : Requester) (val : Word) (s : State) : Out := act s (busWrite who (at_ (engP + 0x04C)) val)

/-- R287, R331. -/
def execResetDone (ctx : Fin 256) (s : State) : Out := act s (resetEnds ctx.val)

/-- R254. -/
def execContextWrite (who : Requester) (addr : Word) (val : Word) (s : State) : Out := act s (busWrite who addr val)

/-- R258. -/
def execStageWrite (who : Requester) (addr : Word) (val : Word) (s : State) : Out := act s (busWrite who addr val)

end Sys2Proof.Machine
end

