-- ==== Sys2Proof/Machine/CmdFault.lean ====
section
/-!
DEFINITION. Meanings. Commands of the collector, its registers and the journal (R408 to R433, R424, R487 to R490).
-/

namespace Sys2Proof.Machine

/-- R415 to R432: messages arrive at the collector. -/
def execFaultMessage (pick : List Bool) (ext : List FaultMsg) (s : State) : Out :=
  checked (okMsgs ext) (act s (messagesLand pick ext))

/-- R423. -/
def execRetryClear (leg : Fin 256) (chk : Bool) (hard : CompRead) (soft : CompRead) (s : State) : Out :=
  act s (retryClear leg.val chk hard soft)

/-- R422. -/
def execOccurrenceExpiry (leg : Fin 256) (cls : Nat) (s : State) : Out := act s (occExpire leg.val cls)

/-- R427, R429. -/
def execQuietPeriodEnd (refuse lost : List (Fin 256)) (s : State) : Out :=
  act s (quietEndLand (refuse.map (·.val)) (lost.map (·.val)))

/-- R431. -/
def execInjTimeout (s : State) : Out := act s injTimeoutLand

/-- R424, R487, R488. -/
def execJournalAppend (ok : Bool) (s : State) : Out := act s (appendLand ok)

/-- R488. -/
def execJournalReclaim (s : State) : Out := act s reclaimLand

/-- R489. -/
def execJournalScan (s : State) : Out := act s scanLand

/-- R490. -/
def execFormatDone (s : State) : Out := act s formatLand

/-- R427, R428: RECOVER.GO. -/
def execRecover (who : Requester) (val : Word) (s : State) : Out := act s (busWrite who (at_ (fltP + 0x04C)) val)

/-- R428: RECOVER.CANCEL. -/
def execCancel (who : Requester) (val : Word) (s : State) : Out := act s (busWrite who (at_ (fltP + 0x04C)) val)

/-- R425: a read of TALLY_LO. -/
def execTallyRead (who : Requester) (s : State) : Out := act s (readOnly who (at_ (fltP + 0x080)))

/-- R425: TCMD.CLR_TALLY. -/
def execClrTally (who : Requester) (val : Word) (s : State) : Out := act s (busWrite who (at_ (fltP + 0x068)) val)

/-- R426: TCMD.CLR_FIRST. -/
def execClrFirst (who : Requester) (val : Word) (s : State) : Out := act s (busWrite who (at_ (fltP + 0x068)) val)

/-- R430: INJ_CTL. -/
def execInjArm (who : Requester) (val : Word) (s : State) : Out := act s (busWrite who (at_ (fltP + 0x08C)) val)

/-- R490: JCMD.FORMAT. -/
def execFormat (who : Requester) (val : Word) (s : State) : Out := act s (busWrite who (at_ (nvP + 0x054)) val)

end Sys2Proof.Machine
end

