-- ==== Sys2Proof/Machine/CmdFeedback.lean ====
section
/-!
DEFINITION. Meanings. Feedback channels (R352 to R379).
-/

namespace Sys2Proof.Machine

/-- R354 to R359, R369. -/
def execFbCount (k : Fin 16) (levels : BitVec 3) (ago : BitVec 16) (s : State) : Out :=
  act s (fbLevels k.val levels ago.toNat)

/-- R366 to R368. -/
def execIndexEvent (k : Fin 16) (s : State) : Out := act s (fbTurn k.val none)

/-- R360 to R364, R371. -/
def execFbGate (k : Fin 16) (s : State) : Out := act s (gateLand k.val)

/-- R372, R373. -/
def execAbsReadEnd (k : Fin 16) (s : State) : Out := act s (absEndLand k.val)

/-- R374, R375. -/
def execEmuStep (k : Fin 16) (s : State) : Out := act s (emuStepLand k.val)

/-- R377: CMD.SET_POS. -/
def execSetPos (who : Requester) (k : Fin 16) (val : Word) (s : State) : Out :=
  act s (busWrite who (at_ (fbP k.val + 0x070)) val)

/-- R377: CMD.CLR_HOMED. -/
def execClrHomed (who : Requester) (k : Fin 16) (val : Word) (s : State) : Out :=
  act s (busWrite who (at_ (fbP k.val + 0x070)) val)

/-- R377: CMD.CLR_FAIL. -/
def execClrFail (who : Requester) (k : Fin 16) (val : Word) (s : State) : Out :=
  act s (busWrite who (at_ (fbP k.val + 0x070)) val)

end Sys2Proof.Machine
end

