-- ==== Sys2Proof/Machine/CmdHost.lean ====
section
/-!
DEFINITION. Meanings. The SPI target, CAN, UART, I²C, GPIO, timers and tamper inputs (R519 to R537).
-/

namespace Sys2Proof.Machine

/-- R520, R522: READ, or a reserved command. -/
def execSpiRead (cmd : Byte) (addr : Word) (crc : Byte) (s : State) : Out :=
  checked (okReadCmd cmd) (act s (spiServe (spiReq cmd addr []) crc))

/-- R520, R522: WRITE. -/
def execSpiWrite (low : BitVec 5) (addr : Word) (val : Word) (crc : Byte) (s : State) : Out :=
  act s (spiServe (spiReq (cmdByte 1 low) addr [val]) crc)

/-- R520, R523: BURST_RD. -/
def execBurstRd (addr : Word) (n : Nat) (crc : Byte) (s : State) : Out :=
  checked (okWords n) (act s (spiServe (spiReq (cmdByte 2 (BitVec.ofNat 5 (n - 1))) addr []) crc))

/-- R520, R523: BURST_WR. -/
def execBurstWr (addr : Word) (vals : List Word) (crc : Byte) (s : State) : Out :=
  checked (okWords vals.length) (act s (spiServe (spiReq (cmdByte 3 (BitVec.ofNat 5 (vals.length - 1))) addr vals) crc))

/-- R524: BARRIER. -/
def execBarrier (low : BitVec 5) (addr : Word) (crc : Byte) (s : State) : Out :=
  act s (spiServe (spiReq (cmdByte 4 low) addr []) crc)

/-- R524: CAST. -/
def execSpiCast (low : BitVec 5) (addr : Word) (crc : Byte) (s : State) : Out :=
  act s (spiServe (spiReq (cmdByte 5 low) addr []) crc)

/-- R522. -/
def execSpiFrameAbort (req : SpiReq) (crc : Option Byte) (s : State) : Out :=
  checked (okSpi req) (act s (spiAbortLand req crc))

/-- R523. -/
def execSpiTimeout (req : SpiReq) (crc : Byte) (s : State) : Out := checked (okSpi req) (act s (spiTimeoutLand req crc))

/-- R523. -/
def execSpiLateCompletion (s : State) : Out := act s spiLateLand

/-- R526, R549: MODE. -/
def execCanModeWrite (who : Requester) (n : Fin 2) (val : Word) (s : State) : Out :=
  act s (busWrite who (at_ (canP n.val + 0x040)) val)

/-- R527, R549: SEND; whether the controller then starts a frame. -/
def execCanSend (who : Requester) (n : Fin 2) (val : Word) (starts : Bool) (s : State) : Out :=
  act s (fun d => canStart n.val starts (busWrite who (at_ (canP n.val + 0x05C)) val d))

/-- R528, R549: ABORT. -/
def execCanAbort (who : Requester) (n : Fin 2) (val : Word) (starts : Bool) (s : State) : Out :=
  act s (fun d => canStart n.val starts (busWrite who (at_ (canP n.val + 0x060)) val d))

/-- R525, R527; `sof`: the device tick at the sample point of its SOF. -/
def execTxDone (n : Fin 2) (mbox : Fin 16) (starts : Bool) (sof : Nat) (s : State) : Out :=
  act s (fun d => canStart n.val starts (txDoneLand n.val mbox.val sof d))

/-- R527. -/
def execCanRx (n : Fin 2) (words : List Word) (sof : Nat) (s : State) : Out :=
  checked (okElement words) (act s (canRxLand n.val words sof))

/-- R549: RXNEXT. -/
def execRxnext (who : Requester) (n : Fin 2) (val : Word) (s : State) : Out :=
  act s (busWrite who (at_ (canP n.val + 0x070)) val)

/-- R528. -/
def execBusoff (n : Fin 2) (s : State) : Out := act s (busoffLand n.val)

/-- R528. -/
def execCanRejoin (n : Fin 2) (s : State) : Out := act s (canRejoinLand n.val)

/-- R549. -/
def execCanError (n : Fin 2) (kind : Nat) (tx : Bool) (s : State) : Out :=
  checked (okCanError kind) (act s (canErrorLand n.val kind tx))

/-- R529, R550: a write of DATA. -/
def execUartTxWrite (who : Requester) (n : Fin 2) (val : Word) (s : State) : Out :=
  act s (busWrite who (at_ (uartP n.val + 0x044)) val)

/-- R529. -/
def execUartRxByte (n : Fin 2) (byte : Byte) (perr : Bool) (ferr : Bool) (brk : Bool) (s : State) : Out :=
  act s (uartRxLand n.val byte perr ferr brk)

/-- R550: a read of DATA. -/
def execUartDataRead (who : Requester) (n : Fin 2) (s : State) : Out := act s (readOnly who (at_ (uartP n.val + 0x044)))

/-- R529. -/
def execUartTxByte (n : Fin 2) (s : State) : Out := act s (uartTxByteLand n.val)

/-- R530, R550: CMD. -/
def execI2cCmd (who : Requester) (val : Word) (s : State) : Out := act s (busWrite who (at_ (i2cP + 0x044)) val)

/-- R530; `pec`: the packet error code read. -/
def execI2cDone (cause : Nat) (done : BitVec 6) (data : List Byte) (pec : Byte) (s : State) : Out :=
  checked (okI2c cause data) (act s (i2cDoneLand cause done data pec))

/-- R533. -/
def execGpioEdge (line : Fin 48) (rising : Bool) (s : State) : Out := act s (gpioEdgeLand line.val rising)

/-- R534. -/
def execTimerWrap (k : Fin 8) (s : State) : Out := act s (timerWrapLand k.val)

/-- R534. -/
def execTimerCapture (k : Fin 8) (rising : Bool) (s : State) : Out := act s (timerCaptureLand k.val rising)

/-- R535. -/
def execTamper (pin : Fin 4) (held : Nat) (s : State) : Out := always s (tamperLand pin.val held)

/-- R536. -/
def execTamperLoopStep (misread : Bool) (s : State) : Out := always s (tamperLoopLand misread)

/-- R537: TAMPSTAT. -/
def execTampstatWrite (who : Requester) (val : Word) (s : State) : Out :=
  act s (busWrite who (at_ (gpioP + 0x204)) val)

end Sys2Proof.Machine
end

