-- ==== Sys2Proof/Machine/CmdLink.lean ====
section
/-!
DEFINITION. Meanings. The Roentol link (R538 to R546, R552).
-/

namespace Sys2Proof.Machine

/-- R538. -/
def execPortUp (p : Fin 3) (s : State) : Out := act s (portUpLand p.val)

/-- R538, R546. -/
def execLinkLost (p : Fin 3) (s : State) : Out := act s (linkLostLand p.val)

/-- R540. -/
def execLinkFrameForward (p : Fin 3) (crc : Word) (frame : LinkFrame) (s : State) : Out :=
  checked (okFrame frame) (act s (linkForwardLand p.val crc frame))

/-- R540, R542. -/
def execLinkData (p : Fin 3) (crc : Word) (frame : LinkFrame) (s : State) : Out :=
  checked (okFrame frame) (act s (linkDeliverLand 0 p.val crc frame))

/-- R542. -/
def execLinkRd (p : Fin 3) (crc : Word) (frame : LinkFrame) (s : State) : Out :=
  checked (okFrame frame) (act s (linkAccessLand 1 p.val crc frame))

/-- R542. -/
def execLinkWr (p : Fin 3) (crc : Word) (frame : LinkFrame) (s : State) : Out :=
  checked (okFrame frame) (act s (linkAccessLand 2 p.val crc frame))

/-- R542. -/
def execLinkResp (p : Fin 3) (crc : Word) (frame : LinkFrame) (s : State) : Out :=
  checked (okFrame frame) (act s (linkDeliverLand 3 p.val crc frame))

/-- R543, R544. -/
def execLinkSync (t1 : BitVec 64) (frac : BitVec 16) (hops : BitVec 4) (s : State) : Out :=
  act s (linkSyncLand t1.toNat frac.toNat hops.toNat)

/-- R543. -/
def execLinkDreq (p : Fin 3) (frac : BitVec 16) (s : State) : Out := act s (linkDreqLand p.val frac.toNat)

/-- R543, R544. -/
def execLinkDresp (t4 : BitVec 64) (s : State) : Out := act s (linkDrespLand t4.toNat)

/-- R543. -/
def execSyncSend (frac : BitVec 16) (s : State) : Out := act s (syncSendLand frac.toNat)

/-- R546. -/
def execSyncLoss (s : State) : Out := act s syncLossLand

/-- R541. -/
def execLinkResend (p : Fin 3) (idx : Fin 4) (refused : Bool) (s : State) : Out :=
  act s (linkResendLand p.val idx.val refused)

/-- R541. -/
def execLinkAck (p : Fin 3) (idx : Fin 4) (s : State) : Out := act s (linkAckLand p.val idx.val)

/-- R552: TXCTL.GO. -/
def execTxctlGo (who : Requester) (val : Word) (s : State) : Out := act s (busWrite who (at_ (linkP + 0x074)) val)

/-- R552: RXCTL.POP. -/
def execRxctlPop (who : Requester) (val : Word) (s : State) : Out := act s (busWrite who (at_ (linkP + 0x080)) val)

end Sys2Proof.Machine
end

