-- ==== Sys2Proof/Machine/CmdModulator.lean ====
section
/-!
DEFINITION. Meanings. Frames, gangs, the roster (R79 to R216).
-/

namespace Sys2Proof.Machine

/-- R164 and all that a reload does. -/
def execFrameReload (f : Fin 16) (lost : List (Fin 256)) (s : State) : Out :=
  act s (fun d => axesSettle (frameReloadLand f.val (lost.map (·.val)) d))

/-- R128, R129. -/
def execStrongDriveEnd (leg : Fin 256) (chk : Bool) (s : State) : Out := act s (strongDriveEnd leg.val chk)

/-- R93. -/
def execLoadStale (g : Fin 64) (s : State) : Out := act s (loadStale g.val)

/-- R113: CMD.RETIRE. -/
def execRetire (who : Requester) (leg : Fin 256) (val : Word) (s : State) : Out :=
  act s (busWrite who (at_ (legP leg.val + 0x054)) val)

/-- R113: CMD.RETURN. -/
def execReturnLeg (who : Requester) (leg : Fin 256) (val : Word) (s : State) : Out :=
  act s (busWrite who (at_ (legP leg.val + 0x054)) val)

/-- R172, R275. -/
def execEngineDutyLands (s : State) : Out := act s dutiesLand

/-- R199. -/
def execSample (f : Fin 16) (idx : Nat) (s : State) : Out :=
  checked (okEntry idx) (act s (dispatch f.val idx 1 sampleAct))

/-- R201. -/
def execJob (f : Fin 16) (idx : Nat) (s : State) : Out :=
  checked (okEntry idx) (act s (dispatch f.val idx 2 jobAct))

/-- R203. -/
def execCommitPoint (f : Fin 16) (idx : Nat) (s : State) : Out :=
  checked (okEntry idx) (act s (dispatch f.val idx 3 commitPointAct))

/-- R204. -/
def execRefresh (f : Fin 16) (idx : Nat) (s : State) : Out :=
  checked (okEntry idx) (act s (dispatch f.val idx 4 refreshAct))

/-- R204. -/
def execRotate (f : Fin 16) (idx : Nat) (s : State) : Out :=
  checked (okEntry idx) (act s (dispatch f.val idx 5 rotateAct))

/-- R204. -/
def execCastPoint (f : Fin 16) (idx : Nat) (s : State) : Out :=
  checked (okEntry idx) (act s (dispatch f.val idx 6 castPointAct))

/-- R204. -/
def execMark (f : Fin 16) (idx : Nat) (s : State) : Out :=
  checked (okEntry idx) (act s (dispatch f.val idx 7 markAct))

/-- R201, R202. -/
def execJobReady (ctx : Fin 256) (s : State) : Out := act s (jobReadyLand ctx.val)

/-- R212, R216. -/
def execRosterEntryWrite (who : Requester) (addr : Word) (val : Word) (s : State) : Out := act s (busWrite who addr val)

/-- R215: CMD.COPY. -/
def execCopy (who : Requester) (val : Word) (s : State) : Out := act s (busWrite who (at_ (rostP + 0x048)) val)

/-- R215: CMD.CLEAR. -/
def execClear (who : Requester) (val : Word) (s : State) : Out := act s (busWrite who (at_ (rostP + 0x048)) val)

/-- R215. -/
def execRosterCmdDone (s : State) : Out := act s rostCmdDone

end Sys2Proof.Machine
end

