-- ==== Sys2Proof/Machine/CmdNight.lean ====
section
/-!
DEFINITION. Meanings. The night shift (R403, R404, R479 to R493).
-/

namespace Sys2Proof.Machine

/-- R403. -/
def execDampMeasurementStart (s : State) : Out := act s dampStart

/-- R403. -/
def execDampSettleEnd (s : State) : Out := act s dampSettle

/-- R404. -/
def execDampAverageDone (s : State) : Out := act s dampAverage

/-- R403. -/
def execDampAbandon (s : State) : Out := act s dampAbandonLand

/-- R491. -/
def execTelemetryPeriod (s : State) : Out := act s telemStart

/-- R491. -/
def execTelemetryRecord (s : State) : Out := act s telemRecord

/-- R483. -/
def execSkimBeat (mram : Bool) (ecc : Ecc) (s : State) : Out := act s (skimLand (b2n mram) ecc)

/-- R484. -/
def execDeputySkim (ecc : Ecc) (s : State) : Out := act s (skimLand 2 ecc)

end Sys2Proof.Machine
end

