-- ==== Sys2Proof/Machine/CmdSampling.lean ====
section
/-!
DEFINITION. Meanings. The sampling front end and the test DAC (R217 to R249).
-/

namespace Sys2Proof.Machine

/-- R222, R225. -/
def execSliceAssign (s : State) : Out := act s sliceAssignLand

/-- R224. -/
def execStale (s : State) : Out := act s staleLandReq

/-- R223 to R236. -/
def execResultDelivery (raw : BitVec 14) (clip : Bool) (s : State) : Out := act s (deliveryLand raw.toNat clip)

/-- R234. -/
def execSlicePlumbStart (sl : Fin 12) (s : State) : Out := act s (plumbStartLand sl.val)

/-- R234 to R237. -/
def execPlumbCycleEnd (result : PlumbResult) (s : State) : Out := act s (plumbEndLand result)

/-- R238. -/
def execInitCalibrationEnd (results : List PlumbResult) (s : State) : Out :=
  checked (okResults results) (act s (initEndLand results))

/-- R239. -/
def execTestDacGrant (s : State) : Out := act s dacGranted

/-- R240: TDCMD.GO. -/
def execTdcmdGo (who : Requester) (val : Word) (s : State) : Out := act s (busWrite who (at_ (adcP + 0x04C)) val)

/-- R240: TDCMD.ABORT. -/
def execTdcmdAbort (who : Requester) (val : Word) (s : State) : Out := act s (busWrite who (at_ (adcP + 0x04C)) val)

/-- R240. -/
def execTdTimeout (s : State) : Out := act s tdTimeoutLand

/-- R243: MAN.GO. -/
def execMan (who : Requester) (val : Word) (s : State) : Out := act s (busWrite who (at_ (adcP + 0x048)) val)

/-- R233. -/
def execWincfgWrite (who : Requester) (addr : Word) (val : Word) (s : State) : Out := act s (busWrite who addr val)

end Sys2Proof.Machine
end

