-- ==== Sys2Proof/Machine/CmdSystem.lean ====
section
/-!
DEFINITION. Meanings. Clocks, supplies, resets, modes, boot and update (R494 to R518).
-/

namespace Sys2Proof.Machine

/-- R494. -/
def execPllLock (s : State) : Out := always s pllLockLand

/-- R495: CLK.CFG. -/
def execClkCfgWrite (who : Requester) (val : Word) (s : State) : Out := act s (busWrite who (at_ (clkP + 0x040)) val)

/-- R495, R526. -/
def execSpreadChange (rx : BitVec 2) (s : State) : Out := act s (spreadChangeLand rx)

/-- R496, R497. -/
def execClkLoss (kind : Bool) (s : State) : Out := act s (clkLossLand kind)

/-- R497. -/
def execRelock (s : State) : Out := always s relockLand

/-- R497, R501. -/
def execClkfail (s : State) : Out := always s clkfailLand

/-- R498. -/
def execCoreSupply (rail : Fin 3) (high : Bool) (s : State) : Out := always s (coreSupplyLand rail.val high)

/-- R498. -/
def execCoreSupplyReturn (rail : Fin 3) (s : State) : Out := always s (coreSupplyReturnLand rail.val)

/-- R501. -/
def execPorc (rail : Fin 3) (s : State) : Out := always s (porcLand rail.val)

/-- R501. -/
def execPora (s : State) : Out := always s poraLand

/-- R501. -/
def execPinReset (s : State) : Out := always s pinResetLand

/-- R502: RST.DEVICE. -/
def execSoftReset (who : Requester) (val : Word) (s : State) : Out := act s (busWrite who (at_ (topP + 0x050)) val)

/-- R503: RST.HEWER after the words the DMA channels have moved. -/
def execHewerReset (who : Requester) (val : Word) (moved : List Nat) (s : State) : Out :=
  checked (okMoved moved) (act s (hewerResetWrite who val moved))

/-- R503: HCTL. -/
def execHctlRelease (who : Requester) (val : Word) (s : State) : Out := act s (busWrite who (at_ (topP + 0x058)) val)

/-- R499. -/
def execTempWarn (die : Fin 5) (temp : BitVec 8) (s : State) : Out := always s (tempWarnLand die.val temp.toNat)

/-- R499. -/
def execTempShut (die : Fin 5) (temp : BitVec 8) (s : State) : Out := always s (tempShutLand die.val temp.toNat)

/-- R499. -/
def execTempFall (die : Fin 5) (temp : BitVec 8) (s : State) : Out := always s (tempFallLand die.val temp.toNat)

/-- R505 to R507: MODE_REQ. -/
def execModeReq (who : Requester) (val : Word) (s : State) : Out := act s (busWrite who (at_ (topP + 0x048)) val)

/-- R506, R454. -/
def execPowerUpDone (s : State) : Out := act s powerUpDoneLand

/-- R510. -/
def execWakeEvent (ev : Fin 9) (level : Bool) (seen : Nat) (pvw : List (BitVec 16)) (s : State) : Out :=
  always s (wakeLand ev.val level seen (pvw.map (·.toNat)))

/-- R512, R514. -/
def execBootDone (s : State) : Out := act s bootDoneLand

/-- R513: UPD_CTL.ERASE. -/
def execErase (who : Requester) (val : Word) (s : State) : Out := act s (busWrite who (at_ (nvP + 0x100)) val)

/-- R513: UPD_CTL.VERIFY. -/
def execVerifySlot (who : Requester) (val : Word) (s : State) : Out := act s (busWrite who (at_ (nvP + 0x100)) val)

/-- R513. -/
def execUpdDone (s : State) : Out := act s updDoneLand

/-- R513: a write to MRAM. -/
def execSlotWrite (who : Requester) (addr : Word) (val : Word) (s : State) : Out := act s (busWrite who addr val)

end Sys2Proof.Machine
end

