-- ==== Sys2Proof/Machine/Dispatch.lean ====
section
/-!
DEFINITION. One arm for each command of the table: its meaning.
-/

namespace Sys2Proof.Machine

open Sys2Proof

/-- R5 to R552: the effect of a command on everything but the queue. -/
def exec (i : Instr) (s : State) : Host.Outcome State Fault Refusal :=
  match i with
  | .keepAlive d chk => Sys2Proof.Machine.execKeepAlive d chk s
  | .watchdogExpiry d => Sys2Proof.Machine.execWatchdogExpiry d s
  | .edgeCommand leg gate on chk oppLow bstLow meas => Sys2Proof.Machine.execEdgeCommand leg gate on chk oppLow bstLow meas s
  | .interlockTurnOn leg bstLow => Sys2Proof.Machine.execInterlockTurnOn leg bstLow s
  | .intlkTimeout leg => Sys2Proof.Machine.execIntlkTimeout leg s
  | .safeCommand leg hold chk ghLow => Sys2Proof.Machine.execSafeCommand leg hold chk ghLow s
  | .retireCommand leg chk => Sys2Proof.Machine.execRetireCommand leg chk s
  | .holderCommand d chk => Sys2Proof.Machine.execHolderCommand d chk s
  | .ddieRefresh d vdrv temp => Sys2Proof.Machine.execDdieRefresh d vdrv temp s
  | .hardSafeAssert d => Sys2Proof.Machine.execHardSafeAssert d s
  | .hardTrip leg above => Sys2Proof.Machine.execHardTrip leg above s
  | .softTrip leg above released => Sys2Proof.Machine.execSoftTrip leg above released s
  | .presenceSeen leg above => Sys2Proof.Machine.execPresenceSeen leg above s
  | .bstUv leg => Sys2Proof.Machine.execBstUv leg s
  | .vdrvUv d => Sys2Proof.Machine.execVdrvUv d s
  | .vdrvOv d => Sys2Proof.Machine.execVdrvOv d s
  | .vdrvRecover d ov => Sys2Proof.Machine.execVdrvRecover d ov s
  | .tripLatchClear who leg val chk hard soft => Sys2Proof.Machine.execTripLatchClear who leg val chk hard soft s
  | .ddieCfgWrite who d val chk => Sys2Proof.Machine.execDdieCfgWrite who d val chk s
  | .ddieVdrvUvWrite who d val chk => Sys2Proof.Machine.execDdieVdrvUvWrite who d val chk s
  | .stStart who d val chk => Sys2Proof.Machine.execStStart who d val chk s
  | .stAbort who d val chk => Sys2Proof.Machine.execStAbort who d val chk s
  | .stStep d after => Sys2Proof.Machine.execStStep d after s
  | .faultMessage pick ext => Sys2Proof.Machine.execFaultMessage pick ext s
  | .retryClear leg chk hard soft => Sys2Proof.Machine.execRetryClear leg chk hard soft s
  | .occurrenceExpiry leg cls => Sys2Proof.Machine.execOccurrenceExpiry leg cls s
  | .recover who val => Sys2Proof.Machine.execRecover who val s
  | .cancel who val => Sys2Proof.Machine.execCancel who val s
  | .quietPeriodEnd refuse lost => Sys2Proof.Machine.execQuietPeriodEnd refuse lost s
  | .tallyRead who => Sys2Proof.Machine.execTallyRead who s
  | .clrTally who val => Sys2Proof.Machine.execClrTally who val s
  | .clrFirst who val => Sys2Proof.Machine.execClrFirst who val s
  | .injArm who val => Sys2Proof.Machine.execInjArm who val s
  | .injTimeout => Sys2Proof.Machine.execInjTimeout s
  | .journalAppend ok => Sys2Proof.Machine.execJournalAppend ok s
  | .journalReclaim => Sys2Proof.Machine.execJournalReclaim s
  | .journalScan => Sys2Proof.Machine.execJournalScan s
  | .format who val => Sys2Proof.Machine.execFormat who val s
  | .formatDone => Sys2Proof.Machine.execFormatDone s
  | .commitGo who addr tag with_ => Sys2Proof.Machine.execCommitGo who addr tag with_ s
  | .commitDiscard who addr => Sys2Proof.Machine.execCommitDiscard who addr s
  | .commitValidation => Sys2Proof.Machine.execCommitValidation s
  | .commitSet dom lost => Sys2Proof.Machine.execCommitSet dom lost s
  | .wetWrite who addr val => Sys2Proof.Machine.execWetWrite who addr val s
  | .domainWrite who addr val => Sys2Proof.Machine.execDomainWrite who addr val s
  | .cast who addr val => Sys2Proof.Machine.execCast who addr val s
  | .pairReadLow who addr => Sys2Proof.Machine.execPairReadLow who addr s
  | .pairReadHigh who addr => Sys2Proof.Machine.execPairReadHigh who addr s
  | .pairWriteLow who addr val => Sys2Proof.Machine.execPairWriteLow who addr val s
  | .pairWriteHigh who addr val chk => Sys2Proof.Machine.execPairWriteHigh who addr val chk s
  | .registerWrite who addr val => Sys2Proof.Machine.execRegisterWrite who addr val s
  | .rcRead who addr => Sys2Proof.Machine.execRcRead who addr s
  | .fence who => Sys2Proof.Machine.execFence who s
  | .frameReload f lost => Sys2Proof.Machine.execFrameReload f lost s
  | .strongDriveEnd leg chk => Sys2Proof.Machine.execStrongDriveEnd leg chk s
  | .loadStale g => Sys2Proof.Machine.execLoadStale g s
  | .retire who leg val => Sys2Proof.Machine.execRetire who leg val s
  | .returnLeg who leg val => Sys2Proof.Machine.execReturnLeg who leg val s
  | .engineDutyLands => Sys2Proof.Machine.execEngineDutyLands s
  | .sample f idx => Sys2Proof.Machine.execSample f idx s
  | .job f idx => Sys2Proof.Machine.execJob f idx s
  | .commitPoint f idx => Sys2Proof.Machine.execCommitPoint f idx s
  | .refresh f idx => Sys2Proof.Machine.execRefresh f idx s
  | .rotate f idx => Sys2Proof.Machine.execRotate f idx s
  | .castPoint f idx => Sys2Proof.Machine.execCastPoint f idx s
  | .mark f idx => Sys2Proof.Machine.execMark f idx s
  | .jobReady ctx => Sys2Proof.Machine.execJobReady ctx s
  | .rosterEntryWrite who addr val => Sys2Proof.Machine.execRosterEntryWrite who addr val s
  | .copy who val => Sys2Proof.Machine.execCopy who val s
  | .clear who val => Sys2Proof.Machine.execClear who val s
  | .rosterCmdDone => Sys2Proof.Machine.execRosterCmdDone s
  | .sliceAssign => Sys2Proof.Machine.execSliceAssign s
  | .stale => Sys2Proof.Machine.execStale s
  | .resultDelivery raw clip => Sys2Proof.Machine.execResultDelivery raw clip s
  | .slicePlumbStart sl => Sys2Proof.Machine.execSlicePlumbStart sl s
  | .plumbCycleEnd result => Sys2Proof.Machine.execPlumbCycleEnd result s
  | .initCalibrationEnd results => Sys2Proof.Machine.execInitCalibrationEnd results s
  | .testDacGrant => Sys2Proof.Machine.execTestDacGrant s
  | .tdcmdGo who val => Sys2Proof.Machine.execTdcmdGo who val s
  | .tdcmdAbort who val => Sys2Proof.Machine.execTdcmdAbort who val s
  | .tdTimeout => Sys2Proof.Machine.execTdTimeout s
  | .man who val => Sys2Proof.Machine.execMan who val s
  | .wincfgWrite who addr val => Sys2Proof.Machine.execWincfgWrite who addr val s
  | .workStart => Sys2Proof.Machine.execWorkStart s
  | .workRun lane ecc inSlot => Sys2Proof.Machine.execWorkRun lane ecc inSlot s
  | .jobCommit ctx => Sys2Proof.Machine.execJobCommit ctx s
  | .verify ctx => Sys2Proof.Machine.execVerify ctx s
  | .ctxcmdReset who val => Sys2Proof.Machine.execCtxcmdReset who val s
  | .resetDone ctx => Sys2Proof.Machine.execResetDone ctx s
  | .contextWrite who addr val => Sys2Proof.Machine.execContextWrite who addr val s
  | .stageWrite who addr val => Sys2Proof.Machine.execStageWrite who addr val s
  | .start who a val => Sys2Proof.Machine.execStart who a val s
  | .stop who a val => Sys2Proof.Machine.execStop who a val s
  | .coast who a val => Sys2Proof.Machine.execCoast who a val s
  | .foReset who a val => Sys2Proof.Machine.execFoReset who a val s
  | .soundingWindowEnd a => Sys2Proof.Machine.execSoundingWindowEnd a s
  | .catchEnd a => Sys2Proof.Machine.execCatchEnd a s
  | .resoundStart a => Sys2Proof.Machine.execResoundStart a s
  | .obsLossRampEnd a => Sys2Proof.Machine.execObsLossRampEnd a s
  | .lockedRotor a => Sys2Proof.Machine.execLockedRotor a s
  | .fbCount k levels ago => Sys2Proof.Machine.execFbCount k levels ago s
  | .indexEvent k => Sys2Proof.Machine.execIndexEvent k s
  | .fbGate k => Sys2Proof.Machine.execFbGate k s
  | .absReadEnd k => Sys2Proof.Machine.execAbsReadEnd k s
  | .emuStep k => Sys2Proof.Machine.execEmuStep k s
  | .setPos who k val => Sys2Proof.Machine.execSetPos who k val s
  | .clrHomed who k val => Sys2Proof.Machine.execClrHomed who k val s
  | .clrFail who k val => Sys2Proof.Machine.execClrFail who k val s
  | .convStart who c val => Sys2Proof.Machine.execConvStart who c val s
  | .convStop who c val => Sys2Proof.Machine.execConvStop who c val s
  | .fastWinExpiry c => Sys2Proof.Machine.execFastWinExpiry c s
  | .fastPauseEnd c => Sys2Proof.Machine.execFastPauseEnd c s
  | .overloadStep c => Sys2Proof.Machine.execOverloadStep c s
  | .contactorDelayEnd c => Sys2Proof.Machine.execContactorDelayEnd c s
  | .pcTimeout c => Sys2Proof.Machine.execPcTimeout c s
  | .lfWritten c ok => Sys2Proof.Machine.execLfWritten c ok s
  | .dampMeasurementStart => Sys2Proof.Machine.execDampMeasurementStart s
  | .dampSettleEnd => Sys2Proof.Machine.execDampSettleEnd s
  | .dampAverageDone => Sys2Proof.Machine.execDampAverageDone s
  | .dampAbandon => Sys2Proof.Machine.execDampAbandon s
  | .telemetryPeriod => Sys2Proof.Machine.execTelemetryPeriod s
  | .telemetryRecord => Sys2Proof.Machine.execTelemetryRecord s
  | .skimBeat mram ecc => Sys2Proof.Machine.execSkimBeat mram ecc s
  | .deputySkim ecc => Sys2Proof.Machine.execDeputySkim ecc s
  | .arbitrationPhase waits ended beats => Sys2Proof.Machine.execArbitrationPhase waits ended beats s
  | .freeze who val => Sys2Proof.Machine.execFreeze who val s
  | .dmaGo who ch val => Sys2Proof.Machine.execDmaGo who ch val s
  | .dmaAbort who ch val moved => Sys2Proof.Machine.execDmaAbort who ch val moved s
  | .dmaDescriptorDone ch => Sys2Proof.Machine.execDmaDescriptorDone ch s
  | .lr core addr => Sys2Proof.Machine.execLr core addr s
  | .sc core addr val => Sys2Proof.Machine.execSc core addr val s
  | .amo core op addr val => Sys2Proof.Machine.execAmo core op addr val s
  | .reservationExpiry core => Sys2Proof.Machine.execReservationExpiry core s
  | .accessFault who addr kind => Sys2Proof.Machine.execAccessFault who addr kind s
  | .machineTimerInterrupt h => Sys2Proof.Machine.execMachineTimerInterrupt h s
  | .lockstep => Sys2Proof.Machine.execLockstep s
  | .dwdtArm who val => Sys2Proof.Machine.execDwdtArm who val s
  | .dkick who val => Sys2Proof.Machine.execDkick who val s
  | .depWdt => Sys2Proof.Machine.execDepWdt s
  | .hkick core val => Sys2Proof.Machine.execHkick core val s
  | .hewerWdt core => Sys2Proof.Machine.execHewerWdt core s
  | .debugHalt h req jtag => Sys2Proof.Machine.execDebugHalt h req jtag s
  | .dbgLock who val => Sys2Proof.Machine.execDbgLock who val s
  | .request core val => Sys2Proof.Machine.execRequest core val s
  | .release core val => Sys2Proof.Machine.execRelease core val s
  | .grant who val => Sys2Proof.Machine.execGrant who val s
  | .deny who val => Sys2Proof.Machine.execDeny who val s
  | .take who val => Sys2Proof.Machine.execTake who val s
  | .reqTimeout => Sys2Proof.Machine.execReqTimeout s
  | .hbeat who => Sys2Proof.Machine.execHbeat who s
  | .dbeat who => Sys2Proof.Machine.execDbeat who s
  | .beatLate => Sys2Proof.Machine.execBeatLate s
  | .heartbeatStale => Sys2Proof.Machine.execHeartbeatStale s
  | .pllLock => Sys2Proof.Machine.execPllLock s
  | .clkCfgWrite who val => Sys2Proof.Machine.execClkCfgWrite who val s
  | .spreadChange rx => Sys2Proof.Machine.execSpreadChange rx s
  | .clkLoss kind => Sys2Proof.Machine.execClkLoss kind s
  | .relock => Sys2Proof.Machine.execRelock s
  | .clkfail => Sys2Proof.Machine.execClkfail s
  | .coreSupply rail high => Sys2Proof.Machine.execCoreSupply rail high s
  | .porc rail => Sys2Proof.Machine.execPorc rail s
  | .pora => Sys2Proof.Machine.execPora s
  | .pinReset => Sys2Proof.Machine.execPinReset s
  | .softReset who val => Sys2Proof.Machine.execSoftReset who val s
  | .hewerReset who val moved => Sys2Proof.Machine.execHewerReset who val moved s
  | .hctlRelease who val => Sys2Proof.Machine.execHctlRelease who val s
  | .tempWarn die temp => Sys2Proof.Machine.execTempWarn die temp s
  | .tempShut die temp => Sys2Proof.Machine.execTempShut die temp s
  | .modeReq who val => Sys2Proof.Machine.execModeReq who val s
  | .powerUpDone => Sys2Proof.Machine.execPowerUpDone s
  | .wakeEvent ev level seen pvw => Sys2Proof.Machine.execWakeEvent ev level seen pvw s
  | .bootDone => Sys2Proof.Machine.execBootDone s
  | .erase who val => Sys2Proof.Machine.execErase who val s
  | .verifySlot who val => Sys2Proof.Machine.execVerifySlot who val s
  | .updDone => Sys2Proof.Machine.execUpdDone s
  | .slotWrite who addr val => Sys2Proof.Machine.execSlotWrite who addr val s
  | .spiRead cmd addr crc => Sys2Proof.Machine.execSpiRead cmd addr crc s
  | .spiWrite low addr val crc => Sys2Proof.Machine.execSpiWrite low addr val crc s
  | .burstRd addr n crc => Sys2Proof.Machine.execBurstRd addr n crc s
  | .burstWr addr vals crc => Sys2Proof.Machine.execBurstWr addr vals crc s
  | .barrier low addr crc => Sys2Proof.Machine.execBarrier low addr crc s
  | .spiCast low addr crc => Sys2Proof.Machine.execSpiCast low addr crc s
  | .spiFrameAbort req crc => Sys2Proof.Machine.execSpiFrameAbort req crc s
  | .spiTimeout req crc => Sys2Proof.Machine.execSpiTimeout req crc s
  | .spiLateCompletion => Sys2Proof.Machine.execSpiLateCompletion s
  | .canModeWrite who n val => Sys2Proof.Machine.execCanModeWrite who n val s
  | .canSend who n val starts => Sys2Proof.Machine.execCanSend who n val starts s
  | .canAbort who n val starts => Sys2Proof.Machine.execCanAbort who n val starts s
  | .txDone n mbox starts sof => Sys2Proof.Machine.execTxDone n mbox starts sof s
  | .canRx n words sof => Sys2Proof.Machine.execCanRx n words sof s
  | .rxnext who n val => Sys2Proof.Machine.execRxnext who n val s
  | .busoff n => Sys2Proof.Machine.execBusoff n s
  | .canRejoin n => Sys2Proof.Machine.execCanRejoin n s
  | .uartTxWrite who n val => Sys2Proof.Machine.execUartTxWrite who n val s
  | .uartRxByte n byte perr ferr brk => Sys2Proof.Machine.execUartRxByte n byte perr ferr brk s
  | .uartDataRead who n => Sys2Proof.Machine.execUartDataRead who n s
  | .uartTxByte n => Sys2Proof.Machine.execUartTxByte n s
  | .i2cCmd who val => Sys2Proof.Machine.execI2cCmd who val s
  | .i2cDone cause done data pec => Sys2Proof.Machine.execI2cDone cause done data pec s
  | .gpioEdge line rising => Sys2Proof.Machine.execGpioEdge line rising s
  | .timerWrap k => Sys2Proof.Machine.execTimerWrap k s
  | .timerCapture k rising => Sys2Proof.Machine.execTimerCapture k rising s
  | .tamper pin held => Sys2Proof.Machine.execTamper pin held s
  | .tamperLoopStep misread => Sys2Proof.Machine.execTamperLoopStep misread s
  | .tampstatWrite who val => Sys2Proof.Machine.execTampstatWrite who val s
  | .portUp p => Sys2Proof.Machine.execPortUp p s
  | .linkLost p => Sys2Proof.Machine.execLinkLost p s
  | .linkFrameForward p crc frame => Sys2Proof.Machine.execLinkFrameForward p crc frame s
  | .linkData p crc frame => Sys2Proof.Machine.execLinkData p crc frame s
  | .linkRd p crc frame => Sys2Proof.Machine.execLinkRd p crc frame s
  | .linkWr p crc frame => Sys2Proof.Machine.execLinkWr p crc frame s
  | .linkResp p crc frame => Sys2Proof.Machine.execLinkResp p crc frame s
  | .linkSync t1 frac hops => Sys2Proof.Machine.execLinkSync t1 frac hops s
  | .linkDreq p frac => Sys2Proof.Machine.execLinkDreq p frac s
  | .linkDresp t4 => Sys2Proof.Machine.execLinkDresp t4 s
  | .syncSend frac => Sys2Proof.Machine.execSyncSend frac s
  | .syncLoss => Sys2Proof.Machine.execSyncLoss s
  | .linkResend p idx refused => Sys2Proof.Machine.execLinkResend p idx refused s
  | .linkAck p idx => Sys2Proof.Machine.execLinkAck p idx s
  | .txctlGo who val => Sys2Proof.Machine.execTxctlGo who val s
  | .rxctlPop who val => Sys2Proof.Machine.execRxctlPop who val s
  | .driveLinkLoss d => Sys2Proof.Machine.execDriveLinkLoss d s
  | .driveLinkReturn d => Sys2Proof.Machine.execDriveLinkReturn d s
  | .tempFall die temp => Sys2Proof.Machine.execTempFall die temp s
  | .coreSupplyReturn rail => Sys2Proof.Machine.execCoreSupplyReturn rail s
  | .debugResume h jtag => Sys2Proof.Machine.execDebugResume h jtag s
  | .hwdtArm core val => Sys2Proof.Machine.execHwdtArm core val s
  | .canError n kind tx => Sys2Proof.Machine.execCanError n kind tx s

end Sys2Proof.Machine
end

