-- ==== Sys2Proof/Machine/Tick.lean ====
section
/-!
DEFINITION. What passes where no command waits: one device tick, or, where the derived clocks do not run, one RTC
cycle (log 14).
-/

namespace Sys2Proof.Machine

/-- RTC cycles in `n` device ticks: 32,768 per 600,000,000 (log 81). -/
def rtcCycles (n : Nat) : Nat := n * 64 / 1171875

/-- R60, R103, R204, R324, R415, R469, R517: a device tick, and what falls due on it without a command of its own. -/
def deviceTick (d : Dev) : Dev :=
  let d := { d with now := d.now + 1 }
  let d := if rtcCycles d.now = rtcCycles (d.now - 1) then d else setRtc (rtcCount d + 1) d
  let d := castsDue (authTick d)
  let d := if d.now % 8 = 0 then unstall (maskPhase d) else d
  let d := each (List.range 16) axisTick d
  let d := each (List.range 16) convTick d
  let d := each (List.range 4) stWatch (gangsEmptied (regangsDue d))
  sleepDue (if d.flt.waiting.isEmpty then d else modeHooks d.mode (axesSettle (decideCycle d)))

/-- Time passes: where no device tick comes, an RTC cycle, which needs neither the derived clocks nor the core die. -/
def tick (d : Dev) : Dev :=
  if asleep d || d.mode = .powerUp || d.sys.stopped then setRtc (rtcCount d + 1) d else deviceTick d

end Sys2Proof.Machine
end

