-- ==== Sys2Proof/Safety.lean ====
section
/-!
DEFINITION. What counts as a safe run of the block, in the terms the statements use.
-/

namespace Sys2Proof.Machine

/-- Every command that waits is a command of the spec. -/
def State.wellQueued (s : State) : Prop := ∀ c ∈ s.pending, c.wf = true

/-- A step neither faults nor refuses. -/
def State.goesOn (s : State) : Prop := ∃ t, step s = .next t

/-- The memory keeps its one form. -/
def State.memWf (s : State) : Prop := Memory.wf s.dev.mem = true

/-- R121, R122: the gates of a leg are low and none waits to turn on. -/
def Dev.legOff (d : Dev) (n : Nat) : Prop := (d.leg n).gh = false ∧ (d.leg n).gl = false ∧ (d.leg n).wait = none

/-- Every leg of a drive die is off. -/
def Dev.dieLow (d : Dev) (k : Nat) : Prop := ∀ n, n / 64 = k → d.legOff n

/-- R18, R161, R162, R457: a drive die takes the next command: its link works, no holder command is on its way, and the
stamp is valid and its holder's. -/
def Dev.accepts (d : Dev) (k : Nat) : Prop :=
  (d.die k).link = true ∧ (d.die k).holderCmd = none ∧ stamp d ≠ 0 ∧ ((d.die k).holder = 0 ∨ stamp d = (d.die k).holder)

/-- R469, R497, R498, R509: the device runs, and no mask stalls the requester. -/
def Dev.serves (d : Dev) (who : Requester) : Prop := awake d = true ∧ stalled d who = none

/-- R455: writes of a requester to the pages of the drive side act. -/
def Dev.hears (d : Dev) (who : Requester) : Prop := sideOf who = 0 ∨ stamp d = 0 ∨ stamp d = sideOf who

/-- A register of a page past its header, with its access code, to which R455 lets the requester write and whose page gives
a write no meaning beside its code. -/
def Dev.plainAt (d : Dev) (who : Requester) (a : Nat) (val : Word) (acc : Acc) : Prop :=
  0x40000000 ≤ a ∧ a < 2 ^ 32 ∧ a % 4 = 0 ∧ 0x040 ≤ a % 0x1000 ∧ blocked d who a = false ∧
    ∃ r i, pageAt a = some (r, i) ∧ accAt r.page (a % 0x1000) = some acc ∧ specialWrite who r.page i (a % 0x1000) val d = none

/-- The first byte of a page with a header, whose registers R455 lets the requester write. -/
def Dev.pageOpen (d : Dev) (who : Requester) (p : Nat) (r : PageRow) : Prop :=
  0x40000000 ≤ p ∧ p + 0x1000 ≤ 2 ^ 32 ∧ p % 0x1000 = 0 ∧ r.page ≠ .mtime ∧ (d.hears who ∨ r.page.driveSide = false) ∧
    ∃ i, ∀ off, off < 0x1000 → pageAt (p + off) = some (r, i)

/-- R49 to R51, R54: what the domains of a commit's union report once it has set, from `b`. -/
def Dev.reports (b : Dev) (c : Commit) (slip : Bool) (d : Dev) : Prop :=
  (∀ n ∈ c.union, c.union.count n = 1 → (d.dom n).st = .set ∧ (d.dom n).count = ((b.dom n).count + 1) % 256 ∧
    (d.dom n).slip = (slip || (b.dom n).slip)) ∧
  (∀ n, n ∉ c.union → d.dom n = b.dom n) ∧ (∀ x ∈ d.commit.armed, x.dom ≠ c.dom)

/-- R46, R49, R175: a commit has set in `b`: every wet register of its domains, their second coat has become their wet set, and
nothing else has changed but what they report. -/
def Dev.sets (b : Dev) (c : Commit) (d : Dev) : Prop :=
  let told := fun a => a = frameP (c.dom / 4) + FRAME.EVT.DUTY_SLIP.off ∨ a = frameP (c.dom / 4) + FRAME.COUNT2.SLIP_COUNT.off
  b.reports c c.slip d ∧
  (∀ a w, (a, some w) ∈ b.wet → (∀ e ∈ b.wet, e.1 = a → e.2 = some w) → b.domAt a ∈ c.union → ¬ told a →
    d.reg a = b.reg a &&& ~~~(wetMask a) ||| w &&& wetMask a) ∧
  (∀ a w, (a, some w) ∈ b.coat2 → (∀ e ∈ b.coat2, e.1 = a → e.2 = some w) → b.domAt a ∈ c.union → d.wetAt a = some w) ∧
  (∀ a, b.domAt a ∈ c.union → (∀ e ∈ b.coat2, e.1 ≠ a) → d.wetAt a = none) ∧
  (∀ a, b.domAt a ∈ c.union → d.coatAt a = none) ∧
  (∀ a, b.domAt a ∉ c.union → d.wetAt a = b.wetAt a ∧ d.coatAt a = b.coatAt a ∧ (¬ told a → d.reg a = b.reg a)) ∧
  d = { b with regs := d.regs, events := d.events, wet := d.wet, coat2 := d.coat2, commit := d.commit }

/-- The entry command of an action code (R195). -/
def entryCommand (act : Nat) (f : Fin 16) (i : Nat) : Instr :=
  match act with
  | 1 => .sample f i | 2 => .job f i | 3 => .commitPoint f i | 4 => .refresh f i | 5 => .rotate f i | 6 => .castPoint f i | _ => .mark f i

/-- R198: the roster's count of what this tick has dispatched, one entry later. -/
def Dev.counted (d : Dev) (late : Bool) : RostRec :=
  { d.rost with dispAt := d.now, disp := dispatched d + 1, dispDeferred := dispatchedLate d + b2n late }

/-- R196, R198: entry `i` of frame `f`'s active bank has this action, is due, and is among the first eight of the tick. -/
def Dev.dispatches (d : Dev) (f i act : Nat) : Prop :=
  eAction (entryAt d (frameKey d f i)) = act ∧ entryDue d f i = true ∧
    (∀ x ∈ d.rost.deferred, ¬(x.frame = f ∧ x.key % 16384 = i)) ∧ waitedFor d + actRank d f i < 8 ∧ dispatched d < 8

/-- R472, R473: channel `ch` runs the descriptor at `p`, which copies `n` words of Hewer SRAM from `src` to `dst`, ranges that
do not meet, and ends in `w3`; no read of memory is injected. -/
def Dev.dmaFrom (d : Dev) (ch p src dst n : Nat) (w3 : Word) : Prop :=
  dmaState d ch = 1 ∧ d.reg (dmaA ch + 0xC) = BitVec.ofNat 32 p ∧ p % 4 = 0 ∧ inSram p = true ∧ inSram (p + 15) = true ∧
    memWord d p = BitVec.ofNat 32 src ∧ memWord d (p + 4) = BitVec.ofNat 32 dst ∧ bits (memWord d (p + 8)) 0 24 = 4 * n ∧
    memWord d (p + 12) = w3 ∧ src % 4 = 0 ∧ dst % 4 = 0 ∧ inSram src = true ∧ inSram dst = true ∧
    src + 4 * n ≤ 0x10200000 ∧ dst + 4 * n ≤ 0x10200000 ∧ (src + 4 * n ≤ dst ∨ dst + 4 * n ≤ src) ∧ injArmed d = false

/-- R17, R19, R497, R509: a command that needs the derived clocks: all but those of the drive dies, the supplies, the root clock
and the always-on domain. -/
def needsClocks : Instr → Bool
  | .watchdogExpiry _ | .interlockTurnOn _ _ | .intlkTimeout _ | .hardSafeAssert _ | .hardTrip _ _ | .softTrip _ _ _
  | .presenceSeen _ _ | .bstUv _ | .vdrvUv _ | .vdrvOv _ | .vdrvRecover _ _ | .stStep _ _ | .driveLinkLoss _
  | .driveLinkReturn _ | .tamper _ _ | .tamperLoopStep _ | .pllLock | .relock | .clkfail | .coreSupply _ _
  | .coreSupplyReturn _ | .porc _ | .pora | .pinReset | .tempWarn _ _ | .tempShut _ _ | .tempFall _ _ | .wakeEvent _ _ _ _ => false
  | _ => true

/-- The levels of a leg's GH and GL. -/
def Dev.gates (d : Dev) (n : Nat) : Bool × Bool := ((d.leg n).gh, (d.leg n).gl)

/-- R134: no leg has both gates on. -/
def Dev.noShootThrough (d : Dev) : Prop := ∀ n, ((d.leg n).gh && (d.leg n).gl) = false

end Sys2Proof.Machine
end

