-- ==== Sys2Proof/Certificates/Slice0/Obligations.lean ====
section
/-!
DEFINITION. The statements for the provers. In each, `s.put d` is the state `s` with the device `d`: the queue stays. A frame
is an equation `d = { s.dev with … }`: every field of the device that it does not name, the memory and the tick count among
them, is as it was.
-/

open Sys2Proof Sys2Proof.Machine

/-! ### Drive dies -/

/-- R17, R19, R122: the hard-safe line, and the watchdog 1,200 ticks after the die's last valid command, turn every gate of
the die off, whatever the link does, and no leg of another die moves; a watchdog time that has not passed changes nothing.
R125: a VDRV condition turns every gate of the die off and sends its message, and holds the die's legs; its end leaves the
hold, and so the legs, as they are until recovery. The model's own readings in it: log 96. -/
def Obligations.DieForcedLow : Prop :=
  (∀ (s : State) (k : Fin 4), asleep s.dev = false →
     (∃ d, Machine.exec (.hardSafeAssert k) s = .next (s.put d) ∧ d.dieLow k ∧ (d.die k).hardsafe = true ∧
       (∀ m : Nat, m / 64 ≠ k.val → d.leg m = s.dev.leg m) ∧ (∀ j, j ≠ k.val → d.die j = s.dev.die j) ∧
       d = { s.dev with legs := d.legs, dies := d.dies }) ∧
     (s.dev.mode ≠ .powerUp → awake s.dev = true → s.dev.now < (s.dev.die k).lastValid + 1200 →
       Machine.exec (.watchdogExpiry k) s = .next s) ∧
     ((s.dev.die k).lastValid + 1200 ≤ s.dev.now ∨ s.dev.mode = .powerUp ∨ awake s.dev = false →
       ∃ d, Machine.exec (.watchdogExpiry k) s = .next (s.put d) ∧ d.dieLow k ∧ (d.die k).wdSafe = true ∧
       (d.die k).wdPend = true ∧ (∀ m : Nat, m / 64 ≠ k.val → d.leg m = s.dev.leg m) ∧ (∀ j, j ≠ k.val → d.die j = s.dev.die j) ∧
       d = { s.dev with legs := d.legs, dies := d.dies })) ∧
  (∀ (s : State) (k : Fin 4), asleep s.dev = false →
     ((s.dev.die k).link = true →
       ∃ d, Machine.exec (.vdrvUv k) s = .next (s.put d) ∧ d.dieLow k ∧ (d.die k).vdrvUv = true ∧ dieFree d k = false ∧
       d.flt = { s.dev.flt with inflight := s.dev.flt.inflight ++ [faultOf (ddieP k) 9 0] } ∧
       (∀ m : Nat, m / 64 ≠ k.val → d.leg m = s.dev.leg m) ∧ (∀ j, j ≠ k.val → d.die j = s.dev.die j) ∧
       d = { s.dev with legs := d.legs, dies := d.dies, flt := d.flt }) ∧
     ((s.dev.die k).link = true → bits (s.dev.die k).cfg 0 2 ≠ 0 →
       ∃ d, Machine.exec (.vdrvOv k) s = .next (s.put d) ∧ d.dieLow k ∧ (d.die k).vdrvOv = true ∧ dieFree d k = false ∧
       d.flt = { s.dev.flt with inflight := s.dev.flt.inflight ++ [faultOf (ddieP k) 10 0] } ∧
       (∀ m : Nat, m / 64 ≠ k.val → d.leg m = s.dev.leg m) ∧ (∀ j, j ≠ k.val → d.die j = s.dev.die j) ∧
       d = { s.dev with legs := d.legs, dies := d.dies, flt := d.flt }) ∧
     (∀ ov, ∃ d, Machine.exec (.vdrvRecover k ov) s = .next (s.put d) ∧
       (d.die k).vdrvOv = (!ov && (s.dev.die k).vdrvOv) ∧ (d.die k).vdrvUv = (ov && (s.dev.die k).vdrvUv) ∧
       (d.die k).supHold = (s.dev.die k).supHold ∧
       (∀ j, j ≠ k.val → d.die j = s.dev.die j) ∧ d = { s.dev with dies := d.dies }))

/-- R140, R142, R143, R150, R151: an input that has been above threshold for its filter time trips: both gates of the leg go
off and stay so until a reload, the latch is set and the message goes out with the stamp of the detection tick. A shorter
assertion is none; a SOFT assertion that ends inside a blanking window is only counted. R136, R137, R140, R145: PRESENCE above
its threshold for 12 ticks is recorded while GL is on and no window runs; a low bootstrap turns GH off, latches BST_UV, sends
it and owes the leg a refresh pulse, and leaves GL as it is. The model's own readings in it: log 42, 47. -/
def Obligations.TripsPresenceAndBootstrap : Prop :=
  (∀ (s : State) (n : Fin 256) (above : Nat), asleep s.dev = false → underTest s.dev n = false → (s.dev.die (n / 64)).link = true →
     (12 ≤ above →
       ∃ d, Machine.exec (.hardTrip n above) s = .next (s.put d) ∧ d.legOff n ∧ gatesFree d n = false ∧
       d.on (legP n) LEG.TRIP.HARD_LAT = true ∧ d.plan n = { s.dev.plan n with stop := true } ∧
       d.flt = { s.dev.flt with inflight := s.dev.flt.inflight ++ [faultOf (legP n) 1 (s.dev.now % 64 * 256 + n)] } ∧
       (∀ m, m ≠ n.val → d.leg m = s.dev.leg m ∧ d.plan m = s.dev.plan m) ∧
       (∀ a, a ≠ legP n + 0x05C → a ≠ legP n + 0x068 → d.reg a = s.dev.reg a) ∧
       d = { s.dev with legs := d.legs, plans := d.plans, regs := d.regs, events := d.events, flt := d.flt }) ∧
     (above < 12 → Machine.exec (.hardTrip n above) s = .next s) ∧
     (∀ r, softTime s.dev (n / 64) (s.dev.now - above) ≤ above → (s.dev.leg n).blankEnd ≤ s.dev.now →
       ∃ d, Machine.exec (.softTrip n above r) s = .next (s.put d) ∧ d.legOff n ∧ gatesFree d n = false ∧
       d.on (legP n) LEG.TRIP.SOFT_LAT = true ∧ d.plan n = { s.dev.plan n with stop := true } ∧
       d.flt = { s.dev.flt with inflight := s.dev.flt.inflight ++ [faultOf (legP n) 2 (s.dev.now % 64 * 256 + n)] } ∧
       (∀ m, m ≠ n.val → d.leg m = s.dev.leg m ∧ d.plan m = s.dev.plan m) ∧
       (∀ a, a ≠ legP n + 0x05C → a ≠ legP n + 0x068 → d.reg a = s.dev.reg a) ∧
       d = { s.dev with legs := d.legs, plans := d.plans, regs := d.regs, events := d.events, flt := d.flt }) ∧
     (∀ r, above < softTime s.dev (n / 64) (s.dev.now - above) → Machine.exec (.softTrip n above r) s = .next s) ∧
     (softTime s.dev (n / 64) (s.dev.now - above) ≤ above → s.dev.now < (s.dev.leg n).blankEnd →
       ∃ d, Machine.exec (.softTrip n above true) s = .next (s.put d) ∧
       d.die (n / 64) = { s.dev.die (n / 64) with blankHits := (s.dev.die (n / 64)).blankHits + 1 } ∧
       (∀ j, j ≠ n.val / 64 → d.die j = s.dev.die j) ∧ d = { s.dev with dies := d.dies })) ∧
  (∀ (s : State) (n : Fin 256), asleep s.dev = false →
     (∀ above, 12 ≤ above → (s.dev.leg n).gl = true → (s.dev.leg n).blankEnd ≤ s.dev.now → underTest s.dev n = false →
       ∃ d, Machine.exec (.presenceSeen n above) s = .next (s.put d) ∧ d.leg n = { s.dev.leg n with presSeen := true } ∧
       (∀ m, m ≠ n.val → d.leg m = s.dev.leg m) ∧ d = { s.dev with legs := d.legs }) ∧
     ((s.dev.leg n).gh = true → (s.dev.die (n / 64)).link = true →
       ∃ d, Machine.exec (.bstUv n) s = .next (s.put d) ∧ (d.leg n).gh = false ∧ (d.leg n).gl = (s.dev.leg n).gl ∧
       (d.leg n).refreshOwed = true ∧ d.on (legP n) LEG.TRIP.BST_UV = true ∧
       d.flt = { s.dev.flt with inflight := s.dev.flt.inflight ++ [faultOf (legP n) 3 n] } ∧
       (∀ m, m ≠ n.val → d.leg m = s.dev.leg m) ∧ (∀ a, a ≠ legP n + 0x05C → d.reg a = s.dev.reg a) ∧
       d = { s.dev with legs := d.legs, regs := d.regs, events := d.events, flt := d.flt }))

/-- R21, R121, R134, R28: an edge command that the modulator issued 24 ticks before moves its gate where the leg may switch. A
turn-on acts at once where the opposite gate is off and has read low, waits where it has not, and is dropped for GH with a low
bootstrap (R136); a turn-off always acts; a leg that may not switch, or whose command was issued before the reload that freed
it (R150), goes off. A command that is not due changes nothing. R134, R135, R136: the wait of a turn-on ends in the gate
turning on, or after INTLK_TO ticks in INTLK_TIMEOUT with the gate still low; a low bootstrap drops a waiting GH, and a
turn-on that comes too late changes nothing. The model's own readings in it: log 14, 46, 47. -/
def Obligations.EdgesAndInterlock : Prop :=
  (∀ (s : State) (n : Fin 256) (g : Gate) (bst : Bool) (ms : List Transition), awake s.dev = true →
     (∀ on chk low, edgeDue s.dev n g on = false → Machine.exec (.edgeCommand n g on chk low bst ms) s = .next s) ∧
     (s.dev.accepts (n / 64) → (s.dev.die (n / 64)).wdPend = false → (s.dev.leg n).dieHold ≠ .short →
     (edgeDue s.dev n g true = true → gatesFree s.dev n = true → (s.dev.plan n).since + 24 ≤ s.dev.now →
       (g = .gh → (s.dev.leg n).gl = false ∧ bst = false) →
       (g = .gl → (s.dev.leg n).gh = false) →
       ∃ d, Machine.exec (.edgeCommand n g true true true bst ms) s = .next (s.put d) ∧
       (d.leg n).gh = (g == .gh) ∧ (d.leg n).gl = (g == .gl) ∧ (d.leg n).wait = none ∧
       (∀ m, m ≠ n.val → d.leg m = s.dev.leg m ∧ d.plan m = s.dev.plan m) ∧
       d = { s.dev with legs := d.legs, plans := d.plans, dies := d.dies, regs := d.regs, events := d.events, flt := d.flt }) ∧
     (edgeDue s.dev n g true = true → gatesFree s.dev n = true → (s.dev.plan n).since + 24 ≤ s.dev.now → (g = .gh → bst = false) →
       ∃ d, Machine.exec (.edgeCommand n g true true false bst ms) s = .next (s.put d) ∧
       (d.leg n).gh = (s.dev.leg n).gh ∧ (d.leg n).gl = (s.dev.leg n).gl ∧ (d.leg n).wait = some (g, s.dev.now) ∧
       (∀ m, m ≠ n.val → d.leg m = s.dev.leg m ∧ d.plan m = s.dev.plan m) ∧
       d = { s.dev with legs := d.legs, plans := d.plans, dies := d.dies, regs := d.regs, events := d.events, flt := d.flt }) ∧
     (∀ low, edgeDue s.dev n .gh true = true → gatesFree s.dev n = true → (s.dev.plan n).since + 24 ≤ s.dev.now →
       ∃ d, Machine.exec (.edgeCommand n .gh true true low true ms) s = .next (s.put d) ∧
       (d.leg n).gh = (s.dev.leg n).gh ∧ (d.leg n).gl = (s.dev.leg n).gl ∧ (d.leg n).wait = (s.dev.leg n).wait ∧
       (∀ m, m ≠ n.val → d.leg m = s.dev.leg m ∧ d.plan m = s.dev.plan m) ∧
       d = { s.dev with legs := d.legs, plans := d.plans, dies := d.dies, regs := d.regs, events := d.events, flt := d.flt }) ∧
     (∀ low, edgeDue s.dev n g false = true → gatesFree s.dev n = true → (s.dev.plan n).since + 24 ≤ s.dev.now →
       ∃ d, Machine.exec (.edgeCommand n g false true low bst ms) s = .next (s.put d) ∧
       (d.leg n).gh = ((s.dev.leg n).gh && g != .gh) ∧ (d.leg n).gl = ((s.dev.leg n).gl && g != .gl) ∧
       (∀ m, m ≠ n.val → d.leg m = s.dev.leg m ∧ d.plan m = s.dev.plan m) ∧
       d = { s.dev with legs := d.legs, plans := d.plans, dies := d.dies, regs := d.regs, events := d.events, flt := d.flt }) ∧
     (∀ on low, edgeDue s.dev n g on = true → gatesFree s.dev n = false ∨ s.dev.now < (s.dev.plan n).since + 24 →
       ∃ d, Machine.exec (.edgeCommand n g on true low bst ms) s = .next (s.put d) ∧ d.legOff n ∧
       (∀ m, m ≠ n.val → d.leg m = s.dev.leg m ∧ d.plan m = s.dev.plan m) ∧
       d = { s.dev with legs := d.legs, plans := d.plans, dies := d.dies }))) ∧
  (∀ (s : State) (n : Fin 256) (g : Gate) (t : Nat), asleep s.dev = false → (s.dev.leg n).wait = some (g, t) →
     (∀ bst, gatesFree s.dev n = true → (g = .gh → (s.dev.leg n).gl = false ∧ bst = false) →
       (g = .gl → (s.dev.leg n).gh = false) → s.dev.now < t + intlkTo s.dev (n / 64) →
       ∃ d, Machine.exec (.interlockTurnOn n bst) s = .next (s.put d) ∧
       (d.leg n).gh = (g == .gh) ∧ (d.leg n).gl = (g == .gl) ∧ (d.leg n).wait = none ∧
       (∀ m, m ≠ n.val → d.leg m = s.dev.leg m) ∧ d = { s.dev with legs := d.legs }) ∧
     (g = .gh → (s.dev.leg n).gl = false → s.dev.now < t + intlkTo s.dev (n / 64) →
       ∃ d, Machine.exec (.interlockTurnOn n true) s = .next (s.put d) ∧ d.leg n = { s.dev.leg n with wait := none } ∧
       (∀ m, m ≠ n.val → d.leg m = s.dev.leg m) ∧ d = { s.dev with legs := d.legs }) ∧
     (∀ bst, t + intlkTo s.dev (n / 64) ≤ s.dev.now → Machine.exec (.interlockTurnOn n bst) s = .next s) ∧
     (t + intlkTo s.dev (n / 64) ≤ s.dev.now → (s.dev.die (n / 64)).link = true →
       ∃ d, Machine.exec (.intlkTimeout n) s = .next (s.put d) ∧
       d.leg n = { s.dev.leg n with wait := none } ∧
       (d.die (n / 64)).intlkTo = (s.dev.die (n / 64)).intlkTo + 1 ∧ bitOf (d.die (n / 64)).evt 4 = true ∧
       d.flt = { s.dev.flt with inflight := s.dev.flt.inflight ++ [faultOf (legP n) 5 n] } ∧
       (∀ m, m ≠ n.val → d.leg m = s.dev.leg m) ∧ (∀ j, j ≠ n.val / 64 → d.die j = s.dev.die j) ∧
       d = { s.dev with legs := d.legs, dies := d.dies, flt := d.flt }))

/-- R28, R102, R121, R122, R134: OFF turns both gates off. SHORT turns GH off and holds GL on where nothing stronger holds the
leg: at once where GH was off and has read low, past the interlock where it has not. A retire command turns both gates off for
good. A command that fails its link check moves nothing (R162). -/
def Obligations.HoldCommands : Prop :=
  ∀ (s : State) (n : Fin 256), awake s.dev = true →
    (s.dev.accepts (n / 64) → (s.dev.die (n / 64)).wdPend = false →
    (∀ low, ∃ d, Machine.exec (.safeCommand n .off true low) s = .next (s.put d) ∧
      d.leg n = { s.dev.leg n with dieHold := .off, gh := false, gl := false, wait := none, outs := (d.leg n).outs,
                                   blankEnd := (d.leg n).blankEnd } ∧
      (∀ m, m ≠ n.val → d.leg m = s.dev.leg m) ∧ d = { s.dev with legs := d.legs, dies := d.dies }) ∧
    (∀ low, dieFree s.dev (n / 64) = true → latched s.dev n = false →
      ∃ d, Machine.exec (.safeCommand n .short true low) s = .next (s.put d) ∧
      d.leg n = { s.dev.leg n with dieHold := .short, gh := false, gl := (d.leg n).gl, wait := (d.leg n).wait,
                                   outs := (d.leg n).outs, blankEnd := (d.leg n).blankEnd } ∧
      ((s.dev.leg n).gl = true ∨ ((s.dev.leg n).gh = false ∧ low = true) → (d.leg n).gl = true ∧ (d.leg n).wait = none) ∧
      ((s.dev.leg n).gl = false → (s.dev.leg n).gh = true ∨ low = false →
        (d.leg n).gl = false ∧ (d.leg n).wait = some (.gl, s.dev.now)) ∧
      (∀ m, m ≠ n.val → d.leg m = s.dev.leg m) ∧ d = { s.dev with legs := d.legs, dies := d.dies }) ∧
    (∀ low, dieFree s.dev (n / 64) = false ∨ latched s.dev n = true →
      ∃ d, Machine.exec (.safeCommand n .short true low) s = .next (s.put d) ∧ d.legOff n ∧ (d.leg n).dieHold = .short ∧
      (∀ m, m ≠ n.val → d.leg m = s.dev.leg m) ∧ d = { s.dev with legs := d.legs, dies := d.dies }) ∧
    (∃ d, Machine.exec (.retireCommand n true) s = .next (s.put d) ∧
      d.leg n = { s.dev.leg n with dieRetired := true, gh := false, gl := false, wait := none, outs := (d.leg n).outs,
                                   blankEnd := (d.leg n).blankEnd } ∧
      (∀ m, m ≠ n.val → d.leg m = s.dev.leg m) ∧ d = { s.dev with legs := d.legs, dies := d.dies })) ∧
    (∀ h low, ∃ d, Machine.exec (.safeCommand n h false low) s = .next (s.put d) ∧ d = { s.dev with dies := d.dies }) ∧
    (∃ d, Machine.exec (.retireCommand n false) s = .next (s.put d) ∧ d = { s.dev with dies := d.dies })

/-- R18, R19, R161, R457: a keep-alive, which the core die sends after 256 ticks without a command, restarts the die's
watchdog time and brings out a WD_SAFE that waits; a command that fails its check, or whose stamp is not the holder's, is
discarded and counted; a holder command latches the new holder, at a die that still holds NONE too, and from the last die ends
the switch. R19, R151, R163: a link that stops working changes nothing else; one that returns sends what the die held, each
message flagged held where it is older than 32 ticks; a refresh brings the die's status to the core-die page and clears its
counts. The model's own readings in it: log 41, 94, 96. -/
def Obligations.DriveLink : Prop :=
  (∀ (s : State) (k : Fin 4), awake s.dev = true → (s.dev.die k).link = true →
     (∀ chk, s.dev.now < (s.dev.die k).lastSent + 256 → Machine.exec (.keepAlive k chk) s = .next s) ∧
     ((s.dev.die k).lastSent + 256 ≤ s.dev.now →
     (s.dev.accepts k →
       ∃ d, Machine.exec (.keepAlive k true) s = .next (s.put d) ∧
       d.die k = { s.dev.die k with holder := stamp s.dev, lastSent := s.dev.now, lastValid := s.dev.now, wdPend := false } ∧
       d.flt = { s.dev.flt with inflight :=
         s.dev.flt.inflight ++ (if (s.dev.die k).wdPend then [faultOf (ddieP k) 11 0] else []) } ∧
       (∀ j, j ≠ k.val → d.die j = s.dev.die j) ∧ d = { s.dev with dies := d.dies, flt := d.flt }) ∧
     ((s.dev.die k).holderCmd = none →
       ∃ d, Machine.exec (.keepAlive k false) s = .next (s.put d) ∧
       d.die k = { s.dev.die k with lastSent := s.dev.now, checkFail := (s.dev.die k).checkFail + 1 } ∧
       (∀ j, j ≠ k.val → d.die j = s.dev.die j) ∧ d = { s.dev with dies := d.dies }) ∧
     ((s.dev.die k).holderCmd = none → (s.dev.die k).holder ≠ 0 → stamp s.dev ≠ (s.dev.die k).holder →
       ∃ d, Machine.exec (.keepAlive k true) s = .next (s.put d) ∧
       (d.die k).authDisc = (s.dev.die k).authDisc + 1 ∧ (d.die k).lastValid = (s.dev.die k).lastValid ∧
       (d.die k).holder = (s.dev.die k).holder ∧ bitOf (d.die k).evt 6 = true ∧
       (∀ j, j ≠ k.val → d.die j = s.dev.die j) ∧ d = { s.dev with dies := d.dies })) ∧
     (∀ old new, (s.dev.die k).holderCmd = some (old, new) → ((s.dev.die k).holder = 0 ∨ (s.dev.die k).holder = old) →
       (s.dev.die k).wdPend = false →
       ∃ d, Machine.exec (.holderCommand k true) s = .next (s.put d) ∧
       d.die k = { s.dev.die k with holder := new, holderCmd := none, lastSent := s.dev.now, lastValid := s.dev.now } ∧
       ((∀ j < 4, j ≠ k.val → (s.dev.die j).holderCmd = none) → d.fld authP AUTH.STATE.PHASE = 0) ∧
       ((∃ j < 4, j ≠ k.val ∧ (s.dev.die j).holderCmd ≠ none) → d.regs = s.dev.regs) ∧
       (∀ j, j ≠ k.val → d.die j = s.dev.die j) ∧ d = { s.dev with dies := d.dies, regs := d.regs }) ∧
     ((s.dev.die k).holderCmd ≠ none →
       ∃ d, Machine.exec (.holderCommand k false) s = .next (s.put d) ∧
       d.die k = { s.dev.die k with lastSent := s.dev.now, checkFail := (s.dev.die k).checkFail + 1 } ∧
       (∀ j, j ≠ k.val → d.die j = s.dev.die j) ∧ d = { s.dev with dies := d.dies })) ∧
  (∀ (s : State) (k : Fin 4),
     (asleep s.dev = false →
       ∃ d, Machine.exec (.driveLinkLoss k) s = .next (s.put d) ∧ d.die k = { s.dev.die k with link := false } ∧
       (∀ j, j ≠ k.val → d.die j = s.dev.die j) ∧ d = { s.dev with dies := d.dies }) ∧
     (asleep s.dev = false →
       ∃ d, Machine.exec (.driveLinkReturn k) s = .next (s.put d) ∧
       d.die k = { s.dev.die k with link := true, held := [] } ∧
       d.flt.inflight = s.dev.flt.inflight ++
         (s.dev.die k).held.map (fun x => { x.2 with held := decide (32 < s.dev.now - x.1) }) ∧
       d.flt = { s.dev.flt with inflight := d.flt.inflight } ∧
       (∀ j, j ≠ k.val → d.die j = s.dev.die j) ∧ d = { s.dev with dies := d.dies, flt := d.flt }) ∧
     (∀ vdrv temp, awake s.dev = true → (s.dev.die k).link = true →
       ∃ d, Machine.exec (.ddieRefresh k vdrv temp) s = .next (s.put d) ∧
       d.fld (ddieP k) DDIE.DSTAT.VDRV = vdrv.toNat ∧ d.fld (ddieP k) DDIE.DSTAT.TEMP = temp.toNat ∧
       d.reg (ddieP k + 0x040) = (s.dev.die k).cfg ∧ d.reg (ddieP k + 0x044) = (s.dev.die k).uvTh ∧
       d.reg (ddieP k + 0x04C) = (s.dev.reg (ddieP k + 0x04C) ||| (s.dev.die k).evt) ∧
       (d.die k).evt = 0 ∧ (d.die k).checkFail = 0 ∧ (d.die k).authDisc = 0 ∧
       (∀ j, j ≠ k.val → d.die j = s.dev.die j) ∧
       d = { s.dev with dies := d.dies, regs := d.regs, events := d.events }))

/-- R13, R148, R149: a write of 1 to a trip latch clears it where its comparator has been low for its filter time and 32
ticks, and leaves it with CLR_REFUSED where it has not; the other bits of TRIP clear at once. A bit that an event of the same
cycle has set stays set. A clear is a drive-link command (the model's reading, log 107): one that fails its link check clears
no latch. R121, R124, R126: CFG and VDRV_UV of a die change where the die takes the command: a new MODE not while a leg of the
die is assigned, and a threshold only between 30 and 110 codes and more than 3 codes below the overvoltage limit. A refused
write sets its event; MODE 0 turns every gate of the die off. A command that fails its link check is counted and changes no
setting. The model's own readings in it: log 25, 107. -/
def Obligations.LatchesAndDieSettings : Prop :=
  (∀ (s : State) (n : Fin 256) (who : Requester) (val : Word) (hard soft : CompRead), s.dev.serves who → s.dev.hears who →
     (s.dev.accepts (n / 64) → (s.dev.die (n / 64)).wdPend = false →
     ∃ d, Machine.exec (.tripLatchClear who n val true hard soft) s = .next (s.put d) ∧
       (s.dev.eventAt (legP n + 0x05C) = none →
         d.on (legP n) LEG.TRIP.HARD_LAT =
           (s.dev.on (legP n) LEG.TRIP.HARD_LAT && !(bitOf val 2 && !hard.above && decide (44 ≤ hard.belowFor))) ∧
         d.on (legP n) LEG.TRIP.SOFT_LAT =
           (s.dev.on (legP n) LEG.TRIP.SOFT_LAT &&
             !(bitOf val 1 && !soft.above && decide (12 + 4 * bits (s.dev.die (n / 64)).cfg 8 4 + 32 ≤ soft.belowFor))) ∧
         d.on (legP n) LEG.TRIP.BST_UV = (s.dev.on (legP n) LEG.TRIP.BST_UV && !bitOf val 4) ∧
         d.on (legP n) LEG.TRIP.PRES_MISS = (s.dev.on (legP n) LEG.TRIP.PRES_MISS && !bitOf val 3)) ∧
       (∀ x, s.dev.eventAt (legP n + 0x05C) = some x →
         (bitOf x.2 2 = true → d.on (legP n) LEG.TRIP.HARD_LAT = s.dev.on (legP n) LEG.TRIP.HARD_LAT) ∧
         (bitOf x.2 1 = true → d.on (legP n) LEG.TRIP.SOFT_LAT = s.dev.on (legP n) LEG.TRIP.SOFT_LAT)) ∧
       (bitOf val 2 = true → s.dev.on (legP n) LEG.TRIP.HARD_LAT = true → (hard.above = true ∨ hard.belowFor < 44) →
         d.on (legP n) LEG.TRIP.CLR_REFUSED = true) ∧
       (bitOf val 1 = true → s.dev.on (legP n) LEG.TRIP.SOFT_LAT = true →
         (soft.above = true ∨ soft.belowFor < 12 + 4 * bits (s.dev.die (n / 64)).cfg 8 4 + 32) →
         d.on (legP n) LEG.TRIP.CLR_REFUSED = true) ∧
       (∀ a, a ≠ legP n + 0x05C → d.reg a = s.dev.reg a) ∧ (∀ j, j ≠ n.val / 64 → d.die j = s.dev.die j) ∧
       d = { s.dev with dies := d.dies, regs := d.regs, events := d.events, resp := d.resp, afault := d.afault }) ∧
     (∃ d, Machine.exec (.tripLatchClear who n val false hard soft) s = .next (s.put d) ∧
       d.on (legP n) LEG.TRIP.HARD_LAT = s.dev.on (legP n) LEG.TRIP.HARD_LAT ∧
       d.on (legP n) LEG.TRIP.SOFT_LAT = s.dev.on (legP n) LEG.TRIP.SOFT_LAT ∧
       (∀ a, a ≠ legP n + 0x05C → d.reg a = s.dev.reg a) ∧ (∀ j, j ≠ n.val / 64 → d.die j = s.dev.die j) ∧
       d = { s.dev with dies := d.dies, regs := d.regs, resp := d.resp, afault := d.afault })) ∧
  (∀ (s : State) (k : Fin 4) (who : Requester) (val : Word), s.dev.serves who → s.dev.hears who → s.dev.accepts k →
     (s.dev.die k).wdPend = false →
     let failed := fun d : Dev =>
       d.die k = { s.dev.die k with lastSent := s.dev.now, checkFail := (s.dev.die k).checkFail + 1 } ∧
       (∀ j, j ≠ k.val → d.die j = s.dev.die j) ∧ d = { s.dev with dies := d.dies, resp := d.resp, afault := d.afault }
     (bits val 0 2 = bits (s.dev.die k).cfg 0 2 ∨ (∀ i, i < 64 → legState s.dev (64 * k + i) ≠ 1 ∧
         legState s.dev (64 * k + i) ≠ 2 ∧ legState s.dev (64 * k + i) ≠ 3) →
       ∃ d, Machine.exec (.ddieCfgWrite who k val true) s = .next (s.put d) ∧ (d.die k).cfg = val &&& 0xFFFF0F03 ∧
       (bits val 0 2 ≠ 0 → d.legs = s.dev.legs) ∧ (bits val 0 2 = 0 → d.dieLow k) ∧
       (∀ m : Nat, m / 64 ≠ k.val → d.leg m = s.dev.leg m) ∧ (∀ j, j ≠ k.val → d.die j = s.dev.die j) ∧
       d = { s.dev with legs := d.legs, dies := d.dies, resp := d.resp, afault := d.afault }) ∧
     (bits val 0 2 ≠ bits (s.dev.die k).cfg 0 2 → (∃ i, i < 64 ∧ (legState s.dev (64 * k + i) = 1 ∨
         legState s.dev (64 * k + i) = 2 ∨ legState s.dev (64 * k + i) = 3)) →
       ∃ d, Machine.exec (.ddieCfgWrite who k val true) s = .next (s.put d) ∧ (d.die k).cfg = (s.dev.die k).cfg ∧
       bitOf (d.die k).evt 7 = true ∧ (∀ j, j ≠ k.val → d.die j = s.dev.die j) ∧
       d = { s.dev with dies := d.dies, resp := d.resp, afault := d.afault }) ∧
     (30 ≤ bits val 0 8 → bits val 0 8 ≤ 110 → (∀ l, ovLimit (bits (s.dev.die k).cfg 0 2) = some l → bits val 0 8 + 3 < l) →
       ∃ d, Machine.exec (.ddieVdrvUvWrite who k val true) s = .next (s.put d) ∧ (d.die k).uvTh = val &&& 0x000000FF ∧
       (∀ j, j ≠ k.val → d.die j = s.dev.die j) ∧ d = { s.dev with dies := d.dies, resp := d.resp, afault := d.afault }) ∧
     (bits val 0 8 < 30 ∨ 110 < bits val 0 8 ∨ (∃ l, ovLimit (bits (s.dev.die k).cfg 0 2) = some l ∧ l ≤ bits val 0 8 + 3) →
       ∃ d, Machine.exec (.ddieVdrvUvWrite who k val true) s = .next (s.put d) ∧ (d.die k).uvTh = (s.dev.die k).uvTh ∧
       bitOf (d.die k).evt 8 = true ∧ (∀ j, j ≠ k.val → d.die j = s.dev.die j) ∧
       d = { s.dev with dies := d.dies, resp := d.resp, afault := d.afault }) ∧
     ((∃ d, Machine.exec (.ddieCfgWrite who k val false) s = .next (s.put d) ∧ failed d) ∧
       (∃ d, Machine.exec (.ddieVdrvUvWrite who k val false) s = .next (s.put d) ∧ failed d)))

/-- R154 to R156: ST_CMD.START begins a test of the legs of ST_MASK and asks for the test DAC; a step on a leg that may be
tested passes where its comparator asserts in time, or in a step below the threshold stays low, and the next follows; a step
that does not pass is recorded. ABORT is noted for the end of a step that runs, and ends a test between two steps at once. The
model's own readings in it: log 108. -/
def Obligations.SelfTest : Prop :=
  ∀ (s : State) (k : Fin 4) (who : Requester) (val : Word), s.dev.serves who → s.dev.hears who → s.dev.accepts k →
    (s.dev.die k).wdPend = false →
    (bitOf val 0 = true → bitOf val 1 = false → (s.dev.die k).stRun = false → maskLegs (s.dev.die k) ≠ [] →
      ∃ d, Machine.exec (.stStart who k val true) s = .next (s.put d) ∧ (d.die k).stRun = true ∧
      (d.die k).stLegs = maskLegs (s.dev.die k) ∧ (d.die k).stStep = 0 ∧ (d.die k).stFail = 0 ∧ (d.die k).stSkip = 0 ∧
      (d.die k).stMargin = (if bits val 8 8 = 0 then 8 else bits val 8 8) ∧
      d.reg (ddieP k + 0x030) = BitVec.ofNat 32 (6 * (maskLegs (s.dev.die k)).length) ∧
      DacUser.comp k ∈ d.samp.queue ∧ (∀ j, j ≠ k.val → d.die j = s.dev.die j) ∧
      d = { s.dev with dies := d.dies, regs := d.regs, samp := { s.dev.samp with queue := d.samp.queue }, resp := d.resp,
                       afault := d.afault }) ∧
    (bitOf val 1 = true → (s.dev.die k).stRun = true → s.dev.samp.comp ≠ some k.val →
      ∃ d, Machine.exec (.stAbort who k val true) s = .next (s.put d) ∧ (d.die k).stRun = false ∧
      (d.die k).stAborted = true ∧ (d.die k).stDone = false ∧ (d.die k).stLegs = [] ∧ bitOf (d.die k).evt 9 = true ∧
      DacUser.comp k ∉ d.samp.queue ∧ (∀ j, j ≠ k.val → d.die j = s.dev.die j) ∧
      (∀ a, a ≠ ddieP k + 0x02C → a ≠ ddieP k + 0x030 → d.reg a = s.dev.reg a) ∧
      d = { s.dev with dies := d.dies, regs := d.regs, samp := { s.dev.samp with queue := d.samp.queue }, resp := d.resp,
                       afault := d.afault }) ∧
    (bitOf val 1 = true → (s.dev.die k).stRun = true → s.dev.samp.comp = some k.val →
      ∃ d, Machine.exec (.stAbort who k val true) s = .next (s.put d) ∧ (d.die k).stAbort = true ∧
      (d.die k).stLegs = (s.dev.die k).stLegs ∧ (∀ j, j ≠ k.val → d.die j = s.dev.die j) ∧
      d = { s.dev with dies := d.dies, resp := d.resp, afault := d.afault }) ∧
    (∀ l rest, (s.dev.die k).stLegs = l :: rest → (s.dev.die k).stRun = true → (s.dev.die k).stAbort = false →
      (s.dev.die k).stOn = true → s.dev.samp.comp = some k.val → (s.dev.die k).stStep < 5 →
      testable (dacRequest (.comp k) (dacRelease s.dev)) (64 * k + l) = true →
      ∀ after, stPasses s.dev k (s.dev.die k).stStep after = true →
      ∃ d, Machine.exec (.stStep k after) s = .next (s.put d) ∧
      d.die k = { s.dev.die k with stOn := true, stStep := (s.dev.die k).stStep + 1, stValue := (s.dev.die k).stValue + 1 } ∧
      d.samp.comp = none ∧ DacUser.comp k ∈ d.samp.queue ∧ d.fld adcP ADC.STAT.DACOWN = 0 ∧
      (∀ j, j ≠ k.val → d.die j = s.dev.die j) ∧ d = { s.dev with dies := d.dies, regs := d.regs, samp := d.samp }) ∧
    (∀ l rest, (s.dev.die k).stLegs = l :: rest → (s.dev.die k).stRun = true → (s.dev.die k).stAbort = false →
      (s.dev.die k).stOn = true → s.dev.samp.comp = some k.val → (s.dev.die k).stStep < 5 →
      testable (dacRequest (.comp k) (dacRelease s.dev)) (64 * k + l) = true →
      ∀ after, stPasses s.dev k (s.dev.die k).stStep after = false →
      ∃ d, Machine.exec (.stStep k after) s = .next (s.put d) ∧ (d.die k).stFail = (s.dev.die k).stFail ||| 2 ^ l ∧
      (d.die k).stStep = (s.dev.die k).stStep + 1 ∧ (∀ j, j ≠ k.val → d.die j = s.dev.die j) ∧
      d = { s.dev with dies := d.dies, regs := d.regs, samp := d.samp }) ∧
    (∃ d, (Machine.exec (.stStart who k val false) s = .next (s.put d) ∧ Machine.exec (.stAbort who k val false) s = .next (s.put d)) ∧
      d.die k = { s.dev.die k with lastSent := s.dev.now, checkFail := (s.dev.die k).checkFail + 1 } ∧
      (∀ j, j ≠ k.val → d.die j = s.dev.die j) ∧ d = { s.dev with dies := d.dies, resp := d.resp, afault := d.afault })

/-! ### The collector -/

/-- R415, R425, R426: a message that no fault context escalates is decided at L0: it enters the tally, counts for its class
and leaves every leg and every hold as it is, before the axes and the mode follow. R13, R425, R426: a read of TALLY_LO takes
the oldest entry, its high word stands in the reader's pair shadow, and reads 0 where no entry is older than this cycle;
CLR_TALLY empties the tally, CLR_FIRST empties FIRST, which may be taken again. The model's own readings in it: log 43, 99,
100. -/
def Obligations.EventsTallyAndFirst : Prop :=
  (∀ (s : State) (m : FaultMsg), awake s.dev = true → s.dev.flt.inflight = [m] → s.dev.flt.waiting = [] →
     (s.dev.flt.decCycle = s.dev.now / 2 → s.dev.flt.decided < 8) →
     s.dev.flt.tally.length < 64 → injArmed s.dev = false → m.kind ≠ 14 → m.kind ≤ 56 → decideLevel s.dev m = (0, false) →
     ∃ d, Machine.exec (.faultMessage [true] []) s = .next (s.put (modeHooks s.dev.mode (axesSettle d))) ∧
       d.flt = { s.dev.flt with
         inflight := [], tally := s.dev.flt.tally ++ [(msgWord m, tallyHi 0 false false false s.dev.now)],
         decCycle := s.dev.now / 2, decided := d.flt.decided, tallied := d.flt.tallied } ∧
       d.fld fltP (CLSCNT (kindClass m.kind)) = satInc 16 (s.dev.fld fltP (CLSCNT (kindClass m.kind))) ∧
       d.fld fltP FLT.TSTAT.DEPTH = s.dev.flt.tally.length + 1 ∧ bitOf (d.reg (fltP + 0x060)) 0 = true ∧
       (∀ a, pageBase a ≠ fltP → d.reg a = s.dev.reg a) ∧
       d = { s.dev with regs := d.regs, events := d.events, flt := d.flt }) ∧
  (∀ (s : State) (who : Requester) (val : Word), s.dev.serves who →
     (∀ e rest, s.dev.flt.tally = e :: rest → (s.dev.flt.decCycle = s.dev.now / 2 → s.dev.flt.tallied ≤ rest.length) →
       ∃ d, Machine.exec (.tallyRead who) s = .next (s.put d) ∧ sget noWord0 d.resp (requesterId who) = e.1 ∧
       (fltP + 0x084, e.2) ∈ sget noPairs d.pairs (requesterId who) ∧
       d.flt = { s.dev.flt with tally := rest } ∧ (rest.length < 128 → d.fld fltP FLT.TSTAT.DEPTH = rest.length) ∧
       (∀ a, a ≠ fltP + 0x088 → d.reg a = s.dev.reg a) ∧
       d = { s.dev with regs := d.regs, flt := d.flt, pairs := d.pairs, resp := d.resp, afault := d.afault }) ∧
     (tallyBefore s.dev = [] →
       ∃ d, Machine.exec (.tallyRead who) s = .next (s.put d) ∧ sget noWord0 d.resp (requesterId who) = 0 ∧
       d.flt = s.dev.flt ∧ d.regs = s.dev.regs) ∧
     (bitOf val 1 = true → bitOf val 0 = false →
       ∃ d, Machine.exec (.clrTally who val) s = .next (s.put d) ∧ d.flt = { s.dev.flt with tally := [] } ∧
       d.fld fltP FLT.TSTAT.DEPTH = 0 ∧ (∀ a, a ≠ fltP + 0x088 → d.reg a = s.dev.reg a) ∧
       d = { s.dev with regs := d.regs, flt := d.flt, resp := d.resp, afault := d.afault }) ∧
     (bitOf val 0 = true → bitOf val 1 = false → (s.dev.flt.firstTaken = true → firstTick s.dev / 2 ≠ s.dev.now / 2) →
       ∃ d, Machine.exec (.clrFirst who val) s = .next (s.put d) ∧
       d.flt = { s.dev.flt with firstTaken := false, firstClr := s.dev.now / 2 } ∧
       (∀ i, i < 4 → d.reg (fltP + 0x070 + 4 * i) = 0) ∧
       (∀ a, a < fltP + 0x070 ∨ fltP + 0x080 ≤ a → d.reg a = s.dev.reg a) ∧
       d = { s.dev with regs := d.regs, flt := d.flt, resp := d.resp, afault := d.afault }))

/-- R423: retries of a leg that are due clear the latches they are for where those comparators have been low long enough, and
are done; a latch without a due retry stays. A retry that is not due changes nothing. R422: the occurrences of a leg and class
whose window has passed are no longer counted; the others are. The model's own readings in it: log 100, 107. -/
def Obligations.RetriesAndOccurrences : Prop :=
  (∀ (s : State) (n : Fin 256) (r : Retry) (hard soft : CompRead), awake s.dev = true →
     (r ∈ s.dev.flt.retry → r.leg = n.val → r.due ≤ s.dev.now → (s.dev.leg n).retired = false → s.dev.accepts (n / 64) →
       (s.dev.die (n / 64)).wdPend = false → s.dev.eventAt (legP n + 0x05C) = none →
       hard.above = false → 44 ≤ hard.belowFor → soft.above = false → softFilter s.dev (n / 64) + 32 ≤ soft.belowFor →
       ∃ d, Machine.exec (.retryClear n true hard soft) s = .next (s.put d) ∧
       d.on (legP n) LEG.TRIP.HARD_LAT = (s.dev.on (legP n) LEG.TRIP.HARD_LAT &&
         !(s.dev.flt.retry.any fun p => p.leg == n.val && decide (p.due ≤ s.dev.now) && !p.soft)) ∧
       d.on (legP n) LEG.TRIP.SOFT_LAT = (s.dev.on (legP n) LEG.TRIP.SOFT_LAT &&
         !(s.dev.flt.retry.any fun p => p.leg == n.val && decide (p.due ≤ s.dev.now) && p.soft)) ∧
       d.flt = { s.dev.flt with retry := s.dev.flt.retry.filter fun p => !(p.leg == n.val && decide (p.due ≤ s.dev.now)) } ∧
       (∀ a, a ≠ legP n + 0x05C → d.reg a = s.dev.reg a) ∧ (∀ j, j ≠ n.val / 64 → d.die j = s.dev.die j) ∧
       d = { s.dev with dies := d.dies, regs := d.regs, flt := d.flt }) ∧
     (∀ chk, (∀ p ∈ s.dev.flt.retry, p.leg = n.val → s.dev.now < p.due) →
       Machine.exec (.retryClear n chk hard soft) s = .next s)) ∧
  (∀ (s : State) (n : Fin 256) (cls : Nat) (o : Occurrence), awake s.dev = true →
     ∃ d, Machine.exec (.occurrenceExpiry n cls) s = .next (s.put d) ∧
       (o ∈ d.flt.occ ↔ o ∈ s.dev.flt.occ ∧ (o.leg = n.val → o.cls = cls →
         s.dev.now < o.arrival + max 1 (s.dev.fld fltP FLT.RETRY.RETRY_WINDOW) * legPeriod s.dev n)) ∧
       d = { s.dev with flt := { s.dev.flt with occ := d.flt.occ } })

/-- R427, R428: a RECOVER write with GO waits for the scope's quiet period, or is refused with its reason; one while a request
waits is ignored; CANCEL ends a wait with reason 6. R427, R429: the end of a quiet period releases the scope where nothing
speaks against it: the request is over with DONE, no fault of the scope stays open, and a recovery of the device leaves SAFE
for STANDBY. The latch clears travel to the dies first (R162); where a comparator or a die refuses one, or a die is not sound,
the request is refused with reason 3. A mode that would refuse the request refuses it at this end too, with reason 4. The
model's own readings in it: log 48, 52, 100, 112. -/
def Obligations.Recovery : Prop :=
  (∀ (s : State) (who : Requester) (val : Word), s.dev.serves who →
     (∀ sc, bitOf val 0 = true → bitOf val 1 = false → s.dev.flt.wait = none →
       scopeOfCode (bits val 24 3) (bits val 16 6) = some sc → recRefusal s.dev who (bits val 24 3) (bits val 16 6) = 0 →
       ∃ d, Machine.exec (.recover who val) s = .next (s.put d) ∧
       d.flt = { s.dev.flt with wait := some ⟨sc, who == .deputy⟩ } ∧
       d.reg (fltP + 0x050) = recStat 1 (bits val 24 3) (bits val 16 6) 0 ∧
       (∀ a, a ≠ fltP + 0x050 → a ≠ fltP + 0x054 → d.reg a = s.dev.reg a) ∧
       d = { s.dev with regs := d.regs, flt := d.flt, resp := d.resp, afault := d.afault }) ∧
     (bitOf val 0 = true → bitOf val 1 = false → s.dev.flt.wait = none →
       recRefusal s.dev who (bits val 24 3) (bits val 16 6) ≠ 0 →
       ∃ d, Machine.exec (.recover who val) s = .next (s.put d) ∧
       d.reg (fltP + 0x050) = recStat 3 (bits val 24 3) (bits val 16 6) (recRefusal s.dev who (bits val 24 3) (bits val 16 6)) ∧
       d.on fltP FLT.EVT.REC_REFUSED = true ∧ (∀ a, a ≠ fltP + 0x050 → a ≠ fltP + 0x060 → d.reg a = s.dev.reg a) ∧
       d = { s.dev with regs := d.regs, events := d.events, resp := d.resp, afault := d.afault }) ∧
     (bitOf val 0 = true → bitOf val 1 = false → s.dev.flt.wait ≠ none →
       ∃ d, Machine.exec (.recover who val) s = .next (s.put d) ∧ d.on fltP FLT.EVT.REC_IGN = true ∧
       (∀ a, a ≠ fltP + 0x060 → d.reg a = s.dev.reg a) ∧
       d = { s.dev with regs := d.regs, events := d.events, resp := d.resp, afault := d.afault }) ∧
     (∀ w, bitOf val 1 = true → s.dev.flt.wait = some w →
       ∃ d, Machine.exec (.cancel who val) s = .next (s.put d) ∧ d.flt = { s.dev.flt with wait := none } ∧
       d.reg (fltP + 0x050) = recStat 3 (scopeCode w.scope).1 (scopeCode w.scope).2 6 ∧ d.reg (fltP + 0x054) = 0 ∧
       d.on fltP FLT.EVT.REC_REFUSED = true ∧
       (∀ a, a ≠ fltP + 0x050 → a ≠ fltP + 0x054 → a ≠ fltP + 0x060 → d.reg a = s.dev.reg a) ∧
       d = { s.dev with regs := d.regs, events := d.events, flt := d.flt, resp := d.resp, afault := d.afault })) ∧
  (∀ (s : State) (refuse lost : List (Fin 256)) (w : RecWait), awake s.dev = true → s.dev.flt.wait = some w →
     quietEnd s.dev w.scope ≤ s.dev.now →
     let sent := sendClears (lost.map (·.val)) (recLatched s.dev w.scope) s.dev
     (recMode s.dev w.scope = false → recBlocked sent.1 w.scope (refuse.map (·.val)) sent.2 = false →
       ∃ d, Machine.exec (.quietPeriodEnd refuse lost) s = .next (s.put (modeHooks s.dev.mode (axesSettle d))) ∧ d.flt.wait = none ∧
       d.reg (fltP + 0x050) = recStat 2 (scopeCode w.scope).1 (scopeCode w.scope).2 0 ∧ d.reg (fltP + 0x054) = 0 ∧
       d.on fltP FLT.EVT.REC_DONE = true ∧ (∀ x ∈ d.flt.open_, x.1 ≠ w.scope) ∧
       (w.scope = .device → d.mode = .standby)) ∧
     (recMode s.dev w.scope = false → recBlocked sent.1 w.scope (refuse.map (·.val)) sent.2 = true →
       ∃ d, Machine.exec (.quietPeriodEnd refuse lost) s = .next (s.put (modeHooks s.dev.mode (axesSettle d))) ∧ d.flt.wait = none ∧
       d.reg (fltP + 0x050) = recStat 3 (scopeCode w.scope).1 (scopeCode w.scope).2 3 ∧ d.reg (fltP + 0x054) = 0 ∧
       d.on fltP FLT.EVT.REC_REFUSED = true) ∧
     (recMode s.dev w.scope = true →
       ∃ d, Machine.exec (.quietPeriodEnd refuse lost) s = .next (s.put (modeHooks s.dev.mode (axesSettle d))) ∧ d.flt.wait = none ∧
       d.reg (fltP + 0x050) = recStat 3 (scopeCode w.scope).1 (scopeCode w.scope).2 4 ∧ d.reg (fltP + 0x054) = 0 ∧
       d.on fltP FLT.EVT.REC_REFUSED = true ∧ d.dies = s.dev.dies))

/-- R430, R431: INJ_CTL.ARM arms a session at the tick of the write; INJ_TO microseconds without a report end it with code 4.
The model's own readings in it: log 23. -/
def Obligations.InjectionSession : Prop :=
  ∀ (s : State) (who : Requester) (val : Word), s.dev.serves who →
    (injArmed s.dev = false → bitOf val 0 = true → (bits val 16 2 = 1 ∨ bits val 16 2 = 2) →
      inTarget (bits val 24 3) (s.dev.reg (fltP + 0x090)).toNat = true →
      ∃ d, Machine.exec (.injArm who val) s = .next (s.put d) ∧ injArmed d = true ∧
      d.reg (fltP + 0x08C) = val &&& 0x07030001 ∧ d.flt = { s.dev.flt with injAt := s.dev.now, injRead := false } ∧
      (∀ a, a ≠ fltP + 0x08C → a ≠ fltP + 0x098 → d.reg a = s.dev.reg a) ∧
      d = { s.dev with regs := d.regs, flt := d.flt, resp := d.resp, afault := d.afault }) ∧
    (injArmed s.dev = true → s.dev.flt.injAt + 600 * max 1 (bits (s.dev.reg (fltP + 0x094)) 0 16) ≤ s.dev.now →
      ∃ d, Machine.exec .injTimeout s = .next (s.put d) ∧ bits (d.reg (fltP + 0x098)) 28 4 = 4 ∧
      bitOf (d.reg (fltP + 0x08C)) 0 = false ∧ (∀ a, a ≠ fltP + 0x08C → a ≠ fltP + 0x098 → d.reg a = s.dev.reg a) ∧
      d = { s.dev with regs := d.regs })

/-! ### The journal -/

/-- R424, R487: the oldest waiting record is written to the slot at the head, the head advances round the ring, and JMAP shows
whether the leg is retired; where MRAM does not take the write the record is lost and JRNL_FAIL set. R488, R489: the scan
finds the head and what the newest valid record of each leg says; a reclaim of a block whose records are all superseded clears
it and leaves every other byte as it is. R490: the Deputy's FORMAT starts in CONFIGURE or UPDATE with nothing waiting for the
journal, and takes over the slots of a reclaim under way (the model's reading, log 54); at its end the ring and JMAP are
empty, the head is at slot 0 and no other memory has changed. A FORMAT from another requester, or during a FORMAT, sets
CMD_IGN. The model's own readings in it: log 53, 54, 104. -/
def Obligations.Journal : Prop :=
  (∀ (s : State) (r : JournalRec) (rest : List JournalRec), awake s.dev = true → nightRuns s.dev = true →
     s.dev.flt.journal = r :: rest → journalReady s.dev = true → s.dev.night.reclaim = none → formatting s.dev = false →
     recordShut s.dev = false →
     (r.leg < 256 →
       ∃ d, Machine.exec (.journalAppend true) s = .next (s.put d) ∧ d.flt = { s.dev.flt with journal := rest } ∧
       memBytes d (journalA (journalHead s.dev)) 16 = journalBytes r ∧
       (∀ x, x < journalA (journalHead s.dev) ∨ journalA (journalHead s.dev) + 16 ≤ x → memByte d x = memByte s.dev x) ∧
       journalHead d = (journalHead s.dev + 1) % 4096 ∧
       bitOf (d.reg (nvP + 0x060 + r.leg / 32 * 4)) (r.leg % 32) = !r.ret) ∧
     (∃ d, Machine.exec (.journalAppend false) s = .next (s.put d) ∧ d.flt = { s.dev.flt with journal := rest } ∧
       d.on fltP FLT.EVT.JRNL_FAIL = true ∧ (∀ a, a ≠ fltP + 0x060 → d.reg a = s.dev.reg a) ∧
       d = { s.dev with regs := d.regs, events := d.events, flt := d.flt })) ∧
  (∀ (s : State), awake s.dev = true → nightRuns s.dev = true →
     (s.dev.night.scanned = false → injArmed s.dev = false →
       ∃ d, Machine.exec .journalScan s = .next (s.put d) ∧ journalHead d = scanHead (recordSlots s.dev) ∧
       d.night.scanned = true ∧
       (∀ l sl, l < 256 → newestOf d (validSlots d) l = some sl →
         bitOf (d.reg (nvP + 0x060 + l / 32 * 4)) (l % 32) = slotRetires s.dev sl) ∧
       (d.night.reclaim = none → journalReady d = true) ∧
       (∀ b, d.night.reclaim = some b → b = (journalHead d / 256 + 1) % 16 ∧ ∃ sl ∈ recordSlots s.dev, sl / 256 = b) ∧
       d = { s.dev with regs := d.regs, events := d.events, night := d.night }) ∧
     (∀ b, s.dev.night.scanned = true → s.dev.night.reclaim = some b → b < 16 → recordShut s.dev = false →
       (∀ sl ∈ validSlots s.dev, sl / 256 = b → newestOf s.dev (validSlots s.dev) (slotLeg s.dev sl) ≠ some sl) →
       injHit s.dev (journalA (256 * b)) 4096 = false →
       ∃ d, Machine.exec .journalReclaim s = .next (s.put d) ∧ journalReady d = true ∧ d.on nvP NV.EVT.RECLAIM = true ∧
       d.night = { s.dev.night with reclaim := none } ∧ d.fld nvP NV.JSTAT.RECLAIM = 0 ∧
       (∀ x, journalA (256 * b) ≤ x → x < journalA (256 * b) + 4096 → memByte d x = 0) ∧
       (∀ x, x < journalA (256 * b) ∨ journalA (256 * b) + 4096 ≤ x → memByte d x = memByte s.dev x) ∧
       d = { s.dev with regs := d.regs, events := d.events, night := d.night, mem := d.mem })) ∧
  (∀ (s : State) (who : Requester) (val : Word), s.dev.serves who → bitOf val 0 = true →
     (s.dev.mode = .configure ∨ s.dev.mode = .update → s.dev.flt.journal = [] → formatting s.dev = false →
       journalReady s.dev = true → s.dev.sys.upd = 0 →
       ∃ d, Machine.exec (.format .deputy val) s = .next (s.put d) ∧ formatting d = true ∧
       d.reg (nvP + 0x030) = BitVec.ofNat 32 4096 ∧ d.night = { s.dev.night with reclaim := none } ∧
       (∀ a, a ≠ nvP + 0x02C → a ≠ nvP + 0x030 → a ≠ nvP + NV.JSTAT.RECLAIM.off → d.reg a = s.dev.reg a) ∧
       d = { s.dev with regs := d.regs, night := d.night, resp := d.resp, afault := d.afault }) ∧
     (who ≠ .deputy ∨ formatting s.dev = true →
       ∃ d, Machine.exec (.format who val) s = .next (s.put d) ∧ d.on nvP NV.EVT.CMD_IGN = true ∧
       (∀ a, a ≠ nvP + NV.EVT.CMD_IGN.off → d.reg a = s.dev.reg a) ∧
       d = { s.dev with regs := d.regs, events := d.events, resp := d.resp, afault := d.afault }) ∧
     (formatting s.dev = true → recordShut s.dev = false → s.dev.sys.upd = 0 →
       ∃ d, Machine.exec .formatDone s = .next (s.put d) ∧ formatting d = false ∧ journalHead d = 0 ∧
       (∀ i, i < 8 → d.reg (nvP + 0x060 + 4 * i) = 0) ∧
       d.mem = s.dev.mem.filter (fun c => !(decide (0x207F0000 ≤ c.1) && decide (c.1 < 0x20800000))) ∧
       d = { s.dev with regs := d.regs, mem := d.mem }))

/-! ### Commits, casts and accesses -/

/-- R12, R13: past the header, a write to a plain register does what its access code says: RW takes the implemented bits, W1C
clears the bits written 1 but for those hardware has set on this cycle, and codes that software does not write change
nothing. -/
def Obligations.WriteByAccessCode : Prop :=
  ∀ (s : State) (who : Requester) (a : Nat) (val : Word), s.dev.serves who →
    (s.dev.plainAt who a val .rw →
      ∃ d, Machine.exec (.registerWrite who (at_ a) val) s = .next (s.put d) ∧ d.reg a = val &&& maskAt a ∧
      (∀ b, b ≠ a → d.reg b = s.dev.reg b) ∧ d = { s.dev with regs := d.regs, resp := d.resp, afault := d.afault }) ∧
    (s.dev.plainAt who a val .w1c →
      ∃ d, Machine.exec (.registerWrite who (at_ a) val) s = .next (s.put d) ∧
      (s.dev.eventAt a = none → d.reg a = s.dev.reg a &&& ~~~(val &&& maskAt a)) ∧
      (∀ old since, s.dev.eventAt a = some (old, since) → d.reg a = s.dev.reg a &&& ~~~(val &&& maskAt a &&& ~~~since)) ∧
      (∀ b, b ≠ a → d.reg b = s.dev.reg b) ∧ d = { s.dev with regs := d.regs, resp := d.resp, afault := d.afault }) ∧
    (s.dev.plainAt who a val .ro ∨ s.dev.plainAt who a val .roc ∨ s.dev.plainAt who a val .rc →
      ∃ d, Machine.exec (.registerWrite who (at_ a) val) s = .next (s.put d) ∧
      d = { s.dev with resp := d.resp, afault := d.afault })

/-- R455: while the other side holds authority, a write to a page of the drive side is ignored and logged, whatever the
register, and so is a COMMIT write; nothing else changes. A read of the same register is served. -/
def Obligations.BlockedWriteIsLogged : Prop :=
  (∀ (c : Fin 4) (ch : Fin 8), sideOf (.hewer c) = 1 ∧ sideOf (.dma ch) = 1 ∧ sideOf .spi = 1 ∧ sideOf .link = 1 ∧
    sideOf .deputy = 2) ∧
  ∀ (s : State) (who : Requester) (a i : Nat) (r : PageRow) (val : Word), s.dev.serves who → 0x40000000 ≤ a → a < 2 ^ 32 →
    a % 4 = 0 → pageAt a = some (r, i) → r.page ∈ [Page.frame, .gang, .leg, .axis, .conv, .fb, .ddie] → sideOf who ≠ 0 →
    stamp s.dev ≠ 0 → stamp s.dev ≠ sideOf who →
    (∃ d, (Machine.exec (.registerWrite who (at_ a) val) s = .next (s.put d) ∧
        Machine.exec (.wetWrite who (at_ a) val) s = .next (s.put d) ∧
        ∀ tag w, Machine.exec (.commitGo who (at_ a) tag w) s = .next (s.put d)) ∧ d.on authP AUTH.EVT.BLOCKED = true ∧
      d.fld authP AUTH_BLOCKED = satInc 16 (s.dev.fld authP AUTH_BLOCKED) ∧
      d.reg (authP + 0x068) = BitVec.ofNat 32 (2 ^ 31 + requesterId who * 2 ^ 16 + srcOf (pageBase a)) ∧
      (∀ b, pageBase b ≠ authP → d.reg b = s.dev.reg b) ∧
      d = { s.dev with regs := d.regs, events := d.events, resp := d.resp, afault := d.afault }) ∧
    ∃ d, Machine.exec (.rcRead who (at_ a)) s = .next (s.put d) ∧
      sget noWord0 d.resp (requesterId who) = (pageRead who r.page i a s.dev).1 ∧
      sget (fun _ => false) d.afault (requesterId who) = false

/-- R45, R46: a write to an RWW register lands wet, or in the second coat while its domain's commit is on its way; the set
value does not change. R41, R44: a page moves to a drive domain while it holds nothing wet and its domain has no commit on its
way; any other DOMAIN write to such a page is ignored with DMN_IGN, and so is one to any other page while it is wet or
busy. -/
def Obligations.WetAndDomainWrites : Prop :=
  (∀ (s : State) (who : Requester) (a : Nat) (val : Word), s.dev.serves who → s.dev.plainAt who a val .rww →
     (s.dev.domBusy (s.dev.domAt a) = false →
       ∃ d, Machine.exec (.wetWrite who (at_ a) val) s = .next (s.put d) ∧ d.wetAt a = some (val &&& maskAt a) ∧
       (∀ b, b ≠ a → d.wetAt b = s.dev.wetAt b) ∧ d = { s.dev with wet := d.wet, resp := d.resp, afault := d.afault }) ∧
     (s.dev.domBusy (s.dev.domAt a) = true →
       ∃ d, Machine.exec (.wetWrite who (at_ a) val) s = .next (s.put d) ∧ d.coatAt a = some (val &&& maskAt a) ∧
       (∀ b, b ≠ a → d.coatAt b = s.dev.coatAt b) ∧ d = { s.dev with coat2 := d.coat2, resp := d.resp, afault := d.afault })) ∧
  (∀ (s : State) (who : Requester) (p : Nat) (r : PageRow) (val : Word), s.dev.serves who → s.dev.pageOpen who p r →
     (r.page.movable = true → bits val 0 7 < 64 → pageWet s.dev p = false → pageCoat s.dev p = false → s.dev.domBusy (s.dev.domAt p) = false →
       ∃ d, Machine.exec (.domainWrite who (at_ p) val) s = .next (s.put d) ∧ d.domAt p = bits val 0 7 ∧
       (∀ b, b ≠ p + 0x008 → d.reg b = s.dev.reg b) ∧ d = { s.dev with regs := d.regs, resp := d.resp, afault := d.afault }) ∧
     (r.page.movable = false → pageWet s.dev p = false → pageCoat s.dev p = false → s.dev.domBusy (s.dev.domAt p) = false →
       s.dev.rost.wet = false →
       ∃ d, Machine.exec (.domainWrite who (at_ p) val) s = .next (s.put d) ∧
       d = { s.dev with resp := d.resp, afault := d.afault }) ∧
     ((r.page.movable = true ∧ 64 ≤ bits val 0 7) ∨ pageWet s.dev p = true ∨ pageCoat s.dev p = true ∨ s.dev.domBusy (s.dev.domAt p) = true →
       ∃ d, Machine.exec (.domainWrite who (at_ p) val) s = .next (s.put d) ∧ d.domAt p = s.dev.domAt p ∧
       d.on p HDR.PAGE_STAT.DMN_IGN = true ∧ (∀ b, b ≠ p + HDR.PAGE_STAT.DMN_IGN.off → d.reg b = s.dev.reg b) ∧
       d = { s.dev with regs := d.regs, events := d.events, resp := d.resp, afault := d.afault }))

/-- R46, R50, R54: GO queues a commit of the page's domain and of the siblings it names that have none on their way; DISCARD
drops the wet set. Where the domain's commit is on its way both are ignored, each with its flag. The model's own readings in
it: log 28. -/
def Obligations.GoAndDiscard : Prop :=
  ∀ (s : State) (who : Requester) (p : Nat) (r : PageRow) (tag : Byte) (mask : BitVec 4), s.dev.serves who →
    s.dev.pageOpen who p r → s.dev.domAt p < 67 →
    (s.dev.domBusy (s.dev.domAt p) = false → goBlocked s.dev (s.dev.domAt p) = false →
      ∃ d, Machine.exec (.commitGo who (at_ p) tag mask) s = .next (s.put d) ∧
      (∀ n, n = s.dev.domAt p ∨ (n ∈ siblings (s.dev.domAt p) mask.toNat ∧ s.dev.domBusy n = false) →
        d.dom n = { s.dev.dom n with st := .queued, tag := tag.toNat }) ∧
      (∀ n, n ≠ s.dev.domAt p → n ∉ siblings (s.dev.domAt p) mask.toNat ∨ s.dev.domBusy n = true → d.dom n = s.dev.dom n) ∧
      (∃ c ∈ d.commit.queue, c.dom = s.dev.domAt p ∧ c.cycle = s.dev.now / 2 ∧
        c.bad = (siblings (s.dev.domAt p) mask.toNat).find? s.dev.domBusy) ∧
      d.commit.queue.length = s.dev.commit.queue.length + 1 ∧
      d = { s.dev with commit := { s.dev.commit with doms := d.commit.doms, queue := d.commit.queue }, resp := d.resp,
                       afault := d.afault }) ∧
    (s.dev.domBusy (s.dev.domAt p) = true →
      ∃ d, Machine.exec (.commitGo who (at_ p) tag mask) s = .next (s.put d) ∧
      d.dom (s.dev.domAt p) = { s.dev.dom (s.dev.domAt p) with
        goIgn := true, flagCycle := s.dev.now / 2, flagBits := freshFlags s.dev (s.dev.domAt p) ||| 0x20 } ∧
      d = { s.dev with commit := { s.dev.commit with doms := d.commit.doms }, resp := d.resp, afault := d.afault }) ∧
    (s.dev.domBusy (s.dev.domAt p) = false → s.dev.domAt p ≠ 64 →
      ∃ d, Machine.exec (.commitDiscard who (at_ p)) s = .next (s.put d) ∧
      d.dom (s.dev.domAt p) = { s.dev.dom (s.dev.domAt p) with st := .idle } ∧
      d.wet = s.dev.wet.filter (fun e => s.dev.domAt e.1 != s.dev.domAt p) ∧
      d.coat2 = s.dev.coat2.filter (fun e => s.dev.domAt e.1 != s.dev.domAt p) ∧
      d = { s.dev with wet := d.wet, coat2 := d.coat2, commit := { s.dev.commit with doms := d.commit.doms }, resp := d.resp,
                       afault := d.afault }) ∧
    (s.dev.domBusy (s.dev.domAt p) = true →
      ∃ d, Machine.exec (.commitDiscard who (at_ p)) s = .next (s.put d) ∧
      d.dom (s.dev.domAt p) = { s.dev.dom (s.dev.domAt p) with
        discIgn := true, flagCycle := s.dev.now / 2, flagBits := freshFlags s.dev (s.dev.domAt p) ||| 0x40 } ∧
      d = { s.dev with commit := { s.dev.commit with doms := d.commit.doms }, resp := d.resp, afault := d.afault })

/-- R50, R53, R55, R209: the oldest queued commit is validated: without a flaw every domain of its union is ARMED, with one,
or with a sibling that has a commit on its way, it is REFUSED and the first flaw by page and offset is reported; no register
of the drive side changes. An armed commit of the roster waits for a swap in each frame that has an entry. R46, R47, R49 to
R51: a commit that sets outside a reload writes every wet register of its domains; their second coat becomes their wet set;
every domain of its union reports SET, its count and a slip. So do domains 65 and 66, and a drive domain whose frame does not
run; what follows for the pages, the contexts, the axes and a frame that starts comes after it. A drive domain whose frame
runs waits for its reload. R209 to R211: a commit of the roster swaps the banks at once where no frame has an entry, and with
the swap of a stopped frame, the last one it waits for. The model's own readings in it: log 29, 30, 33, 35, 102, 110. -/
def Obligations.CommitValidatesAndSets : Prop :=
  (∀ (s : State) (c : Commit) (rest : List Commit), awake s.dev = true → s.dev.commit.queue = c :: rest →
     (c.dom = 64 → c.bad = none →
       firstFlaw (rostFlaws (judgeOf c { s.dev with commit := { s.dev.commit with queue := rest } })).1 = none →
       ∃ d, Machine.exec .commitValidation s = .next (s.put d) ∧ d.commit.queue = rest ∧
       (∀ n ∈ c.union, d.dom n = { s.dev.dom n with st := .armed }) ∧ (∀ n, n ∉ c.union → d.dom n = s.dev.dom n) ∧
       (∃ x ∈ d.commit.armed, x.dom = 64 ∧ x.union = c.union ∧ x.armedAt = s.dev.now) ∧
       (∀ f, f < 16 → ((∃ x ∈ d.rost.swaps, x.1 = f ∧ x.2.at_ = s.dev.now ∧ x.2.ready = false) ↔
         ∃ e ∈ s.dev.rost.ents, eFrame e.2 = f ∧ eAction e.2 ≠ 0)) ∧
       (∀ a, pageBase a ≠ rostP → d.reg a = s.dev.reg a) ∧
       d = { s.dev with regs := d.regs, commit := d.commit, rost := { s.dev.rost with swaps := d.rost.swaps, swapped := false, slipped := false } }) ∧
     (∀ f, c.dom = 64 → c.bad = none →
       firstFlaw (rostFlaws (judgeOf c { s.dev with commit := { s.dev.commit with queue := rest } })).1 = some f →
       ∃ d, Machine.exec .commitValidation s = .next (s.put d) ∧ d.commit.queue = rest ∧ d.commit.armed = s.dev.commit.armed ∧
       (∀ n ∈ c.union, d.dom n = { s.dev.dom n with st := .refused, err := f.err, errAt := atWord f.at_ }) ∧
       (∀ n, n ∉ c.union → d.dom n = s.dev.dom n) ∧ (∀ v, f.verr = some v → d.reg (rostP + 0x04C) = v) ∧
       (∀ a, pageBase a ≠ rostP → d.reg a = s.dev.reg a) ∧
       d = { s.dev with regs := d.regs, wet := d.wet, coat2 := d.coat2, commit := d.commit }) ∧
     (∀ n, c.bad = some n →
       ∃ d, Machine.exec .commitValidation s = .next (s.put d) ∧ d.commit.queue = rest ∧ d.commit.armed = s.dev.commit.armed ∧
       (∀ m ∈ c.union, (d.dom m).st = .refused ∧ (d.dom m).err = errWord 6 0 n 0) ∧ (∀ m, m ∉ c.union → d.dom m = s.dev.dom m) ∧
       (∀ a, c.dom ≠ 64 ∨ pageBase a ≠ rostP → d.reg a = s.dev.reg a) ∧
       d = { s.dev with regs := d.regs, wet := d.wet, coat2 := d.coat2, commit := d.commit }) ∧
     (c.dom ≠ 64 →
     (c.bad = none →
       firstFlaw (flawsOf (judgeOf c { s.dev with commit := { s.dev.commit with queue := rest } })) = none →
       ∃ d, Machine.exec .commitValidation s = .next (s.put d) ∧ d.commit.queue = rest ∧
       (∀ n ∈ c.union, d.dom n = { s.dev.dom n with st := .armed }) ∧ (∀ n, n ∉ c.union → d.dom n = s.dev.dom n) ∧
       (∃ x ∈ d.commit.armed, x.dom = c.dom ∧ x.union = c.union ∧ x.armedAt = s.dev.now) ∧
       d = { s.dev with commit := d.commit }) ∧
     (∀ f, c.bad = none →
       firstFlaw (flawsOf (judgeOf c { s.dev with commit := { s.dev.commit with queue := rest } })) = some f →
       ∃ d, Machine.exec .commitValidation s = .next (s.put d) ∧ d.commit.queue = rest ∧ d.commit.armed = s.dev.commit.armed ∧
       (∀ n ∈ c.union, d.dom n = { s.dev.dom n with st := .refused, err := f.err, errAt := atWord f.at_ }) ∧
       (∀ n, n ∉ c.union → d.dom n = s.dev.dom n) ∧ (∀ a, a ≠ engP + 0x050 → d.reg a = s.dev.reg a) ∧
       d = { s.dev with regs := d.regs, wet := d.wet, coat2 := d.coat2, commit := d.commit }))) ∧
  (∀ (s : State) (dom : Nat) (lost : List (Fin 256)) (c : Commit), awake s.dev = true →
     (s.dev.commit.armed.find? fun x => x.dom = dom) = some c → c.armedAt < s.dev.now →
     let swapped := fun d : Dev => s.dev.reports c s.dev.rost.slipped d ∧
       d.on rostP ROST.BANK.ACTIVE = !s.dev.on rostP ROST.BANK.ACTIVE ∧ d.rost.wet = false ∧ d.rost.swaps = [] ∧
       (∀ f, f < 16 → (d.frame f).bank = !s.dev.on rostP ROST.BANK.ACTIVE) ∧ d.on rostP ROST.EVT.SWAPPED = true ∧
       d = { s.dev with regs := d.regs, events := d.events, frames := d.frames, rost := d.rost, commit := d.commit }
     (dom = 66 → ∃ d, Machine.exec (.commitSet dom lost) s = .next (s.put (axesSettle (engineSet s.dev d))) ∧ s.dev.sets c d) ∧
     (dom = 65 → ∃ d, Machine.exec (.commitSet dom lost) s = .next (s.put (axesSettle (samplingSet s.dev d))) ∧ s.dev.sets c d) ∧
     (dom < 64 → frameRun s.dev (dom / 4) = false →
       ∃ d, Machine.exec (.commitSet dom lost) s =
           .next (s.put (axesSettle (let x := driveSet (lost.map (·.val)) s.dev c.union d
             if x.on (frameP (dom / 4)) FRAME.CFG.RUN then frameStart (dom / 4) x
             else x.setFrame (dom / 4) { x.frame (dom / 4) with starting := false }))) ∧ s.dev.sets c d) ∧
     (dom < 64 → frameRun s.dev (dom / 4) = true → Machine.exec (.commitSet dom lost) s = .next (s.put (axesSettle s.dev))) ∧
     (dom = 64 → s.dev.rost.swaps = [] →
       ∃ d, Machine.exec (.commitSet dom lost) s = .next (s.put (axesSettle d)) ∧ swapped d) ∧
     (∀ f a, dom = 64 → s.dev.rost.swaps = [(f, a)] → s.dev.rost.swapped = false → frameRun s.dev f = false →
       a.at_ < s.dev.now → a.slip = false →
       ∃ d, Machine.exec (.commitSet dom lost) s = .next (s.put (axesSettle d)) ∧ swapped d) ∧
     Machine.exec (.commitSet 67 lost) s = .fault .illFormed)

/-- R60 to R63: a cast of a page captures every ROC register of it at one tick with that tick as its stamp, and SEQ advances.
R12, R13: a read of an RC register returns what it held before the events of this cycle and clears it, and those events stand
after the read. R69: a fence has no effect of its own. The model's own readings in it: log 1, 18, 20. -/
def Obligations.CastAndReadClears : Prop :=
  (∀ (s : State) (who : Requester) (p : Nat) (r : PageRow) (val : Word), s.dev.serves who → s.dev.pageOpen who p r →
     bitOf val 0 = true → bitOf val 1 = false →
     ∃ d, Machine.exec (.cast who (at_ p) val) s = .next (s.put d) ∧
       (∀ o ∈ rocOffsets r.page, o < 0x1000 → castWord d (p + o) = liveWord s.dev (p + o)) ∧
       castWord d (p + 0x024) = BitVec.ofNat 32 s.dev.now ∧ castWord d (p + 0x028) = BitVec.ofNat 32 (s.dev.now / 2 ^ 32) ∧
       d.fld p HDR.CAST_STAT.SEQ = (s.dev.fld p HDR.CAST_STAT.SEQ + 1) % 2 ^ HDR.CAST_STAT.SEQ.n ∧
       (∀ b, b < p ∨ p + 0x1000 ≤ b → castWord d b = castWord s.dev b) ∧
       d = { s.dev with regs := d.regs, cast := d.cast, resp := d.resp, afault := d.afault }) ∧
  (∀ (s : State) (who : Requester), s.dev.serves who →
     Machine.exec (.fence who) s = .next s ∧
     ∀ (a i : Nat) (r : PageRow), 0x40000000 ≤ a → a < 2 ^ 32 → a % 4 = 0 → pageAt a = some (r, i) →
       accAt r.page (a % 0x1000) = some .rc → isPairLow a = false → isPairHigh a = false → r.page ≠ .res → r.page ≠ .uart →
       (s.dev.eventAt a = none →
         ∃ d, Machine.exec (.rcRead who (at_ a)) s = .next (s.put d) ∧ sget noWord0 d.resp (requesterId who) = shown s.dev a ∧
         d.reg a = 0 ∧ (∀ b, b ≠ a → d.reg b = s.dev.reg b) ∧
         d = { s.dev with regs := d.regs, resp := d.resp, afault := d.afault }) ∧
       (∀ old since, s.dev.eventAt a = some (old, since) →
         ∃ d, Machine.exec (.rcRead who (at_ a)) s = .next (s.put d) ∧ sget noWord0 d.resp (requesterId who) = old ∧
         d.reg a = since ∧ (∀ b, b ≠ a → d.reg b = s.dev.reg b) ∧
         d = { s.dev with regs := d.regs, events := d.events, resp := d.resp, afault := d.afault }))

/-- R64, R65: a read of the low word of a 64-bit value keeps the high word of the same moment in the reader's shadow; a read
of the high word returns the latest kept one and uses it up, or the present word where none is kept. R67: the low word of a
64-bit write is held for its writer and changes nothing until the high word is written, which then acts with it: ALARM of the
always-on clock, ST_MASK of a die that takes the command; one that fails its link check is counted and changes no mask (R162).
The model's own readings in it: log 21. -/
def Obligations.PairAccess : Prop :=
  (∀ (s : State) (who : Requester) (a i : Nat) (r : PageRow), s.dev.serves who → 0x40000000 ≤ a → a < 2 ^ 32 → a % 4 = 0 →
     pageAt a = some (r, i) → r.page ≠ .res → r.page ≠ .flt → r.page ≠ .uart →
     (isPairLow a = true → isPairHigh a = false → accAt r.page (a % 0x1000) ≠ some .rc →
       ∃ d, Machine.exec (.pairReadLow who (at_ a)) s = .next (s.put d) ∧
       sget noWord0 d.resp (requesterId who) = peek s.dev r.page a ∧
       (sget noPairs d.pairs (requesterId who)).getLast? = some (a + 4, peek s.dev r.page (a + 4)) ∧
       (∀ j, j ≠ requesterId who → sget noPairs d.pairs j = sget noPairs s.dev.pairs j) ∧
       d = { s.dev with pairs := d.pairs, resp := d.resp, afault := d.afault }) ∧
     (∀ w rest, isPairHigh a = true → pairTake (sget noPairs s.dev.pairs (requesterId who)) a = some (w, rest) →
       ∃ d, Machine.exec (.pairReadHigh who (at_ a)) s = .next (s.put d) ∧
       sget noWord0 d.resp (requesterId who) = w ∧ sget noPairs d.pairs (requesterId who) = rest ∧
       (∀ j, j ≠ requesterId who → sget noPairs d.pairs j = sget noPairs s.dev.pairs j) ∧
       d = { s.dev with pairs := d.pairs, resp := d.resp, afault := d.afault }) ∧
     (isPairHigh a = true → pairTake (sget noPairs s.dev.pairs (requesterId who)) a = none →
       ∃ d, Machine.exec (.pairReadHigh who (at_ a)) s = .next (s.put d) ∧
       sget noWord0 d.resp (requesterId who) = peek s.dev r.page a ∧
       d = { s.dev with resp := d.resp, afault := d.afault })) ∧
  (∀ (s : State) (who : Requester) (val : Word), s.dev.serves who →
     (∃ d, Machine.exec (.pairWriteLow who (at_ (pwrP + 0x06C)) val) s = .next (s.put d) ∧
       sget noLow d.lows (lowKey (requesterId who) (pwrP + 0x06C)) = some val ∧
       d = { s.dev with lows := d.lows, resp := d.resp, afault := d.afault }) ∧
     (∀ lo, sget noLow s.dev.lows (lowKey (requesterId who) (pwrP + 0x06C)) = some lo →
       ∀ chk, ∃ d, Machine.exec (.pairWriteHigh who (at_ (pwrP + 0x070)) val chk) s = .next (s.put d) ∧ d.reg (pwrP + 0x06C) = lo ∧
       d.reg (pwrP + 0x070) = val ∧ sget noLow d.lows (lowKey (requesterId who) (pwrP + 0x06C)) = none ∧
       (∀ b, b ≠ pwrP + 0x06C → b ≠ pwrP + 0x070 → d.reg b = s.dev.reg b) ∧
       d = { s.dev with regs := d.regs, lows := d.lows, resp := d.resp, afault := d.afault }) ∧
     (∀ k : Fin 4, s.dev.hears who →
       ∃ d, Machine.exec (.pairWriteLow who (at_ (ddieP k + 0x064)) val) s = .next (s.put d) ∧
       sget noLow d.lows (lowKey (requesterId who) (ddieP k + 0x064)) = some val ∧
       d = { s.dev with lows := d.lows, resp := d.resp, afault := d.afault }) ∧
     (∀ (k : Fin 4) lo, s.dev.hears who → s.dev.accepts k → (s.dev.die k).wdPend = false →
       sget noLow s.dev.lows (lowKey (requesterId who) (ddieP k + 0x064)) = some lo →
       ∃ d, Machine.exec (.pairWriteHigh who (at_ (ddieP k + 0x068)) val true) s = .next (s.put d) ∧ (d.die k).maskLo = lo ∧
       (d.die k).maskHi = val ∧ (∀ j, j ≠ k.val → d.die j = s.dev.die j) ∧
       d = { s.dev with dies := d.dies, lows := d.lows, resp := d.resp, afault := d.afault }) ∧
     (∀ k : Fin 4, s.dev.hears who → (s.dev.die k).link = true → (s.dev.die k).holderCmd = none →
       ∃ d, Machine.exec (.pairWriteHigh who (at_ (ddieP k + 0x068)) val false) s = .next (s.put d) ∧
       d.die k = { s.dev.die k with lastSent := s.dev.now, checkFail := (s.dev.die k).checkFail + 1 } ∧
       (∀ j, j ≠ k.val → d.die j = s.dev.die j) ∧
       d = { s.dev with dies := d.dies, lows := d.lows, resp := d.resp, afault := d.afault }))

/-! ### Frames, gangs and legs -/

/-- R164, R166: at a reload that is due, with no commit, swap or job to take in, the frame's period count, dither and
effective period advance and its next reload is set; the first reload of a frame that starts makes it RUN. What the gangs, the
converters, the channels and the locked frames take from the reload follows. R47, R48, R50, R166: a commit of a frame that is
due at its reload sets there, before the period begins with what it brings; where it clears RUN, or the frame's master has
stopped, the frame stops. R209 to R211: so does a swap that is due: the frame reads the other bank, the first swap of a commit
changes ACTIVE, and the last one sets the commit of the roster. R89 to R91, R94, R95, R97, R98, R173, R174, R177 to R180: what
a reload lays out for a gang whose listed legs are all live: its duty, rotation and active count, and for each leg the
dithered window at its place, one place per rank after the rotation, with the gates off before it; a shed leg has none. A
full-face period runs every leg at PHASE with at least DUTY_MIN. Refresh windows and pulses are left to the other forms. The
model's own readings in it: log 46, 109, 110. -/
def Obligations.FrameReload : Prop :=
  (∀ (s : State) (f : Fin 16) (lost : List (Fin 256)), awake s.dev = true → syncMode s.dev f = 0 → (s.dev.frame f).next ≤ s.dev.now →
     (frameRun s.dev f = true → s.dev.on (frameP f) FRAME.CFG.RUN = true →
       (∀ c ∈ s.dev.commit.armed, setsAt f (s.dev.frame f).next (hasCommitPoint s.dev f) c = false) →
       (∀ x ∈ s.dev.rost.swaps, x.1 = f.val → regangDue (hasCommitPoint s.dev f) (s.dev.frame f).next x.2 = false) →
       (∀ j ∈ s.dev.rost.jobs, j.frame ≠ f.val) → (∀ x ∈ s.dev.rost.deferred, x.frame ≠ f.val) →
       ∃ d, Machine.exec (.frameReload f lost) s = .next (s.put (axesSettle
         (tellLocked f (afterReload f (s.dev.frame f).next (hasCommitPoint s.dev f) d)))) ∧
       (d.frame f).reload = (s.dev.frame f).next ∧ (d.frame f).next = (s.dev.frame f).next + effPeriod s.dev f ∧
       d.fld (frameP f) FRAME.STAT.PCOUNT = (s.dev.fld (frameP f) FRAME.STAT.PCOUNT + 1) % 256 ∧
       d.fld (frameP f) FRAME.STAT.DITH = (s.dev.fld (frameP f) FRAME.STAT.DITH + 1) % 16 ∧
       d.fld (frameP f) FRAME.STAT.PEFF = effPeriod s.dev f % 2 ^ 16 ∧ frameRun d f = true ∧
       (∀ g, g ≠ f.val → d.frame g = s.dev.frame g) ∧
       d = { s.dev with frames := d.frames, regs := d.regs, events := d.events, commit := d.commit, rost := d.rost }) ∧
     (frameRun s.dev f = false → (s.dev.frame f).starting = true →
       ∃ d, Machine.exec (.frameReload f lost) s = .next (s.put (axesSettle
         (tellLocked f (afterReload f (s.dev.frame f).next false d)))) ∧
       (d.frame f).reload = (s.dev.frame f).next ∧ (d.frame f).starting = false ∧ frameRun d f = true ∧
       d.fld (frameP f) FRAME.STAT.PCOUNT = (s.dev.fld (frameP f) FRAME.STAT.PCOUNT + 1) % 256 ∧
       d.fld (frameP f) FRAME.STAT.DITH = 0 ∧ (∀ g, g ≠ f.val → d.frame g = s.dev.frame g) ∧
       (∀ g ∈ gangsOn s.dev f, (d.gang g).fresh = true) ∧
       d = { s.dev with frames := d.frames, regs := d.regs, events := d.events, rost := d.rost, gangs := d.gangs })) ∧
  (∀ (s : State) (f : Fin 16) (lost : List (Fin 256)) (t : Nat), awake s.dev = true → dueReload s.dev f = some t →
     frameRun s.dev f = true → (∀ j ∈ s.dev.rost.jobs, j.frame ≠ f.val) → (∀ x ∈ s.dev.rost.deferred, x.frame ≠ f.val) →
     let cp := hasCommitPoint s.dev f
     let b := slipArmed f t cp s.dev
     let swap := b.rost.swaps.any fun x => x.1 = f.val && regangDue cp t x.2
     (∀ c, b.commit.armed.filter (setsAt f t cp) = [c] → swap = false →
       ∃ e, b.sets c e ∧ Machine.exec (.frameReload f lost) s = .next (s.put (axesSettle (
         if !e.on (frameP f) FRAME.CFG.RUN || masterless e f then
           stopFrame f (e.on (frameP f) FRAME.CFG.RUN) (driveSet (lost.map (·.val)) b c.union e)
         else tellLocked f (afterReload f t cp (driveSet (lost.map (·.val)) b c.union (beginPeriod f t e))))))) ∧
     (b.commit.armed.filter (setsAt f t cp) = [] → swap = true → s.dev.on (frameP f) FRAME.CFG.RUN = true → masterless s.dev f = false →
       ∃ e, Machine.exec (.frameReload f lost) s = .next (s.put (axesSettle (tellLocked f (afterReload f t cp e)))) ∧
       e.rost.swaps = b.rost.swaps.filter (fun x => x.1 ≠ f.val) ∧ (e.frame f).bank = e.on rostP ROST.BANK.ACTIVE ∧
       (s.dev.rost.swapped = false → e.on rostP ROST.BANK.ACTIVE = (!s.dev.on rostP ROST.BANK.ACTIVE) ∧ e.rost.wet = false) ∧
       (s.dev.rost.swapped = true → e.on rostP ROST.BANK.ACTIVE = s.dev.on rostP ROST.BANK.ACTIVE) ∧
       (∀ c, (s.dev.commit.armed.find? fun x => x.dom = 64) = some c → (∀ x ∈ b.rost.swaps, x.1 = f.val) →
         (∀ n ∈ c.union, (e.dom n).st = .set) ∧ (∀ x ∈ e.commit.armed, x.dom ≠ 64) ∧ e.on rostP ROST.EVT.SWAPPED = true))) ∧
  (∀ (s : State) (f : Fin 16) (lost : List (Fin 256)) (g : Nat), awake s.dev = true → syncMode s.dev f = 0 →
     (s.dev.frame f).next ≤ s.dev.now → frameRun s.dev f = true → s.dev.on (frameP f) FRAME.CFG.RUN = true →
     gangsOn s.dev f = [g] → (∀ c ∈ s.dev.commit.armed, c.dom / 4 ≠ f.val) → s.dev.rost.swaps = [] → s.dev.rost.jobs = [] →
     s.dev.rost.deferred = [] → (s.dev.gang g).regang = none → gangSwitching s.dev g = true →
     s.dev.on (frameP f) FRAME.REFR.EN = false → (s.dev.gang g).refreshNext = 0 →
     (s.dev.on (gangP g) GANG.SHED.EN = true → (s.dev.gang g).loadNew = true) →
     let t := (s.dev.frame f).next
     let p := s.dev.fld (frameP f) FRAME.CFG.PERIOD
     let ranks := rankList s.dev g
     let n := ranks.length
     ranks.Nodup → 0 < n → n ≤ 32 → 0 < p → p < 2 ^ 16 →
     (∀ m ∈ ranks, legLive s.dev m = true ∧ (s.dev.leg m).dark = false ∧ (s.dev.leg m).refreshOwed = false ∧
       planFrom (s.dev.plan m) t = ((false, false), [])) →
     let sd := s.dev.reg (sdutyA f g)
     let msel := mselBit s.dev f g
     (msel = true ∨ (s.dev.gang g).engWet ≠ none ∨ bitOf sd 31 = true) →
     let duty := if msel then bits (s.dev.reg (mdutyA f g)) 0 20 else match (s.dev.gang g).engWet with
       | some v => v % 2 ^ 20
       | none => bits sd 0 20
     let ff := s.dev.on (gangP g) GANG.FF.EN && (match (s.dev.gang g).ffTrig with | some x => decide (x + 8 ≤ t) | none => false)
     let a0 := if (s.dev.gang g).act = 0 then n else (s.dev.gang g).act
     let a := if ff || !s.dev.on (gangP g) GANG.SHED.EN || s.dev.on (gangP g) GANG.STAT.FF_NOW then n
       else max 1 (min n (match (s.dev.gang g).pend with | .none => a0 | .add => a0 + 1 | .shed => a0 - 1))
     let rot0 := s.dev.fld (gangP g) GANG.STAT.ROT % n
     let mode := s.dev.fld (gangP g) GANG.CFG.ROT
     let rot := if mode = 0 then 0
       else if mode = 1 ∨ (mode = 2 ∧ (s.dev.gang g).rotate = true) then (rot0 + 1) % n else rot0
     let ph := s.dev.fld (gangP g) GANG.CFG.PHASE % p
     let lit := if ff then max duty (s.dev.fld (gangP g) GANG.FF.DUTY_MIN * p / 256 * 16) else duty
     ∃ d, Machine.exec (.frameReload f lost) s =
         .next (s.put (axesSettle (tellLocked f (fbReload f (convReload f (axesReload f t d)))))) ∧
       bitOf (d.reg (sdutyA f g)) 31 = true ∧ bits (d.reg (sdutyA f g)) 0 20 = duty ∧
       (msel = true → bitOf (d.reg (sdutyA f g)) 30 = true) ∧
       (msel = false → (s.dev.gang g).engWet = none → bitOf (d.reg (sdutyA f g)) 29 = true ∧ d.on (frameP f) FRAME.EVT.DUTY_HELD = true) ∧
       (d.gang g).engWet = none ∧ (d.gang g).act = a ∧ (d.gang g).rotate = false ∧
       d.fld (gangP g) GANG.STAT.ROT = rot ∧ d.on (gangP g) GANG.STAT.RUN = true ∧
       (∀ m i, (m, i) ∈ ranks.zipIdx →
         let pos := (i + n - rot) % n
         let w := t + (if ff then ph else (ph + pos * p / a) % p)
         let lh := s.dev.fld (legP m) LEG.DEAD.DT_LH
         let hl := s.dev.fld (legP m) LEG.DEAD.DT_HL
         let on := dithered lit ((s.dev.fld (frameP f) FRAME.STAT.DITH + 1) % 16) i p
         (ff = true ∨ pos < a → (d.plan m).active = true ∧ (d.plan m).shed = false ∧
           (d.plan m).edges = (if on < 12 then [(w + lh + hl, Gate.gl, true)]
             else if p < on + lh + hl + 12 then [(w + lh, .gh, true)]
             else [(w + lh, .gh, true), (w + lh + on, .gh, false), (w + lh + on + hl, .gl, true)])) ∧
         (ff = false → a ≤ pos → (d.plan m).active = false ∧ (d.plan m).shed = true ∧ (d.plan m).edges = [])) ∧
       (∀ m, m ∉ gangLegs s.dev g → m ∉ ranks → d.plan m = s.dev.plan m ∧ d.leg m = s.dev.leg m) ∧ d.mem = s.dev.mem)

/-- R128, R129: after its fixed strong periods a switching leg goes over to adaptive drive with its initial strengths, by a
command that the die takes; one that fails its link check leaves the leg and its strengths as they are (R162). R93: a gang
four periods without a load measure, the one that ends at this tick among them, reports LOAD_STALE and runs all its live legs.
R113, R424: RETIRE retires a leg at any time and RETURN brings back a retired leg that no enabled gang lists; each waits for
the journal. A RETURN of any other leg only sets CMD_IGN. The model's own readings in it: log 39, 44. -/
def Obligations.LegUpkeep : Prop :=
  (∀ (s : State) (n : Fin 256), awake s.dev = true → s.dev.mode ≠ .powerUp → s.dev.mode ≠ .test → s.dev.accepts (n / 64) →
     (s.dev.die (n / 64)).wdPend = false → (s.dev.leg n).sw = true → (s.dev.leg n).strongLeft = 0 →
     (s.dev.leg n).adaptive = false → (s.dev.plan n).stop = false → s.dev.own n LEG.GATE.FIXED = 0 →
     (∃ d, Machine.exec (.strongDriveEnd n true) s = .next (s.put d) ∧ (d.leg n).adaptive = true ∧
       d.fld (legP n) LEG.STRENGTH.SRC = s.dev.own n LEG.GATE.SRC_INIT ∧
       d.fld (legP n) LEG.STRENGTH.SNK = s.dev.own n LEG.GATE.SNK_INIT ∧
       (d.leg n).gh = (s.dev.leg n).gh ∧ (d.leg n).gl = (s.dev.leg n).gl ∧
       d.fld (legP n) LEG.STRENGTH.TMEAS = 127 ∧
       (∀ m, m ≠ n.val → d.leg m = s.dev.leg m) ∧ (∀ a, a ≠ legP n + 0x060 → d.reg a = s.dev.reg a) ∧
       d = { s.dev with regs := d.regs, legs := d.legs, dies := d.dies }) ∧
     (∃ d, Machine.exec (.strongDriveEnd n false) s = .next (s.put d) ∧ d = { s.dev with dies := d.dies })) ∧
  (∀ (s : State) (g : Fin 64), awake s.dev = true → (s.dev.gang g).loadNew = false → gangEn s.dev g = true →
     s.dev.on (gangP g) GANG.STAT.LOAD_STALE = false →
     (4 ≤ (s.dev.gang g).loadAge ∨ ((s.dev.gang g).loadAge = 3 ∧ s.dev.now = (s.dev.frame (gangFrame s.dev g)).next) →
       ∃ d, Machine.exec (.loadStale g) s = .next (s.put d) ∧ d.on (gangP g) GANG.STAT.LOAD_STALE = true ∧
       d.on (gangP g) GANG.EVT.LOAD_STALE = true ∧
       d.fld (gangP g) GANG.LIVE.ACTIVE = s.dev.fld (gangP g) GANG.LIVE.LIVE ∧
       (∀ a, a ≠ gangP g + 0x080 → a ≠ gangP g + 0x084 → a ≠ gangP g + 0x0AC → d.reg a = s.dev.reg a) ∧
       d.gang g = { s.dev.gang g with act := s.dev.fld (gangP g) GANG.LIVE.LIVE } ∧
       (∀ h, h ≠ g.val → d.gang h = s.dev.gang h) ∧
       d = { s.dev with regs := d.regs, events := d.events, gangs := d.gangs }) ∧
     ((s.dev.gang g).loadAge < 3 ∨ ((s.dev.gang g).loadAge = 3 ∧ s.dev.now ≠ (s.dev.frame (gangFrame s.dev g)).next) → Machine.exec (.loadStale g) s = .next s)) ∧
  (∀ (s : State) (who : Requester) (n : Fin 256) (val : Word), s.dev.serves who → s.dev.hears who →
     (bitOf val 1 = true → (s.dev.leg n).retired = false →
       ∃ d, Machine.exec (.retire who n val) s = .next (s.put (answer who 0 false (axesSettle d))) ∧
       (d.leg n).retired = true ∧ (d.leg n).fwRet = true ∧
       d.flt.journal = s.dev.flt.journal ++ [⟨n, 0, s.dev.now, false⟩] ∧ d.mem = s.dev.mem) ∧
     (bitOf val 0 = true → bitOf val 1 = false → (s.dev.leg n).retired = true → listedIn s.dev n = none →
       (s.dev.leg n).retCycle ≠ some (s.dev.now / 2) →
       ∃ d, Machine.exec (.returnLeg who n val) s = .next (s.put (answer who 0 false (axesSettle d))) ∧
       (d.leg n).retired = false ∧ (d.leg n).dieRetired = false ∧
       d.flt.journal = s.dev.flt.journal ++ [⟨n, 0, s.dev.now, true⟩] ∧ (∀ m, m ≠ n.val → d.leg m = s.dev.leg m) ∧
       d = { s.dev with legs := d.legs, flt := d.flt, mode := d.mode, regs := d.regs, events := d.events, sys := d.sys }) ∧
     (bitOf val 0 = true → bitOf val 1 = false →
       (s.dev.leg n).retired = false ∨ listedIn s.dev n ≠ none ∨ (s.dev.leg n).retCycle = some (s.dev.now / 2) →
       ∃ d, Machine.exec (.returnLeg who n val) s = .next (s.put (answer who 0 false (axesSettle d))) ∧
       d.on (legP n) LEG.EVT.CMD_IGN = true ∧ (∀ a, a ≠ legP n + 0x064 → d.reg a = s.dev.reg a) ∧
       d = { s.dev with regs := d.regs, events := d.events }))

/-- R172, R174: a duty that lands for the next period before the cut-off becomes the gang's wet duty; one with another tag, or
after the cut-off, is logged and leaves the gang as it was. -/
def Obligations.EngineDutyLands : Prop :=
  ∀ (s : State) (w : Work) (g v t : Nat), awake s.dev = true → s.dev.mode ≠ .halt → s.dev.eng.works = [w] →
    w.land = [(g, v, t)] → w.ctx < 256 → t ≤ s.dev.now → w.dead = false → w.done = false → g < 64 → frameRun s.dev (gangFrame s.dev g) = true →
    mselBit s.dev (gangFrame s.dev g) g = false →
    (w.tag = (pcount s.dev (gangFrame s.dev g) + 1) % 256 →
      s.dev.now + s.dev.fld (frameP (gangFrame s.dev g)) FRAME.LATE.LATE ≤ (s.dev.frame (gangFrame s.dev g)).next →
      ∃ d, Machine.exec .engineDutyLands s = .next (s.put d) ∧
      d.gang g = { s.dev.gang g with engWet := some (v % 2 ^ 20) } ∧ (∀ h, h ≠ g → d.gang h = s.dev.gang h) ∧
      (∀ a, pageBase a ≠ engP → d.reg a = s.dev.reg a) ∧ (∃ x ∈ d.eng.works, x.ctx = w.ctx ∧ x.land = []) ∧
      d = { s.dev with gangs := d.gangs, regs := d.regs, eng := d.eng }) ∧
    (w.tag = (pcount s.dev (gangFrame s.dev g) + 1) % 256 →
      (s.dev.frame (gangFrame s.dev g)).next < s.dev.now + s.dev.fld (frameP (gangFrame s.dev g)) FRAME.LATE.LATE →
      ∃ d, Machine.exec .engineDutyLands s = .next (s.put d) ∧ d.gangs = s.dev.gangs ∧
      bits (d.reg (frameP (gangFrame s.dev g) + 0x070)) 24 6 = g ∧ bitOf (d.reg (frameP (gangFrame s.dev g) + 0x070)) 30 = false ∧
      bits (d.reg (frameP (gangFrame s.dev g) + 0x070)) 16 8 = w.tag ∧
      d.on (frameP (gangFrame s.dev g)) FRAME.EVT.DUTY_LATE = true ∧ d.legs = s.dev.legs ∧ d.plans = s.dev.plans ∧ d.mem = s.dev.mem) ∧
    (w.tag < 256 → w.tag ≠ (pcount s.dev (gangFrame s.dev g) + 1) % 256 →
      ∃ d, Machine.exec .engineDutyLands s = .next (s.put d) ∧ d.gangs = s.dev.gangs ∧
      bits (d.reg (frameP (gangFrame s.dev g) + 0x070)) 24 6 = g ∧
      bits (d.reg (frameP (gangFrame s.dev g) + 0x070)) 16 8 = w.tag ∧ d.legs = s.dev.legs ∧ d.plans = s.dev.plans ∧ d.mem = s.dev.mem)

/-! ### The roster -/

/-- R196 to R203: an entry that is dispatched acts: SAMPLE asks for a conversion from the next tick on, JOB waits for its
sample set under the number of its period and COMMIT_POINT readies what is armed for its frame. A deferred SAMPLE, the first
entry that waits, acts on a later tick as what it was on the tick of its offset. R61, R198, R204: REFRESH and ROTATE reach a
gang that is enabled on their frame, or say NO_EFFECT; CAST_POINT casts on the second tick, BUSY until then; MARK records its
ID, its frame and the tick. Every entry, whatever its action, that has eight before it on its tick is deferred and counted.
The model's own readings in it: log 57, 58. -/
def Obligations.RosterEntriesAct : Prop :=
  (∀ (s : State) (f : Fin 16) (i : Nat), awake s.dev = true → i < 16384 →
     let k := frameKey s.dev f i
     let e := entryAt s.dev k
     let now : Acting := ⟨f, k, periodNo s.dev f, s.dev.now⟩
     (s.dev.dispatches f i 1 →
       ∃ d, Machine.exec (.sample f i) s = .next (s.put d) ∧
       d.samp = { s.dev.samp with reqs := s.dev.samp.reqs ++
         [⟨f, k, eInput e, eGain e, eAcq e, eRes e, eCtx e, eSidx e, s.dev.now + 1, sampleTarget s.dev now⟩] } ∧
       d.frame f = { s.dev.frame f with acted := k :: (s.dev.frame f).acted } ∧
       (∀ g, g ≠ f.val → d.frame g = s.dev.frame g) ∧ d.rost = s.dev.counted false ∧
       d = { s.dev with frames := d.frames, samp := d.samp, rost := d.rost }) ∧
     (∀ x rest, s.dev.rost.deferred = x :: rest → x.frame = f.val → x.key % 16384 = i → eAction (entryAt s.dev x.key) = 1 →
       x.at_ < s.dev.now → dispatched s.dev < 8 →
       ∃ d, Machine.exec (.sample f i) s = .next (s.put d) ∧
       (∃ q ∈ d.samp.reqs, q.frame = x.frame ∧ q.entry = x.key ∧ q.arrive = s.dev.now + 1 ∧ q.target = sampleTarget s.dev x) ∧
       d.rost = { s.dev.counted true with deferred := rest } ∧
       d = { s.dev with samp := d.samp, rost := d.rost }) ∧
     (s.dev.dispatches f i 2 → (∀ j ∈ s.dev.rost.jobs, j.ctx ≠ eCtx e) →
       ∃ d, Machine.exec (.job f i) s = .next (s.put d) ∧
       d.rost = { s.dev.counted false with jobs := s.dev.rost.jobs ++
         [⟨eCtx e, k, periodNo s.dev f, f, eNowait e, (pcount s.dev f + 1) % 256⟩] } ∧
       d = { s.dev with frames := d.frames, rost := d.rost }) ∧
     (s.dev.dispatches f i 3 →
       ∃ d, Machine.exec (.commitPoint f i) s = .next (s.put d) ∧ (d.frame f).lastCp = some s.dev.now ∧
       (∀ c ∈ s.dev.commit.armed, c.dom < 64 → c.dom / 4 = f.val → c.armedAt < s.dev.now →
         { c with ready := true, slip := c.slip && (c.ready || decide ((s.dev.frame f).lastCp ≠ some c.armedAt)) } ∈ d.commit.armed) ∧
       (∀ c ∈ s.dev.commit.armed, c.dom < 64 → c.dom / 4 = f.val → c.armedAt = s.dev.now →
         { c with slip := true } ∈ d.commit.armed) ∧
       (∀ c ∈ s.dev.commit.armed, 64 ≤ c.dom ∨ c.dom / 4 ≠ f.val → c ∈ d.commit.armed) ∧
       d.commit = { s.dev.commit with armed := d.commit.armed } ∧
       d = { s.dev with frames := d.frames, commit := d.commit, rost := { s.dev.counted false with swaps := d.rost.swaps },
                        gangs := d.gangs })) ∧
  (∀ (s : State) (f : Fin 16) (i : Nat), awake s.dev = true → i < 16384 →
     let k := frameKey s.dev f i
     let e := entryAt s.dev k
     (s.dev.dispatches f i 4 → gangEn s.dev (eGang e) = true → gangFrame s.dev (eGang e) = f.val →
       ∃ d, Machine.exec (.refresh f i) s = .next (s.put d) ∧
       d.gang (eGang e) = { s.dev.gang (eGang e) with refreshNext := (s.dev.gang (eGang e)).refreshNext + 1 } ∧
       (∀ g, g ≠ eGang e → d.gang g = s.dev.gang g) ∧
       d = { s.dev with frames := d.frames, gangs := d.gangs, rost := s.dev.counted false }) ∧
     (s.dev.dispatches f i 5 → gangEn s.dev (eGang e) = true → gangFrame s.dev (eGang e) = f.val →
       ∃ d, Machine.exec (.rotate f i) s = .next (s.put d) ∧ d.gang (eGang e) = { s.dev.gang (eGang e) with rotate := true } ∧
       (∀ g, g ≠ eGang e → d.gang g = s.dev.gang g) ∧
       d = { s.dev with frames := d.frames, gangs := d.gangs, rost := s.dev.counted false }) ∧
     (∀ act, act = 4 ∨ act = 5 → s.dev.dispatches f i act → gangEn s.dev (eGang e) = false ∨ gangFrame s.dev (eGang e) ≠ f.val →
       ∃ d, Machine.exec (entryCommand act f i) s = .next (s.put d) ∧ d.on rostP ROST.EVT.NO_EFFECT = true ∧
       (∀ b, b ≠ rostP + ROST.EVT.NO_EFFECT.off → d.reg b = s.dev.reg b) ∧
       d = { s.dev with frames := d.frames, regs := d.regs, events := d.events, rost := s.dev.counted false }) ∧
     (∀ b, s.dev.dispatches f i 6 → pageOfSrc (eBits e 0 12) = some b →
       ∃ d, Machine.exec (.castPoint f i) s = .next (s.put d) ∧
       d.rost = { s.dev.counted false with casts := s.dev.rost.casts ++ [(castPages s.dev b (eBits e 12 1 != 0), s.dev.now + 2)] } ∧
       (∀ p ∈ castPages s.dev b (eBits e 12 1 != 0), d.on p HDR.CAST_STAT.BUSY = true) ∧ d.cast = s.dev.cast ∧
       d = { s.dev with frames := d.frames, rost := d.rost, regs := d.regs, events := d.events }) ∧
     (s.dev.dispatches f i 7 →
       ∃ d, Machine.exec (.mark f i) s = .next (s.put d) ∧ bits (d.reg (rostP + 0x070)) 0 16 = eBits e 0 16 ∧
       bits (d.reg (rostP + 0x070)) 16 4 = f.val ∧ bitOf (d.reg (rostP + 0x070)) 31 = true ∧
       d.reg (rostP + 0x074) = BitVec.ofNat 32 s.dev.now ∧ (eBits e 16 1 = 1 → d.on rostP ROST.EVT.MARK = true) ∧
       (∀ a, pageBase a ≠ rostP → d.reg a = s.dev.reg a) ∧
       d = { s.dev with frames := d.frames, regs := d.regs, events := d.events, rost := s.dev.counted false }) ∧
     (∀ act, 1 ≤ act → act ≤ 7 → eAction e = act → entryDue s.dev f i = true → (∀ x ∈ s.dev.rost.deferred, ¬(x.frame = f.val ∧ x.key % 16384 = i)) →
       8 ≤ waitedFor s.dev + actRank s.dev f i ∨ 8 ≤ dispatched s.dev →
       ∃ d, Machine.exec (entryCommand act f i) s = .next (s.put d) ∧
       d.rost = { s.dev.rost with deferred := deferIn ⟨f, k, periodNo s.dev f, s.dev.now⟩ s.dev.rost.deferred } ∧
       d.on rostP ROST.EVT.DISP_LATE = true ∧
       d.fld rostP ROST.COUNT2.DISP_LATE = satInc ROST.COUNT2.DISP_LATE.n (s.dev.fld rostP ROST.COUNT2.DISP_LATE) ∧
       d.frame f = { s.dev.frame f with acted := k :: (s.dev.frame f).acted } ∧
       (∀ a, a ≠ rostP + ROST.EVT.DISP_LATE.off → a ≠ rostP + ROST.COUNT2.DISP_LATE.off → d.reg a = s.dev.reg a) ∧
       d = { s.dev with frames := d.frames, regs := d.regs, events := d.events, rost := d.rost }))

/-- R201, R202: a waiting job whose sample set is complete becomes ready and leaves the roster; where its context has work
unfinished the job is dropped as an overrun. R67, R212, R216: an entry of the inactive bank is written by its high word with
the low word its writer holds; an entry write to the active bank, or to either bank while a commit of the roster is on its way
or a swap waits, is ignored and logged, with its bank, whether the bank was frozen, and its index. R215: COPY and CLEAR run on
the inactive bank until ROSTER_CMD_DONE: the active bank's entries stay, the other bank's are a copy of them or gone. A
command during another is ignored. The model's own readings in it: log 58. -/
def Obligations.RosterAccess : Prop :=
  (∀ (s : State) (c : Fin 256) (j : JobWait), awake s.dev = true →
     (s.dev.rost.jobs.find? fun x => x.ctx = c.val && (x.nowait || jobComplete s.dev x)) = some j →
     (unfinished s.dev c = false → chainEn s.dev c = true → (s.dev.eng.works.any fun w => w.ctx = c.val && w.kind = 2) = false →
       ∃ d, Machine.exec (.jobReady c) s = .next (s.put d) ∧ j ∉ d.rost.jobs ∧
       (∃ w ∈ d.eng.works, w.ctx = c.val ∧ w.kind = 1 ∧ w.key = j.key ∧ w.tag = j.tag ∧ w.readyAt = s.dev.now ∧ w.lane = none) ∧
       d.eng.works.length = s.dev.eng.works.length + 1 ∧ d = { s.dev with regs := d.regs, rost := d.rost, eng := d.eng }) ∧
     (unfinished s.dev c = true →
       ∃ d, Machine.exec (.jobReady c) s = .next (s.put d) ∧ j ∉ d.rost.jobs ∧ d.on rostP ROST.EVT.JOB_OVERRUN = true ∧
       d = { s.dev with regs := d.regs, events := d.events, rost := d.rost, eng := d.eng })) ∧
  (∀ (s : State) (who : Requester) (bank : Bool) (i : Nat) (lo hi : Word), s.dev.serves who → i < 12288 →
     let a := 0x31000000 + (if bank then 0x20000 else 0) + 8 * i
     (∃ d, Machine.exec (.rosterEntryWrite who (at_ a) lo) s = .next (s.put d) ∧
       sget noLow d.lows (lowKey (requesterId who) a) = some lo ∧
       d = { s.dev with lows := d.lows, resp := d.resp, afault := d.afault }) ∧
     (sget noLow s.dev.lows (lowKey (requesterId who) a) = some lo → s.dev.domBusy 64 = false → s.dev.rost.swaps = [] →
       s.dev.rost.cmd = 0 → bank ≠ activeBank s.dev →
       ∃ d, Machine.exec (.rosterEntryWrite who (at_ (a + 4)) hi) s = .next (s.put d) ∧
       entryAt d (entryKey bank i) = hi ++ lo ∧ (∀ k, k ≠ entryKey bank i → entryAt d k = entryAt s.dev k) ∧
       d.rost.wet = true ∧ d = { s.dev with lows := d.lows, rost := d.rost, resp := d.resp, afault := d.afault }) ∧
     (bank = activeBank s.dev ∨ s.dev.domBusy 64 = true ∨ s.dev.rost.swaps ≠ [] →
       ∃ d, Machine.exec (.rosterEntryWrite who (at_ (a + 4)) hi) s = .next (s.put d) ∧ d.rost = s.dev.rost ∧
       d.on rostP ROST.EVT.LIVE_WRITE = true ∧
       (s.dev.domBusy 64 = true ∨ s.dev.rost.swaps ≠ [] →
         d.reg (rostP + 0x06C) = BitVec.ofNat 32 (2 ^ 31 + b2n bank * 2 ^ 30 + 2 ^ 29 + i)) ∧
       (s.dev.domBusy 64 = false → s.dev.rost.swaps = [] →
         d.reg (rostP + 0x06C) = BitVec.ofNat 32 (2 ^ 31 + b2n bank * 2 ^ 30 + i)) ∧
       d.fld rostP ROST.COUNT.LIVE_WRITES = satInc ROST.COUNT.LIVE_WRITES.n (s.dev.fld rostP ROST.COUNT.LIVE_WRITES) ∧
       (∀ b, pageBase b ≠ rostP → d.reg b = s.dev.reg b) ∧
       d = { s.dev with regs := d.regs, events := d.events, lows := d.lows, resp := d.resp, afault := d.afault })) ∧
  (∀ (s : State) (who : Requester) (val : Word), s.dev.serves who →
     (bits val 0 2 = 1 → s.dev.rost.cmd = 0 → s.dev.domBusy 64 = false → s.dev.rost.swaps = [] →
       ∃ d, Machine.exec (.copy who val) s = .next (s.put d) ∧ d.rost = { s.dev.rost with cmd := 1 } ∧
       d.on rostP HDR.PROG.RUN = true ∧ (∀ b, pageBase b ≠ rostP → d.reg b = s.dev.reg b) ∧
       d = { s.dev with regs := d.regs, rost := d.rost, resp := d.resp, afault := d.afault }) ∧
     (bits val 0 2 = 2 → s.dev.rost.cmd = 0 → s.dev.domBusy 64 = false → s.dev.rost.swaps = [] →
       ∃ d, Machine.exec (.clear who val) s = .next (s.put d) ∧ d.rost = { s.dev.rost with cmd := 2 } ∧
       d.on rostP HDR.PROG.RUN = true ∧ (∀ b, pageBase b ≠ rostP → d.reg b = s.dev.reg b) ∧
       d = { s.dev with regs := d.regs, rost := d.rost, resp := d.resp, afault := d.afault }) ∧
     (bits val 0 2 ≠ 0 → s.dev.rost.cmd ≠ 0 →
       ∃ d, (Machine.exec (.copy who val) s = .next (s.put d) ∧ Machine.exec (.clear who val) s = .next (s.put d)) ∧
       d.rost = s.dev.rost ∧ d.on rostP ROST.EVT.CMD_IGN = true ∧
       d = { s.dev with regs := d.regs, events := d.events, resp := d.resp, afault := d.afault }) ∧
     (s.dev.rost.cmd = 1 →
       ∃ d, Machine.exec .rosterCmdDone s = .next (s.put d) ∧ d.rost.cmd = 0 ∧ d.rost.wet = false ∧
       (∀ i, i < 16384 → entryAt d (entryKey (!activeBank s.dev) i) = entryAt s.dev (entryKey (activeBank s.dev) i) ∧
         entryAt d (entryKey (activeBank s.dev) i) = entryAt s.dev (entryKey (activeBank s.dev) i)) ∧
       d.on rostP HDR.PROG.RUN = false ∧ d = { s.dev with regs := d.regs, rost := d.rost }) ∧
     (s.dev.rost.cmd = 2 →
       ∃ d, Machine.exec .rosterCmdDone s = .next (s.put d) ∧ d.rost.cmd = 0 ∧ d.rost.wet = false ∧
       bankEntries d (!activeBank s.dev) = [] ∧ bankEntries d (activeBank s.dev) = bankEntries s.dev (activeBank s.dev) ∧
       d.on rostP HDR.PROG.RUN = false ∧ d = { s.dev with regs := d.regs, rost := d.rost }))

/-! ### Sampling -/

/-- R222, R223, R225: the arbiter's next request goes to the lowest free slice: its hold tick, its delivery 28 ticks after it
and the slice's occupation are fixed; a guarded request takes no slice and is delivered as skipped. R227: until the unit is
READY every request is skipped so. R224, R230, R244: a request that has waited 600 ticks is given up and counted: one of the
night shift is presented again 64 ticks later, any other is delivered as skipped, after the deliveries of this tick that come
before it. The model's own readings in it: log 59. -/
def Obligations.SliceWork : Prop :=
  (∀ (s : State) (q : Req), awake s.dev = true → nextReq s.dev = some q →
     (s.dev.on adcP ADC.STAT.READY = false →
       ∃ d x, Machine.exec .sliceAssign s = .next (s.put d) ∧ d.samp.dels = s.dev.samp.dels ++ [x] ∧ x.req = q ∧ x.slice = 15 ∧
       x.hold = s.dev.now + 3 * q.acq ∧ x.at_ = x.hold + 28 ∧ d.samp.free = s.dev.samp.free ∧
       d.samp.reqs = s.dev.samp.reqs.filter (fun y => !sameReq y q) ∧ d = { s.dev with samp := d.samp }) ∧
     ∀ (sl : Nat) (rest : List Nat), freeSlices s.dev = sl :: rest → s.dev.on adcP ADC.STAT.READY = true →
     (guarded s.dev q = false → s.dev.samp.diag = none →
       ∃ d x, Machine.exec .sliceAssign s = .next (s.put d) ∧ d.samp.dels = s.dev.samp.dels ++ [x] ∧ x.req = q ∧
       x.hold = s.dev.now + 3 * q.acq ∧ x.at_ = x.hold + 28 ∧ x.slice = sl ∧ x.tdac = none ∧
       d.samp.reqs = s.dev.samp.reqs.filter (fun y => !sameReq y q) ∧
       sget zeroNat d.samp.free sl = s.dev.now + max (3 * q.acq) 24 ∧ d = { s.dev with samp := d.samp }) ∧
     (guarded s.dev q = true →
       ∃ d x, Machine.exec .sliceAssign s = .next (s.put d) ∧ d.samp.dels = s.dev.samp.dels ++ [x] ∧ x.req = q ∧ x.slice = 15 ∧
       x.hold = s.dev.now + 3 * q.acq ∧ x.at_ = x.hold + 28 ∧
       d.fld adcP ADC.COUNT.GUARD_SKIP = satInc 16 (s.dev.fld adcP ADC.COUNT.GUARD_SKIP) ∧
       d = { s.dev with regs := d.regs, events := d.events, samp := d.samp })) ∧
  (∀ (s : State) (q : Req), awake s.dev = true →
     staleReq s.dev = some q → (∀ x ∈ s.dev.samp.dels, x.at_ ≠ x.hold) →
     (q.frame = 17 →
       ∃ d, Machine.exec .stale s = .next (s.put d) ∧
       d.samp = { s.dev.samp with
         reqs := s.dev.samp.reqs.filter (fun y => !sameReq y q) ++ [{ q with arrive := s.dev.now + 64 }] } ∧
       d.on adcP ADC.EVT.STALE = true ∧ d.fld adcP ADC.COUNT.STALE = satInc 16 (s.dev.fld adcP ADC.COUNT.STALE) ∧
       (∀ a, pageBase a ≠ adcP → d.reg a = s.dev.reg a) ∧ d = { s.dev with regs := d.regs, events := d.events, samp := d.samp }) ∧
     (q.frame ≠ 17 → (∃ y ∈ s.dev.samp.dels, y.at_ < s.dev.now ∨ (y.at_ = s.dev.now ∧ y.req.frame < q.frame)) →
       ∃ d, Machine.exec .stale s = .next (s.put d) ∧
       d.samp = { s.dev.samp with reqs := s.dev.samp.reqs.filter (fun y => !sameReq y q),
                                  dels := s.dev.samp.dels ++ [⟨q, s.dev.now, s.dev.now, 15, none, 0, []⟩] } ∧
       d.on adcP ADC.EVT.STALE = true ∧ d.fld adcP ADC.COUNT.STALE = satInc 16 (s.dev.fld adcP ADC.COUNT.STALE) ∧
       (∀ a, pageBase a ≠ adcP → d.reg a = s.dev.reg a) ∧ d = { s.dev with regs := d.regs, events := d.events, samp := d.samp }) ∧
     (q.frame = 16 → q.ctx = 255 → q.res < 64 → q.input < 64 → (∀ x ∈ s.dev.samp.dels, s.dev.now < x.at_) →
       ∃ d, Machine.exec .stale s = .next (s.put d) ∧ bitOf (d.reg (resLo q.res)) 31 = true ∧
       bitOf (d.reg (resLo q.res)) 30 = true ∧ bits (d.reg (resLo q.res)) 0 14 = bits (s.dev.reg (resLo q.res)) 0 14 ∧
       d.on adcP ADC.EVT.STALE = true ∧ d.on adcP ADC.EVT.MAN_DONE = true ∧ d.legs = s.dev.legs ∧ d.eng = s.dev.eng))

/-- R199, R200, R223, R226 to R230, R236, R243, R244, R276: a converted result is corrected by its slice's coefficients. A
background one is kept for the night shift. One of MAN or of a roster entry is written to its result register with its slice,
its input and the next SEQ, before the converters' fast limits see it; one of a roster entry reaches the IN word of its
context too and counts toward its JOB; where it was skipped the IN word takes its prediction, or keeps its code. The model's
own readings in it: log 59, 61. -/
def Obligations.ResultDelivery : Prop :=
  ∀ (s : State) (x : Del) (raw : BitVec 14) (clip : Bool), awake s.dev = true →
    nextDel s.dev = some x → x.tdac = none → (∀ q ∈ s.dev.samp.reqs, s.dev.now < q.arrive + 600) →
    (∀ y ∈ s.dev.samp.dels, y.at_ ≠ y.hold) →
    (x.slice < 12 → x.req.frame = 17 →
      ∃ d, Machine.exec (.resultDelivery raw clip) s = .next (s.put d) ∧
      d.samp.bg = s.dev.samp.bg ++ [(x.req.entry, (corrected s.dev x.slice raw.toNat).1, s.dev.now)] ∧
      d.samp.dels = s.dev.samp.dels.filter (fun y => !sameDel y x) ∧
      (∀ a, pageBase a ≠ sliceP x.slice → d.reg a = s.dev.reg a) ∧ d = { s.dev with regs := d.regs, samp := d.samp }) ∧
    (x.slice < 12 → x.req.frame = 16 → x.req.ctx = 255 → x.req.res < 64 → x.req.input < 64 →
      ∃ d, Machine.exec (.resultDelivery raw clip) s = .next (s.put
        ((convsFast x.req.res (corrected s.dev x.slice raw.toNat).1
          (windowTest x.req.res (corrected s.dev x.slice raw.toNat).1 d)).raise adcP ADC.EVT.MAN_DONE)) ∧
      bits (d.reg (resLo x.req.res)) 0 14 = (corrected s.dev x.slice raw.toNat).1 ∧
      bits (d.reg (resLo x.req.res)) 16 6 = x.req.input ∧ bits (d.reg (resLo x.req.res)) 23 4 = x.slice ∧
      bitOf (d.reg (resLo x.req.res)) 30 = false ∧
      bitOf (d.reg (resLo x.req.res)) 29 = ((corrected s.dev x.slice raw.toNat).2 || clip) ∧
      bits (d.reg (resLo x.req.res + 4)) 28 4 = (bits (s.dev.reg (resLo x.req.res + 4)) 28 4 + 1) % 16 ∧
      (∀ a, pageBase a ≠ sliceP x.slice → a ≠ resLo x.req.res → a ≠ resLo x.req.res + 4 → d.reg a = s.dev.reg a) ∧
      d = { s.dev with regs := d.regs, samp := d.samp, newer := d.newer }) ∧
    (x.slice < 12 → x.req.frame < 16 → x.req.res < 64 → x.req.input < 64 → x.req.sidx < 16 →
      phaseOf s.dev x.req.ctx x.req.sidx = none →
      let code := (corrected s.dev x.slice raw.toNat).1
      ∃ d e, e = convsFast x.req.res code (windowTest x.req.res code d) ∧
      Machine.exec (.resultDelivery raw clip) s = .next (s.put (countSample x.req (voltNote x.req.res
        ((shuntLegs e x).foldl (fun d (a, k, on, act) => shuntNote a k code on act d) e)))) ∧
      (x.req.ctx < 192 → ctxWord d x.req.ctx x.req.sidx = BitVec.ofNat 32 (2 ^ 30 + code)) ∧
      (192 ≤ x.req.ctx → d.eng = s.dev.eng) ∧
      (∀ w, w ≠ x.req.ctx * 128 + x.req.sidx → sget noWord0 d.eng.words w = sget noWord0 s.dev.eng.words w) ∧
      bits (d.reg (resLo x.req.res)) 0 14 = code ∧ bits (d.reg (resLo x.req.res)) 16 6 = x.req.input ∧
      bits (d.reg (resLo x.req.res)) 23 4 = x.slice ∧ bitOf (d.reg (resLo x.req.res)) 22 = false ∧
      bitOf (d.reg (resLo x.req.res)) 30 = false ∧ bitOf (d.reg (resLo x.req.res)) 31 = true ∧
      bits (d.reg (resLo x.req.res + 4)) 24 4 = x.req.frame ∧
      bits (d.reg (resLo x.req.res + 4)) 28 4 = (bits (s.dev.reg (resLo x.req.res + 4)) 28 4 + 1) % 16 ∧
      d.samp.dels = s.dev.samp.dels.filter (fun y => !sameDel y x) ∧
      (∀ a, pageBase a ≠ sliceP x.slice → a ≠ resLo x.req.res → a ≠ resLo x.req.res + 4 → d.reg a = s.dev.reg a) ∧
      d = { s.dev with regs := d.regs, samp := d.samp, newer := d.newer, eng := { s.dev.eng with words := d.eng.words } }) ∧
    (x.slice = 15 → x.req.frame < 16 → x.req.res < 64 → x.req.input < 64 → x.req.sidx < 16 → x.req.ctx < 192 →
      phaseOf s.dev x.req.ctx x.req.sidx = none →
      let p := ctxWord s.dev x.req.ctx (16 + x.req.sidx)
      let w := ctxWord s.dev x.req.ctx x.req.sidx
      let code := if bitOf p 31 then bits p 0 14 else bits w 0 14
      ∃ d, Machine.exec (.resultDelivery raw clip) s = .next (s.put (countSample x.req (voltNote x.req.res d))) ∧
      ctxWord d x.req.ctx x.req.sidx = BitVec.ofNat 32 (2 ^ 31 + b2n (bitOf w 30) * 2 ^ 30 + code) ∧
      (∀ k, k ≠ x.req.ctx * 128 + x.req.sidx → sget noWord0 d.eng.words k = sget noWord0 s.dev.eng.words k) ∧
      bits (d.reg (resLo x.req.res)) 0 14 = (if bitOf p 31 then code else bits (s.dev.reg (resLo x.req.res)) 0 14) ∧
      bitOf (d.reg (resLo x.req.res)) 30 = true ∧ bitOf (d.reg (resLo x.req.res)) 31 = true ∧
      (∀ a, a ≠ resLo x.req.res → a ≠ resLo x.req.res + 4 → d.reg a = s.dev.reg a) ∧
      d = { s.dev with regs := d.regs, samp := d.samp, newer := d.newer, eng := { s.dev.eng with words := d.eng.words } }) ∧
    (∀ j n, x.req.target = some (j, n) → (countSample x.req s.dev).rost.got = s.dev.rost.got ++ [(j, n, x.req.entry)])

/-- R234 to R237: a drained slice goes to PLUMB with the first step of its cycle; a good cycle brings it back on shift with
its new coefficients and no failures, a first failure is recorded and repeats the cycle, a second withdraws the slice. R238:
when the initial calibration of every slice has passed, slices 0 to 10 go on shift, slice 11 is plumbed first and READY is
set. Results for another number of slices are no command. The model's own readings in it: log 63. -/
def Obligations.SliceCalibration : Prop :=
  (∀ (s : State) (sl : Fin 12) (r : PlumbResult) (stop : Nat), awake s.dev = true →
     (sliceState s.dev sl = 2 → (∀ x ∈ s.dev.samp.dels, x.slice ≠ sl.val) → s.dev.samp.drainAt < s.dev.now →
       s.dev.samp.plumb = none →
       ∃ d, Machine.exec (.slicePlumbStart sl) s = .next (s.put d) ∧ sliceState d sl = 3 ∧
       (∀ t, t ≠ sl.val → t < 12 → sliceState d t = sliceState s.dev t) ∧
       d.samp = { s.dev.samp with plumb := some (sl.val, 1, s.dev.now + 49152), plumbWait := false } ∧
       d = { s.dev with regs := d.regs, samp := d.samp }) ∧
     (s.dev.samp.plumb = some (sl.val, 5, stop) → sliceState s.dev sl = 3 → plumbCause r = 0 →
       ∃ d, Machine.exec (.plumbCycleEnd r) s = .next (s.put d) ∧ sliceState d sl = 1 ∧
       d.fld (sliceP sl) SLICE.OFS.OFS = wrapTo 10 r.ofs ∧ d.fld (sliceP sl) SLICE.GAIN.GAIN = wrapTo 12 r.gain ∧
       d.fld (sliceP sl) SLICE.SKEW.SKEW = wrapTo 6 r.skew ∧ d.fld (sliceP sl) SLICE.SSTAT.FAILS = 0 ∧ d.samp.plumb = none ∧
       (∀ t, nextSlice s.dev sl = some t → t ≠ sl.val → sliceState d t = 2) ∧ d = { s.dev with regs := d.regs, samp := d.samp }) ∧
     (s.dev.samp.plumb = some (sl.val, 5, stop) → plumbCause r ≠ 0 → s.dev.fld (sliceP sl) SLICE.SSTAT.FAILS = 0 →
       ∃ d, Machine.exec (.plumbCycleEnd r) s = .next (s.put d) ∧ d.fld (sliceP sl) SLICE.SSTAT.FAILS = 1 ∧
       d.reg (sliceP sl + 0x058) = BitVec.ofNat 32 (2 ^ 31 + plumbCause r) ∧
       d.samp.plumb = some (sl.val, 1, s.dev.now + 49152) ∧ d = { s.dev with regs := d.regs, samp := d.samp }) ∧
     (s.dev.samp.plumb = some (sl.val, 5, stop) → plumbCause r ≠ 0 → s.dev.fld (sliceP sl) SLICE.SSTAT.FAILS ≠ 0 →
       ∃ d, Machine.exec (.plumbCycleEnd r) s = .next (s.put d) ∧ sliceState d sl = 4 ∧ d.samp.plumb = none ∧
       d.on adcP ADC.EVT.SLICE_WITHDRAWN = true ∧
       d.flt = { s.dev.flt with inflight := s.dev.flt.inflight ++ [faultOf adcP 13 sl] } ∧
       d = { s.dev with regs := d.regs, events := d.events, samp := d.samp, flt := d.flt })) ∧
  (∀ (s : State) (rs : List PlumbResult) (stop : Nat), awake s.dev = true →
     (rs.length = 12 → s.dev.samp.plumb = some (15, 5, stop) → (∀ r ∈ rs, plumbCause r = 0) →
       (∀ t, t < 12 → sliceState s.dev t ≠ 4) →
       ∃ d, Machine.exec (.initCalibrationEnd rs) s = .next (s.put d) ∧ sampReady d = true ∧
       (∀ t, t < 11 → sliceState d t = 1) ∧ sliceState d 11 = 3 ∧ d.samp.plumb = some (11, 1, s.dev.now + 49152) ∧
       d.samp.init = [] ∧ d = { s.dev with regs := d.regs, events := d.events, samp := d.samp }) ∧
     (rs.length ≠ 12 → Machine.exec (.initCalibrationEnd rs) s = .fault .illFormed))

/-- R155, R239, R240: a free test DAC goes to the plumb cycle first, then to the other users in their order: a self-test
begins its next step, with the level it injects; a diagnosis that has it is ARMED, gives it up to a plumb cycle, ends at ABORT
and ends with TD_TIMEOUT after 1 ms. R233, R243: MAN with GO asks for one conversion into the firmware's result register, or
is ignored with MAN_IGN; the window limits act at once, and clearing EN takes the window's output down. -/
def Obligations.TestDacManAndWindows : Prop :=
  (∀ (s : State) (who : Requester) (val : Word), s.dev.serves who →
     (∀ q, s.dev.samp.plumb = none → s.dev.samp.plumbWait = false → dacOwner s.dev = 0 → s.dev.samp.queue = .diag :: q →
       ∃ d, Machine.exec .testDacGrant s = .next (s.put d) ∧ dacOwner d = 2 ∧ d.fld adcP ADC.STAT.TD = 2 ∧
       d.samp = { s.dev.samp with queue := q, armedAt := s.dev.now } ∧
       (∀ a, a ≠ adcP + 0x058 → d.reg a = s.dev.reg a) ∧ d = { s.dev with regs := d.regs, samp := d.samp }) ∧
     (∀ (k : Fin 4) q, s.dev.samp.queue = .comp k :: q → ∀ l rest, (s.dev.die k).stLegs = l :: rest → l < 64 →
       s.dev.samp.plumb = none → s.dev.samp.plumbWait = false → dacOwner s.dev = 0 → s.dev.samp.comp = none →
       testable s.dev (64 * k + l) = true →
       ∃ d, Machine.exec .testDacGrant s = .next (s.put d) ∧ dacOwner d = 3 ∧
       d.samp = { s.dev.samp with queue := q, comp := some k.val } ∧
       d.die k = { s.dev.die k with stOn := true, stLevel := stInject s.dev (64 * k + l) (s.dev.die k).stStep (s.dev.die k).stMargin } ∧
       (∀ j, j ≠ k.val → d.die j = s.dev.die j) ∧
       (∀ a, a ≠ adcP + 0x058 → a ≠ ddieP k + 0x02C → a ≠ ddieP k + 0x030 → d.reg a = s.dev.reg a) ∧
       d = { s.dev with dies := d.dies, regs := d.regs, samp := d.samp }) ∧
     (∀ sl step stop, s.dev.samp.plumb = some (sl, step, stop) → s.dev.samp.plumbWait = true → dacOwner s.dev = 0 →
       ∃ d, Machine.exec .testDacGrant s = .next (s.put d) ∧ dacOwner d = 1 ∧
       d.samp = { s.dev.samp with plumbWait := false, plumb := some (sl, step, s.dev.now + 49152) } ∧
       (∀ a, a ≠ adcP + 0x058 → d.reg a = s.dev.reg a) ∧ d = { s.dev with regs := d.regs, samp := d.samp }) ∧
     (∀ sl step stop, s.dev.samp.plumb = some (sl, step, stop) → s.dev.samp.plumbWait = true → dacOwner s.dev = 2 →
       ∃ d, Machine.exec .testDacGrant s = .next (s.put d) ∧ dacOwner d = 1 ∧ d.fld adcP ADC.STAT.TD = 1 ∧
       d.samp = { s.dev.samp with queue := .diag :: s.dev.samp.queue, plumbWait := false,
                                  plumb := some (sl, step, s.dev.now + 49152) } ∧
       (∀ a, a ≠ adcP + 0x058 → d.reg a = s.dev.reg a) ∧ d = { s.dev with regs := d.regs, samp := d.samp }) ∧
     (bitOf val 0 = true → bitOf val 1 = false → s.dev.fld adcP ADC.STAT.TD = 0 →
       ∃ d, Machine.exec (.tdcmdGo who val) s = .next (s.put d) ∧ d.fld adcP ADC.STAT.TD = 1 ∧
       d.samp.diag = some (bits val 8 6, bits val 16 12) ∧ DacUser.diag ∈ d.samp.queue ∧
       (∀ a, a ≠ adcP + 0x058 → d.reg a = s.dev.reg a) ∧
       d = { s.dev with regs := d.regs, samp := d.samp, resp := d.resp, afault := d.afault }) ∧
     (bitOf val 1 = true → s.dev.fld adcP ADC.STAT.TD ≠ 0 →
       ∃ d, Machine.exec (.tdcmdAbort who val) s = .next (s.put d) ∧ d.fld adcP ADC.STAT.TD = 0 ∧ d.samp.diag = none ∧
       DacUser.diag ∉ d.samp.queue ∧ (∀ a, a ≠ adcP + 0x058 → d.reg a = s.dev.reg a) ∧
       d = { s.dev with regs := d.regs, samp := d.samp, resp := d.resp, afault := d.afault }) ∧
     (s.dev.fld adcP ADC.STAT.TD = 2 → s.dev.samp.armedAt + 600000 ≤ s.dev.now →
       ∃ d, Machine.exec .tdTimeout s = .next (s.put d) ∧ d.fld adcP ADC.STAT.TD = 0 ∧ d.samp.diag = none ∧
       d.on adcP ADC.EVT.TD_TIMEOUT = true ∧ d = { s.dev with regs := d.regs, events := d.events, samp := d.samp })) ∧
  (∀ (s : State) (who : Requester) (val : Word), s.dev.serves who →
     (bitOf val 0 = true → s.dev.on adcP ADC.MANRES.VALID = true → s.dev.fld adcP ADC.MANRES.RES = bits val 16 6 →
       (∀ q ∈ s.dev.samp.reqs, q.frame ≠ 16) → (∀ x ∈ s.dev.samp.dels, x.req.frame ≠ 16) →
       sargOk (bits val 8 6) (bits val 29 3) (bits val 22 7) = true →
       ∃ d, Machine.exec (.man who val) s = .next (s.put d) ∧
       d.samp = { s.dev.samp with reqs := s.dev.samp.reqs ++
         [⟨16, 0, bits val 8 6, bits val 29 3, bits val 22 7, bits val 16 6, 255, 0, s.dev.now + 1, none⟩] } ∧
       d = { s.dev with samp := d.samp, resp := d.resp, afault := d.afault }) ∧
     (bitOf val 0 = true → s.dev.on adcP ADC.MANRES.VALID = false →
       ∃ d, Machine.exec (.man who val) s = .next (s.put d) ∧ d.on adcP ADC.EVT.MAN_IGN = true ∧
       (∀ a, a ≠ adcP + 0x05C → d.reg a = s.dev.reg a) ∧
       d = { s.dev with regs := d.regs, events := d.events, resp := d.resp, afault := d.afault }) ∧
     (∀ r : Fin 64,
       ∃ d, Machine.exec (.wincfgWrite who (at_ (resP + 0x300 + 4 * r)) val) s = .next (s.put d) ∧
       d.reg (resP + 0x300 + 4 * r) = val &&& maskAt (resP + 0x300 + 4 * r) ∧
       (∀ a, a ≠ resP + 0x300 + 4 * r → d.reg a = s.dev.reg a) ∧
       d = { s.dev with regs := d.regs, resp := d.resp, afault := d.afault }) ∧
     (∀ r : Fin 64, bitOf val 31 = false →
       ∃ d, Machine.exec (.wincfgWrite who (at_ (resP + 0x400 + 4 * r)) val) s = .next (s.put d) ∧
       d.reg (resP + 0x400 + 4 * r) = val &&& maskAt (resP + 0x400 + 4 * r) ∧
       bitOf (d.reg (resP + 0x050 + r / 32 * 4)) (r % 32) = false ∧ sget zeroNat d.samp.win r = 0 ∧
       d = { s.dev with regs := d.regs, samp := d.samp, resp := d.resp, afault := d.afault }))

/-! ### The engine -/

/-- R251, R255, R256: the lowest free lane takes the first waiting work, which latches its inputs, references and slot; a
stage that completes without side effects writes its outputs to the work, and the next stage begins or the lane is free. The
model's own readings in it: log 62. -/
def Obligations.WorkStartAndRun : Prop :=
  ∀ (s : State) (w : Work), awake s.dev = true →
    (∀ l, freeLane s.dev = some l → waitingWork s.dev = some w → injArmed s.dev = false →
      ∃ d, Machine.exec .workStart s = .next (s.put (convLatch w.ctx d)) ∧
      (∃ x ∈ d.eng.works, x.ctx = w.ctx ∧ x.kind = w.kind ∧ x.lane = some l ∧ x.began = s.dev.now ∧ x.idx = w.idx ∧
        x.first = chainFirst (chainWord s.dev w.ctx) ∧ x.nst = chainNst (chainWord s.dev w.ctx) ∧ x.live = liveScale s.dev w.ctx ∧
        x.slot = slotNow s.dev (chainFirst (chainWord s.dev w.ctx)) ∧
        (∀ i, i < 16 → x.ins.getD i 0 = ctxWord s.dev w.ctx (if w.kind = 2 then 16 + i else i)) ∧
        (∀ i, i < 8 → x.refs.getD i 0 = ctxWord s.dev w.ctx (32 + i))) ∧
      d.eng = { s.dev.eng with works := d.eng.works } ∧ d.eng.works.length = s.dev.eng.works.length ∧
      d = { s.dev with regs := d.regs, eng := d.eng }) ∧
    (∀ (l : Fin 4) (inSlot : Bool), (s.dev.eng.works.find? fun x => x.lane = some l.val) = some w →
      w.began + stageCost (stageOf w.slot).type ≤ s.dev.now → w.dead = false → injArmed s.dev = false →
      let o := runStage (stageOf w.slot) (stageEnv s.dev w)
      let out := stageWrites (stageOf w.slot) o
      let holds := fun (x : Work) =>
        (∀ p ∈ out, (∀ q ∈ out, q.1 = p.1 → q.2 = p.2) → p ∈ x.written) ∧
        (∀ p ∈ w.written, (∀ q ∈ out, q.1 ≠ p.1) → p ∈ x.written) ∧ (∀ p ∈ x.written, p ∈ out ∨ p ∈ w.written)
      o.fx = [] →
      ∃ d, Machine.exec (.workRun l .none inSlot) s = .next (s.put d) ∧
      (w.idx < w.nst → ∃ x ∈ d.eng.works, x.ctx = w.ctx ∧ x.idx = w.idx + 1 ∧ x.began = s.dev.now ∧ x.lane = some l.val ∧
        x.slot = slotNow s.dev (w.first + w.idx + 1) ∧ holds x) ∧
      (w.nst ≤ w.idx → w.passed = false → ctxResetting s.dev w.ctx = false →
        ∃ x ∈ d.eng.works, x.ctx = w.ctx ∧ x.done = true ∧ x.lane = none ∧ holds x) ∧
      d.eng.words = s.dev.eng.words ∧
      d.mem = s.dev.mem ∧ d.legs = s.dev.legs)

/-- R274, R278: work whose last stage and last duty are done commits: its words become set, JSEQ takes its tag and advances,
and the work is gone; what axes and converters make of the commit follows. R279 to R281: a speculative run whose predictions
lie within TOL of the delivered set passes and takes the JOB's tag; one whose predictions do not is squashed, counted, and its
JOB runs again. The model's own readings in it: log 62. -/
def Obligations.JobCommitAndVerify : Prop :=
  (∀ (s : State) (c : Fin 256) (w : Work), awake s.dev = true → committable s.dev c = some w →
     ∃ d, Machine.exec (.jobCommit c) s = .next (s.put (convCommit c (axisCommit c d))) ∧
       (∀ p ∈ w.written, p.1 < 127 → (∀ q ∈ w.written, q.1 = p.1 → q.2 = p.2) → ctxWord d c p.1 = p.2) ∧
       bits (ctxWord d c 127) 24 8 = w.tag % 256 ∧
       (w.written.all (fun p => p.1 != 127) = true →
         bits (ctxWord d c 127) 0 16 = (bits (ctxWord s.dev c 127) 0 16 + 1) % 2 ^ 16) ∧
       (∀ k i, k ≠ c.val → i < 128 → (∀ p ∈ w.written, p.1 < 128) → ctxWord d k i = ctxWord s.dev k i) ∧
       (w.readyAt < s.dev.now → ∀ x ∈ d.eng.works, sameWork x w = false) ∧
       (∀ x ∈ s.dev.eng.works, x.ctx ≠ c.val → x ∈ d.eng.works) ∧
       d = { s.dev with regs := d.regs, events := d.events, eng := d.eng }) ∧
  (∀ (s : State) (c : Fin 256) (v : Verif) (w : Work), awake s.dev = true →
     (s.dev.eng.verifs.find? fun x => x.ctx = c.val) = some v → v.at_ ≤ s.dev.now →
     (s.dev.eng.works.find? fun x => x.ctx = c.val && x.kind = 2) = some w → w.done = false → w.lane ≠ none → w.passed = false →
     w.dead = false →
     (v.always = true ∨ (∀ i ∈ v.inputs, bitOf (ctxWord s.dev c i) 31 = true ∨
         ((bits (ctxWord s.dev c i) 0 14 : Int) - bits (w.ins.getD i 0) 0 14).natAbs ≤ 4 * bits (chainWord s.dev c) 12 6) →
       ∃ d, Machine.exec (.verify c) s = .next (s.put d) ∧
       (∃ x ∈ d.eng.works, x.ctx = c.val ∧ x.kind = 2 ∧ x.passed = true ∧ x.tag = v.tag) ∧
       (∀ x ∈ d.eng.verifs, x.ctx ≠ c.val) ∧ d = { s.dev with regs := d.regs, eng := d.eng }) ∧
     (v.always = false → (∃ i ∈ v.inputs, bitOf (ctxWord s.dev c i) 31 = false ∧
         4 * bits (chainWord s.dev c) 12 6 < ((bits (ctxWord s.dev c i) 0 14 : Int) - bits (w.ins.getD i 0) 0 14).natAbs) →
       ∃ d, Machine.exec (.verify c) s = .next (s.put d) ∧
       (∃ x ∈ d.eng.works, x.ctx = c.val ∧ x.kind = 0 ∧ x.key = v.key ∧ x.tag = v.tag ∧ x.readyAt = s.dev.now) ∧
       (∀ x ∈ d.eng.works, x.ctx = c.val → x.kind = 2 → x.passed = true ∨ x.dead = true) ∧
       d.fld engP ENG.COUNT.SQUASH = satInc 16 (s.dev.fld engP ENG.COUNT.SQUASH) ∧
       d = { s.dev with regs := d.regs, events := d.events, eng := d.eng }))

/-- R287: CTXCMD.RESET schedules a context's reset, which begins at once where none of its work runs; RESET_DONE leaves its
PRE, SIG, STATE and JSEQ words zero, its IN and REF words as they were and every other context's words too. R254, R258:
context RAM takes a write while the context's chain is off, its REF words at any time; a stage slot takes one while no chain
holds it. A write to a live word is ignored with its event, but for the parameters of a live slot. The model's own readings in
it: log 105. -/
def Obligations.ContextAccess : Prop :=
  (∀ (s : State) (who : Requester) (val : Word) (c : Fin 256), s.dev.serves who →
     (bitOf val 0 = true → bits val 8 8 < 192 → s.dev.eng.resets = [] → (∀ w ∈ s.dev.eng.works, w.ctx ≠ bits val 8 8) →
       ∃ d, Machine.exec (.ctxcmdReset who val) s = .next (s.put d) ∧ d.eng.resets = [⟨bits val 8 8, true, none⟩] ∧
       d.eng.words = s.dev.eng.words ∧ d = { s.dev with regs := d.regs, eng := d.eng, resp := d.resp, afault := d.afault }) ∧
     (bitOf val 0 = true → 192 ≤ bits val 8 8 ∨ s.dev.eng.resets ≠ [] →
       ∃ d, Machine.exec (.ctxcmdReset who val) s = .next (s.put d) ∧ d.on engP ENG.EVT.CMD_IGN = true ∧
       d = { s.dev with regs := d.regs, events := d.events, resp := d.resp, afault := d.afault }) ∧
     (s.dev.eng.resets = [⟨c.val, true, none⟩] →
       ∃ d, Machine.exec (.resetDone c) s = .next (s.put d) ∧ d.eng.resets = [] ∧
       (∀ i, (16 ≤ i ∧ i < 32) ∨ (40 ≤ i ∧ i < 128) → ctxWord d c i = 0) ∧
       (∀ i, i < 16 ∨ (32 ≤ i ∧ i < 40) → ctxWord d c i = ctxWord s.dev c i) ∧
       (∀ k i, k ≠ c.val → i < 128 → ctxWord d k i = ctxWord s.dev k i) ∧ d.on engP ENG.EVT.RESET_DONE = true ∧
       d = { s.dev with regs := d.regs, events := d.events, eng := d.eng })) ∧
  (∀ (s : State) (who : Requester) (val : Word), s.dev.serves who →
     (∀ c w, c < 192 → w < 128 → chainEn s.dev c = false ∨ (32 ≤ w ∧ w < 40) →
       ∃ d, Machine.exec (.contextWrite who (at_ (0x30000000 + 0x400 * c + 4 * w)) val) s = .next (s.put d) ∧
       ctxWord d c w = (if 32 ≤ w ∧ w < 40 then val else val &&& ctxMask w) ∧
       (∀ k i, k * 128 + i ≠ c * 128 + w → ctxWord d k i = ctxWord s.dev k i) ∧
       d = { s.dev with eng := { s.dev.eng with words := d.eng.words }, resp := d.resp, afault := d.afault }) ∧
     (∀ c w, c < 192 → w < 128 → chainEn s.dev c = true → w < 32 ∨ 40 ≤ w →
       ∃ d, Machine.exec (.contextWrite who (at_ (0x30000000 + 0x400 * c + 4 * w)) val) s = .next (s.put d) ∧
       d.on engP ENG.EVT.CTX_LIVE_WRITE = true ∧
       d = { s.dev with regs := d.regs, events := d.events, resp := d.resp, afault := d.afault }) ∧
     (∀ k i, k < 4096 → i < 8 → liveIn s.dev k = none →
       ∃ d, Machine.exec (.stageWrite who (at_ (0x30040000 + 32 * k + 4 * i)) val) s = .next (s.put d) ∧ slotWord d k i = val ∧
       (∀ j m, j * 8 + m ≠ k * 8 + i → slotWord d j m = slotWord s.dev j m) ∧
       d = { s.dev with eng := d.eng, resp := d.resp, afault := d.afault }) ∧
     (∀ k i c, k < 4096 → i < 8 → liveIn s.dev k = some c →
       ∃ d, Machine.exec (.stageWrite who (at_ (0x30040000 + 32 * k + 4 * i)) val) s = .next (s.put d) ∧
       (i < 2 → d.on engP ENG.EVT.STAGE_LIVE_WRITE = true ∧ slotWord d k i = slotWord s.dev k i) ∧
       (2 ≤ i → bits (slotWord d k i) 0 24 = bits val 0 24 ∧ bits (slotWord d k i) 24 8 = bits (slotWord s.dev k i) 24 8) ∧
       (∀ j m, j * 8 + m ≠ k * 8 + i → slotWord d j m = slotWord s.dev j m)))

/-! ### Axes -/

/-- R322 to R326, R315, R329: START takes an idle axis to SOUNDING with a window that waits for a reload, or starts with that
of this tick, or is ignored where the axis may not start; STOP decelerates a running axis and ends a sounding; COAST coasts;
FO_RESET clears both failovers. Two bits together are ignored. A command on a tick on which the axis has taken a cause that
comes before commands waits; one that comes after is undone, and judged again on the next tick. The model's own readings in
it: log 64, 65, 98, 106. -/
def Obligations.AxisCommands : Prop :=
  ∀ (s : State) (who : Requester) (a : Fin 16) (val : Word), s.dev.serves who → s.dev.hears who →
    let reloads := frameRun s.dev (axFrame s.dev a) = true ∧ (s.dev.frame (axFrame s.dev a)).reload = s.dev.now
    let ready := causeFree s.dev a = true ∧ (s.dev.axis a).late = []
    let others := fun d : Dev => (∀ b, b ≠ a.val → d.axis b = s.dev.axis b) ∧
      (∀ r, pageBase r ≠ axisP a → d.reg r = s.dev.reg r) ∧ (∀ n, d.gates n = s.dev.gates n) ∧
      d = { s.dev with regs := d.regs, events := d.events, axes := d.axes, legs := d.legs, plans := d.plans, eng := d.eng,
                       turns := d.turns, resp := d.resp, afault := d.afault }
    (bits val 0 4 = 1 → ready → axisState s.dev a = 0 → axOn s.dev a = true →
      (s.dev.mode = .run ∨ s.dev.mode = .limp) → vbAtLeast s.dev a AXIS.BUSL.BUS_LO = true →
      ∃ d, Machine.exec (.start who a val) s = .next (s.put d) ∧ axisState d a = 1 ∧ d.on (axisP a) AXIS.HSTAT.RUNREQ = true ∧
      (d.axis a).hold = .off ∧ (¬ reloads → (d.axis a).window = some freshWindow) ∧
      (reloads → ∃ w, (d.axis a).window = some w ∧ w.start = some s.dev.now) ∧ others d) ∧
    (bits val 0 4 = 1 → ready → axisState s.dev a = 0 →
      (axOn s.dev a = false ∨ (s.dev.mode ≠ .run ∧ s.dev.mode ≠ .limp) ∨ vbAtLeast s.dev a AXIS.BUSL.BUS_LO = false) →
      ∃ d, Machine.exec (.start who a val) s = .next (s.put d) ∧ d.on (axisP a) AXIS.EVT.CMD_IGN = true ∧
      axisState d a = 0 ∧ d.axis a = { s.dev.axis a with cause := some s.dev.now } ∧ d.legs = s.dev.legs ∧ d.eng = s.dev.eng ∧ others d) ∧
    (bits val 0 4 = 2 → ready → axisState s.dev a = 4 →
      ∃ d, Machine.exec (.stop who a val) s = .next (s.put d) ∧ axisState d a = 5 ∧ d.on (axisP a) AXIS.HSTAT.RUNREQ = false ∧
      (d.axis a).hold = .none ∧ others d) ∧
    (bits val 0 4 = 2 → ready → axisState s.dev a = 1 →
      ∃ d, Machine.exec (.stop who a val) s = .next (s.put d) ∧ axisState d a = 0 ∧ d.on (axisP a) AXIS.HSTAT.RUNREQ = false ∧
      (d.axis a).hold = .off ∧ (d.axis a).window = none ∧ others d) ∧
    (bits val 0 4 = 4 → ready → 1 ≤ axisState s.dev a → axisState s.dev a ≤ 5 →
      ∃ d, Machine.exec (.coast who a val) s = .next (s.put d) ∧ axisState d a = 6 ∧
      d.on (axisP a) AXIS.HSTAT.RUNREQ = false ∧ ((d.axis a).hold = .off ∨ (d.axis a).hold = .short) ∧
      (d.axis a).resoundAt = s.dev.now + s.dev.fld (axisP a) AXIS.CATCH.RESOUND * 60000 ∧ others d) ∧
    (bits val 0 4 = 8 → ready → (axisState s.dev a = 0 ∨ axisState s.dev a = 8) →
      ∃ d, Machine.exec (.foReset who a val) s = .next (s.put d) ∧ setFailed d a 0 = false ∧ setFailed d a 1 = false ∧
      axisState d a = axisState s.dev a ∧ d.mem = s.dev.mem ∧ d.legs = s.dev.legs) ∧
    (bitOf val 0 = true → bitOf val 1 = true →
      ∃ d, Machine.exec (.start who a val) s = .next (s.put d) ∧ d.on (axisP a) AXIS.EVT.CMD_IGN = true ∧
      d.axes = s.dev.axes ∧ others d) ∧
    (bits val 0 4 = 4 → axisMay s.dev a 3 = true → (s.dev.axis a).late = [] →
      1 ≤ axisState (axisBack a s.dev) a → axisState (axisBack a s.dev) a ≤ 5 →
      ∃ d, Machine.exec (.coast who a val) s = .next (s.put d) ∧ axisState d a = 6 ∧
      d.on (axisP a) AXIS.HSTAT.RUNREQ = false ∧ (d.axis a).cause = some s.dev.now ∧ (∀ n, d.gates n = s.dev.gates n) ∧
      d.mem = s.dev.mem) ∧
    (bits val 0 4 = 4 → axisMay s.dev a 3 = false ∨ (s.dev.axis a).late ≠ [] →
      ∃ d, Machine.exec (.coast who a val) s = .next (s.put d) ∧
      d.axis a = { s.dev.axis a with late := (s.dev.axis a).late ++ [val] } ∧ d.regs = s.dev.regs ∧ others d)

/-- R330 to R332, R339, R346, R317: what ends by itself on an axis: a sounding window by its class, a catch by RESID and the
direction, the wait for the next window of a coast, the observer-loss ramp, whose gains go back to the slot they came from,
and the locked-rotor count. Where the axis has taken another cause of the tick, the end of a window is owed on the next. The
model's own readings in it: log 64. -/
def Obligations.AxisProgress : Prop :=
  ∀ (s : State) (a : Fin 16), awake s.dev = true →
    let reloads := frameRun s.dev (axFrame s.dev a) = true ∧ (s.dev.frame (axFrame s.dev a)).reload = s.dev.now
    (∀ w, axisState s.dev a = 1 → (s.dev.axis a).window = some w → w.start ≠ none → w.stop ≤ s.dev.now →
      causeFree s.dev a = true →
      ∃ d, Machine.exec (.soundingWindowEnd a) s = .next (s.put d) ∧ (d.axis a).window = none ∧
      d.fld (axisP a) AXIS.SNDR.RESULT = windowClass w ∧
      (windowClass w = 1 → axisState d a = 3 ∧ (d.axis a).hold = .none) ∧
      (windowClass w = 4 → axisState d a = 0 ∧ d.on (axisP a) AXIS.EVT2.SOUND_FAIL = true ∧
        d.on (axisP a) AXIS.HSTAT.RUNREQ = false) ∧
      (windowClass w = 2 ∨ windowClass w = 3 →
        ((⟨windowFe w, -60⟩ : Dy).abs.le ⟨bits (w.par.getD 0 0) 0 16, 0⟩ = true →
          axisState d a = 2 ∧ (d.axis a).seed = some (w, windowFe w) ∧ (d.axis a).hold = .off) ∧
        ((⟨windowFe w, -60⟩ : Dy).abs.le ⟨bits (w.par.getD 0 0) 0 16, 0⟩ = false → axisState d a = 6)) ∧
      (∀ b, b ≠ a.val → d.axis b = s.dev.axis b) ∧ (∀ n, d.gates n = s.dev.gates n) ∧ d.mem = s.dev.mem) ∧
    (∀ w fe t, axisState s.dev a = 2 → (s.dev.axis a).seed = some (w, fe) → (s.dev.axis a).catchAt = some t →
      causeFree s.dev a = true → t + bits (w.par.getD 4 0) 24 8 * 60000 ≤ s.dev.now →
      ∃ d, Machine.exec (.catchEnd a) s = .next (s.put d) ∧
      (residBad s.dev a = false → d.fld (axisP a) AXIS.HSTAT.CFAILS = 0 ∧
        axisState d a = (if 0 ≤ (axisFe s.dev a).m then 4 else 5) ∧ (d.axis a).hold = .none) ∧
      (residBad s.dev a = true → axisState d a = 6 ∧ d.on (axisP a) AXIS.EVT2.CATCH_FAIL = true) ∧
      (∀ b, b ≠ a.val → d.axis b = s.dev.axis b) ∧ (∀ n, d.gates n = s.dev.gates n) ∧ d.mem = s.dev.mem) ∧
    (axisState s.dev a = 6 → (s.dev.axis a).window = none → (s.dev.axis a).resoundAt ≤ s.dev.now → resoundOk s.dev a = true →
      ∃ d, Machine.exec (.resoundStart a) s = .next (s.put d) ∧
      (¬ reloads → d.axis a = { s.dev.axis a with window := some freshWindow }) ∧
      (reloads → ∃ w, d.axis a = { s.dev.axis a with window := some w } ∧ w.start = some s.dev.now) ∧ (∀ b, b ≠ a.val → d.axis b = s.dev.axis b) ∧
      d = { s.dev with axes := d.axes }) ∧
    (axisState s.dev a = 4 → s.dev.on (axisP a) AXIS.HSTAT.LOST = true → causeFree s.dev a = true →
      (s.dev.axis a).lostAt + 1200000 ≤ s.dev.now →
      ∃ d, Machine.exec (.obsLossRampEnd a) s = .next (s.put d) ∧ axisState d a = 6 ∧
      d.on (axisP a) AXIS.HSTAT.LOST = false ∧ (∀ b, b ≠ a.val → d.axis b = s.dev.axis b) ∧
      (∀ n, d.gates n = s.dev.gates n) ∧
      bits (slotWord d (s.dev.axis a).lossSlot 2) 0 24 = (s.dev.axis a).gains.1 % 2 ^ 24 ∧
      bits (slotWord d (s.dev.axis a).lossSlot 3) 0 24 = (s.dev.axis a).gains.2 % 2 ^ 24 ∧
      d = { s.dev with regs := d.regs, events := d.events, axes := d.axes, legs := d.legs, plans := d.plans, eng := d.eng,
                       turns := d.turns }) ∧
    (∀ w, axisState s.dev a = 1 → (s.dev.axis a).window = some w → w.start ≠ none → w.stop ≤ s.dev.now →
      axisMay s.dev a 4 = false →
      ∃ d, Machine.exec (.soundingWindowEnd a) s = .next (s.put d) ∧ d.axis a = { s.dev.axis a with owedOwn := true } ∧
      (∀ b, b ≠ a.val → d.axis b = s.dev.axis b) ∧ d = { s.dev with axes := d.axes }) ∧
    (∀ t, axOn s.dev a = true → lockArmed s.dev a = true → (s.dev.axis a).lrAt = some t → (s.dev.axis a).lrSent = false →
      t + s.dev.fld (axisP a) AXIS.LR.LR_TIME * 60000 ≤ s.dev.now →
      ∃ d, Machine.exec (.lockedRotor a) s = .next (s.put d) ∧ (d.axis a).lrSent = true ∧
      d.on (axisP a) AXIS.EVT.LOCKED = true ∧
      d.flt = { s.dev.flt with inflight := s.dev.flt.inflight ++ [faultOf (axisP a) 26 0] } ∧
      (∀ r, r ≠ axisP a + 0x0A8 → d.reg r = s.dev.reg r) ∧
      d = { s.dev with regs := d.regs, events := d.events, axes := d.axes, flt := d.flt })

/-! ### Feedback channels -/

/-- R354, R355, R359, R366, R368, R360, R363, R371 to R375: a legal change of A or B that has passed the filter counts by one
in its direction; levels that the pins have held for less than FILT + 2 ticks do nothing, and one within FILT ticks of the
last leaves its line as it was; an index event captures the position and homes the channel; a gate ends its counts and a read
of the absolute word begins; the word is what DATA held at its sample ticks, and a DATA that is low at the idle check sets the
cause; an emulation step moves the output count by one toward its target. The model's own readings in it: log 67. -/
def Obligations.FeedbackChannel : Prop :=
  ∀ (s : State) (k : Fin 16), awake s.dev = true → fbOn s.dev k = true →
    let frame := fun d : Dev => (∀ j, j ≠ k.val → d.fb j = s.dev.fb j) ∧ d.legs = s.dev.legs ∧ d.mem = s.dev.mem ∧
      (∀ r, pageBase r ≠ fbP k → d.reg r = s.dev.reg r) ∧
      d = { s.dev with regs := d.regs, events := d.events, fbs := d.fbs, axes := d.axes, flt := d.flt, free := d.free,
                       turns := d.turns }
    let held := fun (n : BitVec 16) => s.dev.fld (fbP k) FB.CFG.FILT + 2 ≤ n.toNat
    (∀ (l : BitVec 3) (n : BitVec 16), ¬ held n → Machine.exec (.fbCount k l n) s = .next s) ∧
    (∀ (l : BitVec 3) (n : BitVec 16), held n → fbMode s.dev k = 0 →
      (∀ t, some t ∈ (s.dev.fb k).change → t + s.dev.fld (fbP k) FB.EDGE.MIN_EDGE ≤ s.dev.now ∧
        t + s.dev.fld (fbP k) FB.CFG.FILT + 1 ≤ s.dev.now) →
      quad l = (quad (BitVec.ofNat 3 (s.dev.fld (fbP k) FB.FSTAT.LINES)) + 1) % 4 ∨
        quad (BitVec.ofNat 3 (s.dev.fld (fbP k) FB.FSTAT.LINES)) = (quad l + 1) % 4 →
      ∃ d, Machine.exec (.fbCount k l n) s = .next (s.put d) ∧
      fbPos d k = (BitVec.ofInt 32 (fbPos s.dev k + (if
        (quad l == (quad (BitVec.ofNat 3 (s.dev.fld (fbP k) FB.FSTAT.LINES)) + 1) % 4) == fbRev s.dev k then -1 else 1))).toInt ∧
      d.fld (fbP k) FB.FSTAT.LINES = l.toNat ∧ d.fld (fbP k) FB.COUNT.EDGE = s.dev.fld (fbP k) FB.COUNT.EDGE ∧ frame d) ∧
    (∀ (l : BitVec 3) (n : BitVec 16), held n → fbMode s.dev k = 0 →
      (∀ t, some t ∈ (s.dev.fb k).change → t + s.dev.fld (fbP k) FB.EDGE.MIN_EDGE ≤ s.dev.now ∧
        t + s.dev.fld (fbP k) FB.CFG.FILT + 1 ≤ s.dev.now) →
      (quad l + 2) % 4 = quad (BitVec.ofNat 3 (s.dev.fld (fbP k) FB.FSTAT.LINES)) →
      ∃ d, Machine.exec (.fbCount k l n) s = .next (s.put d) ∧ fbPos d k = fbPos s.dev k ∧
      d.on (fbP k) FB.EVT.EDGE = true ∧ d.on (fbP k) FB.FSTAT.HOMED = false ∧
      d.fld (fbP k) FB.COUNT.EDGE = satInc 16 (s.dev.fld (fbP k) FB.COUNT.EDGE) ∧ frame d) ∧
    (∀ (l : BitVec 3) (n : BitVec 16), held n → (∀ i, i < 3 → lineWithin s.dev k i (s.dev.fld (fbP k) FB.CFG.FILT + 1) = true) →
      ∃ d, Machine.exec (.fbCount k l n) s = .next (s.put d) ∧ d.fld (fbP k) FB.FSTAT.LINES = s.dev.fld (fbP k) FB.FSTAT.LINES ∧
      fbPos d k = fbPos s.dev k ∧ d.fb k = s.dev.fb k ∧ frame d) ∧
    (∀ cap : Int, (s.dev.fb k).idxDue = some cap → s.dev.on (fbP k) FB.FSTAT.HOMED = false → cap = fbPos s.dev k →
      0 < fbCpr s.dev k → fbCpr s.dev k < 2 ^ 30 →
      ∃ d, Machine.exec (.indexEvent k) s = .next (s.put d) ∧ d.reg (fbP k + 0x090) = s.dev.reg (fbP k + 0x080) ∧
      d.on (fbP k) FB.FSTAT.HOMED = true ∧ d.on (fbP k) FB.EVT.HOMED = true ∧ (d.fb k).idxDue = none ∧
      d.reg (fbP k + 0x080) = BitVec.ofInt 32 (cap - deviation s.dev k cap) ∧ d.on (fbP k) FB.IDXDEV.VALID = true ∧ frame d) ∧
    (∀ g, g = max 1 (s.dev.fld (fbP k) FB.SPDCFG.GATE) → (s.dev.fb k).gateAt < s.dev.now / g * g →
      ∃ d, Machine.exec (.fbGate k) s = .next (s.put d) ∧ (d.fb k).delta = 0 ∧ (d.fb k).gateAt = s.dev.now / g * g ∧
      d.reg (fbP k + 0x080) = s.dev.reg (fbP k + 0x080) ∧
      (s.dev.fld (fbP k) FB.SPDCFG.CO_HI ≤ (s.dev.fb k).delta.natAbs → d.fld (fbP k) FB.FSTAT.METHOD = 1) ∧
      (fbMode s.dev k = 2 → (d.fb k).readAt = some (s.dev.now / g * g)) ∧
      (fbMode s.dev k ≠ 2 → (s.dev.fb k).delta.natAbs < s.dev.fld (fbP k) FB.SPDCFG.CO_LO →
        (s.dev.fb k).delta.natAbs < s.dev.fld (fbP k) FB.SPDCFG.CO_HI →
        d.fld (fbP k) FB.FSTAT.METHOD = 0 ∧
        d.reg (fbP k + 0x084) = BitVec.ofInt 32 (satTo 32 (if s.dev.on (fbP k) FB.FSTAT.DIR = true
          then -(periodSpeed s.dev k (s.dev.now / g * g)) else periodSpeed s.dev k (s.dev.now / g * g)))) ∧ frame d) ∧
    (∀ t, (s.dev.fb k).readAt = some t → t + absTicks s.dev k ≤ s.dev.now → s.dev.fld (fbP k) FB.ABS.CHK = 0 →
      s.dev.fld (fbP k) FB.ABS.SBITS = 0 →
      (s.dev.on (fbP k) FB.ABS.GRAY = false → (s.dev.fb k).prev = none →
        dataAt s.dev k (t + absTicks s.dev k) = true →
        ∃ d, Machine.exec (.absReadEnd k) s = .next (s.put d) ∧ (d.fb k).readAt = none ∧
        d.reg (fbP k + 0x080) = BitVec.ofNat 32 (absWord s.dev k t % 2 ^ s.dev.fld (fbP k) FB.ABS.PBITS) ∧
        d.on (fbP k) FB.FSTAT.HOMED = true ∧ (d.fb k).prev = some (absWord s.dev k t % 2 ^ s.dev.fld (fbP k) FB.ABS.PBITS) ∧ frame d) ∧
      (dataAt s.dev k (t + absTicks s.dev k) = false →
        ∃ d, Machine.exec (.absReadEnd k) s = .next (s.put d) ∧ (d.fb k).readAt = none ∧
        d.on (fbP k) FB.EVT.ABS_FAIL = true ∧ d.fld (fbP k) FB.ABSSTAT.CAUSE = 2 ∧ fbPos d k = fbPos s.dev k ∧
        (∃ rest, d.flt.inflight = s.dev.flt.inflight ++ faultOf (fbP k) 35 2 :: rest) ∧ frame d)) ∧
    (emuOn s.dev k = true → fbCprEff s.dev k ≠ 0 →
      (s.dev.fb k).emuAt + s.dev.fld (fbP k) FB.EMU2.EMIN ≤ s.dev.now →
      ∃ d, Machine.exec (.emuStep k) s = .next (s.put d) ∧
      ((d.fb k).emu - (s.dev.fb k).emu = ((emuTarget k s.dev).1 - (s.dev.fb k).emu).sign) ∧
      (fbPos d k = fbPos s.dev k) ∧ frame d)

/-- R370, R377: SET_POS takes PRESET as the position, to which the counts of its tick then add, and in INC takes HOMED back;
CLR_HOMED and CLR_FAIL clear their bit. The model's own readings in it: log 67. -/
def Obligations.FeedbackCommands : Prop :=
  ∀ (s : State) (who : Requester) (k : Fin 16) (val : Word), s.dev.serves who → s.dev.hears who →
    (∀ (b : Dev) (l : BitVec 3), bits val 0 3 = 1 → s.dev = fbTurn k (some l) b → fbOn b k = true → fbMode b k = 0 →
      (∀ t ∈ b.turns, ¬(t.who = 32 + k.val ∧ t.tick = b.now)) →
      let q := quad (BitVec.ofNat 3 (b.fld (fbP k) FB.FSTAT.LINES))
      quad l = (q + 1) % 4 ∨ q = (quad l + 1) % 4 →
      ∃ d, Machine.exec (.setPos who k val) s = .next (s.put d) ∧
      d.reg (fbP k + 0x080) = BitVec.ofInt 32 ((s.dev.reg (fbP k + 0x074)).toInt +
        (if (quad l == (q + 1) % 4) == fbRev b k then -1 else 1)) ∧
      d.on (fbP k) FB.FSTAT.HOMED = false ∧ (∀ r, pageBase r ≠ fbP k → d.reg r = s.dev.reg r) ∧ d.legs = s.dev.legs) ∧
    (bits val 0 3 = 1 → (∀ t ∈ s.dev.turns, ¬(t.who = 32 + k.val ∧ t.tick = s.dev.now)) →
      ∃ d, Machine.exec (.setPos who k val) s = .next (s.put d) ∧ d.reg (fbP k + 0x080) = s.dev.reg (fbP k + 0x074) ∧
      (fbMode s.dev k = 0 → d.on (fbP k) FB.FSTAT.HOMED = false) ∧
      (fbMode s.dev k ≠ 0 → d.on (fbP k) FB.FSTAT.HOMED = s.dev.on (fbP k) FB.FSTAT.HOMED) ∧
      (∀ j, j ≠ k.val → d.fb j = s.dev.fb j) ∧ (∀ r, pageBase r ≠ fbP k → d.reg r = s.dev.reg r) ∧
      d = { s.dev with regs := d.regs, events := d.events, fbs := d.fbs, axes := d.axes, free := d.free, resp := d.resp,
                       afault := d.afault }) ∧
    (bits val 0 3 = 2 →
      ∃ d, Machine.exec (.clrHomed who k val) s = .next (s.put d) ∧ d.on (fbP k) FB.FSTAT.HOMED = false ∧
      d.on (fbP k) FB.FSTAT.FAILED = s.dev.on (fbP k) FB.FSTAT.FAILED ∧ (∀ r, r ≠ fbP k + 0x08C → d.reg r = s.dev.reg r) ∧
      d = { s.dev with regs := d.regs, resp := d.resp, afault := d.afault }) ∧
    (bits val 0 3 = 4 →
      ∃ d, Machine.exec (.clrFail who k val) s = .next (s.put d) ∧ d.on (fbP k) FB.FSTAT.FAILED = false ∧
      d.on (fbP k) FB.FSTAT.HOMED = s.dev.on (fbP k) FB.FSTAT.HOMED ∧ (∀ r, r ≠ fbP k + 0x08C → d.reg r = s.dev.reg r) ∧
      d = { s.dev with regs := d.regs, resp := d.resp, afault := d.afault })

/-! ### Converters -/

/-- R387 to R389, R392, R393, R396, R399 to R401: START takes an idle converter to STARTING, a dump to HOLDING, or is ignored;
STOP takes it to IDLE, where an own transition of its tick is undone first; a command after a cause that precedes commands
waits; a fast-trip window forgets its trips; a pause ends; an overload is counted each 0.1 ms and reported when the count has
reached OL_TIME; the contactor's delay ends in RUNNING and a precharge that takes too long is reported; a last-fault record
reaches MRAM, but for words of a protected image slot (R513), and waits while its requester is masked. The model's own
readings in it: log 64, 66, 77, 101, 106. -/
def Obligations.ConverterProgress : Prop :=
  ∀ (s : State) (who : Requester) (c : Fin 16) (val : Word), s.dev.serves who →
    let ready := convFree s.dev c = true ∧ (s.dev.conv c).late = []
    let frame := fun d : Dev => (∀ k, k ≠ c.val → d.conv k = s.dev.conv k) ∧
      (∀ r, pageBase r ≠ convP c → d.reg r = s.dev.reg r) ∧ (∀ n, d.gates n = s.dev.gates n) ∧
      d = { s.dev with regs := d.regs, events := d.events, convs := d.convs, legs := d.legs, plans := d.plans, flt := d.flt,
                       turns := d.turns, resp := d.resp, afault := d.afault }
    (s.dev.hears who → bits val 0 2 = 1 → ready → convOn s.dev c = true →
      convState s.dev c = 0 → (s.dev.mode = .run ∨ s.dev.mode = .limp) →
      (convSupply s.dev c = true ∨ convRole s.dev c = 4 →
        ∃ d, Machine.exec (.convStart who c val) s = .next (s.put d) ∧ convState d c = 3 ∧ (d.conv c).hold = .none ∧
        (d.conv c).startAt = s.dev.now ∧ (convSupply s.dev c = true → (d.conv c).vss = vssFrom s.dev c) ∧
        d.flt = s.dev.flt ∧ frame d) ∧
      (convRole s.dev c = 5 →
        ∃ d, Machine.exec (.convStart who c val) s = .next (s.put d) ∧ convState d c = 7 ∧ (d.conv c).hold = .off ∧
        d.flt = s.dev.flt ∧ frame d)) ∧
    (s.dev.hears who → bits val 0 2 = 1 → ready →
      (convOn s.dev c = false ∨ convState s.dev c ≠ 0 ∨ (s.dev.mode ≠ .run ∧ s.dev.mode ≠ .limp)) →
      ∃ d, Machine.exec (.convStart who c val) s = .next (s.put d) ∧ d.on (convP c) CONV.EVT.CMD_IGN = true ∧
      convState d c = convState s.dev c ∧
      d.conv c = { s.dev.conv c with cause := some s.dev.now, rank := 3, was := convState s.dev c } ∧ d.legs = s.dev.legs ∧ d.flt = s.dev.flt ∧ frame d) ∧
    (s.dev.hears who → bits val 0 2 = 2 → convMay s.dev c 3 = true → (s.dev.conv c).late = [] →
      convOn (convBack c s.dev) c = true → (let st := convState (convBack c s.dev) c; st = 3 ∨ st = 4 ∨ st = 7) →
      ∃ d, Machine.exec (.convStop who c val) s = .next (s.put d) ∧ convState d c = 0 ∧ (d.conv c).hold = .off ∧
      (d.conv c).cause = some s.dev.now ∧ (∀ n, d.gates n = s.dev.gates n) ∧ d.mem = s.dev.mem) ∧
    (s.dev.hears who → bits val 0 2 ≠ 0 → convMay s.dev c 3 = false ∨ (s.dev.conv c).late ≠ [] →
      ∃ d, Machine.exec (.convStart who c val) s = .next (s.put d) ∧
      d.conv c = { s.dev.conv c with late := (s.dev.conv c).late ++ [val] } ∧ d.regs = s.dev.regs ∧ frame d) ∧
    (s.dev.hears who → bits val 0 2 = 2 → ready → convOn s.dev c = true →
      (convState s.dev c = 3 ∨ convState s.dev c = 4 ∨ convState s.dev c = 7) →
      ∃ d, Machine.exec (.convStop who c val) s = .next (s.put d) ∧ convState d c = 0 ∧ (d.conv c).hold = .off ∧
      d.on (convP c) CONV.CSTAT.CTC = false ∧ d.on (convP c) CONV.CSTAT.PAUSE = false ∧ d.flt = s.dev.flt ∧ frame d) ∧
    ((s.dev.conv c).trips ≠ 0 → (s.dev.conv c).tripAt + 60000 * s.dev.fld (convP c) CONV.FASTW.FAST_WIN ≤ s.dev.now →
      ∃ d, Machine.exec (.fastWinExpiry c) s = .next (s.put d) ∧ d.conv c = { s.dev.conv c with trips := 0 } ∧
      d.fld (convP c) CONV.CSTAT.FTRIPS = 0 ∧ convState d c = convState s.dev c ∧ frame d) ∧
    (convState s.dev c = 7 → s.dev.on (convP c) CONV.CSTAT.PAUSE = true →
      max 1 (s.dev.fld (convP c) CONV.FASTL.FAST_OFF) ≤ (s.dev.conv c).pause →
      (convFree s.dev c = false ∧ convRole s.dev c ≠ 5 → ∃ d, Machine.exec (.fastPauseEnd c) s = .next (s.put d) ∧
        d.conv c = { s.dev.conv c with owedPause := true } ∧ d = { s.dev with convs := d.convs }) ∧
      (convFree s.dev c = true ∨ convRole s.dev c = 5 → ∃ d, Machine.exec (.fastPauseEnd c) s = .next (s.put d) ∧ d.on (convP c) CONV.CSTAT.PAUSE = false ∧
      convState d c = (if convRole s.dev c = 5 then 7 else 3) ∧
      (convRole s.dev c ≠ 5 → (d.conv c).hold = .none) ∧ frame d)) ∧
    ((s.dev.conv c).pause < s.dev.fld (convP c) CONV.FASTL.FAST_OFF → Machine.exec (.fastPauseEnd c) s = .next s) ∧
    (∀ t, t = (s.dev.conv c).stepAt / 60000 * 60000 + 60000 → t ≤ s.dev.now → convOn s.dev c = true →
      convRunning s.dev c = true → s.dev.fld (convP c) CONV.VSTAT.OLCNT < 65535 →
      ((scaledLimit s.dev c CONV.ILIM.OL_I).lt (tapIl s.dev c).abs = true →
        ∃ d, Machine.exec (.overloadStep c) s = .next (s.put d) ∧ (d.conv c).stepAt = t ∧
        d.fld (convP c) CONV.VSTAT.OLCNT = s.dev.fld (convP c) CONV.VSTAT.OLCNT + 1 ∧
        (s.dev.fld (convP c) CONV.ILIM.OL_I ≠ 0 → s.dev.fld (convP c) CONV.OLT.OL_TIME ≠ 0 →
          s.dev.fld (convP c) CONV.OLT.OL_TIME ≤ s.dev.fld (convP c) CONV.VSTAT.OLCNT + 1 →
          d.on (convP c) CONV.EVT.OVERLOAD = true ∧
          d.flt = { s.dev.flt with inflight := s.dev.flt.inflight ++ [faultOf (convP c) 39 0] }) ∧
        (s.dev.fld (convP c) CONV.VSTAT.OLCNT + 1 < s.dev.fld (convP c) CONV.OLT.OL_TIME → d.flt = s.dev.flt) ∧ frame d) ∧
      ((scaledLimit s.dev c CONV.ILIM.OL_I).lt (tapIl s.dev c).abs = false →
        ∃ d, Machine.exec (.overloadStep c) s = .next (s.put d) ∧
        d.fld (convP c) CONV.VSTAT.OLCNT = s.dev.fld (convP c) CONV.VSTAT.OLCNT - 1 ∧ d.flt = s.dev.flt ∧ frame d)) ∧
    (∀ t, (s.dev.conv c).ctcAt = some t → convFree s.dev c = true → convRole s.dev c = 4 → convState s.dev c = 3 →
      t + 60000 * s.dev.fld (convP c) CONV.PCHG2.CT_DLY ≤ s.dev.now →
      ∃ d, Machine.exec (.contactorDelayEnd c) s = .next (s.put d) ∧ convState d c = 4 ∧ (d.conv c).hold = .off ∧
      d.on (convP c) CONV.CSTAT.CTC = s.dev.on (convP c) CONV.CSTAT.CTC ∧ frame d) ∧
    (convRole s.dev c = 4 → convState s.dev c = 3 → s.dev.fld (convP c) CONV.PCHG2.PC_TMAX ≠ 0 →
      (s.dev.conv c).startAt + 60000 * s.dev.fld (convP c) CONV.PCHG2.PC_TMAX ≤ s.dev.now → (s.dev.conv c).pcSent = false →
      ∃ d, Machine.exec (.pcTimeout c) s = .next (s.put d) ∧ d.on (convP c) CONV.EVT.PC_TIMEOUT = true ∧
      d.flt = { s.dev.flt with inflight := s.dev.flt.inflight ++ [faultOf (convP c) 41 0] } ∧
      convState d c = 3 ∧ (∀ r, r ≠ convP c + 0x094 → d.reg r = s.dev.reg r) ∧ frame d) ∧
    ((s.dev.conv c).lf ≠ [] → recordShut s.dev = true → ∀ ok, Machine.exec (.lfWritten c ok) s = .next s) ∧
    (∀ seq bytes at_, (s.dev.conv c).lf = [(seq, bytes)] → bytes.length = 32 → seq < 65536 → recordShut s.dev = false →
      at_ = (s.dev.reg (convP c + 0x078)).toNat + 32 * (seq % max 1 (s.dev.fld (convP c) CONV.LFCFG.LFN)) →
      ((∀ i, i < 8 → slotIgnored s.dev (at_ + 4 * i) = true) →
        ∃ d, Machine.exec (.lfWritten c true) s = .next (s.put d) ∧ d.conv c = { s.dev.conv c with lf := [] } ∧
        d.on nvP NV.UPD_EVT.WR_IGN = true ∧ d.fld (convP c) CONV.LFSTAT.STAT = 2 ∧
        d = { s.dev with regs := d.regs, events := d.events, convs := d.convs }) ∧
      ((∀ i, i < 8 → slotIgnored s.dev (at_ + 4 * i) = false) →
        ∃ d, Machine.exec (.lfWritten c true) s = .next (s.put d) ∧ d.conv c = { s.dev.conv c with lf := [] } ∧
        memBytes d at_ bytes.length = bytes ∧
        (∀ x, x < at_ ∨ at_ + bytes.length ≤ x → memByte d x = memByte s.dev x) ∧
        d.fld (convP c) CONV.LFSTAT.STAT = 2 ∧ d.fld (convP c) CONV.LFSTAT.SEQ = seq ∧
        d.on (convP c) CONV.EVT.LF_WRITTEN = true ∧
        d = { s.dev with regs := d.regs, events := d.events, convs := d.convs, mem := d.mem }) ∧
      (∃ d, Machine.exec (.lfWritten c false) s = .next (s.put d) ∧ d.conv c = { s.dev.conv c with lf := [] } ∧
        d.fld (convP c) CONV.LFSTAT.STAT = 3 ∧ d.fld (convP c) CONV.LFSTAT.SEQ = seq ∧
        d.flt = { s.dev.flt with inflight := s.dev.flt.inflight ++ [faultOf (convP c) 42 1] } ∧ frame d))

/-! ### The night shift -/

/-- R403, R404, R483, R484, R491: a damp measurement settles, averages 64 conversions of each input, closes its switch and
ends, or is abandoned; a telemetry period asks for its channels and its record is written to the ring; a skim beat reads the
word at the position, counts and reports what the checker finds, and moves on, with the granule's LR reservations lost where
it wrote a corrected beat of Hewer SRAM back; a write-back that FREEZE cuts off leaves the position where it is. The model's
own readings in it: log 68. -/
def Obligations.NightShiftWork : Prop :=
  ∀ (s : State), awake s.dev = true →
    (s.dev.on bgP BG.DCFG.EN = true → dampModes s.dev = true → s.dev.night.damp = none → s.dev.night.dampAt = none →
      ∃ d, Machine.exec .dampMeasurementStart s = .next (s.put d) ∧
      d.night = { s.dev.night with damp := some ⟨false, s.dev.now, 0, s.dev.reg (bgP + 0x06C), 0, 0⟩,
                                   dampAt := some s.dev.now, dampLen := 60000000 * max 1 (s.dev.fld bgP BG.DCFG.DPERIOD) } ∧
      d.fld bgP BG.DSTAT.STEP = 1 ∧ (∀ a, a ≠ bgP + 0x084 → d.reg a = s.dev.reg a) ∧
      d = { s.dev with regs := d.regs, night := d.night }) ∧
    (∀ x, s.dev.night.damp = some x → x.avg = false → x.since + 600000 * s.dev.fld bgP BG.DSETTLE.DSETTLE ≤ s.dev.now →
      ∃ d, Machine.exec .dampSettleEnd s = .next (s.put d) ∧
      d.night.damp = some { x with avg := true, since := s.dev.now, tag := s.dev.night.tag } ∧
      d.samp.reqs.length = s.dev.samp.reqs.length + 128 ∧ (∀ q ∈ s.dev.samp.reqs, q ∈ d.samp.reqs) ∧
      d = { s.dev with samp := { s.dev.samp with reqs := d.samp.reqs }, night := d.night }) ∧
    (∀ x sc sb, s.dev.night.damp = some x → x.avg = true → bgSum s.dev x.tag = some sc → bgSum s.dev (x.tag + 64) = some sb →
      s.dev.on adcP ADC.CFG.VREF_EXT = false →
      (89478486 ≤ s.dev.fld bgP BG.DK.KB * sb → s.dev.fld bgP BG.DSTAT.STEP = 1 →
        ∃ d, Machine.exec .dampAverageDone s = .next (s.put d) ∧
        d.night.damp = some { x with avg := false, since := s.dev.now, c0 := s.dev.fld bgP BG.DK.KD * sc,
                                     b0 := s.dev.fld bgP BG.DK.KB * sb } ∧
        d.fld bgP BG.DSTAT.STEP = 2 ∧ d.on bgP BG.DSTAT.SW = true ∧ d.flt = s.dev.flt) ∧
      (89478486 ≤ s.dev.fld bgP BG.DK.KB * sb → s.dev.fld bgP BG.DSTAT.STEP = 2 →
        ∃ d, Machine.exec .dampAverageDone s = .next (s.put d) ∧ d.night.damp = none ∧ d.fld bgP BG.DSTAT.STEP = 0 ∧
        d.on bgP BG.DSTAT.SW = false ∧ d.fld bgP BG.DSTAT.N = (s.dev.fld bgP BG.DSTAT.N + 1) % 65536) ∧
      (s.dev.fld bgP BG.DK.KB * sb < 89478486 →
        ∃ d, Machine.exec .dampAverageDone s = .next (s.put d) ∧ d.night.damp = none ∧ d.fld bgP BG.DSTAT.STEP = 0 ∧
        d.on bgP BG.DSTAT.SW = false ∧ d.on bgP BG.EVT.DAMP_ABANDON = true ∧ d.flt = s.dev.flt)) ∧
    (∀ x, s.dev.night.damp = some x → x.avg = true → x.since + 60000000 ≤ s.dev.now →
      ∃ d, Machine.exec .dampAbandon s = .next (s.put d) ∧ d.night.damp = none ∧ d.fld bgP BG.DSTAT.STEP = 0 ∧
      d.on bgP BG.DSTAT.SW = false ∧ d.on bgP BG.EVT.DAMP_ABANDON = true ∧
      d = { s.dev with regs := d.regs, events := d.events, samp := d.samp, night := d.night }) ∧
    (s.dev.on bgP BG.TCFG.EN = true → nightRuns s.dev = true → s.dev.night.telem = none →
      ∃ d, Machine.exec .telemetryPeriod s = .next (s.put d) ∧
      d.night = { s.dev.night with
        telem := some ⟨s.dev.now, 600000 * max 1 (s.dev.fld bgP BG.TCFG.TPERIOD), s.dev.fld bgP BG.TCFG.MASK, s.dev.night.tag⟩,
        tag := s.dev.night.tag + 8 } ∧
      (∀ q, q ∈ d.samp.reqs ↔ q ∈ s.dev.samp.reqs ∨ ∃ i, i < 8 ∧ (s.dev.fld bgP BG.TCFG.MASK).testBit i = true ∧
        q = ⟨17, s.dev.night.tag + i, telemInput s.dev i, 0, 20, 0, 255, 0, s.dev.now + 1, none⟩) ∧
      d = { s.dev with samp := { s.dev.samp with reqs := d.samp.reqs }, night := d.night }) ∧
    (∀ t at_, s.dev.night.telem = some t → nightRuns s.dev = true → nightShut s.dev = false → nightCut s.dev = false →
      t.start + t.len ≤ s.dev.now →
      at_ = (s.dev.reg (bgP + 0x060)).toNat + 32 * (s.dev.fld bgP BG.TSEQ.SEQ % max 1 (s.dev.fld bgP BG.TLEN.TLEN)) →
      ∃ d, Machine.exec .telemetryRecord s = .next (s.put d) ∧ memBytes d at_ 32 = telemBytes s.dev t ∧
      (∀ x, x < at_ ∨ at_ + 32 ≤ x → memByte d x = memByte s.dev x) ∧ d.night = { s.dev.night with telem := none } ∧
      d.fld bgP BG.TSEQ.SEQ = (s.dev.fld bgP BG.TSEQ.SEQ + 1) % 65536 ∧ d.on bgP BG.EVT.TREC = true ∧
      (∀ a, pageBase a ≠ bgP → d.reg a = s.dev.reg a) ∧ d.flt = s.dev.flt ∧ d.legs = s.dev.legs) ∧
    (∀ m, m < 2 → skimFree s.dev m = true → injArmed s.dev = false → nightCut s.dev = true →
      ∃ d, Machine.exec (.skimBeat (m == 1) .corrected) s = .next (s.put d) ∧
      d.reg ((skimRow m).page + (skimRow m).posOff) = s.dev.reg ((skimRow m).page + (skimRow m).posOff) ∧
      d.fld (skimRow m).page (skimRow m).ce = satInc 16 (s.dev.fld (skimRow m).page (skimRow m).ce) ∧ d.sys = s.dev.sys ∧
      d.mem = s.dev.mem) ∧
    (∀ (m : Nat) (e : Ecc), m < 3 → skimFree s.dev m = true → injArmed s.dev = false → (e = .corrected → m = 2 ∨ nightCut s.dev = false) →
      ∃ d, (m < 2 → Machine.exec (.skimBeat (m == 1) e) s = .next (s.put d)) ∧
      (m = 2 → Machine.exec (.deputySkim e) s = .next (s.put d)) ∧
      ((s.dev.reg ((skimRow m).page + (skimRow m).posOff)).toNat ≠ (skimRow m).last →
        d.reg ((skimRow m).page + (skimRow m).posOff) =
          BitVec.ofNat 32 ((s.dev.reg ((skimRow m).page + (skimRow m).posOff)).toNat + (skimRow m).step)) ∧
      ((s.dev.reg ((skimRow m).page + (skimRow m).posOff)).toNat = (skimRow m).last →
        d.reg ((skimRow m).page + (skimRow m).posOff) = BitVec.ofNat 32 (skimRow m).first ∧
        d.fld (skimRow m).page (skimRow m).pass = satInc 16 (s.dev.fld (skimRow m).page (skimRow m).pass) ∧
        d.on (skimRow m).page (skimRow m).wrap = true) ∧
      (e = .none → d.flt = s.dev.flt ∧ d.fld (skimRow m).page (skimRow m).ce = s.dev.fld (skimRow m).page (skimRow m).ce) ∧
      (e = .corrected → d.fld (skimRow m).page (skimRow m).ce = satInc 16 (s.dev.fld (skimRow m).page (skimRow m).ce) ∧
        d.flt = { s.dev.flt with inflight := s.dev.flt.inflight ++ [eccMsg (skimRow m).src (skimRow m).kind
          (s.dev.reg ((skimRow m).page + (skimRow m).posOff)).toNat] }) ∧
      (e = .uncorrectable → d.fld (skimRow m).page (skimRow m).ue = satInc 16 (s.dev.fld (skimRow m).page (skimRow m).ue) ∧
        d.flt = { s.dev.flt with inflight := s.dev.flt.inflight ++ [eccMsg (skimRow m).src ((skimRow m).kind + 1)
          (s.dev.reg ((skimRow m).page + (skimRow m).posOff)).toNat] }) ∧
      (∀ c g t, e = .corrected → m = 0 → d.sys.resv.getD c none = some (g, t) →
        g ≠ (s.dev.reg ((skimRow m).page + (skimRow m).posOff)).toNat / 32 * 32) ∧
      d = { s.dev with regs := d.regs, events := d.events, night := d.night, flt := d.flt, sys := { s.dev.sys with resv := d.sys.resv } })

/-! ### Authority -/

/-- R456, R458 to R461: what each command of the AUTH page does: a request is recorded and waits, and is granted, denied or
times out; RELEASE, GRANT and TAKE make a switch due; a GRANT on the cycle of its request's timeout acts; a command that finds
no ground for it, or comes on the cycle of a conflict, sets WR_IGN; beats of the holder restart the heartbeat, those of the
other side do nothing; a stale heartbeat is the conflict response with the Deputy as holder, which a beat of the holder on the
same cycle takes back. R457: on cycle S both claim latches change together, the phase waits for the drive dies, every die gets
a holder command, and the wet set of a drive domain without a commit on its way is dropped; nothing switches before it. The
model's own readings in it: log 15, 52, 75. -/
def Obligations.DrawOfAuthority : Prop :=
  (∀ (s : State) (core : Fin 4) (who : Requester) (val : Word), s.dev.serves who → s.dev.serves (.hewer core) →
     let fresh := ∀ x, s.dev.auth.stale = some x → x.cycle ≠ s.dev.now / 2
     let refused := fun d : Dev => d.on authP AUTH.EVT.WR_IGN = true ∧ (∀ r, r ≠ authP + 0x05C → d.reg r = s.dev.reg r) ∧
       d = { s.dev with regs := d.regs, events := d.events, auth := { s.dev.auth with before := d.auth.before }, resp := d.resp,
                        afault := d.afault }
     let frame := fun d : Dev => (∀ r, pageBase r ≠ authP → d.reg r = s.dev.reg r) ∧
       d = { s.dev with regs := d.regs, events := d.events, auth := d.auth, resp := d.resp, afault := d.afault }
     let clash := s.dev.auth.conflict = some (s.dev.now / 2)
     let noted := fun d : Dev => { s.dev.auth with before := d.auth.before }
     (bits val 0 2 = 1 → ¬ clash → stamp s.dev = 2 → authPhase s.dev = 0 → s.dev.auth.due = none → s.dev.flt.l4 = false →
       ∃ d, Machine.exec (.request core val) s = .next (s.put d) ∧ authPhase d = 1 ∧ bitOf (d.reg AUTH_REQ) 31 = true ∧
       bits (d.reg AUTH_REQ) 0 16 = bits val 16 16 ∧ bits (d.reg AUTH_REQ) 24 3 = core ∧
       d.on authP AUTH.EVT.REQUEST = true ∧ d.auth = { noted d with reqAt := s.dev.now } ∧ frame d) ∧
     (bits val 0 2 = 1 → (stamp s.dev ≠ 2 ∨ authPhase s.dev ≠ 0 ∨ s.dev.flt.l4 = true ∨ clash) →
       ∃ d, Machine.exec (.request core val) s = .next (s.put d) ∧ refused d) ∧
     (bits val 0 2 = 2 → ¬ clash → stamp s.dev = 1 → s.dev.auth.due = none →
       ∃ d, Machine.exec (.release core val) s = .next (s.put d) ∧
       d.auth = { noted d with due := some (s.dev.now / 2, 2) } ∧ d.regs = s.dev.regs ∧ frame d) ∧
     (bits val 0 2 = 2 → stamp s.dev ≠ 1 ∨ clash → ∃ d, Machine.exec (.release core val) s = .next (s.put d) ∧ refused d) ∧
     (bits val 0 3 = 1 → ¬ clash → s.dev.auth.due = none →
       (authPhase s.dev = 1 → bits (s.dev.reg AUTH_REQ) 0 16 = bits val 16 16 →
         ∃ d, Machine.exec (.grant .deputy val) s = .next (s.put d) ∧
         d.auth = { noted d with due := some (s.dev.now / 2, 1) } ∧ d.regs = s.dev.regs ∧ frame d) ∧
       (∀ w, authPhase s.dev = 0 → stamp s.dev = 2 → s.dev.auth.expired = some (s.dev.now / 2, w) → bits w 0 16 = bits val 16 16 →
         ∃ d, Machine.exec (.grant .deputy val) s = .next (s.put d) ∧ authPhase d = 1 ∧ d.reg AUTH_REQ = w ∧
         d.auth = { noted d with due := some (s.dev.now / 2, 1) } ∧ frame d)) ∧
     (bits val 0 3 = 1 → (who ≠ .deputy ∨ clash ∨ expiredNow (bits val 16 16) s.dev = none ∧
         (authPhase s.dev ≠ 1 ∨ bits (s.dev.reg AUTH_REQ) 0 16 ≠ bits val 16 16)) →
       ∃ d, Machine.exec (.grant who val) s = .next (s.put d) ∧ refused d) ∧
     (bits val 0 3 = 4 → ¬ clash → authPhase s.dev = 1 → s.dev.auth.due = none →
       ∃ d, Machine.exec (.deny .deputy val) s = .next (s.put d) ∧ authPhase d = 0 ∧ bitOf (d.reg AUTH_REQ) 31 = false ∧
       d.on authP AUTH.EVT.DENIED = true ∧ d.auth = noted d ∧ frame d) ∧
     (bits val 0 3 = 2 → ¬ clash → stamp s.dev = 1 → s.dev.auth.due = none →
       ∃ d, Machine.exec (.take .deputy val) s = .next (s.put d) ∧
       d.auth = { noted d with due := some (s.dev.now / 2, 2) } ∧ d.on authP AUTH.EVT.TAKEN = true ∧ frame d) ∧
     (authPhase s.dev = 1 → s.dev.auth.due = none → s.dev.auth.reqAt + 600000 ≤ s.dev.now →
       ∃ d, Machine.exec .reqTimeout s = .next (s.put d) ∧ authPhase d = 0 ∧ bitOf (d.reg AUTH_REQ) 31 = false ∧
       d.on authP AUTH.EVT.REQ_TIMEOUT = true ∧
       d.auth = { s.dev.auth with expired := some (s.dev.now / 2, s.dev.reg AUTH_REQ) } ∧ frame d) ∧
     (stamp s.dev = 1 → fresh →
       ∃ d, Machine.exec (.hbeat (.hewer core)) s = .next (s.put d) ∧
       d.auth = { s.dev.auth with lastBeat := s.dev.now, late := false } ∧ d.regs = s.dev.regs ∧ frame d) ∧
     (fresh → (stamp s.dev ≠ 1 →
         ∃ d, Machine.exec (.hbeat (.hewer core)) s = .next (s.put d) ∧ d = { s.dev with resp := d.resp, afault := d.afault }) ∧
       (stamp s.dev ≠ 2 →
         ∃ d, Machine.exec (.dbeat .deputy) s = .next (s.put d) ∧ d = { s.dev with resp := d.resp, afault := d.afault })) ∧
     (∀ b : Dev, s.dev = staleLand b → b.on authP AUTH.STATE.ARMED = true → b.auth.lastBeat + 30000 ≤ b.now → b.mode ≠ .powerUp →
       stamp b = 1 → faultOf authP 45 2 ∉ b.flt.inflight →
       ∃ d, Machine.exec (.hbeat (.hewer core)) s = .next (s.put d) ∧ stamp d = 1 ∧
       d.on authP AUTH.EVT.CONFLICT = b.on authP AUTH.EVT.CONFLICT ∧ d.flt = b.flt ∧ d.wet = b.wet ∧ d.coat2 = b.coat2 ∧
       d.auth.lastBeat = b.now ∧ d.auth.conflict = b.auth.conflict) ∧
     (stamp s.dev = 2 → fresh →
       ∃ d, Machine.exec (.dbeat .deputy) s = .next (s.put d) ∧ d.on authP AUTH.STATE.ARMED = true ∧
       d.auth = { s.dev.auth with lastBeat := s.dev.now, late := false } ∧
       (∀ r, r ≠ authP + 0x040 → d.reg r = s.dev.reg r) ∧ frame d) ∧
     ((∃ d, Machine.exec (.hbeat .deputy) s = .next (s.put d) ∧ refused d) ∧
       (∃ d, Machine.exec (.dbeat (.hewer core)) s = .next (s.put d) ∧ refused d)) ∧
     (s.dev.on authP AUTH.STATE.ARMED = true → s.dev.auth.lastBeat + 24000 ≤ s.dev.now → s.dev.auth.late = false →
       ∃ d, Machine.exec .beatLate s = .next (s.put d) ∧ d.on authP AUTH.EVT.BEAT_LATE = true ∧
       d.auth = { s.dev.auth with late := true } ∧ (∀ r, r ≠ authP + 0x05C → d.reg r = s.dev.reg r) ∧ frame d) ∧
     (s.dev.on authP AUTH.STATE.ARMED = true → s.dev.auth.lastBeat + 30000 ≤ s.dev.now → s.dev.mode ≠ .powerUp →
       ∃ d, Machine.exec .heartbeatStale s = .next (s.put d) ∧ stamp d = 2 ∧ d.on authP AUTH.EVT.CONFLICT = true ∧
       d.flt = { s.dev.flt with inflight := s.dev.flt.inflight ++ [faultOf authP 45 2], l4 := true } ∧
       d.auth.conflict = some (s.dev.now / 2) ∧ bits (d.reg (authP + 0x064)) 8 2 = stamp s.dev ∧ d.auth.lastBeat = s.dev.now ∧ d.legs = s.dev.legs ∧ d.mem = s.dev.mem)) ∧
  (∀ (d : Dev) (c new : Nat), d.auth.due = some (c, new) → (new = 1 ∨ new = 2) →
     (d.now / 2 ≤ c → d.on authP AUTH.STATE.HCLAIM ≠ d.on authP AUTH.STATE.DCLAIM → authTick d = d) ∧
     (c < d.now / 2 → stamp (authTick d) = new ∧ authPhase (authTick d) = 2 ∧ (authTick d).auth.due = none ∧
       (authTick d).auth.lastBeat = d.now ∧ (authTick d).on authP AUTH.EVT.SWITCHED = true ∧
       (authTick d).fld authP AUTH_HANDOVERS = satInc 16 (d.fld authP AUTH_HANDOVERS) ∧
       (∀ k, k < 4 → ((authTick d).die k).holderCmd = some (if (d.die k).holder = 0 then stamp d else (d.die k).holder, new)) ∧
       (∀ a, d.domAt a < 64 → d.domBusy (d.domAt a) = false → (authTick d).wetAt a = none) ∧
       (∀ a, 64 ≤ d.domAt a ∨ d.domBusy (d.domAt a) = true → (authTick d).wetAt a = d.wetAt a) ∧
       (authTick d).legs = d.legs ∧ (authTick d).mem = d.mem ∧ (∀ r, pageBase r ≠ authP → (authTick d).reg r = d.reg r)))

/-! ### Cores -/

/-- R441: LR reserves its granule and reads; SC stores and answers 0 where the reservation holds, else it stores nothing and
answers 1; an AMO returns the old word and stores the new one; other cores lose a reservation of a granule that is written;
256 ticks end a reservation. An address that is no word of Hewer SRAM ends in an access fault, which stops a running DMA
channel with an error (R435, R475). The model's own readings in it: log 13, 69. -/
def Obligations.AtomicsAndReservations : Prop :=
  ∀ (s : State) (c : Fin 4) (addr val : Word) (op : AmoOp), s.dev.serves (.hewer c) →
    let stored := fun (d : Dev) (w : Word) => memWord d addr.toNat = w ∧
      (∀ x, x < addr.toNat ∨ addr.toNat + 4 ≤ x → memByte d x = memByte s.dev x) ∧
      (∀ j t, j < 4 → j ≠ c.val → resvOf d j ≠ some (addr.toNat / 32 * 32, t)) ∧
      d = { s.dev with mem := d.mem, sys := { s.dev.sys with resv := d.sys.resv, scOk := d.sys.scOk }, resp := d.resp,
                       afault := d.afault }
    (atomicAt addr = true → injArmed s.dev = false →
      ∃ d, Machine.exec (.lr c addr) s = .next (s.put d) ∧
      sget noWord0 d.resp (requesterId (.hewer c)) = memWord s.dev addr.toNat ∧
      d.sys = { s.dev.sys with resv := s.dev.sys.resv.set c (some (addr.toNat / 32 * 32, s.dev.now)) } ∧
      d = { s.dev with sys := d.sys, resp := d.resp, afault := d.afault }) ∧
    (atomicAt addr = true → reserved s.dev c addr.toNat = true →
      ∃ d, Machine.exec (.sc c addr val) s = .next (s.put d) ∧ sget noWord0 d.resp (requesterId (.hewer c)) = 0 ∧
      resvOf d c = none ∧ d.sys.scOk = s.dev.sys.scOk.set c true ∧ stored d val) ∧
    (atomicAt addr = true → reserved s.dev c addr.toNat = false →
      ∃ d, Machine.exec (.sc c addr val) s = .next (s.put d) ∧ sget noWord0 d.resp (requesterId (.hewer c)) = 1 ∧
      d.sys = { s.dev.sys with resv := s.dev.sys.resv.set c none, scOk := s.dev.sys.scOk.set c false } ∧
      d = { s.dev with sys := d.sys, resp := d.resp, afault := d.afault }) ∧
    (atomicAt addr = true → injArmed s.dev = false →
      ∃ d, Machine.exec (.amo c op addr val) s = .next (s.put d) ∧
      sget noWord0 d.resp (requesterId (.hewer c)) = memWord s.dev addr.toNat ∧
      stored d (amoWord op (memWord s.dev addr.toNat) val)) ∧
    (atomicAt addr = false →
      ∃ d, (Machine.exec (.lr c addr) s = .next (s.put d) ∧ Machine.exec (.sc c addr val) s = .next (s.put d) ∧
        Machine.exec (.amo c op addr val) s = .next (s.put d)) ∧
      sget (fun _ => false) d.afault (requesterId (.hewer c)) = true ∧
      d.sys = { s.dev.sys with resv := s.dev.sys.resv.set c none } ∧
      d = { s.dev with sys := d.sys, resp := d.resp, afault := d.afault }) ∧
    (∀ g t, resvOf s.dev c = some (g, t) →
      (t + 256 ≤ s.dev.now →
        ∃ d, Machine.exec (.reservationExpiry c) s = .next (s.put d) ∧
        d = { s.dev with sys := { s.dev.sys with resv := s.dev.sys.resv.set c none } }) ∧
      (s.dev.now < t + 256 → Machine.exec (.reservationExpiry c) s = .next s)) ∧
    (∀ (who : Requester) (kind : AccKind), permitted who (wordAddr addr) kind = true →
      Machine.exec (.accessFault who addr kind) s = .next s) ∧
    (∀ (who : Requester) (kind : AccKind), (access who (wordAddr addr) (kind = .store || kind = .amo) = none ∨
        kind = .fetch ∧ (regionAt (wordAddr addr)).any Region.executes = false ∨
        kind = .amo ∧ regionAt (wordAddr addr) ≠ some .sram) →
      ∃ d, Machine.exec (.accessFault who addr kind) s = .next (s.put d) ∧
      sget (fun _ => false) d.afault (requesterId who) = true ∧ (who = .hewer c → resvOf d c = none) ∧
      (∀ ch : Fin 8, who = .dma ch → dmaState s.dev ch = 1 → dmaState d ch = 3 ∧ d.on arbP ARB.EVT.DMA_ERR = true) ∧
      ((∀ ch : Fin 8, who = .dma ch → dmaState s.dev ch ≠ 1) → d.regs = s.dev.regs ∧ d.events = s.dev.events) ∧
      d = { s.dev with regs := d.regs, events := d.events, sys := { s.dev.sys with resv := d.sys.resv }, resp := d.resp,
                       afault := d.afault })

/-- R442, R443, R450 to R452: the timer interrupt of a hart follows its comparison; a lockstep mismatch sends its message; a
debug halt, by its trigger, by the hart itself or by a request over the DMI, takes the device to HALT, and a hart resumes; the
debugger writes a halted hart's trigger registers and the program buffer; the Deputy alone sets LOCK, under which every DMI
access is refused, with EXTEST and INTEST. The model's own readings in it: log 76, 90. -/
def Obligations.CoresAndDebug : Prop :=
  ∀ (s : State) (h : Fin 5) (who : Requester) (val : Word), s.dev.serves who →
    (∃ d, Machine.exec (.machineTimerInterrupt h) s = .next (s.put d) ∧
      (h.val ∈ d.sys.mtip ↔ mtimeCmp s.dev h ≤ mtimeCount s.dev) ∧
      (∀ j, j ≠ h.val → (j ∈ d.sys.mtip ↔ j ∈ s.dev.sys.mtip)) ∧
      d = { s.dev with sys := { s.dev.sys with mtip := d.sys.mtip } }) ∧
    (s.dev.mode ≠ .powerUp →
      ∃ d, Machine.exec .lockstep s = .next (s.put d) ∧
      d = { s.dev with flt := { s.dev.flt with inflight := s.dev.flt.inflight ++ [faultOf authP 47 0] } }) ∧
    (s.dev.mode ≠ .powerUp →
      (∀ req jtag, req = .own ∨ (req = .dmi ∧ dmiLocked s.dev = false) →
        ∃ d, Machine.exec (.debugHalt h req jtag) s = .next (s.put d) ∧ d.mode = .halt ∧ h.val ∈ d.sys.halted ∧
        (∀ j, j ∈ s.dev.sys.halted → j ∈ d.sys.halted) ∧ d.mem = s.dev.mem) ∧
      (∀ i : Fin 4, triggerSet s.dev h i = true →
        ∃ d, Machine.exec (.debugHalt h (.trigger i) []) s = .next (s.put d) ∧ d.mode = .halt ∧ h.val ∈ d.sys.halted) ∧
      (∀ i : Fin 4, triggerSet s.dev h i = false → Machine.exec (.debugHalt h (.trigger i) []) s = .next s) ∧
      (dmiLocked s.dev = true →
        ∃ d, Machine.exec (.debugHalt h .dmi []) s = .next (s.put d) ∧
        d = { s.dev with sys := { s.dev.sys with dmiErr := true } })) ∧
    (dmiLocked s.dev = false → ∀ (k : Fin 5) (i : Fin 8) (w : Word), k.val ∈ s.dev.sys.halted →
      (∃ d, Machine.exec (.debugResume h []) s = .next (s.put d) ∧ h.val ∉ d.sys.halted ∧
        (∀ j, j ≠ h.val → (j ∈ d.sys.halted ↔ j ∈ s.dev.sys.halted)) ∧
        d = { s.dev with sys := { s.dev.sys with halted := d.sys.halted, dmiErr := false } }) ∧
      (∃ d, Machine.exec (.debugResume h [.data w, .prog i w, .reg k 0x7A2 true]) s = .next (s.put d) ∧ h.val ∉ d.sys.halted ∧
        d.sys.progbuf = s.dev.sys.progbuf.set i w ∧
        d.sys.triggers = s.dev.sys.triggers.set (trigIx s.dev k) ((s.dev.sys.triggers.getD (trigIx s.dev k) (0, 0)).1, w) ∧
        d.sys.cmdErr = 0 ∧ d = { s.dev with sys := d.sys })) ∧
    (dmiLocked s.dev = true → ∀ (w : Word),
      ∃ d, Machine.exec (.debugResume h [.data w, .ir .extest, .ir .intest]) s = .next (s.put d) ∧
      d = { s.dev with sys := { s.dev.sys with dmiErr := true } }) ∧
    (bitOf val 0 = true →
      ∃ d, Machine.exec (.dbgLock .deputy val) s = .next (s.put d) ∧ d.reg (authP + 0x078) = 1 ∧
      (∀ r, r ≠ authP + 0x078 → d.reg r = s.dev.reg r) ∧
      d = { s.dev with regs := d.regs, resp := d.resp, afault := d.afault }) ∧
    (who ≠ .deputy →
      ∃ d, Machine.exec (.dbgLock who val) s = .next (s.put d) ∧ d.on authP AUTH.EVT.WR_IGN = true ∧
      (∀ r, r ≠ authP + 0x05C → d.reg r = s.dev.reg r) ∧
      d = { s.dev with regs := d.regs, events := d.events, resp := d.resp, afault := d.afault })

/-- R446, R447, R504: a watchdog is armed by its own core with WIN_LO below WIN_HI; a kick with the key inside the window
restarts it; one before the window, or with another key, sends its message, and so does a window that passes without a kick,
once. The model's own readings in it: log 72. -/
def Obligations.Watchdogs : Prop :=
  ∀ (s : State) (c : Fin 4) (val : Word), s.dev.serves (.hewer c) →
    let quiet := fun d : Dev => (∀ r, r ≠ hwdtA c → r ≠ dwdtA → d.reg r = s.dev.reg r) ∧
      d = { s.dev with regs := d.regs, auth := d.auth, sys := { s.dev.sys with kicks := d.sys.kicks, wdtSent := d.sys.wdtSent,
                                                                                depSent := d.sys.depSent },
                       flt := d.flt, resp := d.resp, afault := d.afault }
    (bitOf val 31 = true → bits val 0 12 < bits val 16 12 → bitOf (s.dev.reg dwdtA) 31 = false →
      ∃ d, Machine.exec (.dwdtArm .deputy val) s = .next (s.put d) ∧ d.reg dwdtA = val &&& 0x8FFF0FFF ∧
      d.auth = { s.dev.auth with kickAt := s.dev.now } ∧ d.sys.depSent = false ∧ d.flt = s.dev.flt ∧ quiet d) ∧
    (bitOf val 31 = true → bits val 0 12 < bits val 16 12 → bitOf (s.dev.reg (hwdtA c)) 31 = false →
      ∃ d, Machine.exec (.hwdtArm c val) s = .next (s.put d) ∧ d.reg (hwdtA c) = val &&& 0x8FFF0FFF ∧
      d.sys.kicks = s.dev.sys.kicks.set c s.dev.now ∧ d.sys.wdtSent = s.dev.sys.wdtSent.set c false ∧
      d.flt = s.dev.flt ∧ quiet d) ∧
    (bitOf val 31 = true → bits val 16 12 ≤ bits val 0 12 →
      ∃ d, Machine.exec (.hwdtArm c val) s = .next (s.put d) ∧ d.regs = s.dev.regs ∧ d.sys = s.dev.sys ∧ d.flt = s.dev.flt ∧
      quiet d) ∧
    (∀ cfg, s.dev.reg dwdtA = cfg → bitOf cfg 31 = true →
      (bits val 0 8 = 0xA5 → 600 * bits cfg 0 12 ≤ s.dev.now - s.dev.auth.kickAt →
        s.dev.now - s.dev.auth.kickAt ≤ 600 * bits cfg 16 12 →
        ∃ d, Machine.exec (.dkick .deputy val) s = .next (s.put d) ∧ d.auth = { s.dev.auth with kickAt := s.dev.now } ∧
        d.sys.depSent = false ∧ d.flt = s.dev.flt ∧ d.regs = s.dev.regs ∧ quiet d) ∧
      (bits val 0 8 = 0xA5 → s.dev.now - s.dev.auth.kickAt < 600 * bits cfg 0 12 →
        ∃ d, Machine.exec (.dkick .deputy val) s = .next (s.put d) ∧ d.auth = { s.dev.auth with kickAt := s.dev.now } ∧
        d.flt = { s.dev.flt with inflight := s.dev.flt.inflight ++ [faultOf authP 48 0] } ∧ d.regs = s.dev.regs ∧ quiet d) ∧
      (bits val 0 8 ≠ 0xA5 →
        ∃ d, Machine.exec (.dkick .deputy val) s = .next (s.put d) ∧ d.auth = s.dev.auth ∧ d.sys = s.dev.sys ∧
        d.flt = { s.dev.flt with inflight := s.dev.flt.inflight ++ [faultOf authP 48 0] } ∧ d.regs = s.dev.regs ∧ quiet d) ∧
      (s.dev.sys.depSent = false → 600 * bits cfg 16 12 ≤ s.dev.now - s.dev.auth.kickAt →
        ∃ d, Machine.exec .depWdt s = .next (s.put d) ∧ d.sys = { s.dev.sys with depSent := true } ∧
        d.flt = { s.dev.flt with inflight := s.dev.flt.inflight ++ [faultOf authP 48 0] } ∧ d.regs = s.dev.regs ∧ quiet d) ∧
      (s.dev.sys.depSent = true → Machine.exec .depWdt s = .next s)) ∧
    (∀ cfg, s.dev.reg (hwdtA c) = cfg → bitOf cfg 31 = true →
      (bits val 0 8 = 0xA5 → 600 * bits cfg 0 12 ≤ s.dev.now - hKickAt s.dev c →
        s.dev.now - hKickAt s.dev c ≤ 600 * bits cfg 16 12 →
        ∃ d, Machine.exec (.hkick c val) s = .next (s.put d) ∧ d.sys.kicks = s.dev.sys.kicks.set c s.dev.now ∧
        d.sys.wdtSent = s.dev.sys.wdtSent.set c false ∧ d.flt = s.dev.flt ∧ d.regs = s.dev.regs ∧ quiet d) ∧
      (bits val 0 8 = 0xA5 → s.dev.now - hKickAt s.dev c < 600 * bits cfg 0 12 →
        ∃ d, Machine.exec (.hkick c val) s = .next (s.put d) ∧ d.sys.kicks = s.dev.sys.kicks.set c s.dev.now ∧
        d.flt = { s.dev.flt with inflight := s.dev.flt.inflight ++ [faultOf topP 49 c] } ∧ d.regs = s.dev.regs ∧ quiet d) ∧
      (s.dev.sys.wdtSent.getD c false = false → 600 * bits cfg 16 12 ≤ s.dev.now - hKickAt s.dev c →
        ∃ d, Machine.exec (.hewerWdt c) s = .next (s.put d) ∧
        d.sys = { s.dev.sys with wdtSent := s.dev.sys.wdtSent.set c true } ∧
        d.flt = { s.dev.flt with inflight := s.dev.flt.inflight ++ [faultOf topP 49 c] } ∧ d.regs = s.dev.regs ∧ quiet d))

/-! ### The Banksman -/

/-- R465: at every phase the age of a requester that waits advances by 1, up to 65,535; the age of one that is granted returns
to 0; no other age changes, that of a grant which goes on included, nor does one between phases, and no write of priorities,
masks or FREEZE changes one. -/
def Obligations.PortAges : Prop :=
  ∀ (s : State) (waits : BitVec 17) (val : Word), awake s.dev = true →
    let others := fun d : Dev => d = { s.dev with regs := d.regs, events := d.events, arb := d.arb, resp := d.resp,
                                                  afault := d.afault }
    (∀ (ended : Bool) (beats : Nat), phaseNow s.dev = false → Machine.exec (.arbitrationPhase waits ended beats) s = .next s) ∧
    (∀ (ended : Bool) (beats : Nat), phaseNow s.dev = true →
      ∃ d, Machine.exec (.arbitrationPhase waits ended beats) s = .next (s.put d) ∧
      (∀ q, q < 17 → arbAge d q = (if q = arbHolder s.dev ∧ ended = false ∧ (s.dev.arb.cut = false ∨ beats = 0) then
          arbAge s.dev q else if q = arbHolder d then 0
        else if waits.getLsbD q = true then min 65535 (arbAge s.dev q + 1) else arbAge s.dev q)) ∧ others d) ∧
    (∀ (who : Requester) (off : Nat), off % 4 = 0 → 0x040 ≤ off → off < 0x058 →
      ∃ d, Machine.exec (.registerWrite who (at_ (arbP + off)) val) s = .next (s.put d) ∧ (∀ q, arbAge d q = arbAge s.dev q) ∧
      others d)

/-- R464, R466, R467, R469, R470: on a phase with the port free it goes to the waiting requester of highest priority, but
first to a privileged one that has waited STARVE_LIM phases, whose STARVED bit is set once for its wait; a grant that has not
ended keeps the port; a freeze takes it from requesters other than 4 and 5, at the next beat boundary after a phase. A
reserved requester is granted before others, and RESERVED names it until the next phase's revision. An access of a masked core
stalls. Only the Deputy changes FREEZE. The model's own readings in it: log 70. -/
def Obligations.ArbitrationPhase : Prop :=
  ∀ (s : State) (waits : BitVec 17) (val : Word), awake s.dev = true →
    let others := fun d : Dev => d = { s.dev with regs := d.regs, events := d.events, arb := d.arb, resp := d.resp,
                                                  afault := d.afault }
    (∀ r : Fin 17, phaseNow s.dev = true → arbHolder s.dev = 31 → arbReserved s.dev = 31 → s.dev.fld arbP ARB.CTL.RES_AGE = 0 →
      waits.getLsbD r = true → eligible s.dev r = true →
      ((∀ q, q < 17 → q ≠ r.val → waits.getLsbD q = true → eligible s.dev q = true → arbPrio s.dev q < arbPrio s.dev r) →
        (∀ q, q < 17 → privileged q = true → waits.getLsbD q = true →
          arbAge s.dev q + 1 < max 1 (s.dev.fld arbP ARB.STARVE.STARVE_LIM)) →
        ∃ d, Machine.exec (.arbitrationPhase waits false 0) s = .next (s.put d) ∧ arbHolder d = r ∧ arbAge d r = 0 ∧
        (∀ q, q < 17 → q ≠ r.val → waits.getLsbD q = true → arbAge d q = min 65535 (arbAge s.dev q + 1)) ∧ others d) ∧
      (privileged r = true → max 1 (s.dev.fld arbP ARB.STARVE.STARVE_LIM) ≤ arbAge s.dev r + 1 → arbAge s.dev r < 65535 →
        (∀ q, q < 17 → q ≠ r.val → privileged q = true → waits.getLsbD q = true →
          arbAge s.dev q + 1 < max 1 (s.dev.fld arbP ARB.STARVE.STARVE_LIM)) →
        ∃ d, Machine.exec (.arbitrationPhase waits false 0) s = .next (s.put d) ∧ arbHolder d = r ∧ arbAge d r = 0 ∧
        (s.dev.arb.flagged.contains r.val = false →
          bitOf (d.reg (arbP + 0x060)) r = true ∧ d.on arbP ARB.EVT.STARVED = true) ∧ others d)) ∧
    (∀ r : Fin 17, phaseNow s.dev = true → arbHolder s.dev = 31 → arbReserved s.dev = r → waits.getLsbD r = true →
      eligible s.dev r = true →
      (∀ q, q < 17 → privileged q = true → waits.getLsbD q = true →
        arbAge s.dev q + 1 < max 1 (s.dev.fld arbP ARB.STARVE.STARVE_LIM)) →
      ∃ d, Machine.exec (.arbitrationPhase waits false 0) s = .next (s.put d) ∧ arbHolder d = r ∧ arbReserved d = r ∧
      arbAge d r = 0 ∧ others d) ∧
    (∀ r : Fin 17, phaseNow s.dev = true → arbHolder s.dev = r → arbReserved s.dev = r → s.dev.fld arbP ARB.CTL.RES_AGE = 0 →
      ∃ d, Machine.exec (.arbitrationPhase waits false 0) s = .next (s.put d) ∧ arbReserved d = 31 ∧ others d) ∧
    (∀ (c : Fin 4) (addr : Word), masked s.dev c = true →
      (∃ d, Machine.exec (.registerWrite (.hewer c) addr val) s = .next (s.put d) ∧
        d.arb = { s.dev.arb with stalls := s.dev.arb.stalls ++ [(c, .write addr val)] } ∧ d = { s.dev with arb := d.arb }) ∧
      (∃ d, Machine.exec (.rcRead (.hewer c) addr) s = .next (s.put d) ∧
        d.arb = { s.dev.arb with stalls := s.dev.arb.stalls ++ [(c, .read addr)] } ∧ d = { s.dev with arb := d.arb }) ∧
      (∃ d, Machine.exec (.lr c addr) s = .next (s.put d) ∧
        d.arb = { s.dev.arb with stalls := s.dev.arb.stalls ++ [(c, .lr addr)] } ∧ d = { s.dev with arb := d.arb })) ∧
    (∀ beats, phaseNow s.dev = true → arbHolder s.dev ≠ 31 → frozen s.dev = false → (s.dev.arb.cut = false ∨ beats = 0) →
      ∃ d, Machine.exec (.arbitrationPhase waits false beats) s = .next (s.put d) ∧ arbHolder d = arbHolder s.dev ∧
      d.arb.beats = s.dev.arb.beats + beats ∧
      others d) ∧
    (∀ beats, phaseNow s.dev = true → frozen s.dev = true → arbHolder s.dev < 4 → s.dev.arb.cut = false →
      ∃ d, Machine.exec (.arbitrationPhase waits false beats) s = .next (s.put d) ∧ arbHolder d = arbHolder s.dev ∧
      d.arb.cut = true ∧ d.on arbP ARB.GSTAT.FROZEN = false ∧ others d) ∧
    (∀ beats, phaseNow s.dev = true → frozen s.dev = true → arbHolder s.dev < 4 → s.dev.arb.cut = true → 0 < beats →
      ∃ d, Machine.exec (.arbitrationPhase 0 false beats) s = .next (s.put d) ∧ arbHolder d = 31 ∧
      d.on arbP ARB.GSTAT.FROZEN = true ∧ d.arb.beats = 0 ∧ others d) ∧
    (bitOf val 31 = true →
      ∃ d, Machine.exec (.freeze .deputy val) s = .next (s.put d) ∧ frozen d = true ∧
      (d.on arbP ARB.GSTAT.FROZEN = true ↔ arbHolder s.dev = 31 ∨ arbHolder s.dev = 4 ∨ arbHolder s.dev = 5) ∧
      (∀ r, r ≠ arbP + 0x040 → r ≠ arbP + 0x058 → d.reg r = s.dev.reg r) ∧ d.arb = s.dev.arb ∧ others d) ∧
    (∀ c : Fin 4, masked s.dev c = false → bitOf val 31 = true → frozen s.dev = false →
      ∃ d, Machine.exec (.freeze (.hewer c) val) s = .next (s.put d) ∧ frozen d = false ∧ d.on arbP ARB.EVT.WR_IGN = true ∧
      d.arb = s.dev.arb ∧ others d)

/-- R472 to R475: GO loads the descriptor's address and starts the channel, or stops it with an error where that is not in
Hewer SRAM; a descriptor copies its words, unless the channel is masked, and the channel stops at END or goes to NEXT; ABORT
stops it after the words moved. The model's own readings in it: log 69. -/
def Obligations.DmaChannel : Prop :=
  ∀ (s : State) (who : Requester) (ch : Fin 8) (val : Word), s.dev.serves who → isDma who = false →
    (bitOf val 0 = true → bitOf val 1 = false → dmaState s.dev ch ≠ 1 →
      ∃ d, Machine.exec (.dmaGo who ch val) s = .next (s.put d) ∧ d.reg (dmaA ch + 0xC) = s.dev.reg (dmaA ch) ∧
      (inSram (s.dev.reg (dmaA ch)).toNat = true → dmaState d ch = 1 ∧ d.events = s.dev.events) ∧
      (inSram (s.dev.reg (dmaA ch)).toNat = false → dmaState d ch = 3 ∧ d.on arbP ARB.EVT.DMA_ERR = true) ∧
      d = { s.dev with regs := d.regs, events := d.events, resp := d.resp, afault := d.afault }) ∧
    (dmaPaused s.dev ch = true → Machine.exec (.dmaDescriptorDone ch) s = .next s) ∧
    (∀ p src dst n w3, s.dev.dmaFrom ch p src dst n w3 →
      (dmaPaused s.dev ch = false → ∃ d, Machine.exec (.dmaDescriptorDone ch) s = .next (s.put d) ∧
        (∀ i, i < n → memWord d (dst + 4 * i) = memWord s.dev (src + 4 * i)) ∧
        (∀ x, x < dst ∨ dst + 4 * n ≤ x → memByte d x = memByte s.dev x) ∧
        (bitOf w3 1 = true → d.on arbP ARB.EVT.DMA_DONE = true) ∧
        (bitOf w3 0 = true → dmaState d ch = 2) ∧
        (bitOf w3 0 = false → d.reg (dmaA ch + 0xC) = BitVec.ofNat 32 (bits w3 4 28 * 16) ∧
          dmaState d ch = (if inSram (bits w3 4 28 * 16) = true then 1 else 3)) ∧
        (∀ r, pageBase r ≠ arbP → d.reg r = s.dev.reg r) ∧
        d = { s.dev with mem := d.mem, regs := d.regs, events := d.events, sys := { s.dev.sys with resv := d.sys.resv },
                         resp := d.resp, afault := d.afault }) ∧
      (∀ moved, bitOf val 1 = true →
        ∃ d, Machine.exec (.dmaAbort who ch val moved) s = .next (s.put d) ∧ dmaState d ch = 2 ∧
        (∀ i, i < min moved n → memWord d (dst + 4 * i) = memWord s.dev (src + 4 * i)) ∧
        (∀ x, x < dst ∨ dst + 4 * min moved n ≤ x → memByte d x = memByte s.dev x) ∧
        (∀ r, r ≠ dmaA ch + 8 → d.reg r = s.dev.reg r) ∧
        d = { s.dev with mem := d.mem, regs := d.regs, sys := { s.dev.sys with resv := d.sys.resv }, resp := d.resp,
                         afault := d.afault })) ∧
    (∀ d : Fin 8, bitOf val 0 = true →
      ∃ e, Machine.exec (.dmaGo (.dma d) ch val) s = .next (s.put e) ∧ e.on arbP ARB.EVT.WR_IGN = true ∧
      (∀ r, r ≠ arbP + 0x064 → e.reg r = s.dev.reg r) ∧ e.mem = s.dev.mem)

/-! ### Clocks, supplies, temperature, resets -/

/-- R494 to R499, R501, R526, R27: lock, spreading, which takes CAN controllers it disturbs off the bus, a loss of the root
that turns every gate off, the return of the clocks; core rails and temperatures with their messages, a rail below its reset
threshold holding the core die in reset; the resets of the supplies, of the pin and of a lost clock, each with its cause. The
model's own readings in it: log 73, 74, 79, 80, 82, 92. -/
def Obligations.ClocksSuppliesTemperature : Prop :=
  ∀ (s : State) (val : Word),
    let send := fun (m : FaultMsg) => { s.dev.flt with inflight := s.dev.flt.inflight ++ [m] }
    (asleep s.dev = false →
      ∃ d, Machine.exec .pllLock s = .next (s.put d) ∧ d.on clkP CLK.STAT.LOCKED = true ∧
      (∀ r, r ≠ clkP + 0x044 → d.reg r = s.dev.reg r) ∧ d = { s.dev with regs := d.regs, events := d.events }) ∧
    (∀ who, s.dev.serves who →
      ((∀ f, f < 16 → s.dev.on (frameP f) FRAME.CFG.RUN = false ∧ syncMode s.dev f ≠ 2) →
        ∃ d, Machine.exec (.clkCfgWrite who val) s = .next (s.put d) ∧
        d.reg (clkP + 0x040) = val &&& maskAt (clkP + 0x040) ∧
        d.sys = { s.dev.sys with spread := some (val &&& maskAt (clkP + 0x040)), spreadFrom := s.dev.now } ∧
        (∀ r, r ≠ clkP + 0x040 → d.reg r = s.dev.reg r) ∧
        d = { s.dev with regs := d.regs, sys := d.sys, resp := d.resp, afault := d.afault }) ∧
      ((∃ f, f < 16 ∧ (s.dev.on (frameP f) FRAME.CFG.RUN = true ∨ syncMode s.dev f = 2)) →
        ∃ d, Machine.exec (.clkCfgWrite who val) s = .next (s.put d) ∧ d.on clkP CLK.EVT.CFG_IGN = true ∧
        (∀ r, r ≠ clkP + 0x048 → d.reg r = s.dev.reg r) ∧
        d = { s.dev with regs := d.regs, events := d.events, resp := d.resp, afault := d.afault })) ∧
    (∀ rx, awake s.dev = true → spreadBottom s.dev s.dev.now ≤ spreadBottom s.dev s.dev.sys.spreadFrom →
      Machine.exec (.spreadChange rx) s = .next s) ∧
    (∀ w rx, awake s.dev = true → s.dev.sys.spread = some w →
      spreadBottom s.dev s.dev.sys.spreadFrom < spreadBottom s.dev s.dev.now →
      ∃ d, Machine.exec (.spreadChange rx) s = .next (s.put d) ∧ d.sys = { s.dev.sys with spread := none, spreadNow := w } ∧
      d.on clkP CLK.STAT.SPREADING = bitOf w 31 ∧
      (∀ n, n < 2 → canMode s.dev n ≠ 0 → canLimit w (s.dev.on (canP n) CAN.MODE.RATE_SW) = true →
        canMode d n = 0 ∧ canState d n = 0 ∧ (d.can n).bus = none ∧ d.on (canP n) CAN.EVT.SPREAD = true ∧
        ((s.dev.can n).bus ≠ none ∨ rx.getLsbD n = true → 1 ≤ d.fld (canP n) CAN.STAT.LASTERR ∧
          d.fld (canP n) CAN.STAT.LASTERR ≤ 6)) ∧
      (∀ n, n < 2 → canLimit w (s.dev.on (canP n) CAN.MODE.RATE_SW) = false → canMode d n = canMode s.dev n) ∧
      d.legs = s.dev.legs ∧ d.mem = s.dev.mem ∧ d.flt = s.dev.flt) ∧
    (∀ stop, awake s.dev = true → s.dev.on clkP CLK.STAT.LOCKED = true →
      ∃ d, Machine.exec (.clkLoss stop) s = .next (s.put d) ∧ (∀ k, k < 4 → d.dieLow k) ∧ awake d = false ∧
      d.on clkP CLK.STAT.LOCKED = false ∧ d.fld clkP CLK.STAT.MON = (if stop = true then 1 else 2) ∧
      d.on clkP CLK.EVT.LOSS = true ∧ d.mem = s.dev.mem ∧ d.mode = s.dev.mode) ∧
    (s.dev.sys.stopped = true →
      (∃ d, Machine.exec .relock s = .next (s.put d) ∧ d.sys.stopped = false ∧ d.on clkP CLK.STAT.LOCKED = true ∧
        d.on clkP CLK.EVT.RELOCK = true ∧ (∀ f, f < 16 → d.on (frameP f) FRAME.CFG.RUN = false ∧ frameRun d f = false) ∧
        (faultOf clkP 46 0, s.dev.now + 1) ∈ d.flt.waiting ∧ d.on fltP FLT.STAT.HARDSAFE = true ∧
        (s.dev.mode.faultsToSafe = true → d.mode = .safe) ∧ (s.dev.mode.faultsToSafe = false → d.mode = s.dev.mode)) ∧
      (∃ d, Machine.exec .clkfail s = .next (s.put d) ∧ d.mode = .powerUp ∧ bitOf (d.reg (topP + 0x054)) 4 = true ∧
        d.legs = [] ∧ d.dies = [] ∧ d.wet = [] ∧ (∀ x, inMram x = true → memByte d x = memByte s.dev x))) ∧
    (s.dev.sys.stopped = false → Machine.exec .relock s = .next s ∧ Machine.exec .clkfail s = .next s) ∧
    (∀ rail : Fin 3, asleep s.dev = false →
      (∃ d, Machine.exec (.porc rail) s = .next (s.put d) ∧ d.mode = .powerUp ∧ bitOf (d.reg (topP + 0x054)) 1 = true ∧
        rail.val ∈ d.sys.coreLow ∧ awake d = false ∧
        d.legs = [] ∧ d.wet = [] ∧ (∀ x, inMram x = true → memByte d x = memByte s.dev x)) ∧
      (∃ d, Machine.exec .pinReset s = .next (s.put d) ∧ d.mode = .powerUp ∧ bitOf (d.reg (topP + 0x054)) 2 = true ∧
        d.legs = [] ∧ d.wet = [] ∧ (∀ x, inMram x = true → memByte d x = memByte s.dev x))) ∧
    (∃ d, Machine.exec .pora s = .next (s.put d) ∧ d.mode = .powerUp ∧ d.reg (topP + 0x054) = 1 ∧ d.legs = [] ∧ d.wet = [] ∧
      d.regs = [] ∧ (∀ x, inMram x = true → memByte d x = memByte s.dev x)) ∧
    (∀ (rail : Fin 3) (high : Bool), asleep s.dev = false →
      (s.dev.on pwrP (railIn rail) = true ∨ s.dev.on pwrP (railOver rail) = false ∧ rail.val ∉ s.dev.sys.railUv →
        ∃ d, Machine.exec (.coreSupply rail high) s = .next (s.put d) ∧ d.on pwrP (railIn rail) = false ∧
        d.on pwrP (if high = true then PWR.EVT.RAIL_OV else PWR.EVT.RAIL_UV) = true ∧ d.flt = send (faultOf pwrP 50 rail) ∧
        (∀ r, r ≠ pwrP + 0x040 → r ≠ pwrP + 0x04C → d.reg r = s.dev.reg r) ∧
        (rail.val ∈ d.sys.railUv ↔ high = false) ∧
        d = { s.dev with regs := d.regs, events := d.events, flt := d.flt, sys := { s.dev.sys with railUv := d.sys.railUv } }) ∧
      (s.dev.on pwrP (railIn rail) = false → s.dev.on pwrP (railOver rail) = high → (high = true ∨ rail.val ∈ s.dev.sys.railUv) →
        Machine.exec (.coreSupply rail high) s = .next s) ∧
      (∃ d, Machine.exec (.coreSupplyReturn rail) s = .next (s.put d) ∧ d.on pwrP (railIn rail) = true ∧
        (∀ r, r ≠ pwrP + 0x040 → d.reg r = s.dev.reg r) ∧ rail.val ∉ d.sys.railUv ∧ rail.val ∉ d.sys.coreLow ∧
        (∀ j, j ≠ rail.val → (j ∈ d.sys.coreLow ↔ j ∈ s.dev.sys.coreLow)) ∧
        d = { s.dev with regs := d.regs, events := d.events,
                         sys := { s.dev.sys with railUv := d.sys.railUv, coreLow := d.sys.coreLow } })) ∧
    (∀ (die : Fin 5) (t : BitVec 8), asleep s.dev = false → (die.val = 4 ∨ (s.dev.die die).link = true) →
      (tempWarnAt s.dev < t.toNat →
        ∃ d, Machine.exec (.tempWarn die t) s = .next (s.put d) ∧ (d.die die).warnSent = true ∧
        d.flt = (if (s.dev.die die).warnSent = true then s.dev.flt
          else send (faultOf (if die.val = 4 then pwrP else ddieP die) 51 t.toNat)) ∧
        (∀ j, j ≠ die.val → d.die j = s.dev.die j) ∧ (∀ r, pageBase r ≠ pwrP → d.reg r = s.dev.reg r) ∧
        d = { s.dev with regs := d.regs, events := d.events, dies := d.dies, flt := d.flt }) ∧
      (Config.tempShut < t.toNat →
        ∃ d, Machine.exec (.tempShut die t) s = .next (s.put d) ∧ (d.die die).shutSent = true ∧
        d.flt = (if (s.dev.die die).shutSent = true then s.dev.flt
          else send (faultOf (if die.val = 4 then pwrP else ddieP die) 52 t.toNat)) ∧
        (∀ j, j ≠ die.val → d.die j = s.dev.die j) ∧ (∀ r, pageBase r ≠ pwrP → d.reg r = s.dev.reg r) ∧
        d = { s.dev with regs := d.regs, events := d.events, dies := d.dies, flt := d.flt }) ∧
      (∃ d, Machine.exec (.tempFall die t) s = .next (s.put d) ∧
        (d.die die).warnSent = ((s.dev.die die).warnSent && decide (tempWarnAt s.dev ≤ t.toNat + 10)) ∧
        (d.die die).shutSent = ((s.dev.die die).shutSent && decide (Config.tempShut ≤ t.toNat + 10)) ∧
        d.flt = s.dev.flt ∧ (∀ j, j ≠ die.val → d.die j = s.dev.die j) ∧ d = { s.dev with regs := d.regs, dies := d.dies }))

/-- R502 to R507, R509, R510, R561: MODE_REQ takes a row of the table whose condition holds, from whom it allows, and is
refused with its reason otherwise; the entry to SLEEP ends with PWREN low, every gate low and no drive mode; the end of
power-up with the rails within limits; a wake event, which one during the entry to SLEEP acts after; and the resets of the
device and of the Hewer complex, and HCTL. The model's own readings in it: log 75, 79. -/
def Obligations.ModesAndResets : Prop :=
  ∀ (s : State) (who : Requester) (val : Word),
    let refused := fun (d : Dev) (reason : Nat) =>
      d.reg (topP + 0x04C) = BitVec.ofNat 32 (2 ^ 31 + bits val 0 4 * 2 ^ 16 + reason * 2 ^ 8) ∧
      d.on topP TOP.EVT.MODE_REFUSED = true ∧ d.mode = s.dev.mode ∧
      (∀ r, r ≠ topP + 0x04C → r ≠ topP + 0x068 → d.reg r = s.dev.reg r) ∧
      d = { s.dev with regs := d.regs, events := d.events, sys := { s.dev.sys with reqCycle := d.sys.reqCycle }, resp := d.resp,
                       afault := d.afault }
    (s.dev.serves who → s.dev.sys.reqCycle ≠ some (s.dev.now / 2) → s.dev.sys.modeCycle ≠ some (s.dev.now / 2) →
      (∀ m holder, Mode.ofCode (bits val 0 4) = some m → modeRow s.dev m = some (holder, 0) →
        (if holder = true then asHolder s.dev who else who == .deputy) = true →
        ∃ d, Machine.exec (.modeReq who val) s = .next (s.put d) ∧ (m ≠ .run → d.mode = m) ∧
        (m = .run → d.mode = .run ∨ d.mode = .limp) ∧ d.sys.pwren = s.dev.sys.pwren ∧ d.mem = s.dev.mem) ∧
      (∀ m holder reason, Mode.ofCode (bits val 0 4) = some m → modeRow s.dev m = some (holder, reason) → reason ≠ 0 →
        (if holder = true then asHolder s.dev who else who == .deputy) = true →
        ∃ d, Machine.exec (.modeReq who val) s = .next (s.put d) ∧ refused d reason) ∧
      (∀ m holder reason, Mode.ofCode (bits val 0 4) = some m → modeRow s.dev m = some (holder, reason) →
        (if holder = true then asHolder s.dev who else who == .deputy) = false →
        ∃ d, Machine.exec (.modeReq who val) s = .next (s.put d) ∧ refused d 2) ∧
      ((∀ m, Mode.ofCode (bits val 0 4) = some m → modeRow s.dev m = none) →
        ∃ d, Machine.exec (.modeReq who val) s = .next (s.put d) ∧ refused d 1)) ∧
    (s.dev.serves who → s.dev.sys.reqCycle = some (s.dev.now / 2) →
      ∃ d, Machine.exec (.modeReq who val) s = .next (s.put d) ∧ refused d 6) ∧
    (s.dev.serves who → s.dev.sys.reqCycle ≠ some (s.dev.now / 2) → s.dev.sys.modeCycle = some (s.dev.now / 2) →
      ∃ d, Machine.exec (.modeReq who val) s = .next (s.put d) ∧ refused d 5) ∧
    (s.dev.mode = .sleep → s.dev.sys.pwren = true → s.dev.sys.reqCycle ≠ some (s.dev.now / 2) → s.dev.sys.wakes = [] →
      (sleepDue s.dev).sys.pwren = false ∧ (sleepDue s.dev).mode = .sleep ∧
      ∀ k, k < 4 → (sleepDue s.dev).dieLow k ∧ bits ((sleepDue s.dev).die k).cfg 0 2 = 0) ∧
    (awake s.dev = true → s.dev.mode = .powerUp → s.dev.on clkP CLK.STAT.LOCKED = true → railBad s.dev = false →
      ∃ d, Machine.exec .powerUpDone s = .next (s.put d) ∧ d.mode = .boot ∧ d.on authP AUTH.STATE.DCLAIM = true ∧
      d.mem = s.dev.mem) ∧
    (awake s.dev = true → s.dev.mode = .powerUp → s.dev.on clkP CLK.STAT.LOCKED = false ∨ railBad s.dev = true →
      Machine.exec .powerUpDone s = .next s) ∧
    (∀ (ev : Fin 9) (level : Bool) (seen : Nat) (pvw : List (BitVec 16)), s.dev.mode = .sleep → asleep s.dev = false →
      bitOf (s.dev.reg (pwrP + 0x054)) ev = true → wakeMet s.dev ev level seen (pvw.map (·.toNat)) = true →
      ∃ d, Machine.exec (.wakeEvent ev level seen pvw) s = .next (s.put d) ∧
      d = { s.dev with sys := { s.dev.sys with wakes := s.dev.sys.wakes ++ [ev.val] } }) ∧
    (∀ (ev : Fin 9) (level : Bool) (seen : Nat) (pvw : List (BitVec 16)), asleep s.dev = true →
      bitOf (s.dev.reg (pwrP + 0x054)) ev = true → wakeMet s.dev ev level seen (pvw.map (·.toNat)) = true →
      ∃ d, Machine.exec (.wakeEvent ev level seen pvw) s = .next (s.put d) ∧ d.mode = .powerUp ∧ bitOf (d.reg (pwrP + 0x058)) ev = true ∧
      (s.dev.fld pwrP PWR.WAKE_CAUSE.FIRST = 15 → d.fld pwrP PWR.WAKE_CAUSE.FIRST = ev) ∧
      (s.dev.fld pwrP PWR.WAKE_CAUSE.FIRST ≠ 15 →
        d.fld pwrP PWR.WAKE_CAUSE.FIRST = s.dev.fld pwrP PWR.WAKE_CAUSE.FIRST) ∧
      bitOf (d.reg (topP + 0x054)) 5 = true ∧ (∀ x, inMram x = true → memByte d x = memByte s.dev x)) ∧
    (∀ (ev : Fin 9) (level : Bool) (seen : Nat) (pvw : List (BitVec 16)), s.dev.mode ≠ .sleep ∨
        bitOf (s.dev.reg (pwrP + 0x054)) ev = false ∨
        (ev.val < 2 ∧ seen < 10) ∨ (ev.val = 8 ∧ rtcCount s.dev < alarmCount s.dev) ∨
        (ev.val = 7 ∧ ∀ v ∈ pvw, v.toNat < 10 * max 10 (s.dev.fld pwrP PWR.PVW.TH)) →
      Machine.exec (.wakeEvent ev level seen pvw) s = .next s) ∧
    (s.dev.serves who →
      (bits val 24 8 = 0xB7 → bitOf val 0 = true → (who = .deputy ∨ (who = .spi ∧ s.dev.mode = .update)) →
        ∃ d, Machine.exec (.softReset who val) s = .next (s.put d) ∧ d.mode = .powerUp ∧
        bitOf (d.reg (topP + 0x054)) 3 = true ∧ d.legs = [] ∧ d.wet = [] ∧
        (∀ x, inMram x = true → memByte d x = memByte s.dev x)) ∧
      (bits val 24 8 ≠ 0xB7 →
        ∃ d, Machine.exec (.softReset who val) s = .next (s.put d) ∧ d.on topP TOP.EVT.CFG_IGN = true ∧
        (∀ r, r ≠ topP + 0x068 → d.reg r = s.dev.reg r) ∧
        d = { s.dev with regs := d.regs, events := d.events, resp := d.resp, afault := d.afault }) ∧
      (∀ moved, okMoved moved = true → bits val 24 8 = 0xB7 → bitOf val 1 = true → bitOf val 0 = false →
        ∃ d, Machine.exec (.hewerReset .deputy val moved) s = .next (s.put d) ∧ d.reg (topP + 0x058) = 0 ∧
        bitOf (d.reg (topP + 0x054)) 6 = true ∧ (∀ c, c < 4 → resvOf d c = none) ∧ (∀ ch, ch < 8 → dmaState d ch ≠ 1) ∧
        (∀ h, h ∈ d.sys.halted → 4 ≤ h) ∧
        (moved = [] → stamp s.dev = 1 → stamp d = 2 ∧ authPhase d = 2 ∧ d.auth.due = none ∧ d.on authP AUTH.EVT.TAKEN = true ∧
          d.on authP AUTH.EVT.SWITCHED = true) ∧
        (moved = [] → d.mem = s.dev.mem ∧ d.legs = s.dev.legs)) ∧
      (∀ moved, 8 < moved.length → Machine.exec (.hewerReset who val moved) s = .fault .illFormed) ∧
      (∃ d, Machine.exec (.hctlRelease .deputy val) s = .next (s.put d) ∧ d.reg (topP + 0x058) = val &&& 0xF ∧
        (val &&& 0xF &&& ~~~(s.dev.reg (topP + 0x058)) ≠ 0 → ∀ x ∈ d.flt.open_, x.1 ≠ .hewer) ∧
        d.flt = { s.dev.flt with open_ := d.flt.open_ } ∧
        d = { s.dev with regs := d.regs, flt := d.flt, resp := d.resp, afault := d.afault }) ∧
      (who ≠ .deputy →
        ∃ d, Machine.exec (.hctlRelease who val) s = .next (s.put d) ∧ d = { s.dev with resp := d.resp, afault := d.afault }))

/-- R511 to R514, R518: the boot ends in CONFIGURE with the image of the slot it chose, or in UPDATE where neither slot is
valid; ERASE and VERIFY run on the slot that was not booted and end in DONE; a write to a slot lands in UPDATE alone. The
model's own readings in it: log 77, 104. -/
def Obligations.BootAndUpdate : Prop :=
  ∀ (s : State) (who : Requester) (val : Word), s.dev.serves who →
    (∀ k, s.dev.mode = .boot → journalReady s.dev = true → injArmed s.dev = false →
      bootSlot s.dev (imageValid s.dev 0) (imageValid s.dev 1) = some k →
      ∃ d, Machine.exec .bootDone s = .next (s.put d) ∧ d.mode = .configure ∧ d.fld nvP NV.UPD_STAT.ACTIVE = k ∧
      d.on nvP NV.UPD_STAT.BOOTED = true ∧ d.reg (topP + 0x05C) = BitVec.ofNat 32 (imgWord s.dev k 0x18) ∧
      memBytes d 0x18000000 (imgWord s.dev k 0x10) = memBytes s.dev (slotBase k + imgWord s.dev k 0x0C) (imgWord s.dev k 0x10) ∧
      (∀ x, inDeputy x = false → memByte d x = memByte s.dev x)) ∧
    (s.dev.mode = .boot → journalReady s.dev = true → injArmed s.dev = false → imageValid s.dev 0 = false →
      imageValid s.dev 1 = false →
      ∃ d, Machine.exec .bootDone s = .next (s.put d) ∧ d.mode = .update ∧ d.fld nvP NV.UPD_STAT.VALID_A = 0 ∧
      d.fld nvP NV.UPD_STAT.VALID_B = 0 ∧ d.mem = s.dev.mem) ∧
    (bits val 0 2 = 1 → s.dev.sys.upd = 0 → s.dev.mode = .update →
      ∃ d, Machine.exec (.erase who val) s = .next (s.put d) ∧ d.sys = { s.dev.sys with upd := 1 } ∧
      d.fld nvP NV.UPD_STAT.STATE = 1 ∧ (∀ r, pageBase r ≠ nvP → d.reg r = s.dev.reg r) ∧
      d = { s.dev with regs := d.regs, sys := d.sys, resp := d.resp, afault := d.afault }) ∧
    (bits val 0 2 = 1 → s.dev.sys.upd = 0 → s.dev.mode ≠ .update →
      ∃ d, Machine.exec (.erase who val) s = .next (s.put d) ∧ d.on nvP NV.UPD_EVT.WR_IGN = true ∧
      (∀ r, r ≠ nvP + 0x10C → d.reg r = s.dev.reg r) ∧
      d = { s.dev with regs := d.regs, events := d.events, resp := d.resp, afault := d.afault }) ∧
    (bits val 0 2 = 2 → s.dev.sys.upd = 0 →
      ∃ d, Machine.exec (.verifySlot who val) s = .next (s.put d) ∧ d.sys = { s.dev.sys with upd := 2 } ∧
      d.fld nvP NV.UPD_STAT.STATE = 1 ∧ (∀ r, pageBase r ≠ nvP → d.reg r = s.dev.reg r) ∧
      d = { s.dev with regs := d.regs, sys := d.sys, resp := d.resp, afault := d.afault }) ∧
    (s.dev.sys.upd = 1 →
      ∃ d, Machine.exec .updDone s = .next (s.put d) ∧ d.sys = { s.dev.sys with upd := 0 } ∧
      d.fld nvP NV.UPD_STAT.STATE = 2 ∧ d.on nvP NV.UPD_EVT.DONE = true ∧
      d.mem = s.dev.mem.filter (fun c => slotAt c.1 != some (updSlot s.dev)) ∧
      (∀ r, pageBase r ≠ nvP → d.reg r = s.dev.reg r) ∧
      d = { s.dev with mem := d.mem, regs := d.regs, events := d.events, sys := d.sys }) ∧
    (s.dev.sys.upd = 2 → injArmed s.dev = false →
      ∃ d, Machine.exec .updDone s = .next (s.put d) ∧ d.sys = { s.dev.sys with upd := 0 } ∧
      d.fld nvP NV.UPD_STAT.STATE = (if imageValid s.dev (updSlot s.dev) = true then 2 else 3) ∧
      d.on nvP (if updSlot s.dev = 0 then NV.UPD_STAT.VALID_A else NV.UPD_STAT.VALID_B) = imageValid s.dev (updSlot s.dev) ∧
      d.on nvP NV.UPD_EVT.DONE = true ∧ d = { s.dev with regs := d.regs, events := d.events, sys := d.sys }) ∧
    (∀ (addr : Word) k, addr.toNat % 4 = 0 → slotAt addr.toNat = some k →
      (s.dev.mode = .update → (s.dev.on nvP NV.UPD_STAT.BOOTED = false ∨ s.dev.fld nvP NV.UPD_STAT.ACTIVE ≠ k) →
        ∃ d, Machine.exec (.slotWrite who addr val) s = .next (s.put d) ∧ memWord d addr.toNat = val ∧
        (∀ x, x < addr.toNat ∨ addr.toNat + 4 ≤ x → memByte d x = memByte s.dev x) ∧
        d = { s.dev with mem := d.mem, resp := d.resp, afault := d.afault }) ∧
      (s.dev.mode ≠ .update →
        ∃ d, Machine.exec (.slotWrite who addr val) s = .next (s.put d) ∧ d.on nvP NV.UPD_EVT.WR_IGN = true ∧
        (∀ r, r ≠ nvP + 0x10C → d.reg r = s.dev.reg r) ∧
        d = { s.dev with regs := d.regs, events := d.events, resp := d.resp, afault := d.afault }))

/-! ### Host interfaces -/

/-- R520 to R524: a request with the CRC-8 of its bytes makes its accesses in order and is answered from 0x5A to its own CRC
with what they say: data, ACCERR at an access fault, BLOCKED under R455; a wrong CRC, a reserved command, a low field that has
to be 0 and a port that is busy refuse it without an access; a frame that CS_N ends before its CRC is recorded, one that it
ends after it is served unanswered; a timeout is recorded, and a late access lands. The model's own readings in it: log 85. -/
def Obligations.SpiRequests : Prop :=
  ∀ (s : State) (addr val : Word) (low : BitVec 5) (n : Nat) (vals : List Word), awake s.dev = true →
    let a := wordAddr addr
    let note := fun (cause word : Nat) (r : SpiReq) (d : Dev) =>
      d.reg (spiP + 0x050) = BitVec.ofNat 32 (2 ^ 31 + cause * 2 ^ 24 + word * 2 ^ 16 + r.cmd.toNat) ∧
      d.reg (spiP + 0x054) = r.addr ∧ (∀ x, pageBase x ≠ spiP → d.reg x = s.dev.reg x) ∧
      d.flt = { s.dev.flt with inflight := s.dev.flt.inflight ++ [faultOf spiP 55 cause] }
    let answers := fun (d : Dev) (status : Nat) (data : List Word) => d.spi.sent = true ∧ d.spi.status = status ∧
      d.spi.data = data ∧ d.spi.resp = spiFrame status data
    let bad := fun (r : SpiReq) (d : Dev) => answers d 4 (spiZeros r) ∧ note 5 0 r d ∧
      d = { s.dev with regs := d.regs, events := d.events, flt := d.flt, spi := d.spi }
    let wrong := fun (r : SpiReq) (d : Dev) => answers d 128 (spiZeros r) ∧ d.on spiP SPI.EVT.CRC = true ∧
      d.fld spiP SPI.COUNT.CRC = satInc 16 (s.dev.fld spiP SPI.COUNT.CRC) ∧ note 1 0 r d ∧
      d = { s.dev with regs := d.regs, events := d.events, flt := d.flt, spi := d.spi }
    (s.dev.spi.busy = none →
      (∀ r, access .spi a false = some r → injArmed s.dev = false →
        ∃ d, Machine.exec (.spiRead 0 addr (spiCrc (spiReq 0 addr []))) s = .next (s.put d) ∧
        answers d 0 [(regionRead .spi r a s.dev).1] ∧
        d = { (busRead .spi (at_ a) s.dev).2 with spi := d.spi }) ∧
      (access .spi a false = none →
        ∃ d, Machine.exec (.spiRead 0 addr (spiCrc (spiReq 0 addr []))) s = .next (s.put d) ∧ answers d 64 [0] ∧
        d.on spiP SPI.EVT.ACCESS = true ∧ note 2 0 (spiReq 0 addr []) d ∧
        d = { s.dev with regs := d.regs, events := d.events, flt := d.flt, spi := d.spi, resp := d.resp, afault := d.afault }) ∧
      (∀ r, access .spi a true = some r →
        ∃ d, Machine.exec (.spiWrite 0 addr val (spiCrc (spiReq 32 addr [val]))) s = .next (s.put d) ∧
        answers d (if blocked s.dev .spi a = true then 8 else 0) [] ∧
        d = { busWrite .spi (at_ a) val s.dev with spi := d.spi }) ∧
      (access .spi a true = none →
        ∃ d, Machine.exec (.spiWrite 0 addr val (spiCrc (spiReq 32 addr [val]))) s = .next (s.put d) ∧ answers d 64 [] ∧
        d.on spiP SPI.EVT.ACCESS = true ∧ note 2 0 (spiReq 32 addr [val]) d ∧
        d = { s.dev with regs := d.regs, events := d.events, flt := d.flt, spi := d.spi, resp := d.resp, afault := d.afault }) ∧
      (1 ≤ n → n ≤ 32 → inSram a = true → a + 4 * n ≤ 0x10200000 → injArmed s.dev = false →
        ∃ d, Machine.exec (.burstRd addr n (spiCrc (spiReq (cmdByte 2 (BitVec.ofNat 5 (n - 1))) addr []))) s = .next (s.put d) ∧
        answers d 0 ((List.range n).map (fun i => memWord s.dev (a + 4 * i))) ∧
        d = { s.dev with spi := d.spi, resp := d.resp, afault := d.afault }) ∧
      (1 ≤ vals.length → vals.length ≤ 32 → inSram a = true → a + 4 * vals.length ≤ 0x10200000 →
        ∃ d, Machine.exec (.burstWr addr vals (spiCrc (spiReq (cmdByte 3 (BitVec.ofNat 5 (vals.length - 1))) addr vals))) s =
          .next (s.put d) ∧ answers d 0 [] ∧
        (∀ i, i < vals.length → memWord d (a + 4 * i) = vals.getD i 0) ∧
        (∀ x, x < a ∨ a + 4 * vals.length ≤ x → memByte d x = memByte s.dev x) ∧
        d = { s.dev with mem := d.mem, spi := d.spi, sys := { s.dev.sys with resv := d.sys.resv }, resp := d.resp,
                         afault := d.afault }) ∧
      (∃ d, Machine.exec (.barrier 0 addr (spiCrc (spiReq (cmdByte 4 0) addr []))) s = .next (s.put d) ∧ answers d 0 [] ∧
        d = { s.dev with spi := d.spi }) ∧
      (∀ cmd : Byte, okReadCmd cmd = true → cmd ≠ 0 →
        ∃ d, Machine.exec (.spiRead cmd addr (spiCrc (spiReq cmd addr []))) s = .next (s.put d) ∧ bad (spiReq cmd addr []) d) ∧
      (low ≠ 0 →
        (∃ d, Machine.exec (.spiWrite low addr val (spiCrc (spiReq (cmdByte 1 low) addr [val]))) s = .next (s.put d) ∧
          bad (spiReq (cmdByte 1 low) addr [val]) d) ∧
        (∃ d, Machine.exec (.barrier low addr (spiCrc (spiReq (cmdByte 4 low) addr []))) s = .next (s.put d) ∧
          bad (spiReq (cmdByte 4 low) addr []) d)) ∧
      (1 < low.toNat → ∃ d, Machine.exec (.spiCast low addr (spiCrc (spiReq (cmdByte 5 low) addr []))) s = .next (s.put d) ∧
        bad (spiReq (cmdByte 5 low) addr []) d) ∧
      (∀ p i, low.toNat ≤ 1 → regionAt a = some (.page p i) → blocked s.dev .spi (pageBase a + 0x01C) = false →
        access .spi (pageBase a + 0x01C) true ≠ none →
        ∃ d, Machine.exec (.spiCast low addr (spiCrc (spiReq (cmdByte 5 low) addr []))) s = .next (s.put d) ∧ answers d 0 [] ∧
        d = { busWrite .spi (at_ (pageBase a + 0x01C)) (BitVec.ofNat 32 (1 + 2 * low.toNat)) s.dev with spi := d.spi }) ∧
      (∀ crc : Byte,
        (crc ≠ spiCrc (spiReq 0 addr []) →
          ∃ d, Machine.exec (.spiRead 0 addr crc) s = .next (s.put d) ∧ wrong (spiReq 0 addr []) d) ∧
        (crc ≠ spiCrc (spiReq (cmdByte 1 low) addr [val]) →
          ∃ d, Machine.exec (.spiWrite low addr val crc) s = .next (s.put d) ∧ wrong (spiReq (cmdByte 1 low) addr [val]) d) ∧
        (1 ≤ n → n ≤ 32 → crc ≠ spiCrc (spiReq (cmdByte 2 (BitVec.ofNat 5 (n - 1))) addr []) →
          ∃ d, Machine.exec (.burstRd addr n crc) s = .next (s.put d) ∧
          wrong (spiReq (cmdByte 2 (BitVec.ofNat 5 (n - 1))) addr []) d) ∧
        (1 ≤ vals.length → vals.length ≤ 32 → crc ≠ spiCrc (spiReq (cmdByte 3 (BitVec.ofNat 5 (vals.length - 1))) addr vals) →
          ∃ d, Machine.exec (.burstWr addr vals crc) s = .next (s.put d) ∧
          wrong (spiReq (cmdByte 3 (BitVec.ofNat 5 (vals.length - 1))) addr vals) d) ∧
        (crc ≠ spiCrc (spiReq (cmdByte 4 low) addr []) →
          ∃ d, Machine.exec (.barrier low addr crc) s = .next (s.put d) ∧ wrong (spiReq (cmdByte 4 low) addr []) d) ∧
        (crc ≠ spiCrc (spiReq (cmdByte 5 low) addr []) →
          ∃ d, Machine.exec (.spiCast low addr crc) s = .next (s.put d) ∧ wrong (spiReq (cmdByte 5 low) addr []) d)) ∧
      (∀ r : SpiReq, okSpi r = true → spiBad r = false →
        ∃ d, Machine.exec (.spiTimeout r (spiCrc r)) s = .next (s.put d) ∧
        d.spi = ⟨spiFrame 32 (spiZeros r), some r, true, 32, spiZeros r⟩ ∧
        d.on spiP SPI.EVT.TIMEOUT = true ∧ d.fld spiP SPI_TIMEOUTS = satInc 16 (s.dev.fld spiP SPI_TIMEOUTS) ∧
        (∀ x, pageBase x ≠ spiP → d.reg x = s.dev.reg x) ∧
        d = { s.dev with regs := d.regs, events := d.events, spi := d.spi }) ∧
      (∀ r, access .spi a true = some r →
        let w := busWrite .spi (at_ a) val s.dev
        let q := spiReq 32 addr [val]
        ∃ d, Machine.exec (.spiFrameAbort q (some (spiCrc q))) s = .next (s.put d) ∧ d.on spiP SPI.EVT.FRAME = true ∧
        d.reg (spiP + 0x050) = BitVec.ofNat 32 (2 ^ 31 + 3 * 2 ^ 24 + 32) ∧ d.reg (spiP + 0x054) = addr ∧
        (∀ x, pageBase x ≠ spiP → d.reg x = w.reg x) ∧
        d = { w with regs := d.regs, events := d.events, flt := d.flt,
                     spi := { w.spi with resp := [], sent := false, status := 0, data := [] } })) ∧
    (s.dev.spi.busy ≠ none →
      (∃ d, Machine.exec (.spiRead 0 addr (spiCrc (spiReq 0 addr []))) s = .next (s.put d) ∧ answers d 16 [0] ∧
        d.spi.busy = s.dev.spi.busy ∧ d.on spiP SPI.EVT.BUSY_REJ = true ∧ (∀ x, x ≠ spiP + 0x044 → d.reg x = s.dev.reg x) ∧
        d = { s.dev with regs := d.regs, events := d.events, spi := d.spi }) ∧
      (∃ d, Machine.exec (.spiWrite 0 addr val (spiCrc (spiReq 32 addr [val]))) s = .next (s.put d) ∧ answers d 16 [] ∧
        d.spi.busy = s.dev.spi.busy ∧ d.mem = s.dev.mem ∧ d = { s.dev with regs := d.regs, events := d.events, spi := d.spi })) ∧
    (∀ r : SpiReq, okSpi r = true →
      ∃ d, Machine.exec (.spiFrameAbort r none) s = .next (s.put d) ∧
      d.spi = { s.dev.spi with resp := [], sent := false, status := 0, data := [] } ∧
      d.on spiP SPI.EVT.FRAME = true ∧ note 3 0 r d ∧
      d = { s.dev with regs := d.regs, events := d.events, flt := d.flt, spi := d.spi }) ∧
    (∀ r, s.dev.spi.busy = some (spiReq 32 addr [val]) → access .spi a true = some r →
      ∃ d, Machine.exec .spiLateCompletion s = .next (s.put d) ∧ d.spi.busy = none ∧
      d = { busWrite .spi (at_ a) val s.dev with spi := { (busWrite .spi (at_ a) val s.dev).spi with busy := none } }) ∧
    (s.dev.spi.busy = none → Machine.exec .spiLateCompletion s = .next s)

/-- R525 to R528, R549: MODE takes a controller onto the bus and off it, where its frame ends with an error; SEND queues
mailboxes and the one that wins goes onto the bus, one with FDF only under FD_EN; ABORT withdraws a mailbox that is not on it;
a frame sent clears its mailbox and in the internal loopback is received; a frame received is filtered and takes a place in
the FIFO, which RXNEXT frees; errors count, ONESHOT sends none again, and a controller leaves the bus past 255 and rejoins, or
goes OFFLINE where AUTO_REJOIN is 0 or is cleared in bus-off. The model's own readings in it: log 10, 82. -/
def Obligations.CanController : Prop :=
  ∀ (s : State) (who : Requester) (n : Fin 2) (val : Word), s.dev.serves who →
    let frame := fun d : Dev => (∀ m, m ≠ n.val → d.can m = s.dev.can m) ∧ (∀ r, pageBase r ≠ canP n → d.reg r = s.dev.reg r) ∧
      d = { s.dev with regs := d.regs, events := d.events, cans := d.cans, resp := d.resp, afault := d.afault, free := d.free }
    (canMode s.dev n = 0 → 1 ≤ bits val 28 4 → bits val 28 4 ≤ 3 → canLimit s.dev.sys.spreadNow (bitOf val 9) = false →
      ∃ d, Machine.exec (.canModeWrite who n val) s = .next (s.put d) ∧ canMode d n = bits val 28 4 ∧ canState d n = 1 ∧ frame d) ∧
    (canMode s.dev n ≠ 0 → bits val 28 4 = 0 →
      ∃ d, Machine.exec (.canModeWrite who n val) s = .next (s.put d) ∧ canMode d n = 0 ∧ canState d n = 0 ∧
      (d.can n).bus = none ∧ d.fld (canP n) CAN.STAT.TXERR = 0 ∧
      (∀ b : Fin 16, (s.dev.can n).bus = some b.val →
        1 ≤ d.fld (canP n) CAN.STAT.LASTERR ∧ d.fld (canP n) CAN.STAT.LASTERR ≤ 6 ∧
        ((s.dev.can n).abort = true → bitOf (canQueued d n) b = false ∧ d.on (canP n) CAN.EVT.TX_ABORTED = true) ∧
        ((s.dev.can n).abort = false → bitOf val 11 = true → bitOf (canQueued d n) b = false) ∧
        ((s.dev.can n).abort = false → bitOf val 11 = false → canQueued d n = canQueued s.dev n)) ∧ frame d) ∧
    (canMode s.dev n ≠ 0 → 1 ≤ bits val 28 4 → bits val 28 4 ≤ 3 → canState s.dev n = 3 → bitOf val 10 = false →
      ∃ d, Machine.exec (.canModeWrite who n val) s = .next (s.put d) ∧ canMode d n = 0 ∧ canState d n = 0 ∧ frame d) ∧
    (canMode s.dev n = 0 → 1 ≤ bits val 28 4 → canLimit s.dev.sys.spreadNow (bitOf val 9) = true →
      ∃ d, Machine.exec (.canModeWrite who n val) s = .next (s.put d) ∧ canMode d n = 0 ∧
      d.on (canP n) CAN.EVT.CFG_IGN = true ∧ d.cans = s.dev.cans ∧ frame d) ∧
    (∃ d, Machine.exec (.canSend who n val false) s = .next (s.put d) ∧ canQueued d n = canQueued s.dev n ||| (val &&& 0xFFFF) ∧
      d.cans = s.dev.cans ∧ frame d) ∧
    ((canMode s.dev n = 1 ∨ canMode s.dev n = 3) → canState s.dev n ≠ 3 → (s.dev.can n).bus = none →
      ∃ d, Machine.exec (.canSend who n val true) s = .next (s.put d) ∧ canQueued d n = canQueued s.dev n ||| (val &&& 0xFFFF) ∧
      (d.can n).bus = canWinner d n ∧
      (∀ b c, (d.can n).bus = some b → c < 16 → canReady d n c = true → mboxId s.dev n b ≤ mboxId s.dev n c) ∧
      (∀ b, (d.can n).bus = some b → bitOf (s.dev.reg (mboxA n b)) 29 = true → s.dev.on (canP n) CAN.MODE.FD_EN = true) ∧
      frame d) ∧
    (∀ (b : Fin 16) (starts : Bool), val = BitVec.ofNat 32 (2 ^ b.val) → bitOf (canQueued s.dev n) b = true →
      ((s.dev.can n).bus ≠ some b.val →
        ∃ d, Machine.exec (.canAbort who n val starts) s = .next (s.put d) ∧ bitOf (canQueued d n) b = false ∧
        d.on (canP n) CAN.EVT.TX_ABORTED = true ∧ (starts = false ∨ (s.dev.can n).bus ≠ none → d.cans = s.dev.cans) ∧ frame d) ∧
      ((s.dev.can n).bus = some b.val →
        ∃ d, Machine.exec (.canAbort who n val starts) s = .next (s.put d) ∧ canQueued d n = canQueued s.dev n ∧
        d.can n = { s.dev.can n with abort := true } ∧ frame d)) ∧
    (∀ (b : Fin 16) (starts : Bool) (sof : Nat), canLive s.dev n = true → canMode s.dev n ≠ 2 →
      bitOf (canQueued s.dev n) b = true → (s.dev.can n).bus = some b.val →
      let m := fun i => s.dev.reg (mboxA n b + 4 * i)
      let w0 := if s.dev.on (canP n) CAN.MODE.RATE_SW = true then m 0 else m 0 &&& ~~~0x10000000
      ∃ d, Machine.exec (.txDone n b starts sof) s = .next (s.put d) ∧ bitOf (canQueued d n) b = false ∧
      bitOf (d.reg (canP n + 0x068)) b = true ∧ d.on (canP n) CAN.EVT.TX_DONE = true ∧
      (starts = false → (d.can n).bus = none) ∧
      (starts = true → canMode s.dev n = 1 ∨ canMode s.dev n = 3 → (d.can n).bus = canWinner d n) ∧
      (d.can n).tec = (s.dev.can n).tec - 1 ∧ (canMode s.dev n ≠ 3 → (d.can n).fifo = (s.dev.can n).fifo) ∧
      (∀ i, canMode s.dev n = 3 → canAccept s.dev n w0 (m 1) = some i →
        ((s.dev.can n).fifo.length < 32 → d.on (canP n) CAN.EVT.RX = true ∧
          ∃ free : Nat → Word, (d.can n).fifo = (s.dev.can n).fifo ++ [((setBits w0 0 5 i &&& 0xF8F0001F) :: canId w0 (m 1) ::
            (List.range 16).map (fun j => lowBytes (canBytes (m 0) - 4 * j) (m (j + 2)) (free j)), sof)]) ∧
        (32 ≤ (s.dev.can n).fifo.length → d.on (canP n) CAN.EVT.RX_OVF = true ∧ (d.can n).fifo = (s.dev.can n).fifo)) ∧
      frame d) ∧
    (∀ (words : List Word) (sof : Nat), okElement words = true →
      canMode s.dev n = 3 ∨ (bitOf (words.getD 0 0) 29 = true ∧ s.dev.on (canP n) CAN.MODE.FD_EN = false) →
      Machine.exec (.canRx n words sof) s = .next s) ∧
    (∀ (words : List Word) (sof : Nat), okElement words = true → canLive s.dev n = true → canMode s.dev n ≠ 3 →
      bitOf (words.getD 0 0) 29 = false ∨ s.dev.on (canP n) CAN.MODE.FD_EN = true →
      (∀ i, canAccept s.dev n (words.getD 0 0) (words.getD 1 0) = some i → (s.dev.can n).fifo.length < 32 →
        ∃ d, Machine.exec (.canRx n words sof) s = .next (s.put d) ∧
        (d.can n).fifo = (s.dev.can n).fifo ++ [((setBits (words.getD 0 0) 0 5 i &&& 0xF8F0001F) ::
          canId (words.getD 0 0) (words.getD 1 0) :: (words.drop 2).take 16, sof)] ∧
        d.on (canP n) CAN.EVT.RX = true ∧ d.reg (canP n + 0x06C) = BitVec.ofNat 32 ((s.dev.can n).fifo.length + 1) ∧ frame d) ∧
      (∀ i, canAccept s.dev n (words.getD 0 0) (words.getD 1 0) = some i → 32 ≤ (s.dev.can n).fifo.length →
        ∃ d, Machine.exec (.canRx n words sof) s = .next (s.put d) ∧ (d.can n).fifo = (s.dev.can n).fifo ∧
        d.on (canP n) CAN.EVT.RX_OVF = true ∧
        d.fld (canP n) CAN.COUNT.RX = satInc 16 (s.dev.fld (canP n) CAN.COUNT.RX) ∧ frame d) ∧
      (canAccept s.dev n (words.getD 0 0) (words.getD 1 0) = none →
        ∃ d, Machine.exec (.canRx n words sof) s = .next (s.put d) ∧ (d.can n).fifo = (s.dev.can n).fifo ∧ frame d)) ∧
    (bitOf val 0 = true →
      ∃ d, Machine.exec (.rxnext who n val) s = .next (s.put d) ∧
      d.can n = { s.dev.can n with fifo := (s.dev.can n).fifo.drop 1 } ∧
      d.reg (canP n + 0x06C) = BitVec.ofNat 32 ((s.dev.can n).fifo.length - 1) ∧ frame d) ∧
    (canLive s.dev n = true → 256 ≤ (s.dev.can n).tec →
      ∃ d, Machine.exec (.busoff n) s = .next (s.put d) ∧ d.on (canP n) CAN.EVT.BUSOFF = true ∧ (d.can n).bus = none ∧
      (s.dev.on (canP n) CAN.MODE.AUTO_REJOIN = true → canState d n = 3 ∧ canMode d n = canMode s.dev n) ∧
      (s.dev.on (canP n) CAN.MODE.AUTO_REJOIN = false → canState d n = 0 ∧ canMode d n = 0) ∧ frame d) ∧
    (canState s.dev n = 3 → s.dev.on (canP n) CAN.MODE.AUTO_REJOIN = true →
      ∃ d, Machine.exec (.canRejoin n) s = .next (s.put d) ∧ canState d n = 1 ∧ (d.can n).tec = 0 ∧
      d.fld (canP n) CAN.STAT.TXERR = 0 ∧ d.fld (canP n) CAN.STAT.RXERR = 0 ∧ frame d) ∧
    (∀ kind, 1 ≤ kind → kind ≤ 6 → canLive s.dev n = true →
      ∃ d, Machine.exec (.canError n kind true) s = .next (s.put d) ∧ d.fld (canP n) CAN.STAT.LASTERR = kind ∧
      (canMode s.dev n ≠ 2 → (d.can n).tec = (s.dev.can n).tec + 8 ∧ (d.can n).bus = none ∧
        d.fld (canP n) CAN.STAT.TXERR = min 255 ((s.dev.can n).tec + 8) ∧
        ∀ b : Fin 16, (s.dev.can n).bus = some b.val →
          bitOf (canQueued d n) b = (bitOf (canQueued s.dev n) b && !(s.dev.can n).abort && !s.dev.on (canP n) CAN.MODE.ONESHOT)) ∧
      (canMode s.dev n = 2 → d.cans = s.dev.cans) ∧ frame d) ∧
    (∀ kind, 1 ≤ kind → kind ≤ 6 → canLive s.dev n = true →
      ∃ d, Machine.exec (.canError n kind false) s = .next (s.put d) ∧ d.fld (canP n) CAN.STAT.LASTERR = kind ∧
      (canMode s.dev n ≠ 2 → d.fld (canP n) CAN.STAT.RXERR = min 255 (s.dev.fld (canP n) CAN.STAT.RXERR + 1)) ∧
      (d.can n).tec = (s.dev.can n).tec ∧ (d.can n).bus = (s.dev.can n).bus ∧ frame d)

/-- R13, R529, R530, R550: the UART's FIFOs of 32: a write of DATA waits to be sent, a byte received waits to be read from the
next cycle on, one that finds its FIFO full is lost, and parity counts where it is checked; the I²C controller runs one
transaction at a time, with the bytes that CMD and WBUF give, to DONE after all of them or to ERROR. The model's own readings
in it: log 83. -/
def Obligations.UartAndI2c : Prop :=
  ∀ (s : State) (who : Requester) (n : Fin 2) (val : Word) (b : Byte), s.dev.serves who →
    let frame := fun d : Dev => (∀ m, m ≠ n.val → d.uart m = s.dev.uart m) ∧ (∀ r, pageBase r ≠ uartP n → d.reg r = s.dev.reg r) ∧
      d = { s.dev with regs := d.regs, events := d.events, uarts := d.uarts, resp := d.resp, afault := d.afault }
    let iframe := fun d : Dev => (∀ r, pageBase r ≠ i2cP → d.reg r = s.dev.reg r) ∧
      d = { s.dev with regs := d.regs, events := d.events, sys := { s.dev.sys with i2cWire := d.sys.i2cWire }, resp := d.resp,
                       afault := d.afault }
    ((s.dev.uart n).tx.length < 32 →
      ∃ d, Machine.exec (.uartTxWrite who n val) s = .next (s.put d) ∧
      d.uart n = { s.dev.uart n with tx := (s.dev.uart n).tx ++ [val.setWidth 8] } ∧ frame d) ∧
    (32 ≤ (s.dev.uart n).tx.length →
      ∃ d, Machine.exec (.uartTxWrite who n val) s = .next (s.put d) ∧ d.uarts = s.dev.uarts ∧ d.regs = s.dev.regs ∧ frame d) ∧
    (∀ bad ferr brk, s.dev.on (uartP n) UART.CFG.EN = true →
      let perr := bad && (bits (s.dev.reg (uartP n + 0x040)) 28 2 == 1 || bits (s.dev.reg (uartP n + 0x040)) 28 2 == 2)
      ((s.dev.uart n).rx.length < 32 →
        ∃ d, Machine.exec (.uartRxByte n b bad ferr brk) s = .next (s.put d) ∧
        d.uart n = { s.dev.uart n with
          rx := (s.dev.uart n).rx ++ [BitVec.ofNat 32 (2 ^ 31 + b2n perr * 2 ^ 10 + b2n ferr * 2 ^ 9 + b.toNat)],
          rxCycle := s.dev.now / 2,
          rxNew := (if (s.dev.uart n).rxCycle = s.dev.now / 2 then (s.dev.uart n).rxNew else 0) + 1 } ∧
        d.on (uartP n) UART.EVT.RX = true ∧ 
        d.on (uartP n) UART.EVT.ERR = (s.dev.on (uartP n) UART.EVT.ERR || perr || ferr) ∧
        (brk = true → d.on (uartP n) UART.EVT.BREAK = true) ∧ frame d) ∧
      (32 ≤ (s.dev.uart n).rx.length →
        ∃ d, Machine.exec (.uartRxByte n b bad ferr brk) s = .next (s.put d) ∧ d.uarts = s.dev.uarts ∧
        d.on (uartP n) UART.EVT.OVF = true ∧ frame d)) ∧
    (∀ w rest, (s.dev.uart n).rx = w :: rest → (s.dev.uart n).rxCycle ≠ s.dev.now / 2 →
      ∃ d, Machine.exec (.uartDataRead who n) s = .next (s.put d) ∧ sget noWord0 d.resp (requesterId who) = w ∧
      d.uart n = { s.dev.uart n with rx := rest } ∧ frame d) ∧
    (rxBefore s.dev n = [] →
      ∃ d, Machine.exec (.uartDataRead who n) s = .next (s.put d) ∧ sget noWord0 d.resp (requesterId who) = 0 ∧
      d.uarts = s.dev.uarts ∧ frame d) ∧
    (∀ x rest, s.dev.on (uartP n) UART.CFG.EN = true → (s.dev.uart n).tx = x :: rest →
      ∃ d, Machine.exec (.uartTxByte n) s = .next (s.put d) ∧ d.uart n = { s.dev.uart n with tx := rest } ∧
      (rest = [] → d.on (uartP n) UART.EVT.TX_EMPTY = true) ∧ frame d) ∧
    (bitOf val 31 = true → s.dev.fld i2cP I2C.STAT.STATE ≠ 1 → s.dev.on i2cP I2C.CFG.EN = true → bits val 8 6 ≤ 32 →
      bits val 0 6 ≤ 32 →
      ∃ d, Machine.exec (.i2cCmd who val) s = .next (s.put d) ∧ d.fld i2cP I2C.STAT.STATE = 1 ∧
      d.reg (i2cP + 0x044) = val ∧ d.sys.i2cWire = i2cSends s.dev val ∧ (∀ r, r ≠ i2cP + 0x044 → r ≠ i2cP + 0x048 → d.reg r = s.dev.reg r) ∧ iframe d) ∧
    (s.dev.fld i2cP I2C.STAT.STATE = 1 →
      (∃ d, Machine.exec (.i2cCmd who val) s = .next (s.put d) ∧ d.on i2cP I2C.EVT.CFG_IGN = true ∧
        (∀ r, r ≠ i2cP + 0x04C → d.reg r = s.dev.reg r) ∧ d.sys = s.dev.sys ∧ iframe d) ∧
      (∀ (done : BitVec 6) data pec, data.length = bits (s.dev.reg (i2cP + 0x044)) 0 6 →
        done.toNat = bits (s.dev.reg (i2cP + 0x044)) 8 6 + data.length →
        s.dev.on i2cP I2C.CFG.PEC = false ∨ pec = crc8 0 (s.dev.sys.i2cWire ++ data) →
        i2cCanEnd 0 done.toNat data pec s.dev = true) ∧
      (∀ (done : BitVec 6) data pec, data.length ≠ bits (s.dev.reg (i2cP + 0x044)) 0 6 →
        i2cCanEnd 0 done.toNat data pec s.dev = false) ∧
      (∀ cause (done : BitVec 6) data pec, cause ≤ 5 → data.length ≤ 32 → i2cCanEnd cause done.toNat data pec s.dev = false →
        Machine.exec (.i2cDone cause done data pec) s = .next s) ∧
      (∀ cause (done : BitVec 6) data pec, cause ≤ 5 → data.length ≤ 32 → i2cCanEnd cause done.toNat data pec s.dev = true →
        ∃ d, Machine.exec (.i2cDone cause done data pec) s = .next (s.put d) ∧
        d.fld i2cP I2C.STAT.STATE = (if cause = 0 then 2 else 3) ∧ d.fld i2cP I2C.STAT.CAUSE = cause ∧
        bits (d.reg (i2cP + 0x048)) 0 6 = done.toNat ∧ d.on i2cP (if cause = 0 then I2C.EVT.DONE else I2C.EVT.ERROR) = true ∧
        (∀ i, 4 * i < data.length → d.reg (i2cP + 0x0A0 + 4 * i) = bytesWord ((data.drop (4 * i)).take 4)) ∧
        d.sys = s.dev.sys ∧ iframe d))

/-- R533 to R537: an edge that ECFG selects sets its line's event; a timer wraps past PERIOD and captures its count; TAMPSTAT
follows the tamper inputs; one held through its filter, and two misreads of the loop, stepped every 8 cycles of the RTC, latch
an event with its stamp, wipe RET where told to and wake the device out of SLEEP; TAMPSTAT clears for the Deputy what is no
longer active. The model's own readings in it: log 84. -/
def Obligations.PinsTimersTamper : Prop :=
  ∀ (s : State) (val : Word) (misread : Bool),
    let latched := fun (i : Nat) (d : Dev) => bitOf (d.reg TAMPSTAT) i = true ∧
      (bits (s.dev.reg TAMPSTAT) 0 4 = 0 → d.fld gpioP GPIO.TAMPSTAT.FIRST = i ∧
        d.reg (gpioP + 0x208) = s.dev.reg (pwrP + 0x064) ∧ d.reg (gpioP + 0x20C) = s.dev.reg (pwrP + 0x068)) ∧
      (bits (s.dev.reg TAMPSTAT) 0 4 ≠ 0 → d.fld gpioP GPIO.TAMPSTAT.FIRST = s.dev.fld gpioP GPIO.TAMPSTAT.FIRST) ∧
      (tampWipe s.dev i = true → ∀ j, j < 8 → d.reg (pwrP + 0x080 + 4 * j) = 0)
    let stays := fun (i : Nat) (d : Dev) => d.on gpioP GPIO.GEVT.TAMPER = true ∧
      (tampWipe s.dev i = false → ∀ r, pageBase r ≠ gpioP → d.reg r = s.dev.reg r)
    let wakes := fun (i : Nat) (d : Dev) => d.mode = .powerUp ∧ bitOf (d.reg (pwrP + 0x058)) (2 + i) = true ∧
      bitOf (d.reg (topP + 0x054)) 5 = true ∧ ∀ x, inMram x = true → memByte d x = memByte s.dev x
    let enabled := fun i : Nat => bitOf (s.dev.reg (pwrP + 0x054)) (2 + i) = true
    (∀ (l : Fin 48) (rising : Bool), awake s.dev = true → lineOut s.dev l = none →
      bitOf (s.dev.reg (gpioP + 0x050 + l / 32 * 4)) (l % 32) = !rising →
      ∃ d, Machine.exec (.gpioEdge l rising) s = .next (s.put d) ∧
      bitOf (d.reg (gpioP + 0x050 + l / 32 * 4)) (l % 32) = rising ∧
      (edgeSel s.dev l = 3 ∨ (edgeSel s.dev l = 1 ∧ rising = true) ∨ (edgeSel s.dev l = 2 ∧ rising = false) →
        bitOf (d.reg (gpioP + 0x074 + l / 32 * 4)) (l % 32) = true) ∧
      (edgeSel s.dev l = 0 → d.events = s.dev.events) ∧
      (∀ r, pageBase r ≠ gpioP → d.reg r = s.dev.reg r) ∧ d = { s.dev with regs := d.regs, events := d.events }) ∧
    (∀ k : Fin 8, awake s.dev = true → bitOf (s.dev.reg (tmrA k)) 31 = true →
      ((s.dev.reg (tmrA k + 4)).toNat < tmrCount s.dev k →
        ∃ d, Machine.exec (.timerWrap k) s = .next (s.put d) ∧
        tmrCount d k = tmrCount s.dev k - ((s.dev.reg (tmrA k + 4)).toNat + 1) ∧ bitOf (d.reg (gpioP + 0x084)) (3 + k) = true ∧
        (∀ r, r ≠ gpioP + 0x084 → d.reg r = s.dev.reg r) ∧
        d = { s.dev with regs := d.regs, events := d.events, timers := d.timers }) ∧
      (∀ rising : Bool, bitOf (s.dev.reg (tmrA k)) 30 = true → bitOf (s.dev.reg (tmrA k)) (if rising = true then 28 else 29) = false →
        Machine.exec (.timerCapture k rising) s = .next s) ∧
      (∀ rising : Bool, bitOf (s.dev.reg (tmrA k)) 30 = true → bitOf (s.dev.reg (tmrA k)) (if rising = true then 28 else 29) = true →
        ∃ d, Machine.exec (.timerCapture k rising) s = .next (s.put d) ∧
        d.reg (tmrA k + 0xC) = BitVec.ofNat 32 (tmrCount s.dev k) ∧ bitOf (d.reg (gpioP + 0x084)) (3 + k) = true ∧
        (∀ r, r ≠ gpioP + 0x084 → r ≠ tmrA k + 0xC → d.reg r = s.dev.reg r) ∧
        d = { s.dev with regs := d.regs, events := d.events })) ∧
    (∀ (i : Fin 4) (held : Nat), bitOf (s.dev.reg TAMPCFG) 31 = true → i.val < 2 → Machine.exec (.tamper i held) s = .next s) ∧
    (∀ (i : Fin 4) (held : Nat), (bitOf (s.dev.reg TAMPCFG) 31 = true → 2 ≤ i.val) →
      (bitOf (s.dev.reg TAMPCFG) (6 * i + 5) = false ∨ held < 4 * (bits (s.dev.reg TAMPCFG) (6 * i) 3 + 1) →
        ∃ d, Machine.exec (.tamper i held) s = .next (s.put d) ∧ bitOf (d.reg TAMPSTAT) (4 + i) = decide (held ≠ 0) ∧
        (∀ j, j < 32 → j ≠ 4 + i.val → bitOf (d.reg TAMPSTAT) j = bitOf (s.dev.reg TAMPSTAT) j) ∧
        (∀ r, r ≠ TAMPSTAT → d.reg r = s.dev.reg r) ∧ d = { s.dev with regs := d.regs }) ∧
      (bitOf (s.dev.reg TAMPCFG) (6 * i + 5) = true → 4 * (bits (s.dev.reg TAMPCFG) (6 * i) 3 + 1) ≤ held →
        ∃ d, Machine.exec (.tamper i held) s = .next (s.put d) ∧ latched i d ∧ bitOf (d.reg TAMPSTAT) (4 + i) = true ∧
        (s.dev.mode ≠ .sleep ∨ ¬ enabled i → stays i d ∧ d = { s.dev with regs := d.regs, events := d.events }) ∧
        (s.dev.mode = .sleep → asleep s.dev = false → enabled i → stays i d ∧
          d = { s.dev with regs := d.regs, events := d.events, sys := { s.dev.sys with wakes := s.dev.sys.wakes ++ [2 + i.val] } }) ∧
        (asleep s.dev = true → enabled i → wakes i d))) ∧
    (bitOf (s.dev.reg TAMPCFG) 31 = false ∨ rtcCount s.dev < s.dev.sys.loopAt + 8 →
      Machine.exec (.tamperLoopStep misread) s = .next s) ∧
    (bitOf (s.dev.reg TAMPCFG) 31 = true → s.dev.sys.loopAt + 8 ≤ rtcCount s.dev →
      ∃ d, Machine.exec (.tamperLoopStep misread) s = .next (s.put d) ∧
      let stepped := { s.dev.sys with lfsr := lfsrNext s.dev.sys.lfsr, loopAt := rtcCount s.dev,
                                      misreads := if misread = true then min 2 (s.dev.sys.misreads + 1) else 0 }
      d.sys.lfsr = stepped.lfsr ∧ d.sys.misreads = stepped.misreads ∧ d.sys.loopAt = stepped.loopAt ∧
      (misread = true → 1 ≤ s.dev.sys.misreads → latched 1 d ∧
        (s.dev.mode ≠ .sleep ∨ ¬ enabled 1 →
          stays 1 d ∧ d = { s.dev with regs := d.regs, events := d.events, sys := stepped }) ∧
        (s.dev.mode = .sleep → asleep s.dev = false → enabled 1 → stays 1 d ∧
          d = { s.dev with regs := d.regs, events := d.events, sys := { stepped with wakes := s.dev.sys.wakes ++ [3] } }) ∧
        (asleep s.dev = true → enabled 1 → wakes 1 d)) ∧
      (misread = false ∨ s.dev.sys.misreads = 0 → d = { s.dev with sys := stepped })) ∧
    (∀ who, s.dev.serves who → s.dev.eventAt TAMPSTAT = none →
      (∃ d, Machine.exec (.tampstatWrite .deputy val) s = .next (s.put d) ∧
        (∀ i, i < 4 → bitOf (d.reg TAMPSTAT) i =
          (bitOf (s.dev.reg TAMPSTAT) i && !(bitOf val i && !bitOf (s.dev.reg TAMPSTAT) (4 + i)))) ∧
        (∀ i, i < 4 → bitOf (d.reg TAMPSTAT) (4 + i) = bitOf (s.dev.reg TAMPSTAT) (4 + i)) ∧
        (bits (d.reg TAMPSTAT) 0 4 = 0 → d.fld gpioP GPIO.TAMPSTAT.FIRST = 15) ∧
        (∀ r, r ≠ TAMPSTAT → d.reg r = s.dev.reg r) ∧ d = { s.dev with regs := d.regs, resp := d.resp, afault := d.afault }) ∧
      (who ≠ .deputy →
        ∃ d, Machine.exec (.tampstatWrite who val) s = .next (s.put d) ∧ d.on gpioP GPIO.GEVT.CFG_IGN = true ∧
        bits (d.reg TAMPSTAT) 0 4 = bits (s.dev.reg TAMPSTAT) 0 4 ∧
        d = { s.dev with regs := d.regs, events := d.events, resp := d.resp, afault := d.afault }))

/-! ### The Roentol link -/

/-- R538 to R542: a port comes up and goes down; a frame whose CRC-32 is wrong is logged and refused; a frame for another node
is acknowledged and leaves by its route with one hop less and the next sequence number of its hop, or is dropped at its last
hop or without a route, and a time frame is never forwarded; a frame for this device is delivered, read for or written for,
and answered, and a full FIFO refuses it; what is sent waits for its acknowledgement among four, and is sent again up to three
times. The model's own readings in it: log 86, 88. -/
def Obligations.LinkFrames : Prop :=
  ∀ (s : State) (p : Fin 3) (i : Fin 4) (f : LinkFrame), awake s.dev = true → okFrame f = true →
    let page := fun d : Dev => ∀ r, pageBase r ≠ linkP → d.reg r = s.dev.reg r
    let replied := fun ok : Bool => if 4 ≤ f.type ∧ f.type ≤ 6 then s.dev.link else { s.dev.link with sentAck := some (p.val, f.seq, ok) }
    let put := fun (q : Nat) (g : LinkFrame) (l : LinkRec) => { l with
      out := l.out.set q (l.out.getD q [] ++ [⟨{ g with seq := BitVec.ofNat 8 (l.seqs.getD q 0) }, 0, s.dev.now, false⟩])
      seqs := l.seqs.set q ((l.seqs.getD q 0 + 1) % 256) }
    let kept := (outOf s.dev p).eraseIdx i
    let left := kept.take 3 ++ ((kept.drop 3).take 1).map (fun o => { o with at_ := s.dev.now }) ++ kept.drop 4
    let dropped := fun (d : Dev) (cause : Nat) =>
      d.reg (linkP + 0x070) = BitVec.ofNat 32 (2 ^ 31 + p * 2 ^ 24 + cause * 2 ^ 16 + f.src) ∧ d.on linkP LINK.EVT.ERR = true ∧
      d.flt = { s.dev.flt with inflight := s.dev.flt.inflight ++ [faultOf linkP 53 p] } ∧ page d ∧
      d = { s.dev with regs := d.regs, events := d.events, flt := d.flt, link := replied true }
    (portEn s.dev p = true → portIsUp s.dev p = false →
      ∃ d, Machine.exec (.portUp p) s = .next (s.put d) ∧ portIsUp d p = true ∧ d.on linkP LINK.EVT.PORT_UP = true ∧
      (∀ r, r ≠ linkP + 0x050 → r ≠ linkP + 0x064 → d.reg r = s.dev.reg r) ∧
      d = { s.dev with regs := d.regs, events := d.events }) ∧
    (portIsUp s.dev p = true →
      ∃ d, Machine.exec (.linkLost p) s = .next (s.put d) ∧ portIsUp d p = false ∧ d.on linkP LINK.EVT.PORT_DOWN = true ∧
      d.flt = { s.dev.flt with inflight := s.dev.flt.inflight ++ [faultOf linkP 54 p] } ∧
      (p.val = 0 → d.on linkP LINK.PSTAT.LOCKED = false) ∧ (p.val ≠ 0 → d.link = s.dev.link) ∧
      d = { s.dev with regs := d.regs, events := d.events, flt := d.flt, link := d.link }) ∧
    (portIsUp s.dev p = true → f.bcast = false →
      (∀ crc, crc ≠ frameCrc f →
        ∃ d, (Machine.exec (.linkFrameForward p crc f) s = .next (s.put d) ∧ Machine.exec (.linkData p crc f) s = .next (s.put d) ∧
          Machine.exec (.linkRd p crc f) s = .next (s.put d) ∧ Machine.exec (.linkWr p crc f) s = .next (s.put d) ∧
          Machine.exec (.linkResp p crc f) s = .next (s.put d)) ∧ d.on linkP LINK.EVT.ERR = true ∧
        d.reg (linkP + 0x070) = BitVec.ofNat 32 (2 ^ 31 + p * 2 ^ 24 + 2 ^ 16 + f.src) ∧ page d ∧
        d = { s.dev with regs := d.regs, events := d.events, link := replied false }) ∧
      (4 ≤ f.type → f.type ≤ 6 → Machine.exec (.linkFrameForward p (frameCrc f) f) s = .next s) ∧
      (f.dst ≠ ownId s.dev → f.type < 4 ∨ 6 < f.type →
        (∀ q, 0 < f.ttl → routeOf s.dev f.dst = some q →
          ∃ d, Machine.exec (.linkFrameForward p (frameCrc f) f) s = .next (s.put d) ∧
          d = { s.dev with link := put q { f with ttl := f.ttl - 1 } (replied true) }) ∧
        (f.ttl = 0 → ∃ d, Machine.exec (.linkFrameForward p (frameCrc f) f) s = .next (s.put d) ∧ dropped d 3) ∧
        (0 < f.ttl → routeOf s.dev f.dst = none →
          ∃ d, Machine.exec (.linkFrameForward p (frameCrc f) f) s = .next (s.put d) ∧ dropped d 4)) ∧
      (f.dst = ownId s.dev → f.type = 0 ∨ f.type = 3 →
        let arrive := fun c : Word => if f.type = 0 then Instr.linkData p c f else Instr.linkResp p c f
        (s.dev.link.rx.length < 8 →
          ∃ d, Machine.exec (arrive (frameCrc f)) s = .next (s.put d) ∧
          d.link = { replied true with rx := s.dev.link.rx ++ [f] } ∧ d.on linkP LINK.EVT.RX = true ∧ page d ∧
          d = { s.dev with regs := d.regs, events := d.events, link := d.link }) ∧
        (8 ≤ s.dev.link.rx.length →
          ∃ d, Machine.exec (arrive (frameCrc f)) s = .next (s.put d) ∧ d = { s.dev with link := replied false })) ∧
      (∀ q n, f.dst = ownId s.dev → f.type = 1 → routeOf s.dev f.src = some q → (f.payload.getD 4 0).toNat + 1 = n → n ≤ 32 →
        inSram (frameAddr f) = true → frameAddr f + 4 * n ≤ 0x10200000 → injArmed s.dev = false →
        ∃ d, Machine.exec (.linkRd p (frameCrc f) f) s = .next (s.put d) ∧
        d.link = put q ⟨0, f.src, false, ownId s.dev, 3, 15, false, [0, BitVec.ofNat 8 n] ++ List.replicate 6 0 ++
            (List.range n).flatMap (fun j => wordBytes (memWord s.dev (frameAddr f + 4 * j)))⟩ (replied true) ∧
        d = { s.dev with link := d.link, resp := d.resp, afault := d.afault }) ∧
      (∀ q, f.dst = ownId s.dev → f.type = 2 → routeOf s.dev f.src = some q → f.payload.length % 4 = 0 →
        12 ≤ f.payload.length → inSram (frameAddr f) = true → frameAddr f + (f.payload.length - 8) ≤ 0x10200000 →
        ∃ d, Machine.exec (.linkWr p (frameCrc f) f) s = .next (s.put d) ∧
        (∀ j, j < (f.payload.length - 8) / 4 →
          memWord d (frameAddr f + 4 * j) = bytesWord ((f.payload.drop (8 + 4 * j)).take 4)) ∧
        (∀ x, x < frameAddr f ∨ frameAddr f + (f.payload.length - 8) ≤ x → memByte d x = memByte s.dev x) ∧
        d.link = put q ⟨0, f.src, false, ownId s.dev, 3, 15, false,
          [0, BitVec.ofNat 8 ((f.payload.length - 8) / 4)] ++ List.replicate 6 0⟩ (replied true) ∧
        d = { s.dev with mem := d.mem, link := d.link, sys := { s.dev.sys with resv := d.sys.resv }, resp := d.resp,
                         afault := d.afault })) ∧
    (∀ o, (outOf s.dev p)[i.val]? = some o →
      (o.mine = false →
        ∃ d, Machine.exec (.linkAck p i) s = .next (s.put d) ∧
        d = { s.dev with link := { s.dev.link with out := s.dev.link.out.set p left } }) ∧
      (o.mine = true → txBusy s.dev = true → mineOut (outErase p i s.dev) = false →
        ∃ d, Machine.exec (.linkAck p i) s = .next (s.put d) ∧ bits (d.reg (linkP + 0x078)) 30 2 = 2 ∧
        d.on linkP LINK.EVT.TX_DONE = true ∧ d.link = { s.dev.link with out := s.dev.link.out.set p left } ∧ page d ∧
        d = { s.dev with regs := d.regs, events := d.events, link := d.link }) ∧
      (o.resends < 3 → (∃ d, Machine.exec (.linkResend p i true) s = .next (s.put d) ∧
          d.link = { s.dev.link with
            out := s.dev.link.out.set p ((outOf s.dev p).set i ⟨o.frame, o.resends + 1, s.dev.now, o.mine⟩) } ∧
          page d ∧ d.flt = s.dev.flt ∧ d = { s.dev with regs := d.regs, events := d.events, link := d.link }) ∧
        (s.dev.now < o.at_ + 2400 → Machine.exec (.linkResend p i false) s = .next s)) ∧
      (3 ≤ o.resends → o.mine = false →
        ∃ d, Machine.exec (.linkResend p i true) s = .next (s.put d) ∧
        d.link = { s.dev.link with out := s.dev.link.out.set p left } ∧
        d.flt = { s.dev.flt with inflight := s.dev.flt.inflight ++ [faultOf linkP 53 p] } ∧ page d))

/-- R541 to R544, R546, R552: SYNC, DREQ and DRESP as a child and as a parent; the loss of SYNC ends the lock; TXCTL sends the
frame of TXBUF, takes one for this device itself into the FIFO, fails where that is full, or is refused while one waits, and
POP takes the head of the received frames. The model's own readings in it: log 87, 88. -/
def Obligations.LinkTimeAndRegisters : Prop :=
  ∀ (s : State) (who : Requester) (p : Fin 3) (val : Word) (t : Nat), s.dev.serves who →
    let page := fun d : Dev => ∀ r, pageBase r ≠ linkP → d.reg r = s.dev.reg r
    (∀ (t1 : BitVec 64) (fr : BitVec 16) (hops : BitVec 4), portIsUp s.dev 0 = true → linkRoot s.dev = false →
      (s.dev.link.near < 7 ∨ ∀ o, s.dev.link.offset = some o → 2 * 65536 < o.natAbs) →
      ∃ d, Machine.exec (.linkSync t1 fr hops) s = .next (s.put d) ∧ d.link.t1 = some t1.toNat ∧
      d.link.t2 = wrapTo 64 (domainTime s.dev fr.toNat) ∧ d.link.syncAt = some s.dev.now ∧
      d.fld linkP LINK.PSTAT.HOPS = min 15 (hops.toNat + 1) ∧
      (∀ r, r ≠ linkP + 0x050 → d.reg r = s.dev.reg r) ∧ d = { s.dev with regs := d.regs, link := d.link }) ∧
    (∀ fr : BitVec 16, p.val ≠ 0 → portIsUp s.dev p = true →
      ∃ d, Machine.exec (.linkDreq p fr) s = .next (s.put d) ∧
      d = { s.dev with link := { s.dev.link with sentDresp := some (p.val, wrapTo 64 (domainTime s.dev fr.toNat)) } }) ∧
    (∀ (t4 : BitVec 64) t1 t3, s.dev.link.t1 = some t1 → s.dev.link.t3 = some t3 →
      let a := signedOf 64 (wrapTo 64 ((s.dev.link.t2 : Int) - t1))
      let b := signedOf 64 (wrapTo 64 ((t4.toNat : Int) - t3))
      ∃ d, Machine.exec (.linkDresp t4) s = .next (s.put d) ∧
      d.link = { s.dev.link with t3 := none, offset := some ((a - b).fdiv 2) } ∧
      (anyMode2 s.dev = true → linkOfs d = linkOfs s.dev) ∧
      (anyMode2 s.dev = false → linkOfs d = signedOf 64 (wrapTo 64 (linkOfs s.dev - (a - b).fdiv 2))) ∧
      d.reg (linkP + 0x054) = BitVec.ofNat 32 (wrapTo 16 (satTo 16 (((a - b).fdiv 2).fdiv 4096))) ∧
      d.reg (linkP + 0x058) = BitVec.ofNat 32 (satU 16 (((a + b).fdiv 2).fdiv 4096)) ∧ page d ∧
      d = { s.dev with regs := d.regs, link := d.link }) ∧
    (∀ fr : BitVec 16, ∃ d, Machine.exec (.syncSend fr) s = .next (s.put d) ∧
      (s.dev.link.dreqDue = true → portIsUp s.dev 0 = true →
        d.link.dreqDue = false ∧ d.link.t3 = some (wrapTo 64 (domainTime s.dev fr.toNat))) ∧
      (portIsUp s.dev 1 = true ∨ portIsUp s.dev 2 = true → s.dev.link.sendAt + syncInt s.dev ≤ s.dev.now →
        d.link.sendAt = s.dev.now ∧ d.link.sentSync = some (wrapTo 64 (domainTime s.dev fr.toNat))) ∧
      (portIsUp s.dev 1 = false → portIsUp s.dev 2 = false → d.link.sentSync = s.dev.link.sentSync) ∧
      d = { s.dev with link := d.link }) ∧
    (s.dev.link.syncAt = some t → t + 4 * syncInt s.dev ≤ s.dev.now →
      ∃ d, Machine.exec .syncLoss s = .next (s.put d) ∧ d.on linkP LINK.PSTAT.LOCKED = false ∧
      (s.dev.on linkP LINK.PSTAT.LOCKED = true → d.on linkP LINK.EVT.UNLOCKED = true ∧
        ∀ f, f < 16 → syncMode s.dev f = 2 → frameRun s.dev f = true → d.on (frameP f) FRAME.EVT.LOCK_LOST = true) ∧
      d.link = { s.dev.link with near := 0, syncAt := none, t1 := none, t3 := none } ∧
      d = { s.dev with regs := d.regs, events := d.events, link := d.link }) ∧
    (s.dev.link.syncAt = some t → s.dev.now < t + 4 * syncInt s.dev → Machine.exec .syncLoss s = .next s) ∧
    (∀ q, txBusy s.dev = false → bitOf val 31 = true → 7 ≤ bits val 0 8 → bits val 12 3 ≤ 2 → bitOf val 15 = false →
      bits val 16 14 ≠ ownId s.dev → routeOf s.dev (bits val 16 14) = some q →
      ∃ d, Machine.exec (.txctlGo who val) s = .next (s.put d) ∧ txBusy d = true ∧
      d.link = { s.dev.link with
        out := s.dev.link.out.set q (outOf s.dev q ++
          [⟨{ txFrame s.dev val with seq := BitVec.ofNat 8 (s.dev.link.seqs.getD q 0) }, 0, s.dev.now, true⟩])
        seqs := s.dev.link.seqs.set q ((s.dev.link.seqs.getD q 0 + 1) % 256) } ∧
      (∀ r, r ≠ linkP + 0x078 → d.reg r = s.dev.reg r) ∧
      d = { s.dev with regs := d.regs, link := d.link, resp := d.resp, afault := d.afault }) ∧
    (txBusy s.dev = false → bitOf val 31 = true → 7 ≤ bits val 0 8 → bits val 12 3 = 0 → bitOf val 15 = false →
      bits val 16 14 = ownId s.dev →
      ∃ d, Machine.exec (.txctlGo who val) s = .next (s.put d) ∧ page d ∧
      (s.dev.link.rx.length < 8 → bits (d.reg (linkP + 0x078)) 30 2 = 2 ∧ d.on linkP LINK.EVT.TX_DONE = true ∧
        d.on linkP LINK.EVT.RX = true ∧ d.link = { s.dev.link with rx := s.dev.link.rx ++ [txFrame s.dev val] } ∧
        d.flt = s.dev.flt) ∧
      (8 ≤ s.dev.link.rx.length → bits (d.reg (linkP + 0x078)) 30 2 = 3 ∧ d.on linkP LINK.EVT.ERR = true ∧
        d.link = s.dev.link ∧ d.flt = { s.dev.flt with inflight := s.dev.flt.inflight ++ [faultOf linkP 53 0] }) ∧
      d = { s.dev with regs := d.regs, events := d.events, link := d.link, flt := d.flt, resp := d.resp, afault := d.afault }) ∧
    (txBusy s.dev = true →
      ∃ d, Machine.exec (.txctlGo who val) s = .next (s.put d) ∧ d.on linkP LINK.EVT.ERR = true ∧ d.link = s.dev.link ∧
      (∀ r, r ≠ linkP + 0x064 → d.reg r = s.dev.reg r) ∧
      d = { s.dev with regs := d.regs, events := d.events, resp := d.resp, afault := d.afault }) ∧
    (bitOf val 0 = true →
      ∃ d, Machine.exec (.rxctlPop who val) s = .next (s.put d) ∧ d.link = { s.dev.link with rx := s.dev.link.rx.drop 1 } ∧
      bitOf (d.reg (linkP + 0x07C)) 31 = decide (1 < s.dev.link.rx.length) ∧ page d ∧
      d = { s.dev with regs := d.regs, link := d.link, resp := d.resp, afault := d.afault })

/-! ### The block as a whole -/

/-- A step with a command at the front of the queue is that command's effect, with the queue's rest. The model's own readings
in it: log 1. -/
def Obligations.StepRunsFrontCommand : Prop :=
  ∀ (d : Dev) (c : Instr) (cs : List Instr), Machine.step ⟨d, c :: cs⟩ = Machine.exec c ⟨d, cs⟩

/-- A command answers a next state where its operands are ones the spec gives it, and stops the model where they are not; it
leaves the queue as it is. The model's own readings in it: log 3. -/
def Obligations.CommandsAnswer : Prop :=
  ∀ (s : State) (c : Instr),
    (c.wf = true → ∃ d, Machine.exec c s = .next (s.put d)) ∧ (c.wf = false → Machine.exec c s = .fault .illFormed)

/-- Where every command that waits is one of the spec, a step answers a next state whose commands are too: a run never stops.
The model's own readings in it: log 3, 14. -/
def Obligations.RunsGoOn : Prop :=
  ∀ s : State, s.wellQueued → s.goesOn ∧ ∀ t, Machine.step s = .next t → t.wellQueued

/-- R497, R498, R509, R510: asleep, with the clocks stopped, or with the core die held in reset, a command has no effect
unless it belongs to a drive die, a supply, the root clock or the always-on domain. The model's own readings in it: log 17. -/
def Obligations.StoppedClocksHoldCommands : Prop :=
  ∀ (s : State) (c : Instr), awake s.dev = false → c.wf = true → needsClocks c = true → Machine.exec c s = .next s

/-- R501, R506, R7, R134: what reset leaves: POWER_UP with no authority, RSTCAUSE with PORA alone, no gate on, no command
waiting, and memory in its one form. The model's own readings in it: log 5, 93. -/
def Obligations.ResetState : Prop :=
  State.reset.pending = [] ∧ State.reset.dev.mode = .powerUp ∧ stamp State.reset.dev = 0 ∧
    State.reset.dev.reg (topP + 0x054) = 1 ∧ (∀ n, State.reset.dev.legOff n) ∧ State.reset.memWf ∧
    State.reset.dev.noShootThrough ∧ State.reset.wellQueued

/-- Memory keeps its one form in every step. -/
def Obligations.MemoryKeepsItsForm : Prop :=
  ∀ s t : State, s.memWf → Machine.step s = .next t → t.memWf

/-- R133, R134: no step turns both gates of a leg on. -/
def Obligations.NoShootThrough : Prop :=
  ∀ s t : State, s.dev.noShootThrough → Machine.step s = .next t → t.dev.noShootThrough
end

