-- ==== Sys2Proof/Laws/State.lean ====
section
/-!
SUPPORT. One lemma per field of the device per named update, each true by `rfl`: what the update writes, and that it leaves
every other field alone.
-/

namespace Sys2Proof.Machine

variable (d : Dev)

/-! ### `Dev.setReg` -/

@[simp] theorem Dev.setReg_now (a : Nat) (w : Word) : (d.setReg a w).now = d.now := (rfl)
@[simp] theorem Dev.setReg_free (a : Nat) (w : Word) : (d.setReg a w).free = d.free := (rfl)
@[simp] theorem Dev.setReg_mode (a : Nat) (w : Word) : (d.setReg a w).mode = d.mode := (rfl)
@[simp] theorem Dev.setReg_regs (a : Nat) (w : Word) : (d.setReg a w).regs = sput resetWord d.regs a w := (rfl)
@[simp] theorem Dev.setReg_events (a : Nat) (w : Word) : (d.setReg a w).events = d.events := (rfl)
@[simp] theorem Dev.setReg_wet (a : Nat) (w : Word) : (d.setReg a w).wet = d.wet := (rfl)
@[simp] theorem Dev.setReg_coat2 (a : Nat) (w : Word) : (d.setReg a w).coat2 = d.coat2 := (rfl)
@[simp] theorem Dev.setReg_cast (a : Nat) (w : Word) : (d.setReg a w).cast = d.cast := (rfl)
@[simp] theorem Dev.setReg_mem (a : Nat) (w : Word) : (d.setReg a w).mem = d.mem := (rfl)
@[simp] theorem Dev.setReg_pairs (a : Nat) (w : Word) : (d.setReg a w).pairs = d.pairs := (rfl)
@[simp] theorem Dev.setReg_lows (a : Nat) (w : Word) : (d.setReg a w).lows = d.lows := (rfl)
@[simp] theorem Dev.setReg_newer (a : Nat) (w : Word) : (d.setReg a w).newer = d.newer := (rfl)
@[simp] theorem Dev.setReg_resp (a : Nat) (w : Word) : (d.setReg a w).resp = d.resp := (rfl)
@[simp] theorem Dev.setReg_afault (a : Nat) (w : Word) : (d.setReg a w).afault = d.afault := (rfl)
@[simp] theorem Dev.setReg_commit (a : Nat) (w : Word) : (d.setReg a w).commit = d.commit := (rfl)
@[simp] theorem Dev.setReg_legs (a : Nat) (w : Word) : (d.setReg a w).legs = d.legs := (rfl)
@[simp] theorem Dev.setReg_plans (a : Nat) (w : Word) : (d.setReg a w).plans = d.plans := (rfl)
@[simp] theorem Dev.setReg_dies (a : Nat) (w : Word) : (d.setReg a w).dies = d.dies := (rfl)
@[simp] theorem Dev.setReg_gangs (a : Nat) (w : Word) : (d.setReg a w).gangs = d.gangs := (rfl)
@[simp] theorem Dev.setReg_frames (a : Nat) (w : Word) : (d.setReg a w).frames = d.frames := (rfl)
@[simp] theorem Dev.setReg_axes (a : Nat) (w : Word) : (d.setReg a w).axes = d.axes := (rfl)
@[simp] theorem Dev.setReg_convs (a : Nat) (w : Word) : (d.setReg a w).convs = d.convs := (rfl)
@[simp] theorem Dev.setReg_auth (a : Nat) (w : Word) : (d.setReg a w).auth = d.auth := (rfl)
@[simp] theorem Dev.setReg_flt (a : Nat) (w : Word) : (d.setReg a w).flt = d.flt := (rfl)
@[simp] theorem Dev.setReg_fbs (a : Nat) (w : Word) : (d.setReg a w).fbs = d.fbs := (rfl)
@[simp] theorem Dev.setReg_rost (a : Nat) (w : Word) : (d.setReg a w).rost = d.rost := (rfl)
@[simp] theorem Dev.setReg_samp (a : Nat) (w : Word) : (d.setReg a w).samp = d.samp := (rfl)
@[simp] theorem Dev.setReg_eng (a : Nat) (w : Word) : (d.setReg a w).eng = d.eng := (rfl)
@[simp] theorem Dev.setReg_night (a : Nat) (w : Word) : (d.setReg a w).night = d.night := (rfl)
@[simp] theorem Dev.setReg_sys (a : Nat) (w : Word) : (d.setReg a w).sys = d.sys := (rfl)
@[simp] theorem Dev.setReg_arb (a : Nat) (w : Word) : (d.setReg a w).arb = d.arb := (rfl)
@[simp] theorem Dev.setReg_spi (a : Nat) (w : Word) : (d.setReg a w).spi = d.spi := (rfl)
@[simp] theorem Dev.setReg_cans (a : Nat) (w : Word) : (d.setReg a w).cans = d.cans := (rfl)
@[simp] theorem Dev.setReg_uarts (a : Nat) (w : Word) : (d.setReg a w).uarts = d.uarts := (rfl)
@[simp] theorem Dev.setReg_link (a : Nat) (w : Word) : (d.setReg a w).link = d.link := (rfl)
@[simp] theorem Dev.setReg_timers (a : Nat) (w : Word) : (d.setReg a w).timers = d.timers := (rfl)
@[simp] theorem Dev.setReg_turns (a : Nat) (w : Word) : (d.setReg a w).turns = d.turns := (rfl)

/-! ### `Dev.setDom` -/

@[simp] theorem Dev.setDom_now (n : Nat) (r : DomRec) : (d.setDom n r).now = d.now := (rfl)
@[simp] theorem Dev.setDom_free (n : Nat) (r : DomRec) : (d.setDom n r).free = d.free := (rfl)
@[simp] theorem Dev.setDom_mode (n : Nat) (r : DomRec) : (d.setDom n r).mode = d.mode := (rfl)
@[simp] theorem Dev.setDom_regs (n : Nat) (r : DomRec) : (d.setDom n r).regs = d.regs := (rfl)
@[simp] theorem Dev.setDom_events (n : Nat) (r : DomRec) : (d.setDom n r).events = d.events := (rfl)
@[simp] theorem Dev.setDom_wet (n : Nat) (r : DomRec) : (d.setDom n r).wet = d.wet := (rfl)
@[simp] theorem Dev.setDom_coat2 (n : Nat) (r : DomRec) : (d.setDom n r).coat2 = d.coat2 := (rfl)
@[simp] theorem Dev.setDom_cast (n : Nat) (r : DomRec) : (d.setDom n r).cast = d.cast := (rfl)
@[simp] theorem Dev.setDom_mem (n : Nat) (r : DomRec) : (d.setDom n r).mem = d.mem := (rfl)
@[simp] theorem Dev.setDom_pairs (n : Nat) (r : DomRec) : (d.setDom n r).pairs = d.pairs := (rfl)
@[simp] theorem Dev.setDom_lows (n : Nat) (r : DomRec) : (d.setDom n r).lows = d.lows := (rfl)
@[simp] theorem Dev.setDom_newer (n : Nat) (r : DomRec) : (d.setDom n r).newer = d.newer := (rfl)
@[simp] theorem Dev.setDom_resp (n : Nat) (r : DomRec) : (d.setDom n r).resp = d.resp := (rfl)
@[simp] theorem Dev.setDom_afault (n : Nat) (r : DomRec) : (d.setDom n r).afault = d.afault := (rfl)
@[simp] theorem Dev.setDom_commit (n : Nat) (r : DomRec) : (d.setDom n r).commit = { d.commit with doms := sput domReset d.commit.doms n r } := (rfl)
@[simp] theorem Dev.setDom_legs (n : Nat) (r : DomRec) : (d.setDom n r).legs = d.legs := (rfl)
@[simp] theorem Dev.setDom_plans (n : Nat) (r : DomRec) : (d.setDom n r).plans = d.plans := (rfl)
@[simp] theorem Dev.setDom_dies (n : Nat) (r : DomRec) : (d.setDom n r).dies = d.dies := (rfl)
@[simp] theorem Dev.setDom_gangs (n : Nat) (r : DomRec) : (d.setDom n r).gangs = d.gangs := (rfl)
@[simp] theorem Dev.setDom_frames (n : Nat) (r : DomRec) : (d.setDom n r).frames = d.frames := (rfl)
@[simp] theorem Dev.setDom_axes (n : Nat) (r : DomRec) : (d.setDom n r).axes = d.axes := (rfl)
@[simp] theorem Dev.setDom_convs (n : Nat) (r : DomRec) : (d.setDom n r).convs = d.convs := (rfl)
@[simp] theorem Dev.setDom_auth (n : Nat) (r : DomRec) : (d.setDom n r).auth = d.auth := (rfl)
@[simp] theorem Dev.setDom_flt (n : Nat) (r : DomRec) : (d.setDom n r).flt = d.flt := (rfl)
@[simp] theorem Dev.setDom_fbs (n : Nat) (r : DomRec) : (d.setDom n r).fbs = d.fbs := (rfl)
@[simp] theorem Dev.setDom_rost (n : Nat) (r : DomRec) : (d.setDom n r).rost = d.rost := (rfl)
@[simp] theorem Dev.setDom_samp (n : Nat) (r : DomRec) : (d.setDom n r).samp = d.samp := (rfl)
@[simp] theorem Dev.setDom_eng (n : Nat) (r : DomRec) : (d.setDom n r).eng = d.eng := (rfl)
@[simp] theorem Dev.setDom_night (n : Nat) (r : DomRec) : (d.setDom n r).night = d.night := (rfl)
@[simp] theorem Dev.setDom_sys (n : Nat) (r : DomRec) : (d.setDom n r).sys = d.sys := (rfl)
@[simp] theorem Dev.setDom_arb (n : Nat) (r : DomRec) : (d.setDom n r).arb = d.arb := (rfl)
@[simp] theorem Dev.setDom_spi (n : Nat) (r : DomRec) : (d.setDom n r).spi = d.spi := (rfl)
@[simp] theorem Dev.setDom_cans (n : Nat) (r : DomRec) : (d.setDom n r).cans = d.cans := (rfl)
@[simp] theorem Dev.setDom_uarts (n : Nat) (r : DomRec) : (d.setDom n r).uarts = d.uarts := (rfl)
@[simp] theorem Dev.setDom_link (n : Nat) (r : DomRec) : (d.setDom n r).link = d.link := (rfl)
@[simp] theorem Dev.setDom_timers (n : Nat) (r : DomRec) : (d.setDom n r).timers = d.timers := (rfl)
@[simp] theorem Dev.setDom_turns (n : Nat) (r : DomRec) : (d.setDom n r).turns = d.turns := (rfl)

/-! ### `Dev.setWet` -/

@[simp] theorem Dev.setWet_now (a : Nat) (w : Option Word) : (d.setWet a w).now = d.now := (rfl)
@[simp] theorem Dev.setWet_free (a : Nat) (w : Option Word) : (d.setWet a w).free = d.free := (rfl)
@[simp] theorem Dev.setWet_mode (a : Nat) (w : Option Word) : (d.setWet a w).mode = d.mode := (rfl)
@[simp] theorem Dev.setWet_regs (a : Nat) (w : Option Word) : (d.setWet a w).regs = d.regs := (rfl)
@[simp] theorem Dev.setWet_events (a : Nat) (w : Option Word) : (d.setWet a w).events = d.events := (rfl)
@[simp] theorem Dev.setWet_wet (a : Nat) (w : Option Word) : (d.setWet a w).wet = sput noWord d.wet a w := (rfl)
@[simp] theorem Dev.setWet_coat2 (a : Nat) (w : Option Word) : (d.setWet a w).coat2 = d.coat2 := (rfl)
@[simp] theorem Dev.setWet_cast (a : Nat) (w : Option Word) : (d.setWet a w).cast = d.cast := (rfl)
@[simp] theorem Dev.setWet_mem (a : Nat) (w : Option Word) : (d.setWet a w).mem = d.mem := (rfl)
@[simp] theorem Dev.setWet_pairs (a : Nat) (w : Option Word) : (d.setWet a w).pairs = d.pairs := (rfl)
@[simp] theorem Dev.setWet_lows (a : Nat) (w : Option Word) : (d.setWet a w).lows = d.lows := (rfl)
@[simp] theorem Dev.setWet_newer (a : Nat) (w : Option Word) : (d.setWet a w).newer = d.newer := (rfl)
@[simp] theorem Dev.setWet_resp (a : Nat) (w : Option Word) : (d.setWet a w).resp = d.resp := (rfl)
@[simp] theorem Dev.setWet_afault (a : Nat) (w : Option Word) : (d.setWet a w).afault = d.afault := (rfl)
@[simp] theorem Dev.setWet_commit (a : Nat) (w : Option Word) : (d.setWet a w).commit = d.commit := (rfl)
@[simp] theorem Dev.setWet_legs (a : Nat) (w : Option Word) : (d.setWet a w).legs = d.legs := (rfl)
@[simp] theorem Dev.setWet_plans (a : Nat) (w : Option Word) : (d.setWet a w).plans = d.plans := (rfl)
@[simp] theorem Dev.setWet_dies (a : Nat) (w : Option Word) : (d.setWet a w).dies = d.dies := (rfl)
@[simp] theorem Dev.setWet_gangs (a : Nat) (w : Option Word) : (d.setWet a w).gangs = d.gangs := (rfl)
@[simp] theorem Dev.setWet_frames (a : Nat) (w : Option Word) : (d.setWet a w).frames = d.frames := (rfl)
@[simp] theorem Dev.setWet_axes (a : Nat) (w : Option Word) : (d.setWet a w).axes = d.axes := (rfl)
@[simp] theorem Dev.setWet_convs (a : Nat) (w : Option Word) : (d.setWet a w).convs = d.convs := (rfl)
@[simp] theorem Dev.setWet_auth (a : Nat) (w : Option Word) : (d.setWet a w).auth = d.auth := (rfl)
@[simp] theorem Dev.setWet_flt (a : Nat) (w : Option Word) : (d.setWet a w).flt = d.flt := (rfl)
@[simp] theorem Dev.setWet_fbs (a : Nat) (w : Option Word) : (d.setWet a w).fbs = d.fbs := (rfl)
@[simp] theorem Dev.setWet_rost (a : Nat) (w : Option Word) : (d.setWet a w).rost = d.rost := (rfl)
@[simp] theorem Dev.setWet_samp (a : Nat) (w : Option Word) : (d.setWet a w).samp = d.samp := (rfl)
@[simp] theorem Dev.setWet_eng (a : Nat) (w : Option Word) : (d.setWet a w).eng = d.eng := (rfl)
@[simp] theorem Dev.setWet_night (a : Nat) (w : Option Word) : (d.setWet a w).night = d.night := (rfl)
@[simp] theorem Dev.setWet_sys (a : Nat) (w : Option Word) : (d.setWet a w).sys = d.sys := (rfl)
@[simp] theorem Dev.setWet_arb (a : Nat) (w : Option Word) : (d.setWet a w).arb = d.arb := (rfl)
@[simp] theorem Dev.setWet_spi (a : Nat) (w : Option Word) : (d.setWet a w).spi = d.spi := (rfl)
@[simp] theorem Dev.setWet_cans (a : Nat) (w : Option Word) : (d.setWet a w).cans = d.cans := (rfl)
@[simp] theorem Dev.setWet_uarts (a : Nat) (w : Option Word) : (d.setWet a w).uarts = d.uarts := (rfl)
@[simp] theorem Dev.setWet_link (a : Nat) (w : Option Word) : (d.setWet a w).link = d.link := (rfl)
@[simp] theorem Dev.setWet_timers (a : Nat) (w : Option Word) : (d.setWet a w).timers = d.timers := (rfl)
@[simp] theorem Dev.setWet_turns (a : Nat) (w : Option Word) : (d.setWet a w).turns = d.turns := (rfl)

/-! ### `Dev.setCoat` -/

@[simp] theorem Dev.setCoat_now (a : Nat) (w : Option Word) : (d.setCoat a w).now = d.now := (rfl)
@[simp] theorem Dev.setCoat_free (a : Nat) (w : Option Word) : (d.setCoat a w).free = d.free := (rfl)
@[simp] theorem Dev.setCoat_mode (a : Nat) (w : Option Word) : (d.setCoat a w).mode = d.mode := (rfl)
@[simp] theorem Dev.setCoat_regs (a : Nat) (w : Option Word) : (d.setCoat a w).regs = d.regs := (rfl)
@[simp] theorem Dev.setCoat_events (a : Nat) (w : Option Word) : (d.setCoat a w).events = d.events := (rfl)
@[simp] theorem Dev.setCoat_wet (a : Nat) (w : Option Word) : (d.setCoat a w).wet = d.wet := (rfl)
@[simp] theorem Dev.setCoat_coat2 (a : Nat) (w : Option Word) : (d.setCoat a w).coat2 = sput noWord d.coat2 a w := (rfl)
@[simp] theorem Dev.setCoat_cast (a : Nat) (w : Option Word) : (d.setCoat a w).cast = d.cast := (rfl)
@[simp] theorem Dev.setCoat_mem (a : Nat) (w : Option Word) : (d.setCoat a w).mem = d.mem := (rfl)
@[simp] theorem Dev.setCoat_pairs (a : Nat) (w : Option Word) : (d.setCoat a w).pairs = d.pairs := (rfl)
@[simp] theorem Dev.setCoat_lows (a : Nat) (w : Option Word) : (d.setCoat a w).lows = d.lows := (rfl)
@[simp] theorem Dev.setCoat_newer (a : Nat) (w : Option Word) : (d.setCoat a w).newer = d.newer := (rfl)
@[simp] theorem Dev.setCoat_resp (a : Nat) (w : Option Word) : (d.setCoat a w).resp = d.resp := (rfl)
@[simp] theorem Dev.setCoat_afault (a : Nat) (w : Option Word) : (d.setCoat a w).afault = d.afault := (rfl)
@[simp] theorem Dev.setCoat_commit (a : Nat) (w : Option Word) : (d.setCoat a w).commit = d.commit := (rfl)
@[simp] theorem Dev.setCoat_legs (a : Nat) (w : Option Word) : (d.setCoat a w).legs = d.legs := (rfl)
@[simp] theorem Dev.setCoat_plans (a : Nat) (w : Option Word) : (d.setCoat a w).plans = d.plans := (rfl)
@[simp] theorem Dev.setCoat_dies (a : Nat) (w : Option Word) : (d.setCoat a w).dies = d.dies := (rfl)
@[simp] theorem Dev.setCoat_gangs (a : Nat) (w : Option Word) : (d.setCoat a w).gangs = d.gangs := (rfl)
@[simp] theorem Dev.setCoat_frames (a : Nat) (w : Option Word) : (d.setCoat a w).frames = d.frames := (rfl)
@[simp] theorem Dev.setCoat_axes (a : Nat) (w : Option Word) : (d.setCoat a w).axes = d.axes := (rfl)
@[simp] theorem Dev.setCoat_convs (a : Nat) (w : Option Word) : (d.setCoat a w).convs = d.convs := (rfl)
@[simp] theorem Dev.setCoat_auth (a : Nat) (w : Option Word) : (d.setCoat a w).auth = d.auth := (rfl)
@[simp] theorem Dev.setCoat_flt (a : Nat) (w : Option Word) : (d.setCoat a w).flt = d.flt := (rfl)
@[simp] theorem Dev.setCoat_fbs (a : Nat) (w : Option Word) : (d.setCoat a w).fbs = d.fbs := (rfl)
@[simp] theorem Dev.setCoat_rost (a : Nat) (w : Option Word) : (d.setCoat a w).rost = d.rost := (rfl)
@[simp] theorem Dev.setCoat_samp (a : Nat) (w : Option Word) : (d.setCoat a w).samp = d.samp := (rfl)
@[simp] theorem Dev.setCoat_eng (a : Nat) (w : Option Word) : (d.setCoat a w).eng = d.eng := (rfl)
@[simp] theorem Dev.setCoat_night (a : Nat) (w : Option Word) : (d.setCoat a w).night = d.night := (rfl)
@[simp] theorem Dev.setCoat_sys (a : Nat) (w : Option Word) : (d.setCoat a w).sys = d.sys := (rfl)
@[simp] theorem Dev.setCoat_arb (a : Nat) (w : Option Word) : (d.setCoat a w).arb = d.arb := (rfl)
@[simp] theorem Dev.setCoat_spi (a : Nat) (w : Option Word) : (d.setCoat a w).spi = d.spi := (rfl)
@[simp] theorem Dev.setCoat_cans (a : Nat) (w : Option Word) : (d.setCoat a w).cans = d.cans := (rfl)
@[simp] theorem Dev.setCoat_uarts (a : Nat) (w : Option Word) : (d.setCoat a w).uarts = d.uarts := (rfl)
@[simp] theorem Dev.setCoat_link (a : Nat) (w : Option Word) : (d.setCoat a w).link = d.link := (rfl)
@[simp] theorem Dev.setCoat_timers (a : Nat) (w : Option Word) : (d.setCoat a w).timers = d.timers := (rfl)
@[simp] theorem Dev.setCoat_turns (a : Nat) (w : Option Word) : (d.setCoat a w).turns = d.turns := (rfl)

/-! ### `Dev.setLeg` -/

@[simp] theorem Dev.setLeg_now (n : Nat) (r : LegRec) : (d.setLeg n r).now = d.now := (rfl)
@[simp] theorem Dev.setLeg_free (n : Nat) (r : LegRec) : (d.setLeg n r).free = d.free := (rfl)
@[simp] theorem Dev.setLeg_mode (n : Nat) (r : LegRec) : (d.setLeg n r).mode = d.mode := (rfl)
@[simp] theorem Dev.setLeg_regs (n : Nat) (r : LegRec) : (d.setLeg n r).regs = d.regs := (rfl)
@[simp] theorem Dev.setLeg_events (n : Nat) (r : LegRec) : (d.setLeg n r).events = d.events := (rfl)
@[simp] theorem Dev.setLeg_wet (n : Nat) (r : LegRec) : (d.setLeg n r).wet = d.wet := (rfl)
@[simp] theorem Dev.setLeg_coat2 (n : Nat) (r : LegRec) : (d.setLeg n r).coat2 = d.coat2 := (rfl)
@[simp] theorem Dev.setLeg_cast (n : Nat) (r : LegRec) : (d.setLeg n r).cast = d.cast := (rfl)
@[simp] theorem Dev.setLeg_mem (n : Nat) (r : LegRec) : (d.setLeg n r).mem = d.mem := (rfl)
@[simp] theorem Dev.setLeg_pairs (n : Nat) (r : LegRec) : (d.setLeg n r).pairs = d.pairs := (rfl)
@[simp] theorem Dev.setLeg_lows (n : Nat) (r : LegRec) : (d.setLeg n r).lows = d.lows := (rfl)
@[simp] theorem Dev.setLeg_newer (n : Nat) (r : LegRec) : (d.setLeg n r).newer = d.newer := (rfl)
@[simp] theorem Dev.setLeg_resp (n : Nat) (r : LegRec) : (d.setLeg n r).resp = d.resp := (rfl)
@[simp] theorem Dev.setLeg_afault (n : Nat) (r : LegRec) : (d.setLeg n r).afault = d.afault := (rfl)
@[simp] theorem Dev.setLeg_commit (n : Nat) (r : LegRec) : (d.setLeg n r).commit = d.commit := (rfl)
@[simp] theorem Dev.setLeg_legs (n : Nat) (r : LegRec) : (d.setLeg n r).legs = sput legReset d.legs n r := (rfl)
@[simp] theorem Dev.setLeg_plans (n : Nat) (r : LegRec) : (d.setLeg n r).plans = d.plans := (rfl)
@[simp] theorem Dev.setLeg_dies (n : Nat) (r : LegRec) : (d.setLeg n r).dies = d.dies := (rfl)
@[simp] theorem Dev.setLeg_gangs (n : Nat) (r : LegRec) : (d.setLeg n r).gangs = d.gangs := (rfl)
@[simp] theorem Dev.setLeg_frames (n : Nat) (r : LegRec) : (d.setLeg n r).frames = d.frames := (rfl)
@[simp] theorem Dev.setLeg_axes (n : Nat) (r : LegRec) : (d.setLeg n r).axes = d.axes := (rfl)
@[simp] theorem Dev.setLeg_convs (n : Nat) (r : LegRec) : (d.setLeg n r).convs = d.convs := (rfl)
@[simp] theorem Dev.setLeg_auth (n : Nat) (r : LegRec) : (d.setLeg n r).auth = d.auth := (rfl)
@[simp] theorem Dev.setLeg_flt (n : Nat) (r : LegRec) : (d.setLeg n r).flt = d.flt := (rfl)
@[simp] theorem Dev.setLeg_fbs (n : Nat) (r : LegRec) : (d.setLeg n r).fbs = d.fbs := (rfl)
@[simp] theorem Dev.setLeg_rost (n : Nat) (r : LegRec) : (d.setLeg n r).rost = d.rost := (rfl)
@[simp] theorem Dev.setLeg_samp (n : Nat) (r : LegRec) : (d.setLeg n r).samp = d.samp := (rfl)
@[simp] theorem Dev.setLeg_eng (n : Nat) (r : LegRec) : (d.setLeg n r).eng = d.eng := (rfl)
@[simp] theorem Dev.setLeg_night (n : Nat) (r : LegRec) : (d.setLeg n r).night = d.night := (rfl)
@[simp] theorem Dev.setLeg_sys (n : Nat) (r : LegRec) : (d.setLeg n r).sys = d.sys := (rfl)
@[simp] theorem Dev.setLeg_arb (n : Nat) (r : LegRec) : (d.setLeg n r).arb = d.arb := (rfl)
@[simp] theorem Dev.setLeg_spi (n : Nat) (r : LegRec) : (d.setLeg n r).spi = d.spi := (rfl)
@[simp] theorem Dev.setLeg_cans (n : Nat) (r : LegRec) : (d.setLeg n r).cans = d.cans := (rfl)
@[simp] theorem Dev.setLeg_uarts (n : Nat) (r : LegRec) : (d.setLeg n r).uarts = d.uarts := (rfl)
@[simp] theorem Dev.setLeg_link (n : Nat) (r : LegRec) : (d.setLeg n r).link = d.link := (rfl)
@[simp] theorem Dev.setLeg_timers (n : Nat) (r : LegRec) : (d.setLeg n r).timers = d.timers := (rfl)
@[simp] theorem Dev.setLeg_turns (n : Nat) (r : LegRec) : (d.setLeg n r).turns = d.turns := (rfl)

/-! ### `Dev.setPlan` -/

@[simp] theorem Dev.setPlan_now (n : Nat) (r : LegPlan) : (d.setPlan n r).now = d.now := (rfl)
@[simp] theorem Dev.setPlan_free (n : Nat) (r : LegPlan) : (d.setPlan n r).free = d.free := (rfl)
@[simp] theorem Dev.setPlan_mode (n : Nat) (r : LegPlan) : (d.setPlan n r).mode = d.mode := (rfl)
@[simp] theorem Dev.setPlan_regs (n : Nat) (r : LegPlan) : (d.setPlan n r).regs = d.regs := (rfl)
@[simp] theorem Dev.setPlan_events (n : Nat) (r : LegPlan) : (d.setPlan n r).events = d.events := (rfl)
@[simp] theorem Dev.setPlan_wet (n : Nat) (r : LegPlan) : (d.setPlan n r).wet = d.wet := (rfl)
@[simp] theorem Dev.setPlan_coat2 (n : Nat) (r : LegPlan) : (d.setPlan n r).coat2 = d.coat2 := (rfl)
@[simp] theorem Dev.setPlan_cast (n : Nat) (r : LegPlan) : (d.setPlan n r).cast = d.cast := (rfl)
@[simp] theorem Dev.setPlan_mem (n : Nat) (r : LegPlan) : (d.setPlan n r).mem = d.mem := (rfl)
@[simp] theorem Dev.setPlan_pairs (n : Nat) (r : LegPlan) : (d.setPlan n r).pairs = d.pairs := (rfl)
@[simp] theorem Dev.setPlan_lows (n : Nat) (r : LegPlan) : (d.setPlan n r).lows = d.lows := (rfl)
@[simp] theorem Dev.setPlan_newer (n : Nat) (r : LegPlan) : (d.setPlan n r).newer = d.newer := (rfl)
@[simp] theorem Dev.setPlan_resp (n : Nat) (r : LegPlan) : (d.setPlan n r).resp = d.resp := (rfl)
@[simp] theorem Dev.setPlan_afault (n : Nat) (r : LegPlan) : (d.setPlan n r).afault = d.afault := (rfl)
@[simp] theorem Dev.setPlan_commit (n : Nat) (r : LegPlan) : (d.setPlan n r).commit = d.commit := (rfl)
@[simp] theorem Dev.setPlan_legs (n : Nat) (r : LegPlan) : (d.setPlan n r).legs = d.legs := (rfl)
@[simp] theorem Dev.setPlan_plans (n : Nat) (r : LegPlan) : (d.setPlan n r).plans = sput planReset d.plans n r := (rfl)
@[simp] theorem Dev.setPlan_dies (n : Nat) (r : LegPlan) : (d.setPlan n r).dies = d.dies := (rfl)
@[simp] theorem Dev.setPlan_gangs (n : Nat) (r : LegPlan) : (d.setPlan n r).gangs = d.gangs := (rfl)
@[simp] theorem Dev.setPlan_frames (n : Nat) (r : LegPlan) : (d.setPlan n r).frames = d.frames := (rfl)
@[simp] theorem Dev.setPlan_axes (n : Nat) (r : LegPlan) : (d.setPlan n r).axes = d.axes := (rfl)
@[simp] theorem Dev.setPlan_convs (n : Nat) (r : LegPlan) : (d.setPlan n r).convs = d.convs := (rfl)
@[simp] theorem Dev.setPlan_auth (n : Nat) (r : LegPlan) : (d.setPlan n r).auth = d.auth := (rfl)
@[simp] theorem Dev.setPlan_flt (n : Nat) (r : LegPlan) : (d.setPlan n r).flt = d.flt := (rfl)
@[simp] theorem Dev.setPlan_fbs (n : Nat) (r : LegPlan) : (d.setPlan n r).fbs = d.fbs := (rfl)
@[simp] theorem Dev.setPlan_rost (n : Nat) (r : LegPlan) : (d.setPlan n r).rost = d.rost := (rfl)
@[simp] theorem Dev.setPlan_samp (n : Nat) (r : LegPlan) : (d.setPlan n r).samp = d.samp := (rfl)
@[simp] theorem Dev.setPlan_eng (n : Nat) (r : LegPlan) : (d.setPlan n r).eng = d.eng := (rfl)
@[simp] theorem Dev.setPlan_night (n : Nat) (r : LegPlan) : (d.setPlan n r).night = d.night := (rfl)
@[simp] theorem Dev.setPlan_sys (n : Nat) (r : LegPlan) : (d.setPlan n r).sys = d.sys := (rfl)
@[simp] theorem Dev.setPlan_arb (n : Nat) (r : LegPlan) : (d.setPlan n r).arb = d.arb := (rfl)
@[simp] theorem Dev.setPlan_spi (n : Nat) (r : LegPlan) : (d.setPlan n r).spi = d.spi := (rfl)
@[simp] theorem Dev.setPlan_cans (n : Nat) (r : LegPlan) : (d.setPlan n r).cans = d.cans := (rfl)
@[simp] theorem Dev.setPlan_uarts (n : Nat) (r : LegPlan) : (d.setPlan n r).uarts = d.uarts := (rfl)
@[simp] theorem Dev.setPlan_link (n : Nat) (r : LegPlan) : (d.setPlan n r).link = d.link := (rfl)
@[simp] theorem Dev.setPlan_timers (n : Nat) (r : LegPlan) : (d.setPlan n r).timers = d.timers := (rfl)
@[simp] theorem Dev.setPlan_turns (n : Nat) (r : LegPlan) : (d.setPlan n r).turns = d.turns := (rfl)

/-! ### `Dev.setDie` -/

@[simp] theorem Dev.setDie_now (n : Nat) (r : DieRec) : (d.setDie n r).now = d.now := (rfl)
@[simp] theorem Dev.setDie_free (n : Nat) (r : DieRec) : (d.setDie n r).free = d.free := (rfl)
@[simp] theorem Dev.setDie_mode (n : Nat) (r : DieRec) : (d.setDie n r).mode = d.mode := (rfl)
@[simp] theorem Dev.setDie_regs (n : Nat) (r : DieRec) : (d.setDie n r).regs = d.regs := (rfl)
@[simp] theorem Dev.setDie_events (n : Nat) (r : DieRec) : (d.setDie n r).events = d.events := (rfl)
@[simp] theorem Dev.setDie_wet (n : Nat) (r : DieRec) : (d.setDie n r).wet = d.wet := (rfl)
@[simp] theorem Dev.setDie_coat2 (n : Nat) (r : DieRec) : (d.setDie n r).coat2 = d.coat2 := (rfl)
@[simp] theorem Dev.setDie_cast (n : Nat) (r : DieRec) : (d.setDie n r).cast = d.cast := (rfl)
@[simp] theorem Dev.setDie_mem (n : Nat) (r : DieRec) : (d.setDie n r).mem = d.mem := (rfl)
@[simp] theorem Dev.setDie_pairs (n : Nat) (r : DieRec) : (d.setDie n r).pairs = d.pairs := (rfl)
@[simp] theorem Dev.setDie_lows (n : Nat) (r : DieRec) : (d.setDie n r).lows = d.lows := (rfl)
@[simp] theorem Dev.setDie_newer (n : Nat) (r : DieRec) : (d.setDie n r).newer = d.newer := (rfl)
@[simp] theorem Dev.setDie_resp (n : Nat) (r : DieRec) : (d.setDie n r).resp = d.resp := (rfl)
@[simp] theorem Dev.setDie_afault (n : Nat) (r : DieRec) : (d.setDie n r).afault = d.afault := (rfl)
@[simp] theorem Dev.setDie_commit (n : Nat) (r : DieRec) : (d.setDie n r).commit = d.commit := (rfl)
@[simp] theorem Dev.setDie_legs (n : Nat) (r : DieRec) : (d.setDie n r).legs = d.legs := (rfl)
@[simp] theorem Dev.setDie_plans (n : Nat) (r : DieRec) : (d.setDie n r).plans = d.plans := (rfl)
@[simp] theorem Dev.setDie_dies (n : Nat) (r : DieRec) : (d.setDie n r).dies = sput dieReset d.dies n r := (rfl)
@[simp] theorem Dev.setDie_gangs (n : Nat) (r : DieRec) : (d.setDie n r).gangs = d.gangs := (rfl)
@[simp] theorem Dev.setDie_frames (n : Nat) (r : DieRec) : (d.setDie n r).frames = d.frames := (rfl)
@[simp] theorem Dev.setDie_axes (n : Nat) (r : DieRec) : (d.setDie n r).axes = d.axes := (rfl)
@[simp] theorem Dev.setDie_convs (n : Nat) (r : DieRec) : (d.setDie n r).convs = d.convs := (rfl)
@[simp] theorem Dev.setDie_auth (n : Nat) (r : DieRec) : (d.setDie n r).auth = d.auth := (rfl)
@[simp] theorem Dev.setDie_flt (n : Nat) (r : DieRec) : (d.setDie n r).flt = d.flt := (rfl)
@[simp] theorem Dev.setDie_fbs (n : Nat) (r : DieRec) : (d.setDie n r).fbs = d.fbs := (rfl)
@[simp] theorem Dev.setDie_rost (n : Nat) (r : DieRec) : (d.setDie n r).rost = d.rost := (rfl)
@[simp] theorem Dev.setDie_samp (n : Nat) (r : DieRec) : (d.setDie n r).samp = d.samp := (rfl)
@[simp] theorem Dev.setDie_eng (n : Nat) (r : DieRec) : (d.setDie n r).eng = d.eng := (rfl)
@[simp] theorem Dev.setDie_night (n : Nat) (r : DieRec) : (d.setDie n r).night = d.night := (rfl)
@[simp] theorem Dev.setDie_sys (n : Nat) (r : DieRec) : (d.setDie n r).sys = d.sys := (rfl)
@[simp] theorem Dev.setDie_arb (n : Nat) (r : DieRec) : (d.setDie n r).arb = d.arb := (rfl)
@[simp] theorem Dev.setDie_spi (n : Nat) (r : DieRec) : (d.setDie n r).spi = d.spi := (rfl)
@[simp] theorem Dev.setDie_cans (n : Nat) (r : DieRec) : (d.setDie n r).cans = d.cans := (rfl)
@[simp] theorem Dev.setDie_uarts (n : Nat) (r : DieRec) : (d.setDie n r).uarts = d.uarts := (rfl)
@[simp] theorem Dev.setDie_link (n : Nat) (r : DieRec) : (d.setDie n r).link = d.link := (rfl)
@[simp] theorem Dev.setDie_timers (n : Nat) (r : DieRec) : (d.setDie n r).timers = d.timers := (rfl)
@[simp] theorem Dev.setDie_turns (n : Nat) (r : DieRec) : (d.setDie n r).turns = d.turns := (rfl)

/-! ### `Dev.setGang` -/

@[simp] theorem Dev.setGang_now (n : Nat) (r : GangRec) : (d.setGang n r).now = d.now := (rfl)
@[simp] theorem Dev.setGang_free (n : Nat) (r : GangRec) : (d.setGang n r).free = d.free := (rfl)
@[simp] theorem Dev.setGang_mode (n : Nat) (r : GangRec) : (d.setGang n r).mode = d.mode := (rfl)
@[simp] theorem Dev.setGang_regs (n : Nat) (r : GangRec) : (d.setGang n r).regs = d.regs := (rfl)
@[simp] theorem Dev.setGang_events (n : Nat) (r : GangRec) : (d.setGang n r).events = d.events := (rfl)
@[simp] theorem Dev.setGang_wet (n : Nat) (r : GangRec) : (d.setGang n r).wet = d.wet := (rfl)
@[simp] theorem Dev.setGang_coat2 (n : Nat) (r : GangRec) : (d.setGang n r).coat2 = d.coat2 := (rfl)
@[simp] theorem Dev.setGang_cast (n : Nat) (r : GangRec) : (d.setGang n r).cast = d.cast := (rfl)
@[simp] theorem Dev.setGang_mem (n : Nat) (r : GangRec) : (d.setGang n r).mem = d.mem := (rfl)
@[simp] theorem Dev.setGang_pairs (n : Nat) (r : GangRec) : (d.setGang n r).pairs = d.pairs := (rfl)
@[simp] theorem Dev.setGang_lows (n : Nat) (r : GangRec) : (d.setGang n r).lows = d.lows := (rfl)
@[simp] theorem Dev.setGang_newer (n : Nat) (r : GangRec) : (d.setGang n r).newer = d.newer := (rfl)
@[simp] theorem Dev.setGang_resp (n : Nat) (r : GangRec) : (d.setGang n r).resp = d.resp := (rfl)
@[simp] theorem Dev.setGang_afault (n : Nat) (r : GangRec) : (d.setGang n r).afault = d.afault := (rfl)
@[simp] theorem Dev.setGang_commit (n : Nat) (r : GangRec) : (d.setGang n r).commit = d.commit := (rfl)
@[simp] theorem Dev.setGang_legs (n : Nat) (r : GangRec) : (d.setGang n r).legs = d.legs := (rfl)
@[simp] theorem Dev.setGang_plans (n : Nat) (r : GangRec) : (d.setGang n r).plans = d.plans := (rfl)
@[simp] theorem Dev.setGang_dies (n : Nat) (r : GangRec) : (d.setGang n r).dies = d.dies := (rfl)
@[simp] theorem Dev.setGang_gangs (n : Nat) (r : GangRec) : (d.setGang n r).gangs = sput gangReset d.gangs n r := (rfl)
@[simp] theorem Dev.setGang_frames (n : Nat) (r : GangRec) : (d.setGang n r).frames = d.frames := (rfl)
@[simp] theorem Dev.setGang_axes (n : Nat) (r : GangRec) : (d.setGang n r).axes = d.axes := (rfl)
@[simp] theorem Dev.setGang_convs (n : Nat) (r : GangRec) : (d.setGang n r).convs = d.convs := (rfl)
@[simp] theorem Dev.setGang_auth (n : Nat) (r : GangRec) : (d.setGang n r).auth = d.auth := (rfl)
@[simp] theorem Dev.setGang_flt (n : Nat) (r : GangRec) : (d.setGang n r).flt = d.flt := (rfl)
@[simp] theorem Dev.setGang_fbs (n : Nat) (r : GangRec) : (d.setGang n r).fbs = d.fbs := (rfl)
@[simp] theorem Dev.setGang_rost (n : Nat) (r : GangRec) : (d.setGang n r).rost = d.rost := (rfl)
@[simp] theorem Dev.setGang_samp (n : Nat) (r : GangRec) : (d.setGang n r).samp = d.samp := (rfl)
@[simp] theorem Dev.setGang_eng (n : Nat) (r : GangRec) : (d.setGang n r).eng = d.eng := (rfl)
@[simp] theorem Dev.setGang_night (n : Nat) (r : GangRec) : (d.setGang n r).night = d.night := (rfl)
@[simp] theorem Dev.setGang_sys (n : Nat) (r : GangRec) : (d.setGang n r).sys = d.sys := (rfl)
@[simp] theorem Dev.setGang_arb (n : Nat) (r : GangRec) : (d.setGang n r).arb = d.arb := (rfl)
@[simp] theorem Dev.setGang_spi (n : Nat) (r : GangRec) : (d.setGang n r).spi = d.spi := (rfl)
@[simp] theorem Dev.setGang_cans (n : Nat) (r : GangRec) : (d.setGang n r).cans = d.cans := (rfl)
@[simp] theorem Dev.setGang_uarts (n : Nat) (r : GangRec) : (d.setGang n r).uarts = d.uarts := (rfl)
@[simp] theorem Dev.setGang_link (n : Nat) (r : GangRec) : (d.setGang n r).link = d.link := (rfl)
@[simp] theorem Dev.setGang_timers (n : Nat) (r : GangRec) : (d.setGang n r).timers = d.timers := (rfl)
@[simp] theorem Dev.setGang_turns (n : Nat) (r : GangRec) : (d.setGang n r).turns = d.turns := (rfl)

/-! ### `Dev.setFrame` -/

@[simp] theorem Dev.setFrame_now (n : Nat) (r : FrameRec) : (d.setFrame n r).now = d.now := (rfl)
@[simp] theorem Dev.setFrame_free (n : Nat) (r : FrameRec) : (d.setFrame n r).free = d.free := (rfl)
@[simp] theorem Dev.setFrame_mode (n : Nat) (r : FrameRec) : (d.setFrame n r).mode = d.mode := (rfl)
@[simp] theorem Dev.setFrame_regs (n : Nat) (r : FrameRec) : (d.setFrame n r).regs = d.regs := (rfl)
@[simp] theorem Dev.setFrame_events (n : Nat) (r : FrameRec) : (d.setFrame n r).events = d.events := (rfl)
@[simp] theorem Dev.setFrame_wet (n : Nat) (r : FrameRec) : (d.setFrame n r).wet = d.wet := (rfl)
@[simp] theorem Dev.setFrame_coat2 (n : Nat) (r : FrameRec) : (d.setFrame n r).coat2 = d.coat2 := (rfl)
@[simp] theorem Dev.setFrame_cast (n : Nat) (r : FrameRec) : (d.setFrame n r).cast = d.cast := (rfl)
@[simp] theorem Dev.setFrame_mem (n : Nat) (r : FrameRec) : (d.setFrame n r).mem = d.mem := (rfl)
@[simp] theorem Dev.setFrame_pairs (n : Nat) (r : FrameRec) : (d.setFrame n r).pairs = d.pairs := (rfl)
@[simp] theorem Dev.setFrame_lows (n : Nat) (r : FrameRec) : (d.setFrame n r).lows = d.lows := (rfl)
@[simp] theorem Dev.setFrame_newer (n : Nat) (r : FrameRec) : (d.setFrame n r).newer = d.newer := (rfl)
@[simp] theorem Dev.setFrame_resp (n : Nat) (r : FrameRec) : (d.setFrame n r).resp = d.resp := (rfl)
@[simp] theorem Dev.setFrame_afault (n : Nat) (r : FrameRec) : (d.setFrame n r).afault = d.afault := (rfl)
@[simp] theorem Dev.setFrame_commit (n : Nat) (r : FrameRec) : (d.setFrame n r).commit = d.commit := (rfl)
@[simp] theorem Dev.setFrame_legs (n : Nat) (r : FrameRec) : (d.setFrame n r).legs = d.legs := (rfl)
@[simp] theorem Dev.setFrame_plans (n : Nat) (r : FrameRec) : (d.setFrame n r).plans = d.plans := (rfl)
@[simp] theorem Dev.setFrame_dies (n : Nat) (r : FrameRec) : (d.setFrame n r).dies = d.dies := (rfl)
@[simp] theorem Dev.setFrame_gangs (n : Nat) (r : FrameRec) : (d.setFrame n r).gangs = d.gangs := (rfl)
@[simp] theorem Dev.setFrame_frames (n : Nat) (r : FrameRec) : (d.setFrame n r).frames = sput frameReset d.frames n r := (rfl)
@[simp] theorem Dev.setFrame_axes (n : Nat) (r : FrameRec) : (d.setFrame n r).axes = d.axes := (rfl)
@[simp] theorem Dev.setFrame_convs (n : Nat) (r : FrameRec) : (d.setFrame n r).convs = d.convs := (rfl)
@[simp] theorem Dev.setFrame_auth (n : Nat) (r : FrameRec) : (d.setFrame n r).auth = d.auth := (rfl)
@[simp] theorem Dev.setFrame_flt (n : Nat) (r : FrameRec) : (d.setFrame n r).flt = d.flt := (rfl)
@[simp] theorem Dev.setFrame_fbs (n : Nat) (r : FrameRec) : (d.setFrame n r).fbs = d.fbs := (rfl)
@[simp] theorem Dev.setFrame_rost (n : Nat) (r : FrameRec) : (d.setFrame n r).rost = d.rost := (rfl)
@[simp] theorem Dev.setFrame_samp (n : Nat) (r : FrameRec) : (d.setFrame n r).samp = d.samp := (rfl)
@[simp] theorem Dev.setFrame_eng (n : Nat) (r : FrameRec) : (d.setFrame n r).eng = d.eng := (rfl)
@[simp] theorem Dev.setFrame_night (n : Nat) (r : FrameRec) : (d.setFrame n r).night = d.night := (rfl)
@[simp] theorem Dev.setFrame_sys (n : Nat) (r : FrameRec) : (d.setFrame n r).sys = d.sys := (rfl)
@[simp] theorem Dev.setFrame_arb (n : Nat) (r : FrameRec) : (d.setFrame n r).arb = d.arb := (rfl)
@[simp] theorem Dev.setFrame_spi (n : Nat) (r : FrameRec) : (d.setFrame n r).spi = d.spi := (rfl)
@[simp] theorem Dev.setFrame_cans (n : Nat) (r : FrameRec) : (d.setFrame n r).cans = d.cans := (rfl)
@[simp] theorem Dev.setFrame_uarts (n : Nat) (r : FrameRec) : (d.setFrame n r).uarts = d.uarts := (rfl)
@[simp] theorem Dev.setFrame_link (n : Nat) (r : FrameRec) : (d.setFrame n r).link = d.link := (rfl)
@[simp] theorem Dev.setFrame_timers (n : Nat) (r : FrameRec) : (d.setFrame n r).timers = d.timers := (rfl)
@[simp] theorem Dev.setFrame_turns (n : Nat) (r : FrameRec) : (d.setFrame n r).turns = d.turns := (rfl)

/-! ### `Dev.setAxis` -/

@[simp] theorem Dev.setAxis_now (n : Nat) (r : AxisRec) : (d.setAxis n r).now = d.now := (rfl)
@[simp] theorem Dev.setAxis_free (n : Nat) (r : AxisRec) : (d.setAxis n r).free = d.free := (rfl)
@[simp] theorem Dev.setAxis_mode (n : Nat) (r : AxisRec) : (d.setAxis n r).mode = d.mode := (rfl)
@[simp] theorem Dev.setAxis_regs (n : Nat) (r : AxisRec) : (d.setAxis n r).regs = d.regs := (rfl)
@[simp] theorem Dev.setAxis_events (n : Nat) (r : AxisRec) : (d.setAxis n r).events = d.events := (rfl)
@[simp] theorem Dev.setAxis_wet (n : Nat) (r : AxisRec) : (d.setAxis n r).wet = d.wet := (rfl)
@[simp] theorem Dev.setAxis_coat2 (n : Nat) (r : AxisRec) : (d.setAxis n r).coat2 = d.coat2 := (rfl)
@[simp] theorem Dev.setAxis_cast (n : Nat) (r : AxisRec) : (d.setAxis n r).cast = d.cast := (rfl)
@[simp] theorem Dev.setAxis_mem (n : Nat) (r : AxisRec) : (d.setAxis n r).mem = d.mem := (rfl)
@[simp] theorem Dev.setAxis_pairs (n : Nat) (r : AxisRec) : (d.setAxis n r).pairs = d.pairs := (rfl)
@[simp] theorem Dev.setAxis_lows (n : Nat) (r : AxisRec) : (d.setAxis n r).lows = d.lows := (rfl)
@[simp] theorem Dev.setAxis_newer (n : Nat) (r : AxisRec) : (d.setAxis n r).newer = d.newer := (rfl)
@[simp] theorem Dev.setAxis_resp (n : Nat) (r : AxisRec) : (d.setAxis n r).resp = d.resp := (rfl)
@[simp] theorem Dev.setAxis_afault (n : Nat) (r : AxisRec) : (d.setAxis n r).afault = d.afault := (rfl)
@[simp] theorem Dev.setAxis_commit (n : Nat) (r : AxisRec) : (d.setAxis n r).commit = d.commit := (rfl)
@[simp] theorem Dev.setAxis_legs (n : Nat) (r : AxisRec) : (d.setAxis n r).legs = d.legs := (rfl)
@[simp] theorem Dev.setAxis_plans (n : Nat) (r : AxisRec) : (d.setAxis n r).plans = d.plans := (rfl)
@[simp] theorem Dev.setAxis_dies (n : Nat) (r : AxisRec) : (d.setAxis n r).dies = d.dies := (rfl)
@[simp] theorem Dev.setAxis_gangs (n : Nat) (r : AxisRec) : (d.setAxis n r).gangs = d.gangs := (rfl)
@[simp] theorem Dev.setAxis_frames (n : Nat) (r : AxisRec) : (d.setAxis n r).frames = d.frames := (rfl)
@[simp] theorem Dev.setAxis_axes (n : Nat) (r : AxisRec) : (d.setAxis n r).axes = sput axisReset d.axes n r := (rfl)
@[simp] theorem Dev.setAxis_convs (n : Nat) (r : AxisRec) : (d.setAxis n r).convs = d.convs := (rfl)
@[simp] theorem Dev.setAxis_auth (n : Nat) (r : AxisRec) : (d.setAxis n r).auth = d.auth := (rfl)
@[simp] theorem Dev.setAxis_flt (n : Nat) (r : AxisRec) : (d.setAxis n r).flt = d.flt := (rfl)
@[simp] theorem Dev.setAxis_fbs (n : Nat) (r : AxisRec) : (d.setAxis n r).fbs = d.fbs := (rfl)
@[simp] theorem Dev.setAxis_rost (n : Nat) (r : AxisRec) : (d.setAxis n r).rost = d.rost := (rfl)
@[simp] theorem Dev.setAxis_samp (n : Nat) (r : AxisRec) : (d.setAxis n r).samp = d.samp := (rfl)
@[simp] theorem Dev.setAxis_eng (n : Nat) (r : AxisRec) : (d.setAxis n r).eng = d.eng := (rfl)
@[simp] theorem Dev.setAxis_night (n : Nat) (r : AxisRec) : (d.setAxis n r).night = d.night := (rfl)
@[simp] theorem Dev.setAxis_sys (n : Nat) (r : AxisRec) : (d.setAxis n r).sys = d.sys := (rfl)
@[simp] theorem Dev.setAxis_arb (n : Nat) (r : AxisRec) : (d.setAxis n r).arb = d.arb := (rfl)
@[simp] theorem Dev.setAxis_spi (n : Nat) (r : AxisRec) : (d.setAxis n r).spi = d.spi := (rfl)
@[simp] theorem Dev.setAxis_cans (n : Nat) (r : AxisRec) : (d.setAxis n r).cans = d.cans := (rfl)
@[simp] theorem Dev.setAxis_uarts (n : Nat) (r : AxisRec) : (d.setAxis n r).uarts = d.uarts := (rfl)
@[simp] theorem Dev.setAxis_link (n : Nat) (r : AxisRec) : (d.setAxis n r).link = d.link := (rfl)
@[simp] theorem Dev.setAxis_timers (n : Nat) (r : AxisRec) : (d.setAxis n r).timers = d.timers := (rfl)
@[simp] theorem Dev.setAxis_turns (n : Nat) (r : AxisRec) : (d.setAxis n r).turns = d.turns := (rfl)

/-! ### `Dev.setConv` -/

@[simp] theorem Dev.setConv_now (n : Nat) (r : ConvRec) : (d.setConv n r).now = d.now := (rfl)
@[simp] theorem Dev.setConv_free (n : Nat) (r : ConvRec) : (d.setConv n r).free = d.free := (rfl)
@[simp] theorem Dev.setConv_mode (n : Nat) (r : ConvRec) : (d.setConv n r).mode = d.mode := (rfl)
@[simp] theorem Dev.setConv_regs (n : Nat) (r : ConvRec) : (d.setConv n r).regs = d.regs := (rfl)
@[simp] theorem Dev.setConv_events (n : Nat) (r : ConvRec) : (d.setConv n r).events = d.events := (rfl)
@[simp] theorem Dev.setConv_wet (n : Nat) (r : ConvRec) : (d.setConv n r).wet = d.wet := (rfl)
@[simp] theorem Dev.setConv_coat2 (n : Nat) (r : ConvRec) : (d.setConv n r).coat2 = d.coat2 := (rfl)
@[simp] theorem Dev.setConv_cast (n : Nat) (r : ConvRec) : (d.setConv n r).cast = d.cast := (rfl)
@[simp] theorem Dev.setConv_mem (n : Nat) (r : ConvRec) : (d.setConv n r).mem = d.mem := (rfl)
@[simp] theorem Dev.setConv_pairs (n : Nat) (r : ConvRec) : (d.setConv n r).pairs = d.pairs := (rfl)
@[simp] theorem Dev.setConv_lows (n : Nat) (r : ConvRec) : (d.setConv n r).lows = d.lows := (rfl)
@[simp] theorem Dev.setConv_newer (n : Nat) (r : ConvRec) : (d.setConv n r).newer = d.newer := (rfl)
@[simp] theorem Dev.setConv_resp (n : Nat) (r : ConvRec) : (d.setConv n r).resp = d.resp := (rfl)
@[simp] theorem Dev.setConv_afault (n : Nat) (r : ConvRec) : (d.setConv n r).afault = d.afault := (rfl)
@[simp] theorem Dev.setConv_commit (n : Nat) (r : ConvRec) : (d.setConv n r).commit = d.commit := (rfl)
@[simp] theorem Dev.setConv_legs (n : Nat) (r : ConvRec) : (d.setConv n r).legs = d.legs := (rfl)
@[simp] theorem Dev.setConv_plans (n : Nat) (r : ConvRec) : (d.setConv n r).plans = d.plans := (rfl)
@[simp] theorem Dev.setConv_dies (n : Nat) (r : ConvRec) : (d.setConv n r).dies = d.dies := (rfl)
@[simp] theorem Dev.setConv_gangs (n : Nat) (r : ConvRec) : (d.setConv n r).gangs = d.gangs := (rfl)
@[simp] theorem Dev.setConv_frames (n : Nat) (r : ConvRec) : (d.setConv n r).frames = d.frames := (rfl)
@[simp] theorem Dev.setConv_axes (n : Nat) (r : ConvRec) : (d.setConv n r).axes = d.axes := (rfl)
@[simp] theorem Dev.setConv_convs (n : Nat) (r : ConvRec) : (d.setConv n r).convs = sput convReset d.convs n r := (rfl)
@[simp] theorem Dev.setConv_auth (n : Nat) (r : ConvRec) : (d.setConv n r).auth = d.auth := (rfl)
@[simp] theorem Dev.setConv_flt (n : Nat) (r : ConvRec) : (d.setConv n r).flt = d.flt := (rfl)
@[simp] theorem Dev.setConv_fbs (n : Nat) (r : ConvRec) : (d.setConv n r).fbs = d.fbs := (rfl)
@[simp] theorem Dev.setConv_rost (n : Nat) (r : ConvRec) : (d.setConv n r).rost = d.rost := (rfl)
@[simp] theorem Dev.setConv_samp (n : Nat) (r : ConvRec) : (d.setConv n r).samp = d.samp := (rfl)
@[simp] theorem Dev.setConv_eng (n : Nat) (r : ConvRec) : (d.setConv n r).eng = d.eng := (rfl)
@[simp] theorem Dev.setConv_night (n : Nat) (r : ConvRec) : (d.setConv n r).night = d.night := (rfl)
@[simp] theorem Dev.setConv_sys (n : Nat) (r : ConvRec) : (d.setConv n r).sys = d.sys := (rfl)
@[simp] theorem Dev.setConv_arb (n : Nat) (r : ConvRec) : (d.setConv n r).arb = d.arb := (rfl)
@[simp] theorem Dev.setConv_spi (n : Nat) (r : ConvRec) : (d.setConv n r).spi = d.spi := (rfl)
@[simp] theorem Dev.setConv_cans (n : Nat) (r : ConvRec) : (d.setConv n r).cans = d.cans := (rfl)
@[simp] theorem Dev.setConv_uarts (n : Nat) (r : ConvRec) : (d.setConv n r).uarts = d.uarts := (rfl)
@[simp] theorem Dev.setConv_link (n : Nat) (r : ConvRec) : (d.setConv n r).link = d.link := (rfl)
@[simp] theorem Dev.setConv_timers (n : Nat) (r : ConvRec) : (d.setConv n r).timers = d.timers := (rfl)
@[simp] theorem Dev.setConv_turns (n : Nat) (r : ConvRec) : (d.setConv n r).turns = d.turns := (rfl)

/-! ### `Dev.setFb` -/

@[simp] theorem Dev.setFb_now (n : Nat) (r : FbRec) : (d.setFb n r).now = d.now := (rfl)
@[simp] theorem Dev.setFb_free (n : Nat) (r : FbRec) : (d.setFb n r).free = d.free := (rfl)
@[simp] theorem Dev.setFb_mode (n : Nat) (r : FbRec) : (d.setFb n r).mode = d.mode := (rfl)
@[simp] theorem Dev.setFb_regs (n : Nat) (r : FbRec) : (d.setFb n r).regs = d.regs := (rfl)
@[simp] theorem Dev.setFb_events (n : Nat) (r : FbRec) : (d.setFb n r).events = d.events := (rfl)
@[simp] theorem Dev.setFb_wet (n : Nat) (r : FbRec) : (d.setFb n r).wet = d.wet := (rfl)
@[simp] theorem Dev.setFb_coat2 (n : Nat) (r : FbRec) : (d.setFb n r).coat2 = d.coat2 := (rfl)
@[simp] theorem Dev.setFb_cast (n : Nat) (r : FbRec) : (d.setFb n r).cast = d.cast := (rfl)
@[simp] theorem Dev.setFb_mem (n : Nat) (r : FbRec) : (d.setFb n r).mem = d.mem := (rfl)
@[simp] theorem Dev.setFb_pairs (n : Nat) (r : FbRec) : (d.setFb n r).pairs = d.pairs := (rfl)
@[simp] theorem Dev.setFb_lows (n : Nat) (r : FbRec) : (d.setFb n r).lows = d.lows := (rfl)
@[simp] theorem Dev.setFb_newer (n : Nat) (r : FbRec) : (d.setFb n r).newer = d.newer := (rfl)
@[simp] theorem Dev.setFb_resp (n : Nat) (r : FbRec) : (d.setFb n r).resp = d.resp := (rfl)
@[simp] theorem Dev.setFb_afault (n : Nat) (r : FbRec) : (d.setFb n r).afault = d.afault := (rfl)
@[simp] theorem Dev.setFb_commit (n : Nat) (r : FbRec) : (d.setFb n r).commit = d.commit := (rfl)
@[simp] theorem Dev.setFb_legs (n : Nat) (r : FbRec) : (d.setFb n r).legs = d.legs := (rfl)
@[simp] theorem Dev.setFb_plans (n : Nat) (r : FbRec) : (d.setFb n r).plans = d.plans := (rfl)
@[simp] theorem Dev.setFb_dies (n : Nat) (r : FbRec) : (d.setFb n r).dies = d.dies := (rfl)
@[simp] theorem Dev.setFb_gangs (n : Nat) (r : FbRec) : (d.setFb n r).gangs = d.gangs := (rfl)
@[simp] theorem Dev.setFb_frames (n : Nat) (r : FbRec) : (d.setFb n r).frames = d.frames := (rfl)
@[simp] theorem Dev.setFb_axes (n : Nat) (r : FbRec) : (d.setFb n r).axes = d.axes := (rfl)
@[simp] theorem Dev.setFb_convs (n : Nat) (r : FbRec) : (d.setFb n r).convs = d.convs := (rfl)
@[simp] theorem Dev.setFb_auth (n : Nat) (r : FbRec) : (d.setFb n r).auth = d.auth := (rfl)
@[simp] theorem Dev.setFb_flt (n : Nat) (r : FbRec) : (d.setFb n r).flt = d.flt := (rfl)
@[simp] theorem Dev.setFb_fbs (n : Nat) (r : FbRec) : (d.setFb n r).fbs = sput fbReset d.fbs n r := (rfl)
@[simp] theorem Dev.setFb_rost (n : Nat) (r : FbRec) : (d.setFb n r).rost = d.rost := (rfl)
@[simp] theorem Dev.setFb_samp (n : Nat) (r : FbRec) : (d.setFb n r).samp = d.samp := (rfl)
@[simp] theorem Dev.setFb_eng (n : Nat) (r : FbRec) : (d.setFb n r).eng = d.eng := (rfl)
@[simp] theorem Dev.setFb_night (n : Nat) (r : FbRec) : (d.setFb n r).night = d.night := (rfl)
@[simp] theorem Dev.setFb_sys (n : Nat) (r : FbRec) : (d.setFb n r).sys = d.sys := (rfl)
@[simp] theorem Dev.setFb_arb (n : Nat) (r : FbRec) : (d.setFb n r).arb = d.arb := (rfl)
@[simp] theorem Dev.setFb_spi (n : Nat) (r : FbRec) : (d.setFb n r).spi = d.spi := (rfl)
@[simp] theorem Dev.setFb_cans (n : Nat) (r : FbRec) : (d.setFb n r).cans = d.cans := (rfl)
@[simp] theorem Dev.setFb_uarts (n : Nat) (r : FbRec) : (d.setFb n r).uarts = d.uarts := (rfl)
@[simp] theorem Dev.setFb_link (n : Nat) (r : FbRec) : (d.setFb n r).link = d.link := (rfl)
@[simp] theorem Dev.setFb_timers (n : Nat) (r : FbRec) : (d.setFb n r).timers = d.timers := (rfl)
@[simp] theorem Dev.setFb_turns (n : Nat) (r : FbRec) : (d.setFb n r).turns = d.turns := (rfl)

/-! ### `Dev.setCan` -/

@[simp] theorem Dev.setCan_now (n : Nat) (r : CanRec) : (d.setCan n r).now = d.now := (rfl)
@[simp] theorem Dev.setCan_free (n : Nat) (r : CanRec) : (d.setCan n r).free = d.free := (rfl)
@[simp] theorem Dev.setCan_mode (n : Nat) (r : CanRec) : (d.setCan n r).mode = d.mode := (rfl)
@[simp] theorem Dev.setCan_regs (n : Nat) (r : CanRec) : (d.setCan n r).regs = d.regs := (rfl)
@[simp] theorem Dev.setCan_events (n : Nat) (r : CanRec) : (d.setCan n r).events = d.events := (rfl)
@[simp] theorem Dev.setCan_wet (n : Nat) (r : CanRec) : (d.setCan n r).wet = d.wet := (rfl)
@[simp] theorem Dev.setCan_coat2 (n : Nat) (r : CanRec) : (d.setCan n r).coat2 = d.coat2 := (rfl)
@[simp] theorem Dev.setCan_cast (n : Nat) (r : CanRec) : (d.setCan n r).cast = d.cast := (rfl)
@[simp] theorem Dev.setCan_mem (n : Nat) (r : CanRec) : (d.setCan n r).mem = d.mem := (rfl)
@[simp] theorem Dev.setCan_pairs (n : Nat) (r : CanRec) : (d.setCan n r).pairs = d.pairs := (rfl)
@[simp] theorem Dev.setCan_lows (n : Nat) (r : CanRec) : (d.setCan n r).lows = d.lows := (rfl)
@[simp] theorem Dev.setCan_newer (n : Nat) (r : CanRec) : (d.setCan n r).newer = d.newer := (rfl)
@[simp] theorem Dev.setCan_resp (n : Nat) (r : CanRec) : (d.setCan n r).resp = d.resp := (rfl)
@[simp] theorem Dev.setCan_afault (n : Nat) (r : CanRec) : (d.setCan n r).afault = d.afault := (rfl)
@[simp] theorem Dev.setCan_commit (n : Nat) (r : CanRec) : (d.setCan n r).commit = d.commit := (rfl)
@[simp] theorem Dev.setCan_legs (n : Nat) (r : CanRec) : (d.setCan n r).legs = d.legs := (rfl)
@[simp] theorem Dev.setCan_plans (n : Nat) (r : CanRec) : (d.setCan n r).plans = d.plans := (rfl)
@[simp] theorem Dev.setCan_dies (n : Nat) (r : CanRec) : (d.setCan n r).dies = d.dies := (rfl)
@[simp] theorem Dev.setCan_gangs (n : Nat) (r : CanRec) : (d.setCan n r).gangs = d.gangs := (rfl)
@[simp] theorem Dev.setCan_frames (n : Nat) (r : CanRec) : (d.setCan n r).frames = d.frames := (rfl)
@[simp] theorem Dev.setCan_axes (n : Nat) (r : CanRec) : (d.setCan n r).axes = d.axes := (rfl)
@[simp] theorem Dev.setCan_convs (n : Nat) (r : CanRec) : (d.setCan n r).convs = d.convs := (rfl)
@[simp] theorem Dev.setCan_auth (n : Nat) (r : CanRec) : (d.setCan n r).auth = d.auth := (rfl)
@[simp] theorem Dev.setCan_flt (n : Nat) (r : CanRec) : (d.setCan n r).flt = d.flt := (rfl)
@[simp] theorem Dev.setCan_fbs (n : Nat) (r : CanRec) : (d.setCan n r).fbs = d.fbs := (rfl)
@[simp] theorem Dev.setCan_rost (n : Nat) (r : CanRec) : (d.setCan n r).rost = d.rost := (rfl)
@[simp] theorem Dev.setCan_samp (n : Nat) (r : CanRec) : (d.setCan n r).samp = d.samp := (rfl)
@[simp] theorem Dev.setCan_eng (n : Nat) (r : CanRec) : (d.setCan n r).eng = d.eng := (rfl)
@[simp] theorem Dev.setCan_night (n : Nat) (r : CanRec) : (d.setCan n r).night = d.night := (rfl)
@[simp] theorem Dev.setCan_sys (n : Nat) (r : CanRec) : (d.setCan n r).sys = d.sys := (rfl)
@[simp] theorem Dev.setCan_arb (n : Nat) (r : CanRec) : (d.setCan n r).arb = d.arb := (rfl)
@[simp] theorem Dev.setCan_spi (n : Nat) (r : CanRec) : (d.setCan n r).spi = d.spi := (rfl)
@[simp] theorem Dev.setCan_cans (n : Nat) (r : CanRec) : (d.setCan n r).cans = sput canReset d.cans n r := (rfl)
@[simp] theorem Dev.setCan_uarts (n : Nat) (r : CanRec) : (d.setCan n r).uarts = d.uarts := (rfl)
@[simp] theorem Dev.setCan_link (n : Nat) (r : CanRec) : (d.setCan n r).link = d.link := (rfl)
@[simp] theorem Dev.setCan_timers (n : Nat) (r : CanRec) : (d.setCan n r).timers = d.timers := (rfl)
@[simp] theorem Dev.setCan_turns (n : Nat) (r : CanRec) : (d.setCan n r).turns = d.turns := (rfl)

/-! ### `Dev.setUart` -/

@[simp] theorem Dev.setUart_now (n : Nat) (r : UartRec) : (d.setUart n r).now = d.now := (rfl)
@[simp] theorem Dev.setUart_free (n : Nat) (r : UartRec) : (d.setUart n r).free = d.free := (rfl)
@[simp] theorem Dev.setUart_mode (n : Nat) (r : UartRec) : (d.setUart n r).mode = d.mode := (rfl)
@[simp] theorem Dev.setUart_regs (n : Nat) (r : UartRec) : (d.setUart n r).regs = d.regs := (rfl)
@[simp] theorem Dev.setUart_events (n : Nat) (r : UartRec) : (d.setUart n r).events = d.events := (rfl)
@[simp] theorem Dev.setUart_wet (n : Nat) (r : UartRec) : (d.setUart n r).wet = d.wet := (rfl)
@[simp] theorem Dev.setUart_coat2 (n : Nat) (r : UartRec) : (d.setUart n r).coat2 = d.coat2 := (rfl)
@[simp] theorem Dev.setUart_cast (n : Nat) (r : UartRec) : (d.setUart n r).cast = d.cast := (rfl)
@[simp] theorem Dev.setUart_mem (n : Nat) (r : UartRec) : (d.setUart n r).mem = d.mem := (rfl)
@[simp] theorem Dev.setUart_pairs (n : Nat) (r : UartRec) : (d.setUart n r).pairs = d.pairs := (rfl)
@[simp] theorem Dev.setUart_lows (n : Nat) (r : UartRec) : (d.setUart n r).lows = d.lows := (rfl)
@[simp] theorem Dev.setUart_newer (n : Nat) (r : UartRec) : (d.setUart n r).newer = d.newer := (rfl)
@[simp] theorem Dev.setUart_resp (n : Nat) (r : UartRec) : (d.setUart n r).resp = d.resp := (rfl)
@[simp] theorem Dev.setUart_afault (n : Nat) (r : UartRec) : (d.setUart n r).afault = d.afault := (rfl)
@[simp] theorem Dev.setUart_commit (n : Nat) (r : UartRec) : (d.setUart n r).commit = d.commit := (rfl)
@[simp] theorem Dev.setUart_legs (n : Nat) (r : UartRec) : (d.setUart n r).legs = d.legs := (rfl)
@[simp] theorem Dev.setUart_plans (n : Nat) (r : UartRec) : (d.setUart n r).plans = d.plans := (rfl)
@[simp] theorem Dev.setUart_dies (n : Nat) (r : UartRec) : (d.setUart n r).dies = d.dies := (rfl)
@[simp] theorem Dev.setUart_gangs (n : Nat) (r : UartRec) : (d.setUart n r).gangs = d.gangs := (rfl)
@[simp] theorem Dev.setUart_frames (n : Nat) (r : UartRec) : (d.setUart n r).frames = d.frames := (rfl)
@[simp] theorem Dev.setUart_axes (n : Nat) (r : UartRec) : (d.setUart n r).axes = d.axes := (rfl)
@[simp] theorem Dev.setUart_convs (n : Nat) (r : UartRec) : (d.setUart n r).convs = d.convs := (rfl)
@[simp] theorem Dev.setUart_auth (n : Nat) (r : UartRec) : (d.setUart n r).auth = d.auth := (rfl)
@[simp] theorem Dev.setUart_flt (n : Nat) (r : UartRec) : (d.setUart n r).flt = d.flt := (rfl)
@[simp] theorem Dev.setUart_fbs (n : Nat) (r : UartRec) : (d.setUart n r).fbs = d.fbs := (rfl)
@[simp] theorem Dev.setUart_rost (n : Nat) (r : UartRec) : (d.setUart n r).rost = d.rost := (rfl)
@[simp] theorem Dev.setUart_samp (n : Nat) (r : UartRec) : (d.setUart n r).samp = d.samp := (rfl)
@[simp] theorem Dev.setUart_eng (n : Nat) (r : UartRec) : (d.setUart n r).eng = d.eng := (rfl)
@[simp] theorem Dev.setUart_night (n : Nat) (r : UartRec) : (d.setUart n r).night = d.night := (rfl)
@[simp] theorem Dev.setUart_sys (n : Nat) (r : UartRec) : (d.setUart n r).sys = d.sys := (rfl)
@[simp] theorem Dev.setUart_arb (n : Nat) (r : UartRec) : (d.setUart n r).arb = d.arb := (rfl)
@[simp] theorem Dev.setUart_spi (n : Nat) (r : UartRec) : (d.setUart n r).spi = d.spi := (rfl)
@[simp] theorem Dev.setUart_cans (n : Nat) (r : UartRec) : (d.setUart n r).cans = d.cans := (rfl)
@[simp] theorem Dev.setUart_uarts (n : Nat) (r : UartRec) : (d.setUart n r).uarts = sput uartReset d.uarts n r := (rfl)
@[simp] theorem Dev.setUart_link (n : Nat) (r : UartRec) : (d.setUart n r).link = d.link := (rfl)
@[simp] theorem Dev.setUart_timers (n : Nat) (r : UartRec) : (d.setUart n r).timers = d.timers := (rfl)
@[simp] theorem Dev.setUart_turns (n : Nat) (r : UartRec) : (d.setUart n r).turns = d.turns := (rfl)

/-! ### `Dev.setRost` -/

@[simp] theorem Dev.setRost_now (f : RostRec → RostRec) : (d.setRost f).now = d.now := (rfl)
@[simp] theorem Dev.setRost_free (f : RostRec → RostRec) : (d.setRost f).free = d.free := (rfl)
@[simp] theorem Dev.setRost_mode (f : RostRec → RostRec) : (d.setRost f).mode = d.mode := (rfl)
@[simp] theorem Dev.setRost_regs (f : RostRec → RostRec) : (d.setRost f).regs = d.regs := (rfl)
@[simp] theorem Dev.setRost_events (f : RostRec → RostRec) : (d.setRost f).events = d.events := (rfl)
@[simp] theorem Dev.setRost_wet (f : RostRec → RostRec) : (d.setRost f).wet = d.wet := (rfl)
@[simp] theorem Dev.setRost_coat2 (f : RostRec → RostRec) : (d.setRost f).coat2 = d.coat2 := (rfl)
@[simp] theorem Dev.setRost_cast (f : RostRec → RostRec) : (d.setRost f).cast = d.cast := (rfl)
@[simp] theorem Dev.setRost_mem (f : RostRec → RostRec) : (d.setRost f).mem = d.mem := (rfl)
@[simp] theorem Dev.setRost_pairs (f : RostRec → RostRec) : (d.setRost f).pairs = d.pairs := (rfl)
@[simp] theorem Dev.setRost_lows (f : RostRec → RostRec) : (d.setRost f).lows = d.lows := (rfl)
@[simp] theorem Dev.setRost_newer (f : RostRec → RostRec) : (d.setRost f).newer = d.newer := (rfl)
@[simp] theorem Dev.setRost_resp (f : RostRec → RostRec) : (d.setRost f).resp = d.resp := (rfl)
@[simp] theorem Dev.setRost_afault (f : RostRec → RostRec) : (d.setRost f).afault = d.afault := (rfl)
@[simp] theorem Dev.setRost_commit (f : RostRec → RostRec) : (d.setRost f).commit = d.commit := (rfl)
@[simp] theorem Dev.setRost_legs (f : RostRec → RostRec) : (d.setRost f).legs = d.legs := (rfl)
@[simp] theorem Dev.setRost_plans (f : RostRec → RostRec) : (d.setRost f).plans = d.plans := (rfl)
@[simp] theorem Dev.setRost_dies (f : RostRec → RostRec) : (d.setRost f).dies = d.dies := (rfl)
@[simp] theorem Dev.setRost_gangs (f : RostRec → RostRec) : (d.setRost f).gangs = d.gangs := (rfl)
@[simp] theorem Dev.setRost_frames (f : RostRec → RostRec) : (d.setRost f).frames = d.frames := (rfl)
@[simp] theorem Dev.setRost_axes (f : RostRec → RostRec) : (d.setRost f).axes = d.axes := (rfl)
@[simp] theorem Dev.setRost_convs (f : RostRec → RostRec) : (d.setRost f).convs = d.convs := (rfl)
@[simp] theorem Dev.setRost_auth (f : RostRec → RostRec) : (d.setRost f).auth = d.auth := (rfl)
@[simp] theorem Dev.setRost_flt (f : RostRec → RostRec) : (d.setRost f).flt = d.flt := (rfl)
@[simp] theorem Dev.setRost_fbs (f : RostRec → RostRec) : (d.setRost f).fbs = d.fbs := (rfl)
@[simp] theorem Dev.setRost_rost (f : RostRec → RostRec) : (d.setRost f).rost = f d.rost := (rfl)
@[simp] theorem Dev.setRost_samp (f : RostRec → RostRec) : (d.setRost f).samp = d.samp := (rfl)
@[simp] theorem Dev.setRost_eng (f : RostRec → RostRec) : (d.setRost f).eng = d.eng := (rfl)
@[simp] theorem Dev.setRost_night (f : RostRec → RostRec) : (d.setRost f).night = d.night := (rfl)
@[simp] theorem Dev.setRost_sys (f : RostRec → RostRec) : (d.setRost f).sys = d.sys := (rfl)
@[simp] theorem Dev.setRost_arb (f : RostRec → RostRec) : (d.setRost f).arb = d.arb := (rfl)
@[simp] theorem Dev.setRost_spi (f : RostRec → RostRec) : (d.setRost f).spi = d.spi := (rfl)
@[simp] theorem Dev.setRost_cans (f : RostRec → RostRec) : (d.setRost f).cans = d.cans := (rfl)
@[simp] theorem Dev.setRost_uarts (f : RostRec → RostRec) : (d.setRost f).uarts = d.uarts := (rfl)
@[simp] theorem Dev.setRost_link (f : RostRec → RostRec) : (d.setRost f).link = d.link := (rfl)
@[simp] theorem Dev.setRost_timers (f : RostRec → RostRec) : (d.setRost f).timers = d.timers := (rfl)
@[simp] theorem Dev.setRost_turns (f : RostRec → RostRec) : (d.setRost f).turns = d.turns := (rfl)

/-! ### `Dev.setSamp` -/

@[simp] theorem Dev.setSamp_now (f : SampRec → SampRec) : (d.setSamp f).now = d.now := (rfl)
@[simp] theorem Dev.setSamp_free (f : SampRec → SampRec) : (d.setSamp f).free = d.free := (rfl)
@[simp] theorem Dev.setSamp_mode (f : SampRec → SampRec) : (d.setSamp f).mode = d.mode := (rfl)
@[simp] theorem Dev.setSamp_regs (f : SampRec → SampRec) : (d.setSamp f).regs = d.regs := (rfl)
@[simp] theorem Dev.setSamp_events (f : SampRec → SampRec) : (d.setSamp f).events = d.events := (rfl)
@[simp] theorem Dev.setSamp_wet (f : SampRec → SampRec) : (d.setSamp f).wet = d.wet := (rfl)
@[simp] theorem Dev.setSamp_coat2 (f : SampRec → SampRec) : (d.setSamp f).coat2 = d.coat2 := (rfl)
@[simp] theorem Dev.setSamp_cast (f : SampRec → SampRec) : (d.setSamp f).cast = d.cast := (rfl)
@[simp] theorem Dev.setSamp_mem (f : SampRec → SampRec) : (d.setSamp f).mem = d.mem := (rfl)
@[simp] theorem Dev.setSamp_pairs (f : SampRec → SampRec) : (d.setSamp f).pairs = d.pairs := (rfl)
@[simp] theorem Dev.setSamp_lows (f : SampRec → SampRec) : (d.setSamp f).lows = d.lows := (rfl)
@[simp] theorem Dev.setSamp_newer (f : SampRec → SampRec) : (d.setSamp f).newer = d.newer := (rfl)
@[simp] theorem Dev.setSamp_resp (f : SampRec → SampRec) : (d.setSamp f).resp = d.resp := (rfl)
@[simp] theorem Dev.setSamp_afault (f : SampRec → SampRec) : (d.setSamp f).afault = d.afault := (rfl)
@[simp] theorem Dev.setSamp_commit (f : SampRec → SampRec) : (d.setSamp f).commit = d.commit := (rfl)
@[simp] theorem Dev.setSamp_legs (f : SampRec → SampRec) : (d.setSamp f).legs = d.legs := (rfl)
@[simp] theorem Dev.setSamp_plans (f : SampRec → SampRec) : (d.setSamp f).plans = d.plans := (rfl)
@[simp] theorem Dev.setSamp_dies (f : SampRec → SampRec) : (d.setSamp f).dies = d.dies := (rfl)
@[simp] theorem Dev.setSamp_gangs (f : SampRec → SampRec) : (d.setSamp f).gangs = d.gangs := (rfl)
@[simp] theorem Dev.setSamp_frames (f : SampRec → SampRec) : (d.setSamp f).frames = d.frames := (rfl)
@[simp] theorem Dev.setSamp_axes (f : SampRec → SampRec) : (d.setSamp f).axes = d.axes := (rfl)
@[simp] theorem Dev.setSamp_convs (f : SampRec → SampRec) : (d.setSamp f).convs = d.convs := (rfl)
@[simp] theorem Dev.setSamp_auth (f : SampRec → SampRec) : (d.setSamp f).auth = d.auth := (rfl)
@[simp] theorem Dev.setSamp_flt (f : SampRec → SampRec) : (d.setSamp f).flt = d.flt := (rfl)
@[simp] theorem Dev.setSamp_fbs (f : SampRec → SampRec) : (d.setSamp f).fbs = d.fbs := (rfl)
@[simp] theorem Dev.setSamp_rost (f : SampRec → SampRec) : (d.setSamp f).rost = d.rost := (rfl)
@[simp] theorem Dev.setSamp_samp (f : SampRec → SampRec) : (d.setSamp f).samp = f d.samp := (rfl)
@[simp] theorem Dev.setSamp_eng (f : SampRec → SampRec) : (d.setSamp f).eng = d.eng := (rfl)
@[simp] theorem Dev.setSamp_night (f : SampRec → SampRec) : (d.setSamp f).night = d.night := (rfl)
@[simp] theorem Dev.setSamp_sys (f : SampRec → SampRec) : (d.setSamp f).sys = d.sys := (rfl)
@[simp] theorem Dev.setSamp_arb (f : SampRec → SampRec) : (d.setSamp f).arb = d.arb := (rfl)
@[simp] theorem Dev.setSamp_spi (f : SampRec → SampRec) : (d.setSamp f).spi = d.spi := (rfl)
@[simp] theorem Dev.setSamp_cans (f : SampRec → SampRec) : (d.setSamp f).cans = d.cans := (rfl)
@[simp] theorem Dev.setSamp_uarts (f : SampRec → SampRec) : (d.setSamp f).uarts = d.uarts := (rfl)
@[simp] theorem Dev.setSamp_link (f : SampRec → SampRec) : (d.setSamp f).link = d.link := (rfl)
@[simp] theorem Dev.setSamp_timers (f : SampRec → SampRec) : (d.setSamp f).timers = d.timers := (rfl)
@[simp] theorem Dev.setSamp_turns (f : SampRec → SampRec) : (d.setSamp f).turns = d.turns := (rfl)

/-! ### `Dev.setEng` -/

@[simp] theorem Dev.setEng_now (f : EngRec → EngRec) : (d.setEng f).now = d.now := (rfl)
@[simp] theorem Dev.setEng_free (f : EngRec → EngRec) : (d.setEng f).free = d.free := (rfl)
@[simp] theorem Dev.setEng_mode (f : EngRec → EngRec) : (d.setEng f).mode = d.mode := (rfl)
@[simp] theorem Dev.setEng_regs (f : EngRec → EngRec) : (d.setEng f).regs = d.regs := (rfl)
@[simp] theorem Dev.setEng_events (f : EngRec → EngRec) : (d.setEng f).events = d.events := (rfl)
@[simp] theorem Dev.setEng_wet (f : EngRec → EngRec) : (d.setEng f).wet = d.wet := (rfl)
@[simp] theorem Dev.setEng_coat2 (f : EngRec → EngRec) : (d.setEng f).coat2 = d.coat2 := (rfl)
@[simp] theorem Dev.setEng_cast (f : EngRec → EngRec) : (d.setEng f).cast = d.cast := (rfl)
@[simp] theorem Dev.setEng_mem (f : EngRec → EngRec) : (d.setEng f).mem = d.mem := (rfl)
@[simp] theorem Dev.setEng_pairs (f : EngRec → EngRec) : (d.setEng f).pairs = d.pairs := (rfl)
@[simp] theorem Dev.setEng_lows (f : EngRec → EngRec) : (d.setEng f).lows = d.lows := (rfl)
@[simp] theorem Dev.setEng_newer (f : EngRec → EngRec) : (d.setEng f).newer = d.newer := (rfl)
@[simp] theorem Dev.setEng_resp (f : EngRec → EngRec) : (d.setEng f).resp = d.resp := (rfl)
@[simp] theorem Dev.setEng_afault (f : EngRec → EngRec) : (d.setEng f).afault = d.afault := (rfl)
@[simp] theorem Dev.setEng_commit (f : EngRec → EngRec) : (d.setEng f).commit = d.commit := (rfl)
@[simp] theorem Dev.setEng_legs (f : EngRec → EngRec) : (d.setEng f).legs = d.legs := (rfl)
@[simp] theorem Dev.setEng_plans (f : EngRec → EngRec) : (d.setEng f).plans = d.plans := (rfl)
@[simp] theorem Dev.setEng_dies (f : EngRec → EngRec) : (d.setEng f).dies = d.dies := (rfl)
@[simp] theorem Dev.setEng_gangs (f : EngRec → EngRec) : (d.setEng f).gangs = d.gangs := (rfl)
@[simp] theorem Dev.setEng_frames (f : EngRec → EngRec) : (d.setEng f).frames = d.frames := (rfl)
@[simp] theorem Dev.setEng_axes (f : EngRec → EngRec) : (d.setEng f).axes = d.axes := (rfl)
@[simp] theorem Dev.setEng_convs (f : EngRec → EngRec) : (d.setEng f).convs = d.convs := (rfl)
@[simp] theorem Dev.setEng_auth (f : EngRec → EngRec) : (d.setEng f).auth = d.auth := (rfl)
@[simp] theorem Dev.setEng_flt (f : EngRec → EngRec) : (d.setEng f).flt = d.flt := (rfl)
@[simp] theorem Dev.setEng_fbs (f : EngRec → EngRec) : (d.setEng f).fbs = d.fbs := (rfl)
@[simp] theorem Dev.setEng_rost (f : EngRec → EngRec) : (d.setEng f).rost = d.rost := (rfl)
@[simp] theorem Dev.setEng_samp (f : EngRec → EngRec) : (d.setEng f).samp = d.samp := (rfl)
@[simp] theorem Dev.setEng_eng (f : EngRec → EngRec) : (d.setEng f).eng = f d.eng := (rfl)
@[simp] theorem Dev.setEng_night (f : EngRec → EngRec) : (d.setEng f).night = d.night := (rfl)
@[simp] theorem Dev.setEng_sys (f : EngRec → EngRec) : (d.setEng f).sys = d.sys := (rfl)
@[simp] theorem Dev.setEng_arb (f : EngRec → EngRec) : (d.setEng f).arb = d.arb := (rfl)
@[simp] theorem Dev.setEng_spi (f : EngRec → EngRec) : (d.setEng f).spi = d.spi := (rfl)
@[simp] theorem Dev.setEng_cans (f : EngRec → EngRec) : (d.setEng f).cans = d.cans := (rfl)
@[simp] theorem Dev.setEng_uarts (f : EngRec → EngRec) : (d.setEng f).uarts = d.uarts := (rfl)
@[simp] theorem Dev.setEng_link (f : EngRec → EngRec) : (d.setEng f).link = d.link := (rfl)
@[simp] theorem Dev.setEng_timers (f : EngRec → EngRec) : (d.setEng f).timers = d.timers := (rfl)
@[simp] theorem Dev.setEng_turns (f : EngRec → EngRec) : (d.setEng f).turns = d.turns := (rfl)

/-! ### `Dev.setNight` -/

@[simp] theorem Dev.setNight_now (f : NightRec → NightRec) : (d.setNight f).now = d.now := (rfl)
@[simp] theorem Dev.setNight_free (f : NightRec → NightRec) : (d.setNight f).free = d.free := (rfl)
@[simp] theorem Dev.setNight_mode (f : NightRec → NightRec) : (d.setNight f).mode = d.mode := (rfl)
@[simp] theorem Dev.setNight_regs (f : NightRec → NightRec) : (d.setNight f).regs = d.regs := (rfl)
@[simp] theorem Dev.setNight_events (f : NightRec → NightRec) : (d.setNight f).events = d.events := (rfl)
@[simp] theorem Dev.setNight_wet (f : NightRec → NightRec) : (d.setNight f).wet = d.wet := (rfl)
@[simp] theorem Dev.setNight_coat2 (f : NightRec → NightRec) : (d.setNight f).coat2 = d.coat2 := (rfl)
@[simp] theorem Dev.setNight_cast (f : NightRec → NightRec) : (d.setNight f).cast = d.cast := (rfl)
@[simp] theorem Dev.setNight_mem (f : NightRec → NightRec) : (d.setNight f).mem = d.mem := (rfl)
@[simp] theorem Dev.setNight_pairs (f : NightRec → NightRec) : (d.setNight f).pairs = d.pairs := (rfl)
@[simp] theorem Dev.setNight_lows (f : NightRec → NightRec) : (d.setNight f).lows = d.lows := (rfl)
@[simp] theorem Dev.setNight_newer (f : NightRec → NightRec) : (d.setNight f).newer = d.newer := (rfl)
@[simp] theorem Dev.setNight_resp (f : NightRec → NightRec) : (d.setNight f).resp = d.resp := (rfl)
@[simp] theorem Dev.setNight_afault (f : NightRec → NightRec) : (d.setNight f).afault = d.afault := (rfl)
@[simp] theorem Dev.setNight_commit (f : NightRec → NightRec) : (d.setNight f).commit = d.commit := (rfl)
@[simp] theorem Dev.setNight_legs (f : NightRec → NightRec) : (d.setNight f).legs = d.legs := (rfl)
@[simp] theorem Dev.setNight_plans (f : NightRec → NightRec) : (d.setNight f).plans = d.plans := (rfl)
@[simp] theorem Dev.setNight_dies (f : NightRec → NightRec) : (d.setNight f).dies = d.dies := (rfl)
@[simp] theorem Dev.setNight_gangs (f : NightRec → NightRec) : (d.setNight f).gangs = d.gangs := (rfl)
@[simp] theorem Dev.setNight_frames (f : NightRec → NightRec) : (d.setNight f).frames = d.frames := (rfl)
@[simp] theorem Dev.setNight_axes (f : NightRec → NightRec) : (d.setNight f).axes = d.axes := (rfl)
@[simp] theorem Dev.setNight_convs (f : NightRec → NightRec) : (d.setNight f).convs = d.convs := (rfl)
@[simp] theorem Dev.setNight_auth (f : NightRec → NightRec) : (d.setNight f).auth = d.auth := (rfl)
@[simp] theorem Dev.setNight_flt (f : NightRec → NightRec) : (d.setNight f).flt = d.flt := (rfl)
@[simp] theorem Dev.setNight_fbs (f : NightRec → NightRec) : (d.setNight f).fbs = d.fbs := (rfl)
@[simp] theorem Dev.setNight_rost (f : NightRec → NightRec) : (d.setNight f).rost = d.rost := (rfl)
@[simp] theorem Dev.setNight_samp (f : NightRec → NightRec) : (d.setNight f).samp = d.samp := (rfl)
@[simp] theorem Dev.setNight_eng (f : NightRec → NightRec) : (d.setNight f).eng = d.eng := (rfl)
@[simp] theorem Dev.setNight_night (f : NightRec → NightRec) : (d.setNight f).night = f d.night := (rfl)
@[simp] theorem Dev.setNight_sys (f : NightRec → NightRec) : (d.setNight f).sys = d.sys := (rfl)
@[simp] theorem Dev.setNight_arb (f : NightRec → NightRec) : (d.setNight f).arb = d.arb := (rfl)
@[simp] theorem Dev.setNight_spi (f : NightRec → NightRec) : (d.setNight f).spi = d.spi := (rfl)
@[simp] theorem Dev.setNight_cans (f : NightRec → NightRec) : (d.setNight f).cans = d.cans := (rfl)
@[simp] theorem Dev.setNight_uarts (f : NightRec → NightRec) : (d.setNight f).uarts = d.uarts := (rfl)
@[simp] theorem Dev.setNight_link (f : NightRec → NightRec) : (d.setNight f).link = d.link := (rfl)
@[simp] theorem Dev.setNight_timers (f : NightRec → NightRec) : (d.setNight f).timers = d.timers := (rfl)
@[simp] theorem Dev.setNight_turns (f : NightRec → NightRec) : (d.setNight f).turns = d.turns := (rfl)

/-! ### `Dev.setSys` -/

@[simp] theorem Dev.setSys_now (f : SysRec → SysRec) : (d.setSys f).now = d.now := (rfl)
@[simp] theorem Dev.setSys_free (f : SysRec → SysRec) : (d.setSys f).free = d.free := (rfl)
@[simp] theorem Dev.setSys_mode (f : SysRec → SysRec) : (d.setSys f).mode = d.mode := (rfl)
@[simp] theorem Dev.setSys_regs (f : SysRec → SysRec) : (d.setSys f).regs = d.regs := (rfl)
@[simp] theorem Dev.setSys_events (f : SysRec → SysRec) : (d.setSys f).events = d.events := (rfl)
@[simp] theorem Dev.setSys_wet (f : SysRec → SysRec) : (d.setSys f).wet = d.wet := (rfl)
@[simp] theorem Dev.setSys_coat2 (f : SysRec → SysRec) : (d.setSys f).coat2 = d.coat2 := (rfl)
@[simp] theorem Dev.setSys_cast (f : SysRec → SysRec) : (d.setSys f).cast = d.cast := (rfl)
@[simp] theorem Dev.setSys_mem (f : SysRec → SysRec) : (d.setSys f).mem = d.mem := (rfl)
@[simp] theorem Dev.setSys_pairs (f : SysRec → SysRec) : (d.setSys f).pairs = d.pairs := (rfl)
@[simp] theorem Dev.setSys_lows (f : SysRec → SysRec) : (d.setSys f).lows = d.lows := (rfl)
@[simp] theorem Dev.setSys_newer (f : SysRec → SysRec) : (d.setSys f).newer = d.newer := (rfl)
@[simp] theorem Dev.setSys_resp (f : SysRec → SysRec) : (d.setSys f).resp = d.resp := (rfl)
@[simp] theorem Dev.setSys_afault (f : SysRec → SysRec) : (d.setSys f).afault = d.afault := (rfl)
@[simp] theorem Dev.setSys_commit (f : SysRec → SysRec) : (d.setSys f).commit = d.commit := (rfl)
@[simp] theorem Dev.setSys_legs (f : SysRec → SysRec) : (d.setSys f).legs = d.legs := (rfl)
@[simp] theorem Dev.setSys_plans (f : SysRec → SysRec) : (d.setSys f).plans = d.plans := (rfl)
@[simp] theorem Dev.setSys_dies (f : SysRec → SysRec) : (d.setSys f).dies = d.dies := (rfl)
@[simp] theorem Dev.setSys_gangs (f : SysRec → SysRec) : (d.setSys f).gangs = d.gangs := (rfl)
@[simp] theorem Dev.setSys_frames (f : SysRec → SysRec) : (d.setSys f).frames = d.frames := (rfl)
@[simp] theorem Dev.setSys_axes (f : SysRec → SysRec) : (d.setSys f).axes = d.axes := (rfl)
@[simp] theorem Dev.setSys_convs (f : SysRec → SysRec) : (d.setSys f).convs = d.convs := (rfl)
@[simp] theorem Dev.setSys_auth (f : SysRec → SysRec) : (d.setSys f).auth = d.auth := (rfl)
@[simp] theorem Dev.setSys_flt (f : SysRec → SysRec) : (d.setSys f).flt = d.flt := (rfl)
@[simp] theorem Dev.setSys_fbs (f : SysRec → SysRec) : (d.setSys f).fbs = d.fbs := (rfl)
@[simp] theorem Dev.setSys_rost (f : SysRec → SysRec) : (d.setSys f).rost = d.rost := (rfl)
@[simp] theorem Dev.setSys_samp (f : SysRec → SysRec) : (d.setSys f).samp = d.samp := (rfl)
@[simp] theorem Dev.setSys_eng (f : SysRec → SysRec) : (d.setSys f).eng = d.eng := (rfl)
@[simp] theorem Dev.setSys_night (f : SysRec → SysRec) : (d.setSys f).night = d.night := (rfl)
@[simp] theorem Dev.setSys_sys (f : SysRec → SysRec) : (d.setSys f).sys = f d.sys := (rfl)
@[simp] theorem Dev.setSys_arb (f : SysRec → SysRec) : (d.setSys f).arb = d.arb := (rfl)
@[simp] theorem Dev.setSys_spi (f : SysRec → SysRec) : (d.setSys f).spi = d.spi := (rfl)
@[simp] theorem Dev.setSys_cans (f : SysRec → SysRec) : (d.setSys f).cans = d.cans := (rfl)
@[simp] theorem Dev.setSys_uarts (f : SysRec → SysRec) : (d.setSys f).uarts = d.uarts := (rfl)
@[simp] theorem Dev.setSys_link (f : SysRec → SysRec) : (d.setSys f).link = d.link := (rfl)
@[simp] theorem Dev.setSys_timers (f : SysRec → SysRec) : (d.setSys f).timers = d.timers := (rfl)
@[simp] theorem Dev.setSys_turns (f : SysRec → SysRec) : (d.setSys f).turns = d.turns := (rfl)

/-! ### `Dev.setLink` -/

@[simp] theorem Dev.setLink_now (f : LinkRec → LinkRec) : (d.setLink f).now = d.now := (rfl)
@[simp] theorem Dev.setLink_free (f : LinkRec → LinkRec) : (d.setLink f).free = d.free := (rfl)
@[simp] theorem Dev.setLink_mode (f : LinkRec → LinkRec) : (d.setLink f).mode = d.mode := (rfl)
@[simp] theorem Dev.setLink_regs (f : LinkRec → LinkRec) : (d.setLink f).regs = d.regs := (rfl)
@[simp] theorem Dev.setLink_events (f : LinkRec → LinkRec) : (d.setLink f).events = d.events := (rfl)
@[simp] theorem Dev.setLink_wet (f : LinkRec → LinkRec) : (d.setLink f).wet = d.wet := (rfl)
@[simp] theorem Dev.setLink_coat2 (f : LinkRec → LinkRec) : (d.setLink f).coat2 = d.coat2 := (rfl)
@[simp] theorem Dev.setLink_cast (f : LinkRec → LinkRec) : (d.setLink f).cast = d.cast := (rfl)
@[simp] theorem Dev.setLink_mem (f : LinkRec → LinkRec) : (d.setLink f).mem = d.mem := (rfl)
@[simp] theorem Dev.setLink_pairs (f : LinkRec → LinkRec) : (d.setLink f).pairs = d.pairs := (rfl)
@[simp] theorem Dev.setLink_lows (f : LinkRec → LinkRec) : (d.setLink f).lows = d.lows := (rfl)
@[simp] theorem Dev.setLink_newer (f : LinkRec → LinkRec) : (d.setLink f).newer = d.newer := (rfl)
@[simp] theorem Dev.setLink_resp (f : LinkRec → LinkRec) : (d.setLink f).resp = d.resp := (rfl)
@[simp] theorem Dev.setLink_afault (f : LinkRec → LinkRec) : (d.setLink f).afault = d.afault := (rfl)
@[simp] theorem Dev.setLink_commit (f : LinkRec → LinkRec) : (d.setLink f).commit = d.commit := (rfl)
@[simp] theorem Dev.setLink_legs (f : LinkRec → LinkRec) : (d.setLink f).legs = d.legs := (rfl)
@[simp] theorem Dev.setLink_plans (f : LinkRec → LinkRec) : (d.setLink f).plans = d.plans := (rfl)
@[simp] theorem Dev.setLink_dies (f : LinkRec → LinkRec) : (d.setLink f).dies = d.dies := (rfl)
@[simp] theorem Dev.setLink_gangs (f : LinkRec → LinkRec) : (d.setLink f).gangs = d.gangs := (rfl)
@[simp] theorem Dev.setLink_frames (f : LinkRec → LinkRec) : (d.setLink f).frames = d.frames := (rfl)
@[simp] theorem Dev.setLink_axes (f : LinkRec → LinkRec) : (d.setLink f).axes = d.axes := (rfl)
@[simp] theorem Dev.setLink_convs (f : LinkRec → LinkRec) : (d.setLink f).convs = d.convs := (rfl)
@[simp] theorem Dev.setLink_auth (f : LinkRec → LinkRec) : (d.setLink f).auth = d.auth := (rfl)
@[simp] theorem Dev.setLink_flt (f : LinkRec → LinkRec) : (d.setLink f).flt = d.flt := (rfl)
@[simp] theorem Dev.setLink_fbs (f : LinkRec → LinkRec) : (d.setLink f).fbs = d.fbs := (rfl)
@[simp] theorem Dev.setLink_rost (f : LinkRec → LinkRec) : (d.setLink f).rost = d.rost := (rfl)
@[simp] theorem Dev.setLink_samp (f : LinkRec → LinkRec) : (d.setLink f).samp = d.samp := (rfl)
@[simp] theorem Dev.setLink_eng (f : LinkRec → LinkRec) : (d.setLink f).eng = d.eng := (rfl)
@[simp] theorem Dev.setLink_night (f : LinkRec → LinkRec) : (d.setLink f).night = d.night := (rfl)
@[simp] theorem Dev.setLink_sys (f : LinkRec → LinkRec) : (d.setLink f).sys = d.sys := (rfl)
@[simp] theorem Dev.setLink_arb (f : LinkRec → LinkRec) : (d.setLink f).arb = d.arb := (rfl)
@[simp] theorem Dev.setLink_spi (f : LinkRec → LinkRec) : (d.setLink f).spi = d.spi := (rfl)
@[simp] theorem Dev.setLink_cans (f : LinkRec → LinkRec) : (d.setLink f).cans = d.cans := (rfl)
@[simp] theorem Dev.setLink_uarts (f : LinkRec → LinkRec) : (d.setLink f).uarts = d.uarts := (rfl)
@[simp] theorem Dev.setLink_link (f : LinkRec → LinkRec) : (d.setLink f).link = f d.link := (rfl)
@[simp] theorem Dev.setLink_timers (f : LinkRec → LinkRec) : (d.setLink f).timers = d.timers := (rfl)
@[simp] theorem Dev.setLink_turns (f : LinkRec → LinkRec) : (d.setLink f).turns = d.turns := (rfl)

/-! ### `Dev.setAuth` -/

@[simp] theorem Dev.setAuth_now (r : AuthRec) : (d.setAuth r).now = d.now := (rfl)
@[simp] theorem Dev.setAuth_free (r : AuthRec) : (d.setAuth r).free = d.free := (rfl)
@[simp] theorem Dev.setAuth_mode (r : AuthRec) : (d.setAuth r).mode = d.mode := (rfl)
@[simp] theorem Dev.setAuth_regs (r : AuthRec) : (d.setAuth r).regs = d.regs := (rfl)
@[simp] theorem Dev.setAuth_events (r : AuthRec) : (d.setAuth r).events = d.events := (rfl)
@[simp] theorem Dev.setAuth_wet (r : AuthRec) : (d.setAuth r).wet = d.wet := (rfl)
@[simp] theorem Dev.setAuth_coat2 (r : AuthRec) : (d.setAuth r).coat2 = d.coat2 := (rfl)
@[simp] theorem Dev.setAuth_cast (r : AuthRec) : (d.setAuth r).cast = d.cast := (rfl)
@[simp] theorem Dev.setAuth_mem (r : AuthRec) : (d.setAuth r).mem = d.mem := (rfl)
@[simp] theorem Dev.setAuth_pairs (r : AuthRec) : (d.setAuth r).pairs = d.pairs := (rfl)
@[simp] theorem Dev.setAuth_lows (r : AuthRec) : (d.setAuth r).lows = d.lows := (rfl)
@[simp] theorem Dev.setAuth_newer (r : AuthRec) : (d.setAuth r).newer = d.newer := (rfl)
@[simp] theorem Dev.setAuth_resp (r : AuthRec) : (d.setAuth r).resp = d.resp := (rfl)
@[simp] theorem Dev.setAuth_afault (r : AuthRec) : (d.setAuth r).afault = d.afault := (rfl)
@[simp] theorem Dev.setAuth_commit (r : AuthRec) : (d.setAuth r).commit = d.commit := (rfl)
@[simp] theorem Dev.setAuth_legs (r : AuthRec) : (d.setAuth r).legs = d.legs := (rfl)
@[simp] theorem Dev.setAuth_plans (r : AuthRec) : (d.setAuth r).plans = d.plans := (rfl)
@[simp] theorem Dev.setAuth_dies (r : AuthRec) : (d.setAuth r).dies = d.dies := (rfl)
@[simp] theorem Dev.setAuth_gangs (r : AuthRec) : (d.setAuth r).gangs = d.gangs := (rfl)
@[simp] theorem Dev.setAuth_frames (r : AuthRec) : (d.setAuth r).frames = d.frames := (rfl)
@[simp] theorem Dev.setAuth_axes (r : AuthRec) : (d.setAuth r).axes = d.axes := (rfl)
@[simp] theorem Dev.setAuth_convs (r : AuthRec) : (d.setAuth r).convs = d.convs := (rfl)
@[simp] theorem Dev.setAuth_auth (r : AuthRec) : (d.setAuth r).auth = r := (rfl)
@[simp] theorem Dev.setAuth_flt (r : AuthRec) : (d.setAuth r).flt = d.flt := (rfl)
@[simp] theorem Dev.setAuth_fbs (r : AuthRec) : (d.setAuth r).fbs = d.fbs := (rfl)
@[simp] theorem Dev.setAuth_rost (r : AuthRec) : (d.setAuth r).rost = d.rost := (rfl)
@[simp] theorem Dev.setAuth_samp (r : AuthRec) : (d.setAuth r).samp = d.samp := (rfl)
@[simp] theorem Dev.setAuth_eng (r : AuthRec) : (d.setAuth r).eng = d.eng := (rfl)
@[simp] theorem Dev.setAuth_night (r : AuthRec) : (d.setAuth r).night = d.night := (rfl)
@[simp] theorem Dev.setAuth_sys (r : AuthRec) : (d.setAuth r).sys = d.sys := (rfl)
@[simp] theorem Dev.setAuth_arb (r : AuthRec) : (d.setAuth r).arb = d.arb := (rfl)
@[simp] theorem Dev.setAuth_spi (r : AuthRec) : (d.setAuth r).spi = d.spi := (rfl)
@[simp] theorem Dev.setAuth_cans (r : AuthRec) : (d.setAuth r).cans = d.cans := (rfl)
@[simp] theorem Dev.setAuth_uarts (r : AuthRec) : (d.setAuth r).uarts = d.uarts := (rfl)
@[simp] theorem Dev.setAuth_link (r : AuthRec) : (d.setAuth r).link = d.link := (rfl)
@[simp] theorem Dev.setAuth_timers (r : AuthRec) : (d.setAuth r).timers = d.timers := (rfl)
@[simp] theorem Dev.setAuth_turns (r : AuthRec) : (d.setAuth r).turns = d.turns := (rfl)

/-! ### `Dev.send` -/

@[simp] theorem Dev.send_now (m : FaultMsg) : (d.send m).now = d.now := (rfl)
@[simp] theorem Dev.send_free (m : FaultMsg) : (d.send m).free = d.free := (rfl)
@[simp] theorem Dev.send_mode (m : FaultMsg) : (d.send m).mode = d.mode := (rfl)
@[simp] theorem Dev.send_regs (m : FaultMsg) : (d.send m).regs = d.regs := (rfl)
@[simp] theorem Dev.send_events (m : FaultMsg) : (d.send m).events = d.events := (rfl)
@[simp] theorem Dev.send_wet (m : FaultMsg) : (d.send m).wet = d.wet := (rfl)
@[simp] theorem Dev.send_coat2 (m : FaultMsg) : (d.send m).coat2 = d.coat2 := (rfl)
@[simp] theorem Dev.send_cast (m : FaultMsg) : (d.send m).cast = d.cast := (rfl)
@[simp] theorem Dev.send_mem (m : FaultMsg) : (d.send m).mem = d.mem := (rfl)
@[simp] theorem Dev.send_pairs (m : FaultMsg) : (d.send m).pairs = d.pairs := (rfl)
@[simp] theorem Dev.send_lows (m : FaultMsg) : (d.send m).lows = d.lows := (rfl)
@[simp] theorem Dev.send_newer (m : FaultMsg) : (d.send m).newer = d.newer := (rfl)
@[simp] theorem Dev.send_resp (m : FaultMsg) : (d.send m).resp = d.resp := (rfl)
@[simp] theorem Dev.send_afault (m : FaultMsg) : (d.send m).afault = d.afault := (rfl)
@[simp] theorem Dev.send_commit (m : FaultMsg) : (d.send m).commit = d.commit := (rfl)
@[simp] theorem Dev.send_legs (m : FaultMsg) : (d.send m).legs = d.legs := (rfl)
@[simp] theorem Dev.send_plans (m : FaultMsg) : (d.send m).plans = d.plans := (rfl)
@[simp] theorem Dev.send_dies (m : FaultMsg) : (d.send m).dies = d.dies := (rfl)
@[simp] theorem Dev.send_gangs (m : FaultMsg) : (d.send m).gangs = d.gangs := (rfl)
@[simp] theorem Dev.send_frames (m : FaultMsg) : (d.send m).frames = d.frames := (rfl)
@[simp] theorem Dev.send_axes (m : FaultMsg) : (d.send m).axes = d.axes := (rfl)
@[simp] theorem Dev.send_convs (m : FaultMsg) : (d.send m).convs = d.convs := (rfl)
@[simp] theorem Dev.send_auth (m : FaultMsg) : (d.send m).auth = d.auth := (rfl)
@[simp] theorem Dev.send_flt (m : FaultMsg) : (d.send m).flt = { d.flt with inflight := d.flt.inflight ++ [m] } := (rfl)
@[simp] theorem Dev.send_fbs (m : FaultMsg) : (d.send m).fbs = d.fbs := (rfl)
@[simp] theorem Dev.send_rost (m : FaultMsg) : (d.send m).rost = d.rost := (rfl)
@[simp] theorem Dev.send_samp (m : FaultMsg) : (d.send m).samp = d.samp := (rfl)
@[simp] theorem Dev.send_eng (m : FaultMsg) : (d.send m).eng = d.eng := (rfl)
@[simp] theorem Dev.send_night (m : FaultMsg) : (d.send m).night = d.night := (rfl)
@[simp] theorem Dev.send_sys (m : FaultMsg) : (d.send m).sys = d.sys := (rfl)
@[simp] theorem Dev.send_arb (m : FaultMsg) : (d.send m).arb = d.arb := (rfl)
@[simp] theorem Dev.send_spi (m : FaultMsg) : (d.send m).spi = d.spi := (rfl)
@[simp] theorem Dev.send_cans (m : FaultMsg) : (d.send m).cans = d.cans := (rfl)
@[simp] theorem Dev.send_uarts (m : FaultMsg) : (d.send m).uarts = d.uarts := (rfl)
@[simp] theorem Dev.send_link (m : FaultMsg) : (d.send m).link = d.link := (rfl)
@[simp] theorem Dev.send_timers (m : FaultMsg) : (d.send m).timers = d.timers := (rfl)
@[simp] theorem Dev.send_turns (m : FaultMsg) : (d.send m).turns = d.turns := (rfl)

/-! ### `Dev.setFld` -/

@[simp] theorem Dev.setFld_now (p : Nat) (f : Fld) (v : Nat) : (d.setFld p f v).now = d.now := (rfl)
@[simp] theorem Dev.setFld_free (p : Nat) (f : Fld) (v : Nat) : (d.setFld p f v).free = d.free := (rfl)
@[simp] theorem Dev.setFld_mode (p : Nat) (f : Fld) (v : Nat) : (d.setFld p f v).mode = d.mode := (rfl)
@[simp] theorem Dev.setFld_events (p : Nat) (f : Fld) (v : Nat) : (d.setFld p f v).events = d.events := (rfl)
@[simp] theorem Dev.setFld_wet (p : Nat) (f : Fld) (v : Nat) : (d.setFld p f v).wet = d.wet := (rfl)
@[simp] theorem Dev.setFld_coat2 (p : Nat) (f : Fld) (v : Nat) : (d.setFld p f v).coat2 = d.coat2 := (rfl)
@[simp] theorem Dev.setFld_cast (p : Nat) (f : Fld) (v : Nat) : (d.setFld p f v).cast = d.cast := (rfl)
@[simp] theorem Dev.setFld_mem (p : Nat) (f : Fld) (v : Nat) : (d.setFld p f v).mem = d.mem := (rfl)
@[simp] theorem Dev.setFld_pairs (p : Nat) (f : Fld) (v : Nat) : (d.setFld p f v).pairs = d.pairs := (rfl)
@[simp] theorem Dev.setFld_lows (p : Nat) (f : Fld) (v : Nat) : (d.setFld p f v).lows = d.lows := (rfl)
@[simp] theorem Dev.setFld_newer (p : Nat) (f : Fld) (v : Nat) : (d.setFld p f v).newer = d.newer := (rfl)
@[simp] theorem Dev.setFld_resp (p : Nat) (f : Fld) (v : Nat) : (d.setFld p f v).resp = d.resp := (rfl)
@[simp] theorem Dev.setFld_afault (p : Nat) (f : Fld) (v : Nat) : (d.setFld p f v).afault = d.afault := (rfl)
@[simp] theorem Dev.setFld_commit (p : Nat) (f : Fld) (v : Nat) : (d.setFld p f v).commit = d.commit := (rfl)
@[simp] theorem Dev.setFld_legs (p : Nat) (f : Fld) (v : Nat) : (d.setFld p f v).legs = d.legs := (rfl)
@[simp] theorem Dev.setFld_plans (p : Nat) (f : Fld) (v : Nat) : (d.setFld p f v).plans = d.plans := (rfl)
@[simp] theorem Dev.setFld_dies (p : Nat) (f : Fld) (v : Nat) : (d.setFld p f v).dies = d.dies := (rfl)
@[simp] theorem Dev.setFld_gangs (p : Nat) (f : Fld) (v : Nat) : (d.setFld p f v).gangs = d.gangs := (rfl)
@[simp] theorem Dev.setFld_frames (p : Nat) (f : Fld) (v : Nat) : (d.setFld p f v).frames = d.frames := (rfl)
@[simp] theorem Dev.setFld_axes (p : Nat) (f : Fld) (v : Nat) : (d.setFld p f v).axes = d.axes := (rfl)
@[simp] theorem Dev.setFld_convs (p : Nat) (f : Fld) (v : Nat) : (d.setFld p f v).convs = d.convs := (rfl)
@[simp] theorem Dev.setFld_auth (p : Nat) (f : Fld) (v : Nat) : (d.setFld p f v).auth = d.auth := (rfl)
@[simp] theorem Dev.setFld_flt (p : Nat) (f : Fld) (v : Nat) : (d.setFld p f v).flt = d.flt := (rfl)
@[simp] theorem Dev.setFld_fbs (p : Nat) (f : Fld) (v : Nat) : (d.setFld p f v).fbs = d.fbs := (rfl)
@[simp] theorem Dev.setFld_rost (p : Nat) (f : Fld) (v : Nat) : (d.setFld p f v).rost = d.rost := (rfl)
@[simp] theorem Dev.setFld_samp (p : Nat) (f : Fld) (v : Nat) : (d.setFld p f v).samp = d.samp := (rfl)
@[simp] theorem Dev.setFld_eng (p : Nat) (f : Fld) (v : Nat) : (d.setFld p f v).eng = d.eng := (rfl)
@[simp] theorem Dev.setFld_night (p : Nat) (f : Fld) (v : Nat) : (d.setFld p f v).night = d.night := (rfl)
@[simp] theorem Dev.setFld_sys (p : Nat) (f : Fld) (v : Nat) : (d.setFld p f v).sys = d.sys := (rfl)
@[simp] theorem Dev.setFld_arb (p : Nat) (f : Fld) (v : Nat) : (d.setFld p f v).arb = d.arb := (rfl)
@[simp] theorem Dev.setFld_spi (p : Nat) (f : Fld) (v : Nat) : (d.setFld p f v).spi = d.spi := (rfl)
@[simp] theorem Dev.setFld_cans (p : Nat) (f : Fld) (v : Nat) : (d.setFld p f v).cans = d.cans := (rfl)
@[simp] theorem Dev.setFld_uarts (p : Nat) (f : Fld) (v : Nat) : (d.setFld p f v).uarts = d.uarts := (rfl)
@[simp] theorem Dev.setFld_link (p : Nat) (f : Fld) (v : Nat) : (d.setFld p f v).link = d.link := (rfl)
@[simp] theorem Dev.setFld_timers (p : Nat) (f : Fld) (v : Nat) : (d.setFld p f v).timers = d.timers := (rfl)
@[simp] theorem Dev.setFld_turns (p : Nat) (f : Fld) (v : Nat) : (d.setFld p f v).turns = d.turns := (rfl)

/-! ### `Dev.lower` -/

@[simp] theorem Dev.lower_now (p : Nat) (f : Fld) : (d.lower p f).now = d.now := (rfl)
@[simp] theorem Dev.lower_free (p : Nat) (f : Fld) : (d.lower p f).free = d.free := (rfl)
@[simp] theorem Dev.lower_mode (p : Nat) (f : Fld) : (d.lower p f).mode = d.mode := (rfl)
@[simp] theorem Dev.lower_events (p : Nat) (f : Fld) : (d.lower p f).events = d.events := (rfl)
@[simp] theorem Dev.lower_wet (p : Nat) (f : Fld) : (d.lower p f).wet = d.wet := (rfl)
@[simp] theorem Dev.lower_coat2 (p : Nat) (f : Fld) : (d.lower p f).coat2 = d.coat2 := (rfl)
@[simp] theorem Dev.lower_cast (p : Nat) (f : Fld) : (d.lower p f).cast = d.cast := (rfl)
@[simp] theorem Dev.lower_mem (p : Nat) (f : Fld) : (d.lower p f).mem = d.mem := (rfl)
@[simp] theorem Dev.lower_pairs (p : Nat) (f : Fld) : (d.lower p f).pairs = d.pairs := (rfl)
@[simp] theorem Dev.lower_lows (p : Nat) (f : Fld) : (d.lower p f).lows = d.lows := (rfl)
@[simp] theorem Dev.lower_newer (p : Nat) (f : Fld) : (d.lower p f).newer = d.newer := (rfl)
@[simp] theorem Dev.lower_resp (p : Nat) (f : Fld) : (d.lower p f).resp = d.resp := (rfl)
@[simp] theorem Dev.lower_afault (p : Nat) (f : Fld) : (d.lower p f).afault = d.afault := (rfl)
@[simp] theorem Dev.lower_commit (p : Nat) (f : Fld) : (d.lower p f).commit = d.commit := (rfl)
@[simp] theorem Dev.lower_legs (p : Nat) (f : Fld) : (d.lower p f).legs = d.legs := (rfl)
@[simp] theorem Dev.lower_plans (p : Nat) (f : Fld) : (d.lower p f).plans = d.plans := (rfl)
@[simp] theorem Dev.lower_dies (p : Nat) (f : Fld) : (d.lower p f).dies = d.dies := (rfl)
@[simp] theorem Dev.lower_gangs (p : Nat) (f : Fld) : (d.lower p f).gangs = d.gangs := (rfl)
@[simp] theorem Dev.lower_frames (p : Nat) (f : Fld) : (d.lower p f).frames = d.frames := (rfl)
@[simp] theorem Dev.lower_axes (p : Nat) (f : Fld) : (d.lower p f).axes = d.axes := (rfl)
@[simp] theorem Dev.lower_convs (p : Nat) (f : Fld) : (d.lower p f).convs = d.convs := (rfl)
@[simp] theorem Dev.lower_auth (p : Nat) (f : Fld) : (d.lower p f).auth = d.auth := (rfl)
@[simp] theorem Dev.lower_flt (p : Nat) (f : Fld) : (d.lower p f).flt = d.flt := (rfl)
@[simp] theorem Dev.lower_fbs (p : Nat) (f : Fld) : (d.lower p f).fbs = d.fbs := (rfl)
@[simp] theorem Dev.lower_rost (p : Nat) (f : Fld) : (d.lower p f).rost = d.rost := (rfl)
@[simp] theorem Dev.lower_samp (p : Nat) (f : Fld) : (d.lower p f).samp = d.samp := (rfl)
@[simp] theorem Dev.lower_eng (p : Nat) (f : Fld) : (d.lower p f).eng = d.eng := (rfl)
@[simp] theorem Dev.lower_night (p : Nat) (f : Fld) : (d.lower p f).night = d.night := (rfl)
@[simp] theorem Dev.lower_sys (p : Nat) (f : Fld) : (d.lower p f).sys = d.sys := (rfl)
@[simp] theorem Dev.lower_arb (p : Nat) (f : Fld) : (d.lower p f).arb = d.arb := (rfl)
@[simp] theorem Dev.lower_spi (p : Nat) (f : Fld) : (d.lower p f).spi = d.spi := (rfl)
@[simp] theorem Dev.lower_cans (p : Nat) (f : Fld) : (d.lower p f).cans = d.cans := (rfl)
@[simp] theorem Dev.lower_uarts (p : Nat) (f : Fld) : (d.lower p f).uarts = d.uarts := (rfl)
@[simp] theorem Dev.lower_link (p : Nat) (f : Fld) : (d.lower p f).link = d.link := (rfl)
@[simp] theorem Dev.lower_timers (p : Nat) (f : Fld) : (d.lower p f).timers = d.timers := (rfl)
@[simp] theorem Dev.lower_turns (p : Nat) (f : Fld) : (d.lower p f).turns = d.turns := (rfl)

/-! ### `Dev.wrapBump` -/

@[simp] theorem Dev.wrapBump_now (p : Nat) (f : Fld) : (d.wrapBump p f).now = d.now := (rfl)
@[simp] theorem Dev.wrapBump_free (p : Nat) (f : Fld) : (d.wrapBump p f).free = d.free := (rfl)
@[simp] theorem Dev.wrapBump_mode (p : Nat) (f : Fld) : (d.wrapBump p f).mode = d.mode := (rfl)
@[simp] theorem Dev.wrapBump_events (p : Nat) (f : Fld) : (d.wrapBump p f).events = d.events := (rfl)
@[simp] theorem Dev.wrapBump_wet (p : Nat) (f : Fld) : (d.wrapBump p f).wet = d.wet := (rfl)
@[simp] theorem Dev.wrapBump_coat2 (p : Nat) (f : Fld) : (d.wrapBump p f).coat2 = d.coat2 := (rfl)
@[simp] theorem Dev.wrapBump_cast (p : Nat) (f : Fld) : (d.wrapBump p f).cast = d.cast := (rfl)
@[simp] theorem Dev.wrapBump_mem (p : Nat) (f : Fld) : (d.wrapBump p f).mem = d.mem := (rfl)
@[simp] theorem Dev.wrapBump_pairs (p : Nat) (f : Fld) : (d.wrapBump p f).pairs = d.pairs := (rfl)
@[simp] theorem Dev.wrapBump_lows (p : Nat) (f : Fld) : (d.wrapBump p f).lows = d.lows := (rfl)
@[simp] theorem Dev.wrapBump_newer (p : Nat) (f : Fld) : (d.wrapBump p f).newer = d.newer := (rfl)
@[simp] theorem Dev.wrapBump_resp (p : Nat) (f : Fld) : (d.wrapBump p f).resp = d.resp := (rfl)
@[simp] theorem Dev.wrapBump_afault (p : Nat) (f : Fld) : (d.wrapBump p f).afault = d.afault := (rfl)
@[simp] theorem Dev.wrapBump_commit (p : Nat) (f : Fld) : (d.wrapBump p f).commit = d.commit := (rfl)
@[simp] theorem Dev.wrapBump_legs (p : Nat) (f : Fld) : (d.wrapBump p f).legs = d.legs := (rfl)
@[simp] theorem Dev.wrapBump_plans (p : Nat) (f : Fld) : (d.wrapBump p f).plans = d.plans := (rfl)
@[simp] theorem Dev.wrapBump_dies (p : Nat) (f : Fld) : (d.wrapBump p f).dies = d.dies := (rfl)
@[simp] theorem Dev.wrapBump_gangs (p : Nat) (f : Fld) : (d.wrapBump p f).gangs = d.gangs := (rfl)
@[simp] theorem Dev.wrapBump_frames (p : Nat) (f : Fld) : (d.wrapBump p f).frames = d.frames := (rfl)
@[simp] theorem Dev.wrapBump_axes (p : Nat) (f : Fld) : (d.wrapBump p f).axes = d.axes := (rfl)
@[simp] theorem Dev.wrapBump_convs (p : Nat) (f : Fld) : (d.wrapBump p f).convs = d.convs := (rfl)
@[simp] theorem Dev.wrapBump_auth (p : Nat) (f : Fld) : (d.wrapBump p f).auth = d.auth := (rfl)
@[simp] theorem Dev.wrapBump_flt (p : Nat) (f : Fld) : (d.wrapBump p f).flt = d.flt := (rfl)
@[simp] theorem Dev.wrapBump_fbs (p : Nat) (f : Fld) : (d.wrapBump p f).fbs = d.fbs := (rfl)
@[simp] theorem Dev.wrapBump_rost (p : Nat) (f : Fld) : (d.wrapBump p f).rost = d.rost := (rfl)
@[simp] theorem Dev.wrapBump_samp (p : Nat) (f : Fld) : (d.wrapBump p f).samp = d.samp := (rfl)
@[simp] theorem Dev.wrapBump_eng (p : Nat) (f : Fld) : (d.wrapBump p f).eng = d.eng := (rfl)
@[simp] theorem Dev.wrapBump_night (p : Nat) (f : Fld) : (d.wrapBump p f).night = d.night := (rfl)
@[simp] theorem Dev.wrapBump_sys (p : Nat) (f : Fld) : (d.wrapBump p f).sys = d.sys := (rfl)
@[simp] theorem Dev.wrapBump_arb (p : Nat) (f : Fld) : (d.wrapBump p f).arb = d.arb := (rfl)
@[simp] theorem Dev.wrapBump_spi (p : Nat) (f : Fld) : (d.wrapBump p f).spi = d.spi := (rfl)
@[simp] theorem Dev.wrapBump_cans (p : Nat) (f : Fld) : (d.wrapBump p f).cans = d.cans := (rfl)
@[simp] theorem Dev.wrapBump_uarts (p : Nat) (f : Fld) : (d.wrapBump p f).uarts = d.uarts := (rfl)
@[simp] theorem Dev.wrapBump_link (p : Nat) (f : Fld) : (d.wrapBump p f).link = d.link := (rfl)
@[simp] theorem Dev.wrapBump_timers (p : Nat) (f : Fld) : (d.wrapBump p f).timers = d.timers := (rfl)
@[simp] theorem Dev.wrapBump_turns (p : Nat) (f : Fld) : (d.wrapBump p f).turns = d.turns := (rfl)

/-! ### `Dev.wipe` -/

@[simp] theorem Dev.wipe_now (a : Nat) (w : Word) : (d.wipe a w).now = d.now := (rfl)
@[simp] theorem Dev.wipe_free (a : Nat) (w : Word) : (d.wipe a w).free = d.free := (rfl)
@[simp] theorem Dev.wipe_mode (a : Nat) (w : Word) : (d.wipe a w).mode = d.mode := (rfl)
@[simp] theorem Dev.wipe_events (a : Nat) (w : Word) : (d.wipe a w).events = d.events := (rfl)
@[simp] theorem Dev.wipe_wet (a : Nat) (w : Word) : (d.wipe a w).wet = d.wet := (rfl)
@[simp] theorem Dev.wipe_coat2 (a : Nat) (w : Word) : (d.wipe a w).coat2 = d.coat2 := (rfl)
@[simp] theorem Dev.wipe_cast (a : Nat) (w : Word) : (d.wipe a w).cast = d.cast := (rfl)
@[simp] theorem Dev.wipe_mem (a : Nat) (w : Word) : (d.wipe a w).mem = d.mem := (rfl)
@[simp] theorem Dev.wipe_pairs (a : Nat) (w : Word) : (d.wipe a w).pairs = d.pairs := (rfl)
@[simp] theorem Dev.wipe_lows (a : Nat) (w : Word) : (d.wipe a w).lows = d.lows := (rfl)
@[simp] theorem Dev.wipe_newer (a : Nat) (w : Word) : (d.wipe a w).newer = d.newer := (rfl)
@[simp] theorem Dev.wipe_resp (a : Nat) (w : Word) : (d.wipe a w).resp = d.resp := (rfl)
@[simp] theorem Dev.wipe_afault (a : Nat) (w : Word) : (d.wipe a w).afault = d.afault := (rfl)
@[simp] theorem Dev.wipe_commit (a : Nat) (w : Word) : (d.wipe a w).commit = d.commit := (rfl)
@[simp] theorem Dev.wipe_legs (a : Nat) (w : Word) : (d.wipe a w).legs = d.legs := (rfl)
@[simp] theorem Dev.wipe_plans (a : Nat) (w : Word) : (d.wipe a w).plans = d.plans := (rfl)
@[simp] theorem Dev.wipe_dies (a : Nat) (w : Word) : (d.wipe a w).dies = d.dies := (rfl)
@[simp] theorem Dev.wipe_gangs (a : Nat) (w : Word) : (d.wipe a w).gangs = d.gangs := (rfl)
@[simp] theorem Dev.wipe_frames (a : Nat) (w : Word) : (d.wipe a w).frames = d.frames := (rfl)
@[simp] theorem Dev.wipe_axes (a : Nat) (w : Word) : (d.wipe a w).axes = d.axes := (rfl)
@[simp] theorem Dev.wipe_convs (a : Nat) (w : Word) : (d.wipe a w).convs = d.convs := (rfl)
@[simp] theorem Dev.wipe_auth (a : Nat) (w : Word) : (d.wipe a w).auth = d.auth := (rfl)
@[simp] theorem Dev.wipe_flt (a : Nat) (w : Word) : (d.wipe a w).flt = d.flt := (rfl)
@[simp] theorem Dev.wipe_fbs (a : Nat) (w : Word) : (d.wipe a w).fbs = d.fbs := (rfl)
@[simp] theorem Dev.wipe_rost (a : Nat) (w : Word) : (d.wipe a w).rost = d.rost := (rfl)
@[simp] theorem Dev.wipe_samp (a : Nat) (w : Word) : (d.wipe a w).samp = d.samp := (rfl)
@[simp] theorem Dev.wipe_eng (a : Nat) (w : Word) : (d.wipe a w).eng = d.eng := (rfl)
@[simp] theorem Dev.wipe_night (a : Nat) (w : Word) : (d.wipe a w).night = d.night := (rfl)
@[simp] theorem Dev.wipe_sys (a : Nat) (w : Word) : (d.wipe a w).sys = d.sys := (rfl)
@[simp] theorem Dev.wipe_arb (a : Nat) (w : Word) : (d.wipe a w).arb = d.arb := (rfl)
@[simp] theorem Dev.wipe_spi (a : Nat) (w : Word) : (d.wipe a w).spi = d.spi := (rfl)
@[simp] theorem Dev.wipe_cans (a : Nat) (w : Word) : (d.wipe a w).cans = d.cans := (rfl)
@[simp] theorem Dev.wipe_uarts (a : Nat) (w : Word) : (d.wipe a w).uarts = d.uarts := (rfl)
@[simp] theorem Dev.wipe_link (a : Nat) (w : Word) : (d.wipe a w).link = d.link := (rfl)
@[simp] theorem Dev.wipe_timers (a : Nat) (w : Word) : (d.wipe a w).timers = d.timers := (rfl)
@[simp] theorem Dev.wipe_turns (a : Nat) (w : Word) : (d.wipe a w).turns = d.turns := (rfl)

/-! ### `Dev.event` -/

@[simp] theorem Dev.event_now (a : Nat) (f : Word → Word) : (d.event a f).now = d.now := (rfl)
@[simp] theorem Dev.event_free (a : Nat) (f : Word → Word) : (d.event a f).free = d.free := (rfl)
@[simp] theorem Dev.event_mode (a : Nat) (f : Word → Word) : (d.event a f).mode = d.mode := (rfl)
@[simp] theorem Dev.event_wet (a : Nat) (f : Word → Word) : (d.event a f).wet = d.wet := (rfl)
@[simp] theorem Dev.event_coat2 (a : Nat) (f : Word → Word) : (d.event a f).coat2 = d.coat2 := (rfl)
@[simp] theorem Dev.event_cast (a : Nat) (f : Word → Word) : (d.event a f).cast = d.cast := (rfl)
@[simp] theorem Dev.event_mem (a : Nat) (f : Word → Word) : (d.event a f).mem = d.mem := (rfl)
@[simp] theorem Dev.event_pairs (a : Nat) (f : Word → Word) : (d.event a f).pairs = d.pairs := (rfl)
@[simp] theorem Dev.event_lows (a : Nat) (f : Word → Word) : (d.event a f).lows = d.lows := (rfl)
@[simp] theorem Dev.event_newer (a : Nat) (f : Word → Word) : (d.event a f).newer = d.newer := (rfl)
@[simp] theorem Dev.event_resp (a : Nat) (f : Word → Word) : (d.event a f).resp = d.resp := (rfl)
@[simp] theorem Dev.event_afault (a : Nat) (f : Word → Word) : (d.event a f).afault = d.afault := (rfl)
@[simp] theorem Dev.event_commit (a : Nat) (f : Word → Word) : (d.event a f).commit = d.commit := (rfl)
@[simp] theorem Dev.event_legs (a : Nat) (f : Word → Word) : (d.event a f).legs = d.legs := (rfl)
@[simp] theorem Dev.event_plans (a : Nat) (f : Word → Word) : (d.event a f).plans = d.plans := (rfl)
@[simp] theorem Dev.event_dies (a : Nat) (f : Word → Word) : (d.event a f).dies = d.dies := (rfl)
@[simp] theorem Dev.event_gangs (a : Nat) (f : Word → Word) : (d.event a f).gangs = d.gangs := (rfl)
@[simp] theorem Dev.event_frames (a : Nat) (f : Word → Word) : (d.event a f).frames = d.frames := (rfl)
@[simp] theorem Dev.event_axes (a : Nat) (f : Word → Word) : (d.event a f).axes = d.axes := (rfl)
@[simp] theorem Dev.event_convs (a : Nat) (f : Word → Word) : (d.event a f).convs = d.convs := (rfl)
@[simp] theorem Dev.event_auth (a : Nat) (f : Word → Word) : (d.event a f).auth = d.auth := (rfl)
@[simp] theorem Dev.event_flt (a : Nat) (f : Word → Word) : (d.event a f).flt = d.flt := (rfl)
@[simp] theorem Dev.event_fbs (a : Nat) (f : Word → Word) : (d.event a f).fbs = d.fbs := (rfl)
@[simp] theorem Dev.event_rost (a : Nat) (f : Word → Word) : (d.event a f).rost = d.rost := (rfl)
@[simp] theorem Dev.event_samp (a : Nat) (f : Word → Word) : (d.event a f).samp = d.samp := (rfl)
@[simp] theorem Dev.event_eng (a : Nat) (f : Word → Word) : (d.event a f).eng = d.eng := (rfl)
@[simp] theorem Dev.event_night (a : Nat) (f : Word → Word) : (d.event a f).night = d.night := (rfl)
@[simp] theorem Dev.event_sys (a : Nat) (f : Word → Word) : (d.event a f).sys = d.sys := (rfl)
@[simp] theorem Dev.event_arb (a : Nat) (f : Word → Word) : (d.event a f).arb = d.arb := (rfl)
@[simp] theorem Dev.event_spi (a : Nat) (f : Word → Word) : (d.event a f).spi = d.spi := (rfl)
@[simp] theorem Dev.event_cans (a : Nat) (f : Word → Word) : (d.event a f).cans = d.cans := (rfl)
@[simp] theorem Dev.event_uarts (a : Nat) (f : Word → Word) : (d.event a f).uarts = d.uarts := (rfl)
@[simp] theorem Dev.event_link (a : Nat) (f : Word → Word) : (d.event a f).link = d.link := (rfl)
@[simp] theorem Dev.event_timers (a : Nat) (f : Word → Word) : (d.event a f).timers = d.timers := (rfl)
@[simp] theorem Dev.event_turns (a : Nat) (f : Word → Word) : (d.event a f).turns = d.turns := (rfl)

/-! ### `Dev.raise` -/

@[simp] theorem Dev.raise_now (p : Nat) (f : Fld) : (d.raise p f).now = d.now := (rfl)
@[simp] theorem Dev.raise_free (p : Nat) (f : Fld) : (d.raise p f).free = d.free := (rfl)
@[simp] theorem Dev.raise_mode (p : Nat) (f : Fld) : (d.raise p f).mode = d.mode := (rfl)
@[simp] theorem Dev.raise_wet (p : Nat) (f : Fld) : (d.raise p f).wet = d.wet := (rfl)
@[simp] theorem Dev.raise_coat2 (p : Nat) (f : Fld) : (d.raise p f).coat2 = d.coat2 := (rfl)
@[simp] theorem Dev.raise_cast (p : Nat) (f : Fld) : (d.raise p f).cast = d.cast := (rfl)
@[simp] theorem Dev.raise_mem (p : Nat) (f : Fld) : (d.raise p f).mem = d.mem := (rfl)
@[simp] theorem Dev.raise_pairs (p : Nat) (f : Fld) : (d.raise p f).pairs = d.pairs := (rfl)
@[simp] theorem Dev.raise_lows (p : Nat) (f : Fld) : (d.raise p f).lows = d.lows := (rfl)
@[simp] theorem Dev.raise_newer (p : Nat) (f : Fld) : (d.raise p f).newer = d.newer := (rfl)
@[simp] theorem Dev.raise_resp (p : Nat) (f : Fld) : (d.raise p f).resp = d.resp := (rfl)
@[simp] theorem Dev.raise_afault (p : Nat) (f : Fld) : (d.raise p f).afault = d.afault := (rfl)
@[simp] theorem Dev.raise_commit (p : Nat) (f : Fld) : (d.raise p f).commit = d.commit := (rfl)
@[simp] theorem Dev.raise_legs (p : Nat) (f : Fld) : (d.raise p f).legs = d.legs := (rfl)
@[simp] theorem Dev.raise_plans (p : Nat) (f : Fld) : (d.raise p f).plans = d.plans := (rfl)
@[simp] theorem Dev.raise_dies (p : Nat) (f : Fld) : (d.raise p f).dies = d.dies := (rfl)
@[simp] theorem Dev.raise_gangs (p : Nat) (f : Fld) : (d.raise p f).gangs = d.gangs := (rfl)
@[simp] theorem Dev.raise_frames (p : Nat) (f : Fld) : (d.raise p f).frames = d.frames := (rfl)
@[simp] theorem Dev.raise_axes (p : Nat) (f : Fld) : (d.raise p f).axes = d.axes := (rfl)
@[simp] theorem Dev.raise_convs (p : Nat) (f : Fld) : (d.raise p f).convs = d.convs := (rfl)
@[simp] theorem Dev.raise_auth (p : Nat) (f : Fld) : (d.raise p f).auth = d.auth := (rfl)
@[simp] theorem Dev.raise_flt (p : Nat) (f : Fld) : (d.raise p f).flt = d.flt := (rfl)
@[simp] theorem Dev.raise_fbs (p : Nat) (f : Fld) : (d.raise p f).fbs = d.fbs := (rfl)
@[simp] theorem Dev.raise_rost (p : Nat) (f : Fld) : (d.raise p f).rost = d.rost := (rfl)
@[simp] theorem Dev.raise_samp (p : Nat) (f : Fld) : (d.raise p f).samp = d.samp := (rfl)
@[simp] theorem Dev.raise_eng (p : Nat) (f : Fld) : (d.raise p f).eng = d.eng := (rfl)
@[simp] theorem Dev.raise_night (p : Nat) (f : Fld) : (d.raise p f).night = d.night := (rfl)
@[simp] theorem Dev.raise_sys (p : Nat) (f : Fld) : (d.raise p f).sys = d.sys := (rfl)
@[simp] theorem Dev.raise_arb (p : Nat) (f : Fld) : (d.raise p f).arb = d.arb := (rfl)
@[simp] theorem Dev.raise_spi (p : Nat) (f : Fld) : (d.raise p f).spi = d.spi := (rfl)
@[simp] theorem Dev.raise_cans (p : Nat) (f : Fld) : (d.raise p f).cans = d.cans := (rfl)
@[simp] theorem Dev.raise_uarts (p : Nat) (f : Fld) : (d.raise p f).uarts = d.uarts := (rfl)
@[simp] theorem Dev.raise_link (p : Nat) (f : Fld) : (d.raise p f).link = d.link := (rfl)
@[simp] theorem Dev.raise_timers (p : Nat) (f : Fld) : (d.raise p f).timers = d.timers := (rfl)
@[simp] theorem Dev.raise_turns (p : Nat) (f : Fld) : (d.raise p f).turns = d.turns := (rfl)

/-! ### `Dev.bump` -/

@[simp] theorem Dev.bump_now (p : Nat) (f : Fld) : (d.bump p f).now = d.now := (rfl)
@[simp] theorem Dev.bump_free (p : Nat) (f : Fld) : (d.bump p f).free = d.free := (rfl)
@[simp] theorem Dev.bump_mode (p : Nat) (f : Fld) : (d.bump p f).mode = d.mode := (rfl)
@[simp] theorem Dev.bump_wet (p : Nat) (f : Fld) : (d.bump p f).wet = d.wet := (rfl)
@[simp] theorem Dev.bump_coat2 (p : Nat) (f : Fld) : (d.bump p f).coat2 = d.coat2 := (rfl)
@[simp] theorem Dev.bump_cast (p : Nat) (f : Fld) : (d.bump p f).cast = d.cast := (rfl)
@[simp] theorem Dev.bump_mem (p : Nat) (f : Fld) : (d.bump p f).mem = d.mem := (rfl)
@[simp] theorem Dev.bump_pairs (p : Nat) (f : Fld) : (d.bump p f).pairs = d.pairs := (rfl)
@[simp] theorem Dev.bump_lows (p : Nat) (f : Fld) : (d.bump p f).lows = d.lows := (rfl)
@[simp] theorem Dev.bump_newer (p : Nat) (f : Fld) : (d.bump p f).newer = d.newer := (rfl)
@[simp] theorem Dev.bump_resp (p : Nat) (f : Fld) : (d.bump p f).resp = d.resp := (rfl)
@[simp] theorem Dev.bump_afault (p : Nat) (f : Fld) : (d.bump p f).afault = d.afault := (rfl)
@[simp] theorem Dev.bump_commit (p : Nat) (f : Fld) : (d.bump p f).commit = d.commit := (rfl)
@[simp] theorem Dev.bump_legs (p : Nat) (f : Fld) : (d.bump p f).legs = d.legs := (rfl)
@[simp] theorem Dev.bump_plans (p : Nat) (f : Fld) : (d.bump p f).plans = d.plans := (rfl)
@[simp] theorem Dev.bump_dies (p : Nat) (f : Fld) : (d.bump p f).dies = d.dies := (rfl)
@[simp] theorem Dev.bump_gangs (p : Nat) (f : Fld) : (d.bump p f).gangs = d.gangs := (rfl)
@[simp] theorem Dev.bump_frames (p : Nat) (f : Fld) : (d.bump p f).frames = d.frames := (rfl)
@[simp] theorem Dev.bump_axes (p : Nat) (f : Fld) : (d.bump p f).axes = d.axes := (rfl)
@[simp] theorem Dev.bump_convs (p : Nat) (f : Fld) : (d.bump p f).convs = d.convs := (rfl)
@[simp] theorem Dev.bump_auth (p : Nat) (f : Fld) : (d.bump p f).auth = d.auth := (rfl)
@[simp] theorem Dev.bump_flt (p : Nat) (f : Fld) : (d.bump p f).flt = d.flt := (rfl)
@[simp] theorem Dev.bump_fbs (p : Nat) (f : Fld) : (d.bump p f).fbs = d.fbs := (rfl)
@[simp] theorem Dev.bump_rost (p : Nat) (f : Fld) : (d.bump p f).rost = d.rost := (rfl)
@[simp] theorem Dev.bump_samp (p : Nat) (f : Fld) : (d.bump p f).samp = d.samp := (rfl)
@[simp] theorem Dev.bump_eng (p : Nat) (f : Fld) : (d.bump p f).eng = d.eng := (rfl)
@[simp] theorem Dev.bump_night (p : Nat) (f : Fld) : (d.bump p f).night = d.night := (rfl)
@[simp] theorem Dev.bump_sys (p : Nat) (f : Fld) : (d.bump p f).sys = d.sys := (rfl)
@[simp] theorem Dev.bump_arb (p : Nat) (f : Fld) : (d.bump p f).arb = d.arb := (rfl)
@[simp] theorem Dev.bump_spi (p : Nat) (f : Fld) : (d.bump p f).spi = d.spi := (rfl)
@[simp] theorem Dev.bump_cans (p : Nat) (f : Fld) : (d.bump p f).cans = d.cans := (rfl)
@[simp] theorem Dev.bump_uarts (p : Nat) (f : Fld) : (d.bump p f).uarts = d.uarts := (rfl)
@[simp] theorem Dev.bump_link (p : Nat) (f : Fld) : (d.bump p f).link = d.link := (rfl)
@[simp] theorem Dev.bump_timers (p : Nat) (f : Fld) : (d.bump p f).timers = d.timers := (rfl)
@[simp] theorem Dev.bump_turns (p : Nat) (f : Fld) : (d.bump p f).turns = d.turns := (rfl)

/-! ### `Dev.bumpBy` -/

@[simp] theorem Dev.bumpBy_now (p : Nat) (f : Fld) (k : Nat) : (d.bumpBy p f k).now = d.now := (rfl)
@[simp] theorem Dev.bumpBy_free (p : Nat) (f : Fld) (k : Nat) : (d.bumpBy p f k).free = d.free := (rfl)
@[simp] theorem Dev.bumpBy_mode (p : Nat) (f : Fld) (k : Nat) : (d.bumpBy p f k).mode = d.mode := (rfl)
@[simp] theorem Dev.bumpBy_wet (p : Nat) (f : Fld) (k : Nat) : (d.bumpBy p f k).wet = d.wet := (rfl)
@[simp] theorem Dev.bumpBy_coat2 (p : Nat) (f : Fld) (k : Nat) : (d.bumpBy p f k).coat2 = d.coat2 := (rfl)
@[simp] theorem Dev.bumpBy_cast (p : Nat) (f : Fld) (k : Nat) : (d.bumpBy p f k).cast = d.cast := (rfl)
@[simp] theorem Dev.bumpBy_mem (p : Nat) (f : Fld) (k : Nat) : (d.bumpBy p f k).mem = d.mem := (rfl)
@[simp] theorem Dev.bumpBy_pairs (p : Nat) (f : Fld) (k : Nat) : (d.bumpBy p f k).pairs = d.pairs := (rfl)
@[simp] theorem Dev.bumpBy_lows (p : Nat) (f : Fld) (k : Nat) : (d.bumpBy p f k).lows = d.lows := (rfl)
@[simp] theorem Dev.bumpBy_newer (p : Nat) (f : Fld) (k : Nat) : (d.bumpBy p f k).newer = d.newer := (rfl)
@[simp] theorem Dev.bumpBy_resp (p : Nat) (f : Fld) (k : Nat) : (d.bumpBy p f k).resp = d.resp := (rfl)
@[simp] theorem Dev.bumpBy_afault (p : Nat) (f : Fld) (k : Nat) : (d.bumpBy p f k).afault = d.afault := (rfl)
@[simp] theorem Dev.bumpBy_commit (p : Nat) (f : Fld) (k : Nat) : (d.bumpBy p f k).commit = d.commit := (rfl)
@[simp] theorem Dev.bumpBy_legs (p : Nat) (f : Fld) (k : Nat) : (d.bumpBy p f k).legs = d.legs := (rfl)
@[simp] theorem Dev.bumpBy_plans (p : Nat) (f : Fld) (k : Nat) : (d.bumpBy p f k).plans = d.plans := (rfl)
@[simp] theorem Dev.bumpBy_dies (p : Nat) (f : Fld) (k : Nat) : (d.bumpBy p f k).dies = d.dies := (rfl)
@[simp] theorem Dev.bumpBy_gangs (p : Nat) (f : Fld) (k : Nat) : (d.bumpBy p f k).gangs = d.gangs := (rfl)
@[simp] theorem Dev.bumpBy_frames (p : Nat) (f : Fld) (k : Nat) : (d.bumpBy p f k).frames = d.frames := (rfl)
@[simp] theorem Dev.bumpBy_axes (p : Nat) (f : Fld) (k : Nat) : (d.bumpBy p f k).axes = d.axes := (rfl)
@[simp] theorem Dev.bumpBy_convs (p : Nat) (f : Fld) (k : Nat) : (d.bumpBy p f k).convs = d.convs := (rfl)
@[simp] theorem Dev.bumpBy_auth (p : Nat) (f : Fld) (k : Nat) : (d.bumpBy p f k).auth = d.auth := (rfl)
@[simp] theorem Dev.bumpBy_flt (p : Nat) (f : Fld) (k : Nat) : (d.bumpBy p f k).flt = d.flt := (rfl)
@[simp] theorem Dev.bumpBy_fbs (p : Nat) (f : Fld) (k : Nat) : (d.bumpBy p f k).fbs = d.fbs := (rfl)
@[simp] theorem Dev.bumpBy_rost (p : Nat) (f : Fld) (k : Nat) : (d.bumpBy p f k).rost = d.rost := (rfl)
@[simp] theorem Dev.bumpBy_samp (p : Nat) (f : Fld) (k : Nat) : (d.bumpBy p f k).samp = d.samp := (rfl)
@[simp] theorem Dev.bumpBy_eng (p : Nat) (f : Fld) (k : Nat) : (d.bumpBy p f k).eng = d.eng := (rfl)
@[simp] theorem Dev.bumpBy_night (p : Nat) (f : Fld) (k : Nat) : (d.bumpBy p f k).night = d.night := (rfl)
@[simp] theorem Dev.bumpBy_sys (p : Nat) (f : Fld) (k : Nat) : (d.bumpBy p f k).sys = d.sys := (rfl)
@[simp] theorem Dev.bumpBy_arb (p : Nat) (f : Fld) (k : Nat) : (d.bumpBy p f k).arb = d.arb := (rfl)
@[simp] theorem Dev.bumpBy_spi (p : Nat) (f : Fld) (k : Nat) : (d.bumpBy p f k).spi = d.spi := (rfl)
@[simp] theorem Dev.bumpBy_cans (p : Nat) (f : Fld) (k : Nat) : (d.bumpBy p f k).cans = d.cans := (rfl)
@[simp] theorem Dev.bumpBy_uarts (p : Nat) (f : Fld) (k : Nat) : (d.bumpBy p f k).uarts = d.uarts := (rfl)
@[simp] theorem Dev.bumpBy_link (p : Nat) (f : Fld) (k : Nat) : (d.bumpBy p f k).link = d.link := (rfl)
@[simp] theorem Dev.bumpBy_timers (p : Nat) (f : Fld) (k : Nat) : (d.bumpBy p f k).timers = d.timers := (rfl)
@[simp] theorem Dev.bumpBy_turns (p : Nat) (f : Fld) (k : Nat) : (d.bumpBy p f k).turns = d.turns := (rfl)

/-! ### `Dev.raiseBit` -/

@[simp] theorem Dev.raiseBit_now (a i : Nat) : (d.raiseBit a i).now = d.now := (rfl)
@[simp] theorem Dev.raiseBit_free (a i : Nat) : (d.raiseBit a i).free = d.free := (rfl)
@[simp] theorem Dev.raiseBit_mode (a i : Nat) : (d.raiseBit a i).mode = d.mode := (rfl)
@[simp] theorem Dev.raiseBit_wet (a i : Nat) : (d.raiseBit a i).wet = d.wet := (rfl)
@[simp] theorem Dev.raiseBit_coat2 (a i : Nat) : (d.raiseBit a i).coat2 = d.coat2 := (rfl)
@[simp] theorem Dev.raiseBit_cast (a i : Nat) : (d.raiseBit a i).cast = d.cast := (rfl)
@[simp] theorem Dev.raiseBit_mem (a i : Nat) : (d.raiseBit a i).mem = d.mem := (rfl)
@[simp] theorem Dev.raiseBit_pairs (a i : Nat) : (d.raiseBit a i).pairs = d.pairs := (rfl)
@[simp] theorem Dev.raiseBit_lows (a i : Nat) : (d.raiseBit a i).lows = d.lows := (rfl)
@[simp] theorem Dev.raiseBit_newer (a i : Nat) : (d.raiseBit a i).newer = d.newer := (rfl)
@[simp] theorem Dev.raiseBit_resp (a i : Nat) : (d.raiseBit a i).resp = d.resp := (rfl)
@[simp] theorem Dev.raiseBit_afault (a i : Nat) : (d.raiseBit a i).afault = d.afault := (rfl)
@[simp] theorem Dev.raiseBit_commit (a i : Nat) : (d.raiseBit a i).commit = d.commit := (rfl)
@[simp] theorem Dev.raiseBit_legs (a i : Nat) : (d.raiseBit a i).legs = d.legs := (rfl)
@[simp] theorem Dev.raiseBit_plans (a i : Nat) : (d.raiseBit a i).plans = d.plans := (rfl)
@[simp] theorem Dev.raiseBit_dies (a i : Nat) : (d.raiseBit a i).dies = d.dies := (rfl)
@[simp] theorem Dev.raiseBit_gangs (a i : Nat) : (d.raiseBit a i).gangs = d.gangs := (rfl)
@[simp] theorem Dev.raiseBit_frames (a i : Nat) : (d.raiseBit a i).frames = d.frames := (rfl)
@[simp] theorem Dev.raiseBit_axes (a i : Nat) : (d.raiseBit a i).axes = d.axes := (rfl)
@[simp] theorem Dev.raiseBit_convs (a i : Nat) : (d.raiseBit a i).convs = d.convs := (rfl)
@[simp] theorem Dev.raiseBit_auth (a i : Nat) : (d.raiseBit a i).auth = d.auth := (rfl)
@[simp] theorem Dev.raiseBit_flt (a i : Nat) : (d.raiseBit a i).flt = d.flt := (rfl)
@[simp] theorem Dev.raiseBit_fbs (a i : Nat) : (d.raiseBit a i).fbs = d.fbs := (rfl)
@[simp] theorem Dev.raiseBit_rost (a i : Nat) : (d.raiseBit a i).rost = d.rost := (rfl)
@[simp] theorem Dev.raiseBit_samp (a i : Nat) : (d.raiseBit a i).samp = d.samp := (rfl)
@[simp] theorem Dev.raiseBit_eng (a i : Nat) : (d.raiseBit a i).eng = d.eng := (rfl)
@[simp] theorem Dev.raiseBit_night (a i : Nat) : (d.raiseBit a i).night = d.night := (rfl)
@[simp] theorem Dev.raiseBit_sys (a i : Nat) : (d.raiseBit a i).sys = d.sys := (rfl)
@[simp] theorem Dev.raiseBit_arb (a i : Nat) : (d.raiseBit a i).arb = d.arb := (rfl)
@[simp] theorem Dev.raiseBit_spi (a i : Nat) : (d.raiseBit a i).spi = d.spi := (rfl)
@[simp] theorem Dev.raiseBit_cans (a i : Nat) : (d.raiseBit a i).cans = d.cans := (rfl)
@[simp] theorem Dev.raiseBit_uarts (a i : Nat) : (d.raiseBit a i).uarts = d.uarts := (rfl)
@[simp] theorem Dev.raiseBit_link (a i : Nat) : (d.raiseBit a i).link = d.link := (rfl)
@[simp] theorem Dev.raiseBit_timers (a i : Nat) : (d.raiseBit a i).timers = d.timers := (rfl)
@[simp] theorem Dev.raiseBit_turns (a i : Nat) : (d.raiseBit a i).turns = d.turns := (rfl)

/-! ### `Dev.readClear`, `Dev.draw`, `memPut` -/

@[simp] theorem Dev.readClear_now (a : Nat) : (d.readClear a).now = d.now := by unfold Dev.readClear; split <;> rfl
@[simp] theorem Dev.readClear_free (a : Nat) : (d.readClear a).free = d.free := by unfold Dev.readClear; split <;> rfl
@[simp] theorem Dev.readClear_mode (a : Nat) : (d.readClear a).mode = d.mode := by unfold Dev.readClear; split <;> rfl
@[simp] theorem Dev.readClear_wet (a : Nat) : (d.readClear a).wet = d.wet := by unfold Dev.readClear; split <;> rfl
@[simp] theorem Dev.readClear_coat2 (a : Nat) : (d.readClear a).coat2 = d.coat2 := by unfold Dev.readClear; split <;> rfl
@[simp] theorem Dev.readClear_cast (a : Nat) : (d.readClear a).cast = d.cast := by unfold Dev.readClear; split <;> rfl
@[simp] theorem Dev.readClear_mem (a : Nat) : (d.readClear a).mem = d.mem := by unfold Dev.readClear; split <;> rfl
@[simp] theorem Dev.readClear_pairs (a : Nat) : (d.readClear a).pairs = d.pairs := by unfold Dev.readClear; split <;> rfl
@[simp] theorem Dev.readClear_lows (a : Nat) : (d.readClear a).lows = d.lows := by unfold Dev.readClear; split <;> rfl
@[simp] theorem Dev.readClear_newer (a : Nat) : (d.readClear a).newer = d.newer := by unfold Dev.readClear; split <;> rfl
@[simp] theorem Dev.readClear_resp (a : Nat) : (d.readClear a).resp = d.resp := by unfold Dev.readClear; split <;> rfl
@[simp] theorem Dev.readClear_afault (a : Nat) : (d.readClear a).afault = d.afault := by unfold Dev.readClear; split <;> rfl
@[simp] theorem Dev.readClear_commit (a : Nat) : (d.readClear a).commit = d.commit := by unfold Dev.readClear; split <;> rfl
@[simp] theorem Dev.readClear_legs (a : Nat) : (d.readClear a).legs = d.legs := by unfold Dev.readClear; split <;> rfl
@[simp] theorem Dev.readClear_plans (a : Nat) : (d.readClear a).plans = d.plans := by unfold Dev.readClear; split <;> rfl
@[simp] theorem Dev.readClear_dies (a : Nat) : (d.readClear a).dies = d.dies := by unfold Dev.readClear; split <;> rfl
@[simp] theorem Dev.readClear_gangs (a : Nat) : (d.readClear a).gangs = d.gangs := by unfold Dev.readClear; split <;> rfl
@[simp] theorem Dev.readClear_frames (a : Nat) : (d.readClear a).frames = d.frames := by unfold Dev.readClear; split <;> rfl
@[simp] theorem Dev.readClear_axes (a : Nat) : (d.readClear a).axes = d.axes := by unfold Dev.readClear; split <;> rfl
@[simp] theorem Dev.readClear_convs (a : Nat) : (d.readClear a).convs = d.convs := by unfold Dev.readClear; split <;> rfl
@[simp] theorem Dev.readClear_auth (a : Nat) : (d.readClear a).auth = d.auth := by unfold Dev.readClear; split <;> rfl
@[simp] theorem Dev.readClear_flt (a : Nat) : (d.readClear a).flt = d.flt := by unfold Dev.readClear; split <;> rfl
@[simp] theorem Dev.readClear_fbs (a : Nat) : (d.readClear a).fbs = d.fbs := by unfold Dev.readClear; split <;> rfl
@[simp] theorem Dev.readClear_rost (a : Nat) : (d.readClear a).rost = d.rost := by unfold Dev.readClear; split <;> rfl
@[simp] theorem Dev.readClear_samp (a : Nat) : (d.readClear a).samp = d.samp := by unfold Dev.readClear; split <;> rfl
@[simp] theorem Dev.readClear_eng (a : Nat) : (d.readClear a).eng = d.eng := by unfold Dev.readClear; split <;> rfl
@[simp] theorem Dev.readClear_night (a : Nat) : (d.readClear a).night = d.night := by unfold Dev.readClear; split <;> rfl
@[simp] theorem Dev.readClear_sys (a : Nat) : (d.readClear a).sys = d.sys := by unfold Dev.readClear; split <;> rfl
@[simp] theorem Dev.readClear_arb (a : Nat) : (d.readClear a).arb = d.arb := by unfold Dev.readClear; split <;> rfl
@[simp] theorem Dev.readClear_spi (a : Nat) : (d.readClear a).spi = d.spi := by unfold Dev.readClear; split <;> rfl
@[simp] theorem Dev.readClear_cans (a : Nat) : (d.readClear a).cans = d.cans := by unfold Dev.readClear; split <;> rfl
@[simp] theorem Dev.readClear_uarts (a : Nat) : (d.readClear a).uarts = d.uarts := by unfold Dev.readClear; split <;> rfl
@[simp] theorem Dev.readClear_link (a : Nat) : (d.readClear a).link = d.link := by unfold Dev.readClear; split <;> rfl
@[simp] theorem Dev.readClear_timers (a : Nat) : (d.readClear a).timers = d.timers := by unfold Dev.readClear; split <;> rfl
@[simp] theorem Dev.readClear_turns (a : Nat) : (d.readClear a).turns = d.turns := by unfold Dev.readClear; split <;> rfl
@[simp] theorem Dev.draw_now : d.draw.2.now = d.now := (rfl)
@[simp] theorem Dev.draw_free : d.draw.2.free = d.free + 1 := (rfl)
@[simp] theorem Dev.draw_mode : d.draw.2.mode = d.mode := (rfl)
@[simp] theorem Dev.draw_regs : d.draw.2.regs = d.regs := (rfl)
@[simp] theorem Dev.draw_events : d.draw.2.events = d.events := (rfl)
@[simp] theorem Dev.draw_wet : d.draw.2.wet = d.wet := (rfl)
@[simp] theorem Dev.draw_coat2 : d.draw.2.coat2 = d.coat2 := (rfl)
@[simp] theorem Dev.draw_cast : d.draw.2.cast = d.cast := (rfl)
@[simp] theorem Dev.draw_mem : d.draw.2.mem = d.mem := (rfl)
@[simp] theorem Dev.draw_pairs : d.draw.2.pairs = d.pairs := (rfl)
@[simp] theorem Dev.draw_lows : d.draw.2.lows = d.lows := (rfl)
@[simp] theorem Dev.draw_newer : d.draw.2.newer = d.newer := (rfl)
@[simp] theorem Dev.draw_resp : d.draw.2.resp = d.resp := (rfl)
@[simp] theorem Dev.draw_afault : d.draw.2.afault = d.afault := (rfl)
@[simp] theorem Dev.draw_commit : d.draw.2.commit = d.commit := (rfl)
@[simp] theorem Dev.draw_legs : d.draw.2.legs = d.legs := (rfl)
@[simp] theorem Dev.draw_plans : d.draw.2.plans = d.plans := (rfl)
@[simp] theorem Dev.draw_dies : d.draw.2.dies = d.dies := (rfl)
@[simp] theorem Dev.draw_gangs : d.draw.2.gangs = d.gangs := (rfl)
@[simp] theorem Dev.draw_frames : d.draw.2.frames = d.frames := (rfl)
@[simp] theorem Dev.draw_axes : d.draw.2.axes = d.axes := (rfl)
@[simp] theorem Dev.draw_convs : d.draw.2.convs = d.convs := (rfl)
@[simp] theorem Dev.draw_auth : d.draw.2.auth = d.auth := (rfl)
@[simp] theorem Dev.draw_flt : d.draw.2.flt = d.flt := (rfl)
@[simp] theorem Dev.draw_fbs : d.draw.2.fbs = d.fbs := (rfl)
@[simp] theorem Dev.draw_rost : d.draw.2.rost = d.rost := (rfl)
@[simp] theorem Dev.draw_samp : d.draw.2.samp = d.samp := (rfl)
@[simp] theorem Dev.draw_eng : d.draw.2.eng = d.eng := (rfl)
@[simp] theorem Dev.draw_night : d.draw.2.night = d.night := (rfl)
@[simp] theorem Dev.draw_sys : d.draw.2.sys = d.sys := (rfl)
@[simp] theorem Dev.draw_arb : d.draw.2.arb = d.arb := (rfl)
@[simp] theorem Dev.draw_spi : d.draw.2.spi = d.spi := (rfl)
@[simp] theorem Dev.draw_cans : d.draw.2.cans = d.cans := (rfl)
@[simp] theorem Dev.draw_uarts : d.draw.2.uarts = d.uarts := (rfl)
@[simp] theorem Dev.draw_link : d.draw.2.link = d.link := (rfl)
@[simp] theorem Dev.draw_timers : d.draw.2.timers = d.timers := (rfl)
@[simp] theorem Dev.draw_turns : d.draw.2.turns = d.turns := (rfl)
@[simp] theorem Dev.draw_value : d.draw.1 = Config.freeValue d.free := (rfl)
@[simp] theorem memPut_now (a : Nat) (v : Byte) : (memPut a v d).now = d.now := (rfl)
@[simp] theorem memPut_free (a : Nat) (v : Byte) : (memPut a v d).free = d.free := (rfl)
@[simp] theorem memPut_mode (a : Nat) (v : Byte) : (memPut a v d).mode = d.mode := (rfl)
@[simp] theorem memPut_regs (a : Nat) (v : Byte) : (memPut a v d).regs = d.regs := (rfl)
@[simp] theorem memPut_events (a : Nat) (v : Byte) : (memPut a v d).events = d.events := (rfl)
@[simp] theorem memPut_wet (a : Nat) (v : Byte) : (memPut a v d).wet = d.wet := (rfl)
@[simp] theorem memPut_coat2 (a : Nat) (v : Byte) : (memPut a v d).coat2 = d.coat2 := (rfl)
@[simp] theorem memPut_cast (a : Nat) (v : Byte) : (memPut a v d).cast = d.cast := (rfl)
@[simp] theorem memPut_mem (a : Nat) (v : Byte) : (memPut a v d).mem = sput blankByte d.mem a v := (rfl)
@[simp] theorem memPut_pairs (a : Nat) (v : Byte) : (memPut a v d).pairs = d.pairs := (rfl)
@[simp] theorem memPut_lows (a : Nat) (v : Byte) : (memPut a v d).lows = d.lows := (rfl)
@[simp] theorem memPut_newer (a : Nat) (v : Byte) : (memPut a v d).newer = d.newer := (rfl)
@[simp] theorem memPut_resp (a : Nat) (v : Byte) : (memPut a v d).resp = d.resp := (rfl)
@[simp] theorem memPut_afault (a : Nat) (v : Byte) : (memPut a v d).afault = d.afault := (rfl)
@[simp] theorem memPut_commit (a : Nat) (v : Byte) : (memPut a v d).commit = d.commit := (rfl)
@[simp] theorem memPut_legs (a : Nat) (v : Byte) : (memPut a v d).legs = d.legs := (rfl)
@[simp] theorem memPut_plans (a : Nat) (v : Byte) : (memPut a v d).plans = d.plans := (rfl)
@[simp] theorem memPut_dies (a : Nat) (v : Byte) : (memPut a v d).dies = d.dies := (rfl)
@[simp] theorem memPut_gangs (a : Nat) (v : Byte) : (memPut a v d).gangs = d.gangs := (rfl)
@[simp] theorem memPut_frames (a : Nat) (v : Byte) : (memPut a v d).frames = d.frames := (rfl)
@[simp] theorem memPut_axes (a : Nat) (v : Byte) : (memPut a v d).axes = d.axes := (rfl)
@[simp] theorem memPut_convs (a : Nat) (v : Byte) : (memPut a v d).convs = d.convs := (rfl)
@[simp] theorem memPut_auth (a : Nat) (v : Byte) : (memPut a v d).auth = d.auth := (rfl)
@[simp] theorem memPut_flt (a : Nat) (v : Byte) : (memPut a v d).flt = d.flt := (rfl)
@[simp] theorem memPut_fbs (a : Nat) (v : Byte) : (memPut a v d).fbs = d.fbs := (rfl)
@[simp] theorem memPut_rost (a : Nat) (v : Byte) : (memPut a v d).rost = d.rost := (rfl)
@[simp] theorem memPut_samp (a : Nat) (v : Byte) : (memPut a v d).samp = d.samp := (rfl)
@[simp] theorem memPut_eng (a : Nat) (v : Byte) : (memPut a v d).eng = d.eng := (rfl)
@[simp] theorem memPut_night (a : Nat) (v : Byte) : (memPut a v d).night = d.night := (rfl)
@[simp] theorem memPut_sys (a : Nat) (v : Byte) : (memPut a v d).sys = d.sys := (rfl)
@[simp] theorem memPut_arb (a : Nat) (v : Byte) : (memPut a v d).arb = d.arb := (rfl)
@[simp] theorem memPut_spi (a : Nat) (v : Byte) : (memPut a v d).spi = d.spi := (rfl)
@[simp] theorem memPut_cans (a : Nat) (v : Byte) : (memPut a v d).cans = d.cans := (rfl)
@[simp] theorem memPut_uarts (a : Nat) (v : Byte) : (memPut a v d).uarts = d.uarts := (rfl)
@[simp] theorem memPut_link (a : Nat) (v : Byte) : (memPut a v d).link = d.link := (rfl)
@[simp] theorem memPut_timers (a : Nat) (v : Byte) : (memPut a v d).timers = d.timers := (rfl)
@[simp] theorem memPut_turns (a : Nat) (v : Byte) : (memPut a v d).turns = d.turns := (rfl)

end Sys2Proof.Machine
end

