-- ==== Sys2Proof/Laws/Map.lean ====
section
/-!
SUPPORT. Sparse maps: a read after a write, the canonical form, and what follows for registers and for the records of the
instances.
-/

namespace Sys2Proof.Machine

/-! ### Read after write -/

theorem sget_sins {α : Type} (d : Nat → α) (m : SMap α) (k j : Nat) (v : α) :
    sget d (sins k v m) j = if j = k then v else sget d m j := by
  induction m with
  | nil => simp [sins, sget, eq_comm]
  | cons p m ih =>
    obtain ⟨a, w⟩ := p
    simp only [sins]
    split
    · by_cases h : j = k
      · subst h; simp [sget]
      · simp [sget, h, Ne.symm h]
    · split
      · subst_vars
        by_cases h : j = a
        · subst h; simp [sget]
        · simp [sget, h, Ne.symm h]
      · simp only [sget, ih]
        by_cases h : a = j
        · subst h
          have : ¬ a = k := fun e => by omega
          simp [this]
        · simp [h]

theorem sget_filter_ne {α : Type} (d : Nat → α) (m : SMap α) (k j : Nat) :
    sget d (m.filter fun p => p.1 != k) j = if j = k then d j else sget d m j := by
  induction m with
  | nil => simp [sget]
  | cons p m ih =>
    obtain ⟨a, w⟩ := p
    by_cases h : a = k
    · subst h
      rw [List.filter_cons_of_neg (by simp), ih]
      by_cases e : j = a
      · simp [e]
      · simp [sget, e, Ne.symm e]
    · rw [List.filter_cons_of_pos (by simpa using h)]
      simp only [sget, ih]
      by_cases e : a = j
      · subst e; simp [h]
      · simp [e]

/-- A read after a write: the value written at the key, what was there elsewhere. -/
@[simp] theorem sget_sput {α : Type} [DecidableEq α] (d : Nat → α) (m : SMap α) (k j : Nat) (v : α) :
    sget d (sput d m k v) j = if j = k then v else sget d m j := by
  unfold sput
  split
  · rw [sget_filter_ne]
    by_cases h : j = k
    · subst h; simp [*]
    · simp [h]
  · exact sget_sins d m k j v

/-! ### The canonical form -/

/-- Keys rise, from above `lo` on, and no entry is what an unlisted key reads as. -/
def SMap.wfFrom {α : Type} [DecidableEq α] (d : Nat → α) : Nat → SMap α → Bool
  | _, [] => true
  | lo, (k, v) :: m => decide (lo ≤ k) && decide (v ≠ d k) && SMap.wfFrom d (k + 1) m

theorem SMap.wfFrom_mono {α : Type} [DecidableEq α] (d : Nat → α) (m : SMap α) {lo hi : Nat} (h : lo ≤ hi)
    (w : SMap.wfFrom d hi m = true) : SMap.wfFrom d lo m = true := by
  cases m with
  | nil => rfl
  | cons p m =>
    obtain ⟨k, v⟩ := p
    simp only [SMap.wfFrom, Bool.and_eq_true, decide_eq_true_eq] at w ⊢
    exact ⟨⟨by omega, w.1.2⟩, w.2⟩

theorem SMap.wfFrom_sins {α : Type} [DecidableEq α] (d : Nat → α) (m : SMap α) (lo k : Nat) (v : α) (hk : lo ≤ k)
    (hv : v ≠ d k) (w : SMap.wfFrom d lo m = true) : SMap.wfFrom d lo (sins k v m) = true := by
  induction m generalizing lo with
  | nil => simp [sins, SMap.wfFrom, hk, hv]
  | cons p m ih =>
    obtain ⟨a, x⟩ := p
    simp only [SMap.wfFrom, Bool.and_eq_true, decide_eq_true_eq] at w
    obtain ⟨⟨h1, h2⟩, h3⟩ := w
    simp only [sins]
    split
    · simp only [SMap.wfFrom, Bool.and_eq_true, decide_eq_true_eq]
      exact ⟨⟨hk, hv⟩, ⟨by omega, h2⟩, h3⟩
    · split
      · subst_vars
        simp only [SMap.wfFrom, Bool.and_eq_true, decide_eq_true_eq]
        exact ⟨⟨hk, hv⟩, h3⟩
      · simp only [SMap.wfFrom, Bool.and_eq_true, decide_eq_true_eq]
        exact ⟨⟨h1, h2⟩, ih (a + 1) (by omega) h3⟩

theorem SMap.wfFrom_filter {α : Type} [DecidableEq α] (d : Nat → α) (m : SMap α) (p : Nat × α → Bool) (lo : Nat)
    (w : SMap.wfFrom d lo m = true) : SMap.wfFrom d lo (m.filter p) = true := by
  induction m generalizing lo with
  | nil => rfl
  | cons x m ih =>
    obtain ⟨k, v⟩ := x
    simp only [SMap.wfFrom, Bool.and_eq_true, decide_eq_true_eq] at w
    obtain ⟨⟨h1, h2⟩, h3⟩ := w
    by_cases h : p (k, v) = true
    · rw [List.filter_cons_of_pos h]
      simp only [SMap.wfFrom, Bool.and_eq_true, decide_eq_true_eq]
      exact ⟨⟨h1, h2⟩, ih (k + 1) h3⟩
    · rw [List.filter_cons_of_neg h]
      exact ih lo (SMap.wfFrom_mono d m (by omega) h3)

/-- A write keeps the canonical form. -/
theorem SMap.wfFrom_sput {α : Type} [DecidableEq α] (d : Nat → α) (m : SMap α) (k : Nat) (v : α)
    (w : SMap.wfFrom d 0 m = true) : SMap.wfFrom d 0 (sput d m k v) = true := by
  unfold sput
  split
  · exact SMap.wfFrom_filter d m _ 0 w
  · exact SMap.wfFrom_sins d m 0 k v (by omega) ‹_› w

/-! ### Bytes and words of fields -/

theorem bits_lt (w : Word) (lo n : Nat) : bits w lo n < 2 ^ n := Nat.mod_lt _ (Nat.two_pow_pos n)

theorem bits_testBit (w : Word) (lo n i : Nat) : (bits w lo n).testBit i = (decide (i < n) && w.getLsbD (lo + i)) := by
  simp [bits, Nat.testBit_mod_two_pow, Nat.testBit_shiftRight, BitVec.getLsbD]

theorem fieldMask_getLsbD (lo n i : Nat) :
    (fieldMask lo n).getLsbD i = (decide (i < 32) && decide (lo ≤ i) && decide (i - lo < n)) := by
  simp only [fieldMask, BitVec.getLsbD_ofNat, Nat.testBit_shiftLeft, Nat.testBit_two_pow_sub_one, ge_iff_le]
  cases decide (i < 32) <;> cases decide (lo ≤ i) <;> rfl

theorem setBits_getLsbD (w : Word) (lo n v i : Nat) :
    (setBits w lo n v).getLsbD i =
      (decide (i < 32) && if lo ≤ i ∧ i < lo + n then v.testBit (i - lo) else w.getLsbD i) := by
  simp only [setBits, BitVec.getLsbD_or, BitVec.getLsbD_and, BitVec.getLsbD_not, fieldMask_getLsbD, BitVec.getLsbD_ofNat,
    Nat.testBit_shiftLeft, ge_iff_le]
  by_cases h : i < 32
  · by_cases h1 : lo ≤ i
    · by_cases h2 : i < lo + n
      · have : i - lo < n := by omega
        simp [h, h1, h2, this]
      · have : ¬ i - lo < n := by omega
        simp [h, h1, h2, this]
    · simp [h, h1]
  · have : w.getLsbD i = false := BitVec.getLsbD_of_ge w i (by omega)
    simp [h, this]

/-- A field reads back what was written to it. -/
theorem bits_setBits (w : Word) (lo n v : Nat) (h : lo + n ≤ 32) : bits (setBits w lo n v) lo n = v % 2 ^ n := by
  apply Nat.eq_of_testBit_eq
  intro i
  rw [bits_testBit, setBits_getLsbD, Nat.testBit_mod_two_pow]
  by_cases hi : i < n
  · have h1 : lo + i < 32 := by omega
    have h2 : lo + i < lo + n := by omega
    simp [hi, h1]
  · simp [hi]

/-- A field that does not meet the one written stays. -/
theorem bits_setBits_disjoint (w : Word) (lo n v lo' n' : Nat) (h : lo' + n' ≤ lo ∨ lo + n ≤ lo') :
    bits (setBits w lo n v) lo' n' = bits w lo' n' := by
  apply Nat.eq_of_testBit_eq
  intro i
  rw [bits_testBit, bits_testBit, setBits_getLsbD]
  by_cases hi : i < n'
  · have h2 : ¬ (lo ≤ lo' + i ∧ lo' + i < lo + n) := by omega
    by_cases h3 : lo' + i < 32
    · simp only [h2, h3, if_false, decide_true, Bool.true_and]
    · have : w.getLsbD (lo' + i) = false := BitVec.getLsbD_of_ge w _ (by omega)
      simp [h3, this]
  · simp [hi]

/-! ### Registers -/

@[simp] theorem Dev.reg_setReg (d : Dev) (a b : Nat) (w : Word) :
    (d.setReg a w).reg b = if b = a then w else d.reg b := by
  simp [Dev.reg]

theorem Dev.reg_setReg_same (d : Dev) (a : Nat) (w : Word) : (d.setReg a w).reg a = w := by simp

theorem Dev.reg_setReg_ne (d : Dev) {a b : Nat} (w : Word) (h : b ≠ a) : (d.setReg a w).reg b = d.reg b := by simp [h]

theorem Dev.reg_event (d : Dev) (a b : Nat) (f : Word → Word) :
    (d.event a f).reg b = if b = a then f (d.reg a) else d.reg b := by
  show ((Dev.setReg _ a _).reg b) = _
  rw [Dev.reg_setReg]
  rfl

@[simp] theorem Dev.reg_setFld (d : Dev) (p : Nat) (f : Fld) (v b : Nat) :
    (d.setFld p f v).reg b = if b = p + f.off then setBits (d.reg (p + f.off)) f.lo f.n v else d.reg b := by
  simp [Dev.setFld]

@[simp] theorem Dev.reg_raise (d : Dev) (p : Nat) (f : Fld) (b : Nat) :
    (d.raise p f).reg b = if b = p + f.off then setBits (d.reg (p + f.off)) f.lo f.n 1 else d.reg b := by
  simp [Dev.raise, Dev.reg_event]

@[simp] theorem Dev.reg_raiseBit (d : Dev) (a i b : Nat) :
    (d.raiseBit a i).reg b = if b = a then d.reg a ||| BitVec.ofNat 32 (2 ^ i) else d.reg b := by
  simp [Dev.raiseBit, Dev.reg_event]

@[simp] theorem Dev.reg_bump (d : Dev) (p : Nat) (f : Fld) (b : Nat) :
    (d.bump p f).reg b = if b = p + f.off then setBits (d.reg (p + f.off)) f.lo f.n (satInc f.n (d.fld p f))
      else d.reg b := by
  simp [Dev.bump, Dev.reg_event, Dev.fld]

/-- A field of the tables fits its word. -/
def Fld.fits (f : Fld) : Prop := f.lo + f.n ≤ 32

/-- A field written reads back. -/
theorem Dev.fld_setFld (d : Dev) (p : Nat) (f : Fld) (v : Nat) (h : f.fits) : (d.setFld p f v).fld p f = v % 2 ^ f.n := by
  simp only [Dev.fld, Dev.reg_setFld, if_true]
  exact bits_setBits _ _ _ _ h

theorem Dev.fld_raise (d : Dev) (p : Nat) (f : Fld) (h : f.fits) (hn : 0 < f.n) : (d.raise p f).fld p f = 1 := by
  simp only [Dev.fld, Dev.reg_raise, if_true]
  rw [bits_setBits _ _ _ _ h]
  exact Nat.mod_eq_of_lt (Nat.one_lt_two_pow (by omega))

/-- A field of another register, or one that does not meet the field written, stays. -/
theorem Dev.fld_setFld_ne (d : Dev) (p q : Nat) (f g : Fld) (v : Nat)
    (h : q + g.off ≠ p + f.off ∨ g.lo + g.n ≤ f.lo ∨ f.lo + f.n ≤ g.lo) : (d.setFld p f v).fld q g = d.fld q g := by
  simp only [Dev.fld, Dev.reg_setFld]
  split
  · rename_i e
    rcases h with h | h
    · exact absurd e h
    · rw [bits_setBits_disjoint _ _ _ _ _ _ h, e]
  · rfl

theorem Dev.fld_raise_ne (d : Dev) (p q : Nat) (f g : Fld)
    (h : q + g.off ≠ p + f.off ∨ g.lo + g.n ≤ f.lo ∨ f.lo + f.n ≤ g.lo) : (d.raise p f).fld q g = d.fld q g := by
  simp only [Dev.fld, Dev.reg_raise]
  split
  · rename_i e
    rcases h with h | h
    · exact absurd e h
    · rw [bits_setBits_disjoint _ _ _ _ _ _ h, e]
  · rfl

/-! ### Records of instances -/

@[simp] theorem Dev.leg_setLeg (d : Dev) (n m : Nat) (r : LegRec) : (d.setLeg n r).leg m = if m = n then r else d.leg m := by
  simp [Dev.leg]

@[simp] theorem Dev.plan_setPlan (d : Dev) (n m : Nat) (r : LegPlan) : (d.setPlan n r).plan m = if m = n then r else d.plan m := by
  simp [Dev.plan]

@[simp] theorem Dev.die_setDie (d : Dev) (n m : Nat) (r : DieRec) : (d.setDie n r).die m = if m = n then r else d.die m := by
  simp [Dev.die]

@[simp] theorem Dev.gang_setGang (d : Dev) (n m : Nat) (r : GangRec) : (d.setGang n r).gang m = if m = n then r else d.gang m := by
  simp [Dev.gang]

@[simp] theorem Dev.frame_setFrame (d : Dev) (n m : Nat) (r : FrameRec) : (d.setFrame n r).frame m = if m = n then r else d.frame m := by
  simp [Dev.frame]

@[simp] theorem Dev.axis_setAxis (d : Dev) (n m : Nat) (r : AxisRec) : (d.setAxis n r).axis m = if m = n then r else d.axis m := by
  simp [Dev.axis]

@[simp] theorem Dev.conv_setConv (d : Dev) (n m : Nat) (r : ConvRec) : (d.setConv n r).conv m = if m = n then r else d.conv m := by
  simp [Dev.conv]

@[simp] theorem Dev.fb_setFb (d : Dev) (n m : Nat) (r : FbRec) : (d.setFb n r).fb m = if m = n then r else d.fb m := by
  simp [Dev.fb]

@[simp] theorem Dev.can_setCan (d : Dev) (n m : Nat) (r : CanRec) : (d.setCan n r).can m = if m = n then r else d.can m := by
  simp [Dev.can]

@[simp] theorem Dev.uart_setUart (d : Dev) (n m : Nat) (r : UartRec) : (d.setUart n r).uart m = if m = n then r else d.uart m := by
  simp [Dev.uart]

@[simp] theorem Dev.dom_setDom (d : Dev) (n m : Nat) (r : DomRec) : (d.setDom n r).dom m = if m = n then r else d.dom m := by
  simp [Dev.dom]

@[simp] theorem Dev.wetAt_setWet (d : Dev) (a b : Nat) (w : Option Word) : (d.setWet a w).wetAt b = if b = a then w else d.wetAt b := by
  simp [Dev.wetAt]

@[simp] theorem Dev.coatAt_setCoat (d : Dev) (a b : Nat) (w : Option Word) : (d.setCoat a w).coatAt b = if b = a then w else d.coatAt b := by
  simp [Dev.coatAt]

end Sys2Proof.Machine
end

