-- ==== Sys2Proof/Laws/Accessors.lean ====
section
/-!
SUPPORT. What an update leaves of the records and registers that it does not write, through their accessors; each is true by
`rfl`.
-/

namespace Sys2Proof.Machine

variable (d : Dev)

/-! ### `Dev.setReg` -/

@[simp] theorem Dev.setReg_dom (a : Nat) (w : Word) (i : Nat) : (d.setReg a w).dom i = d.dom i := (rfl)
@[simp] theorem Dev.setReg_wetAt (a : Nat) (w : Word) (i : Nat) : (d.setReg a w).wetAt i = d.wetAt i := (rfl)
@[simp] theorem Dev.setReg_coatAt (a : Nat) (w : Word) (i : Nat) : (d.setReg a w).coatAt i = d.coatAt i := (rfl)
@[simp] theorem Dev.setReg_leg (a : Nat) (w : Word) (i : Nat) : (d.setReg a w).leg i = d.leg i := (rfl)
@[simp] theorem Dev.setReg_plan (a : Nat) (w : Word) (i : Nat) : (d.setReg a w).plan i = d.plan i := (rfl)
@[simp] theorem Dev.setReg_die (a : Nat) (w : Word) (i : Nat) : (d.setReg a w).die i = d.die i := (rfl)
@[simp] theorem Dev.setReg_gang (a : Nat) (w : Word) (i : Nat) : (d.setReg a w).gang i = d.gang i := (rfl)
@[simp] theorem Dev.setReg_frame (a : Nat) (w : Word) (i : Nat) : (d.setReg a w).frame i = d.frame i := (rfl)
@[simp] theorem Dev.setReg_axis (a : Nat) (w : Word) (i : Nat) : (d.setReg a w).axis i = d.axis i := (rfl)
@[simp] theorem Dev.setReg_conv (a : Nat) (w : Word) (i : Nat) : (d.setReg a w).conv i = d.conv i := (rfl)
@[simp] theorem Dev.setReg_fb (a : Nat) (w : Word) (i : Nat) : (d.setReg a w).fb i = d.fb i := (rfl)
@[simp] theorem Dev.setReg_can (a : Nat) (w : Word) (i : Nat) : (d.setReg a w).can i = d.can i := (rfl)
@[simp] theorem Dev.setReg_uart (a : Nat) (w : Word) (i : Nat) : (d.setReg a w).uart i = d.uart i := (rfl)

/-! ### `Dev.setDom` -/

@[simp] theorem Dev.setDom_wetAt (n : Nat) (r : DomRec) (i : Nat) : (d.setDom n r).wetAt i = d.wetAt i := (rfl)
@[simp] theorem Dev.setDom_coatAt (n : Nat) (r : DomRec) (i : Nat) : (d.setDom n r).coatAt i = d.coatAt i := (rfl)
@[simp] theorem Dev.setDom_leg (n : Nat) (r : DomRec) (i : Nat) : (d.setDom n r).leg i = d.leg i := (rfl)
@[simp] theorem Dev.setDom_plan (n : Nat) (r : DomRec) (i : Nat) : (d.setDom n r).plan i = d.plan i := (rfl)
@[simp] theorem Dev.setDom_die (n : Nat) (r : DomRec) (i : Nat) : (d.setDom n r).die i = d.die i := (rfl)
@[simp] theorem Dev.setDom_gang (n : Nat) (r : DomRec) (i : Nat) : (d.setDom n r).gang i = d.gang i := (rfl)
@[simp] theorem Dev.setDom_frame (n : Nat) (r : DomRec) (i : Nat) : (d.setDom n r).frame i = d.frame i := (rfl)
@[simp] theorem Dev.setDom_axis (n : Nat) (r : DomRec) (i : Nat) : (d.setDom n r).axis i = d.axis i := (rfl)
@[simp] theorem Dev.setDom_conv (n : Nat) (r : DomRec) (i : Nat) : (d.setDom n r).conv i = d.conv i := (rfl)
@[simp] theorem Dev.setDom_fb (n : Nat) (r : DomRec) (i : Nat) : (d.setDom n r).fb i = d.fb i := (rfl)
@[simp] theorem Dev.setDom_can (n : Nat) (r : DomRec) (i : Nat) : (d.setDom n r).can i = d.can i := (rfl)
@[simp] theorem Dev.setDom_uart (n : Nat) (r : DomRec) (i : Nat) : (d.setDom n r).uart i = d.uart i := (rfl)
@[simp] theorem Dev.setDom_reg (n : Nat) (r : DomRec) (i : Nat) : (d.setDom n r).reg i = d.reg i := (rfl)
@[simp] theorem Dev.setDom_fld (n : Nat) (r : DomRec) (q : Nat) (g : Fld) : (d.setDom n r).fld q g = d.fld q g := (rfl)
@[simp] theorem Dev.setDom_sfld (n : Nat) (r : DomRec) (q : Nat) (g : Fld) : (d.setDom n r).sfld q g = d.sfld q g := (rfl)
@[simp] theorem Dev.setDom_on (n : Nat) (r : DomRec) (q : Nat) (g : Fld) : (d.setDom n r).on q g = d.on q g := (rfl)

/-! ### `Dev.setWet` -/

@[simp] theorem Dev.setWet_dom (a : Nat) (w : Option Word) (i : Nat) : (d.setWet a w).dom i = d.dom i := (rfl)
@[simp] theorem Dev.setWet_coatAt (a : Nat) (w : Option Word) (i : Nat) : (d.setWet a w).coatAt i = d.coatAt i := (rfl)
@[simp] theorem Dev.setWet_leg (a : Nat) (w : Option Word) (i : Nat) : (d.setWet a w).leg i = d.leg i := (rfl)
@[simp] theorem Dev.setWet_plan (a : Nat) (w : Option Word) (i : Nat) : (d.setWet a w).plan i = d.plan i := (rfl)
@[simp] theorem Dev.setWet_die (a : Nat) (w : Option Word) (i : Nat) : (d.setWet a w).die i = d.die i := (rfl)
@[simp] theorem Dev.setWet_gang (a : Nat) (w : Option Word) (i : Nat) : (d.setWet a w).gang i = d.gang i := (rfl)
@[simp] theorem Dev.setWet_frame (a : Nat) (w : Option Word) (i : Nat) : (d.setWet a w).frame i = d.frame i := (rfl)
@[simp] theorem Dev.setWet_axis (a : Nat) (w : Option Word) (i : Nat) : (d.setWet a w).axis i = d.axis i := (rfl)
@[simp] theorem Dev.setWet_conv (a : Nat) (w : Option Word) (i : Nat) : (d.setWet a w).conv i = d.conv i := (rfl)
@[simp] theorem Dev.setWet_fb (a : Nat) (w : Option Word) (i : Nat) : (d.setWet a w).fb i = d.fb i := (rfl)
@[simp] theorem Dev.setWet_can (a : Nat) (w : Option Word) (i : Nat) : (d.setWet a w).can i = d.can i := (rfl)
@[simp] theorem Dev.setWet_uart (a : Nat) (w : Option Word) (i : Nat) : (d.setWet a w).uart i = d.uart i := (rfl)
@[simp] theorem Dev.setWet_reg (a : Nat) (w : Option Word) (i : Nat) : (d.setWet a w).reg i = d.reg i := (rfl)
@[simp] theorem Dev.setWet_fld (a : Nat) (w : Option Word) (q : Nat) (g : Fld) : (d.setWet a w).fld q g = d.fld q g := (rfl)
@[simp] theorem Dev.setWet_sfld (a : Nat) (w : Option Word) (q : Nat) (g : Fld) : (d.setWet a w).sfld q g = d.sfld q g := (rfl)
@[simp] theorem Dev.setWet_on (a : Nat) (w : Option Word) (q : Nat) (g : Fld) : (d.setWet a w).on q g = d.on q g := (rfl)

/-! ### `Dev.setCoat` -/

@[simp] theorem Dev.setCoat_dom (a : Nat) (w : Option Word) (i : Nat) : (d.setCoat a w).dom i = d.dom i := (rfl)
@[simp] theorem Dev.setCoat_wetAt (a : Nat) (w : Option Word) (i : Nat) : (d.setCoat a w).wetAt i = d.wetAt i := (rfl)
@[simp] theorem Dev.setCoat_leg (a : Nat) (w : Option Word) (i : Nat) : (d.setCoat a w).leg i = d.leg i := (rfl)
@[simp] theorem Dev.setCoat_plan (a : Nat) (w : Option Word) (i : Nat) : (d.setCoat a w).plan i = d.plan i := (rfl)
@[simp] theorem Dev.setCoat_die (a : Nat) (w : Option Word) (i : Nat) : (d.setCoat a w).die i = d.die i := (rfl)
@[simp] theorem Dev.setCoat_gang (a : Nat) (w : Option Word) (i : Nat) : (d.setCoat a w).gang i = d.gang i := (rfl)
@[simp] theorem Dev.setCoat_frame (a : Nat) (w : Option Word) (i : Nat) : (d.setCoat a w).frame i = d.frame i := (rfl)
@[simp] theorem Dev.setCoat_axis (a : Nat) (w : Option Word) (i : Nat) : (d.setCoat a w).axis i = d.axis i := (rfl)
@[simp] theorem Dev.setCoat_conv (a : Nat) (w : Option Word) (i : Nat) : (d.setCoat a w).conv i = d.conv i := (rfl)
@[simp] theorem Dev.setCoat_fb (a : Nat) (w : Option Word) (i : Nat) : (d.setCoat a w).fb i = d.fb i := (rfl)
@[simp] theorem Dev.setCoat_can (a : Nat) (w : Option Word) (i : Nat) : (d.setCoat a w).can i = d.can i := (rfl)
@[simp] theorem Dev.setCoat_uart (a : Nat) (w : Option Word) (i : Nat) : (d.setCoat a w).uart i = d.uart i := (rfl)
@[simp] theorem Dev.setCoat_reg (a : Nat) (w : Option Word) (i : Nat) : (d.setCoat a w).reg i = d.reg i := (rfl)
@[simp] theorem Dev.setCoat_fld (a : Nat) (w : Option Word) (q : Nat) (g : Fld) : (d.setCoat a w).fld q g = d.fld q g := (rfl)
@[simp] theorem Dev.setCoat_sfld (a : Nat) (w : Option Word) (q : Nat) (g : Fld) : (d.setCoat a w).sfld q g = d.sfld q g := (rfl)
@[simp] theorem Dev.setCoat_on (a : Nat) (w : Option Word) (q : Nat) (g : Fld) : (d.setCoat a w).on q g = d.on q g := (rfl)

/-! ### `Dev.setLeg` -/

@[simp] theorem Dev.setLeg_dom (n : Nat) (r : LegRec) (i : Nat) : (d.setLeg n r).dom i = d.dom i := (rfl)
@[simp] theorem Dev.setLeg_wetAt (n : Nat) (r : LegRec) (i : Nat) : (d.setLeg n r).wetAt i = d.wetAt i := (rfl)
@[simp] theorem Dev.setLeg_coatAt (n : Nat) (r : LegRec) (i : Nat) : (d.setLeg n r).coatAt i = d.coatAt i := (rfl)
@[simp] theorem Dev.setLeg_plan (n : Nat) (r : LegRec) (i : Nat) : (d.setLeg n r).plan i = d.plan i := (rfl)
@[simp] theorem Dev.setLeg_die (n : Nat) (r : LegRec) (i : Nat) : (d.setLeg n r).die i = d.die i := (rfl)
@[simp] theorem Dev.setLeg_gang (n : Nat) (r : LegRec) (i : Nat) : (d.setLeg n r).gang i = d.gang i := (rfl)
@[simp] theorem Dev.setLeg_frame (n : Nat) (r : LegRec) (i : Nat) : (d.setLeg n r).frame i = d.frame i := (rfl)
@[simp] theorem Dev.setLeg_axis (n : Nat) (r : LegRec) (i : Nat) : (d.setLeg n r).axis i = d.axis i := (rfl)
@[simp] theorem Dev.setLeg_conv (n : Nat) (r : LegRec) (i : Nat) : (d.setLeg n r).conv i = d.conv i := (rfl)
@[simp] theorem Dev.setLeg_fb (n : Nat) (r : LegRec) (i : Nat) : (d.setLeg n r).fb i = d.fb i := (rfl)
@[simp] theorem Dev.setLeg_can (n : Nat) (r : LegRec) (i : Nat) : (d.setLeg n r).can i = d.can i := (rfl)
@[simp] theorem Dev.setLeg_uart (n : Nat) (r : LegRec) (i : Nat) : (d.setLeg n r).uart i = d.uart i := (rfl)
@[simp] theorem Dev.setLeg_reg (n : Nat) (r : LegRec) (i : Nat) : (d.setLeg n r).reg i = d.reg i := (rfl)
@[simp] theorem Dev.setLeg_fld (n : Nat) (r : LegRec) (q : Nat) (g : Fld) : (d.setLeg n r).fld q g = d.fld q g := (rfl)
@[simp] theorem Dev.setLeg_sfld (n : Nat) (r : LegRec) (q : Nat) (g : Fld) : (d.setLeg n r).sfld q g = d.sfld q g := (rfl)
@[simp] theorem Dev.setLeg_on (n : Nat) (r : LegRec) (q : Nat) (g : Fld) : (d.setLeg n r).on q g = d.on q g := (rfl)

/-! ### `Dev.setPlan` -/

@[simp] theorem Dev.setPlan_dom (n : Nat) (r : LegPlan) (i : Nat) : (d.setPlan n r).dom i = d.dom i := (rfl)
@[simp] theorem Dev.setPlan_wetAt (n : Nat) (r : LegPlan) (i : Nat) : (d.setPlan n r).wetAt i = d.wetAt i := (rfl)
@[simp] theorem Dev.setPlan_coatAt (n : Nat) (r : LegPlan) (i : Nat) : (d.setPlan n r).coatAt i = d.coatAt i := (rfl)
@[simp] theorem Dev.setPlan_leg (n : Nat) (r : LegPlan) (i : Nat) : (d.setPlan n r).leg i = d.leg i := (rfl)
@[simp] theorem Dev.setPlan_die (n : Nat) (r : LegPlan) (i : Nat) : (d.setPlan n r).die i = d.die i := (rfl)
@[simp] theorem Dev.setPlan_gang (n : Nat) (r : LegPlan) (i : Nat) : (d.setPlan n r).gang i = d.gang i := (rfl)
@[simp] theorem Dev.setPlan_frame (n : Nat) (r : LegPlan) (i : Nat) : (d.setPlan n r).frame i = d.frame i := (rfl)
@[simp] theorem Dev.setPlan_axis (n : Nat) (r : LegPlan) (i : Nat) : (d.setPlan n r).axis i = d.axis i := (rfl)
@[simp] theorem Dev.setPlan_conv (n : Nat) (r : LegPlan) (i : Nat) : (d.setPlan n r).conv i = d.conv i := (rfl)
@[simp] theorem Dev.setPlan_fb (n : Nat) (r : LegPlan) (i : Nat) : (d.setPlan n r).fb i = d.fb i := (rfl)
@[simp] theorem Dev.setPlan_can (n : Nat) (r : LegPlan) (i : Nat) : (d.setPlan n r).can i = d.can i := (rfl)
@[simp] theorem Dev.setPlan_uart (n : Nat) (r : LegPlan) (i : Nat) : (d.setPlan n r).uart i = d.uart i := (rfl)
@[simp] theorem Dev.setPlan_reg (n : Nat) (r : LegPlan) (i : Nat) : (d.setPlan n r).reg i = d.reg i := (rfl)
@[simp] theorem Dev.setPlan_fld (n : Nat) (r : LegPlan) (q : Nat) (g : Fld) : (d.setPlan n r).fld q g = d.fld q g := (rfl)
@[simp] theorem Dev.setPlan_sfld (n : Nat) (r : LegPlan) (q : Nat) (g : Fld) : (d.setPlan n r).sfld q g = d.sfld q g := (rfl)
@[simp] theorem Dev.setPlan_on (n : Nat) (r : LegPlan) (q : Nat) (g : Fld) : (d.setPlan n r).on q g = d.on q g := (rfl)

/-! ### `Dev.setDie` -/

@[simp] theorem Dev.setDie_dom (n : Nat) (r : DieRec) (i : Nat) : (d.setDie n r).dom i = d.dom i := (rfl)
@[simp] theorem Dev.setDie_wetAt (n : Nat) (r : DieRec) (i : Nat) : (d.setDie n r).wetAt i = d.wetAt i := (rfl)
@[simp] theorem Dev.setDie_coatAt (n : Nat) (r : DieRec) (i : Nat) : (d.setDie n r).coatAt i = d.coatAt i := (rfl)
@[simp] theorem Dev.setDie_leg (n : Nat) (r : DieRec) (i : Nat) : (d.setDie n r).leg i = d.leg i := (rfl)
@[simp] theorem Dev.setDie_plan (n : Nat) (r : DieRec) (i : Nat) : (d.setDie n r).plan i = d.plan i := (rfl)
@[simp] theorem Dev.setDie_gang (n : Nat) (r : DieRec) (i : Nat) : (d.setDie n r).gang i = d.gang i := (rfl)
@[simp] theorem Dev.setDie_frame (n : Nat) (r : DieRec) (i : Nat) : (d.setDie n r).frame i = d.frame i := (rfl)
@[simp] theorem Dev.setDie_axis (n : Nat) (r : DieRec) (i : Nat) : (d.setDie n r).axis i = d.axis i := (rfl)
@[simp] theorem Dev.setDie_conv (n : Nat) (r : DieRec) (i : Nat) : (d.setDie n r).conv i = d.conv i := (rfl)
@[simp] theorem Dev.setDie_fb (n : Nat) (r : DieRec) (i : Nat) : (d.setDie n r).fb i = d.fb i := (rfl)
@[simp] theorem Dev.setDie_can (n : Nat) (r : DieRec) (i : Nat) : (d.setDie n r).can i = d.can i := (rfl)
@[simp] theorem Dev.setDie_uart (n : Nat) (r : DieRec) (i : Nat) : (d.setDie n r).uart i = d.uart i := (rfl)
@[simp] theorem Dev.setDie_reg (n : Nat) (r : DieRec) (i : Nat) : (d.setDie n r).reg i = d.reg i := (rfl)
@[simp] theorem Dev.setDie_fld (n : Nat) (r : DieRec) (q : Nat) (g : Fld) : (d.setDie n r).fld q g = d.fld q g := (rfl)
@[simp] theorem Dev.setDie_sfld (n : Nat) (r : DieRec) (q : Nat) (g : Fld) : (d.setDie n r).sfld q g = d.sfld q g := (rfl)
@[simp] theorem Dev.setDie_on (n : Nat) (r : DieRec) (q : Nat) (g : Fld) : (d.setDie n r).on q g = d.on q g := (rfl)

/-! ### `Dev.setGang` -/

@[simp] theorem Dev.setGang_dom (n : Nat) (r : GangRec) (i : Nat) : (d.setGang n r).dom i = d.dom i := (rfl)
@[simp] theorem Dev.setGang_wetAt (n : Nat) (r : GangRec) (i : Nat) : (d.setGang n r).wetAt i = d.wetAt i := (rfl)
@[simp] theorem Dev.setGang_coatAt (n : Nat) (r : GangRec) (i : Nat) : (d.setGang n r).coatAt i = d.coatAt i := (rfl)
@[simp] theorem Dev.setGang_leg (n : Nat) (r : GangRec) (i : Nat) : (d.setGang n r).leg i = d.leg i := (rfl)
@[simp] theorem Dev.setGang_plan (n : Nat) (r : GangRec) (i : Nat) : (d.setGang n r).plan i = d.plan i := (rfl)
@[simp] theorem Dev.setGang_die (n : Nat) (r : GangRec) (i : Nat) : (d.setGang n r).die i = d.die i := (rfl)
@[simp] theorem Dev.setGang_frame (n : Nat) (r : GangRec) (i : Nat) : (d.setGang n r).frame i = d.frame i := (rfl)
@[simp] theorem Dev.setGang_axis (n : Nat) (r : GangRec) (i : Nat) : (d.setGang n r).axis i = d.axis i := (rfl)
@[simp] theorem Dev.setGang_conv (n : Nat) (r : GangRec) (i : Nat) : (d.setGang n r).conv i = d.conv i := (rfl)
@[simp] theorem Dev.setGang_fb (n : Nat) (r : GangRec) (i : Nat) : (d.setGang n r).fb i = d.fb i := (rfl)
@[simp] theorem Dev.setGang_can (n : Nat) (r : GangRec) (i : Nat) : (d.setGang n r).can i = d.can i := (rfl)
@[simp] theorem Dev.setGang_uart (n : Nat) (r : GangRec) (i : Nat) : (d.setGang n r).uart i = d.uart i := (rfl)
@[simp] theorem Dev.setGang_reg (n : Nat) (r : GangRec) (i : Nat) : (d.setGang n r).reg i = d.reg i := (rfl)
@[simp] theorem Dev.setGang_fld (n : Nat) (r : GangRec) (q : Nat) (g : Fld) : (d.setGang n r).fld q g = d.fld q g := (rfl)
@[simp] theorem Dev.setGang_sfld (n : Nat) (r : GangRec) (q : Nat) (g : Fld) : (d.setGang n r).sfld q g = d.sfld q g := (rfl)
@[simp] theorem Dev.setGang_on (n : Nat) (r : GangRec) (q : Nat) (g : Fld) : (d.setGang n r).on q g = d.on q g := (rfl)

/-! ### `Dev.setFrame` -/

@[simp] theorem Dev.setFrame_dom (n : Nat) (r : FrameRec) (i : Nat) : (d.setFrame n r).dom i = d.dom i := (rfl)
@[simp] theorem Dev.setFrame_wetAt (n : Nat) (r : FrameRec) (i : Nat) : (d.setFrame n r).wetAt i = d.wetAt i := (rfl)
@[simp] theorem Dev.setFrame_coatAt (n : Nat) (r : FrameRec) (i : Nat) : (d.setFrame n r).coatAt i = d.coatAt i := (rfl)
@[simp] theorem Dev.setFrame_leg (n : Nat) (r : FrameRec) (i : Nat) : (d.setFrame n r).leg i = d.leg i := (rfl)
@[simp] theorem Dev.setFrame_plan (n : Nat) (r : FrameRec) (i : Nat) : (d.setFrame n r).plan i = d.plan i := (rfl)
@[simp] theorem Dev.setFrame_die (n : Nat) (r : FrameRec) (i : Nat) : (d.setFrame n r).die i = d.die i := (rfl)
@[simp] theorem Dev.setFrame_gang (n : Nat) (r : FrameRec) (i : Nat) : (d.setFrame n r).gang i = d.gang i := (rfl)
@[simp] theorem Dev.setFrame_axis (n : Nat) (r : FrameRec) (i : Nat) : (d.setFrame n r).axis i = d.axis i := (rfl)
@[simp] theorem Dev.setFrame_conv (n : Nat) (r : FrameRec) (i : Nat) : (d.setFrame n r).conv i = d.conv i := (rfl)
@[simp] theorem Dev.setFrame_fb (n : Nat) (r : FrameRec) (i : Nat) : (d.setFrame n r).fb i = d.fb i := (rfl)
@[simp] theorem Dev.setFrame_can (n : Nat) (r : FrameRec) (i : Nat) : (d.setFrame n r).can i = d.can i := (rfl)
@[simp] theorem Dev.setFrame_uart (n : Nat) (r : FrameRec) (i : Nat) : (d.setFrame n r).uart i = d.uart i := (rfl)
@[simp] theorem Dev.setFrame_reg (n : Nat) (r : FrameRec) (i : Nat) : (d.setFrame n r).reg i = d.reg i := (rfl)
@[simp] theorem Dev.setFrame_fld (n : Nat) (r : FrameRec) (q : Nat) (g : Fld) : (d.setFrame n r).fld q g = d.fld q g := (rfl)
@[simp] theorem Dev.setFrame_sfld (n : Nat) (r : FrameRec) (q : Nat) (g : Fld) : (d.setFrame n r).sfld q g = d.sfld q g := (rfl)
@[simp] theorem Dev.setFrame_on (n : Nat) (r : FrameRec) (q : Nat) (g : Fld) : (d.setFrame n r).on q g = d.on q g := (rfl)

/-! ### `Dev.setAxis` -/

@[simp] theorem Dev.setAxis_dom (n : Nat) (r : AxisRec) (i : Nat) : (d.setAxis n r).dom i = d.dom i := (rfl)
@[simp] theorem Dev.setAxis_wetAt (n : Nat) (r : AxisRec) (i : Nat) : (d.setAxis n r).wetAt i = d.wetAt i := (rfl)
@[simp] theorem Dev.setAxis_coatAt (n : Nat) (r : AxisRec) (i : Nat) : (d.setAxis n r).coatAt i = d.coatAt i := (rfl)
@[simp] theorem Dev.setAxis_leg (n : Nat) (r : AxisRec) (i : Nat) : (d.setAxis n r).leg i = d.leg i := (rfl)
@[simp] theorem Dev.setAxis_plan (n : Nat) (r : AxisRec) (i : Nat) : (d.setAxis n r).plan i = d.plan i := (rfl)
@[simp] theorem Dev.setAxis_die (n : Nat) (r : AxisRec) (i : Nat) : (d.setAxis n r).die i = d.die i := (rfl)
@[simp] theorem Dev.setAxis_gang (n : Nat) (r : AxisRec) (i : Nat) : (d.setAxis n r).gang i = d.gang i := (rfl)
@[simp] theorem Dev.setAxis_frame (n : Nat) (r : AxisRec) (i : Nat) : (d.setAxis n r).frame i = d.frame i := (rfl)
@[simp] theorem Dev.setAxis_conv (n : Nat) (r : AxisRec) (i : Nat) : (d.setAxis n r).conv i = d.conv i := (rfl)
@[simp] theorem Dev.setAxis_fb (n : Nat) (r : AxisRec) (i : Nat) : (d.setAxis n r).fb i = d.fb i := (rfl)
@[simp] theorem Dev.setAxis_can (n : Nat) (r : AxisRec) (i : Nat) : (d.setAxis n r).can i = d.can i := (rfl)
@[simp] theorem Dev.setAxis_uart (n : Nat) (r : AxisRec) (i : Nat) : (d.setAxis n r).uart i = d.uart i := (rfl)
@[simp] theorem Dev.setAxis_reg (n : Nat) (r : AxisRec) (i : Nat) : (d.setAxis n r).reg i = d.reg i := (rfl)
@[simp] theorem Dev.setAxis_fld (n : Nat) (r : AxisRec) (q : Nat) (g : Fld) : (d.setAxis n r).fld q g = d.fld q g := (rfl)
@[simp] theorem Dev.setAxis_sfld (n : Nat) (r : AxisRec) (q : Nat) (g : Fld) : (d.setAxis n r).sfld q g = d.sfld q g := (rfl)
@[simp] theorem Dev.setAxis_on (n : Nat) (r : AxisRec) (q : Nat) (g : Fld) : (d.setAxis n r).on q g = d.on q g := (rfl)

/-! ### `Dev.setConv` -/

@[simp] theorem Dev.setConv_dom (n : Nat) (r : ConvRec) (i : Nat) : (d.setConv n r).dom i = d.dom i := (rfl)
@[simp] theorem Dev.setConv_wetAt (n : Nat) (r : ConvRec) (i : Nat) : (d.setConv n r).wetAt i = d.wetAt i := (rfl)
@[simp] theorem Dev.setConv_coatAt (n : Nat) (r : ConvRec) (i : Nat) : (d.setConv n r).coatAt i = d.coatAt i := (rfl)
@[simp] theorem Dev.setConv_leg (n : Nat) (r : ConvRec) (i : Nat) : (d.setConv n r).leg i = d.leg i := (rfl)
@[simp] theorem Dev.setConv_plan (n : Nat) (r : ConvRec) (i : Nat) : (d.setConv n r).plan i = d.plan i := (rfl)
@[simp] theorem Dev.setConv_die (n : Nat) (r : ConvRec) (i : Nat) : (d.setConv n r).die i = d.die i := (rfl)
@[simp] theorem Dev.setConv_gang (n : Nat) (r : ConvRec) (i : Nat) : (d.setConv n r).gang i = d.gang i := (rfl)
@[simp] theorem Dev.setConv_frame (n : Nat) (r : ConvRec) (i : Nat) : (d.setConv n r).frame i = d.frame i := (rfl)
@[simp] theorem Dev.setConv_axis (n : Nat) (r : ConvRec) (i : Nat) : (d.setConv n r).axis i = d.axis i := (rfl)
@[simp] theorem Dev.setConv_fb (n : Nat) (r : ConvRec) (i : Nat) : (d.setConv n r).fb i = d.fb i := (rfl)
@[simp] theorem Dev.setConv_can (n : Nat) (r : ConvRec) (i : Nat) : (d.setConv n r).can i = d.can i := (rfl)
@[simp] theorem Dev.setConv_uart (n : Nat) (r : ConvRec) (i : Nat) : (d.setConv n r).uart i = d.uart i := (rfl)
@[simp] theorem Dev.setConv_reg (n : Nat) (r : ConvRec) (i : Nat) : (d.setConv n r).reg i = d.reg i := (rfl)
@[simp] theorem Dev.setConv_fld (n : Nat) (r : ConvRec) (q : Nat) (g : Fld) : (d.setConv n r).fld q g = d.fld q g := (rfl)
@[simp] theorem Dev.setConv_sfld (n : Nat) (r : ConvRec) (q : Nat) (g : Fld) : (d.setConv n r).sfld q g = d.sfld q g := (rfl)
@[simp] theorem Dev.setConv_on (n : Nat) (r : ConvRec) (q : Nat) (g : Fld) : (d.setConv n r).on q g = d.on q g := (rfl)

/-! ### `Dev.setFb` -/

@[simp] theorem Dev.setFb_dom (n : Nat) (r : FbRec) (i : Nat) : (d.setFb n r).dom i = d.dom i := (rfl)
@[simp] theorem Dev.setFb_wetAt (n : Nat) (r : FbRec) (i : Nat) : (d.setFb n r).wetAt i = d.wetAt i := (rfl)
@[simp] theorem Dev.setFb_coatAt (n : Nat) (r : FbRec) (i : Nat) : (d.setFb n r).coatAt i = d.coatAt i := (rfl)
@[simp] theorem Dev.setFb_leg (n : Nat) (r : FbRec) (i : Nat) : (d.setFb n r).leg i = d.leg i := (rfl)
@[simp] theorem Dev.setFb_plan (n : Nat) (r : FbRec) (i : Nat) : (d.setFb n r).plan i = d.plan i := (rfl)
@[simp] theorem Dev.setFb_die (n : Nat) (r : FbRec) (i : Nat) : (d.setFb n r).die i = d.die i := (rfl)
@[simp] theorem Dev.setFb_gang (n : Nat) (r : FbRec) (i : Nat) : (d.setFb n r).gang i = d.gang i := (rfl)
@[simp] theorem Dev.setFb_frame (n : Nat) (r : FbRec) (i : Nat) : (d.setFb n r).frame i = d.frame i := (rfl)
@[simp] theorem Dev.setFb_axis (n : Nat) (r : FbRec) (i : Nat) : (d.setFb n r).axis i = d.axis i := (rfl)
@[simp] theorem Dev.setFb_conv (n : Nat) (r : FbRec) (i : Nat) : (d.setFb n r).conv i = d.conv i := (rfl)
@[simp] theorem Dev.setFb_can (n : Nat) (r : FbRec) (i : Nat) : (d.setFb n r).can i = d.can i := (rfl)
@[simp] theorem Dev.setFb_uart (n : Nat) (r : FbRec) (i : Nat) : (d.setFb n r).uart i = d.uart i := (rfl)
@[simp] theorem Dev.setFb_reg (n : Nat) (r : FbRec) (i : Nat) : (d.setFb n r).reg i = d.reg i := (rfl)
@[simp] theorem Dev.setFb_fld (n : Nat) (r : FbRec) (q : Nat) (g : Fld) : (d.setFb n r).fld q g = d.fld q g := (rfl)
@[simp] theorem Dev.setFb_sfld (n : Nat) (r : FbRec) (q : Nat) (g : Fld) : (d.setFb n r).sfld q g = d.sfld q g := (rfl)
@[simp] theorem Dev.setFb_on (n : Nat) (r : FbRec) (q : Nat) (g : Fld) : (d.setFb n r).on q g = d.on q g := (rfl)

/-! ### `Dev.setCan` -/

@[simp] theorem Dev.setCan_dom (n : Nat) (r : CanRec) (i : Nat) : (d.setCan n r).dom i = d.dom i := (rfl)
@[simp] theorem Dev.setCan_wetAt (n : Nat) (r : CanRec) (i : Nat) : (d.setCan n r).wetAt i = d.wetAt i := (rfl)
@[simp] theorem Dev.setCan_coatAt (n : Nat) (r : CanRec) (i : Nat) : (d.setCan n r).coatAt i = d.coatAt i := (rfl)
@[simp] theorem Dev.setCan_leg (n : Nat) (r : CanRec) (i : Nat) : (d.setCan n r).leg i = d.leg i := (rfl)
@[simp] theorem Dev.setCan_plan (n : Nat) (r : CanRec) (i : Nat) : (d.setCan n r).plan i = d.plan i := (rfl)
@[simp] theorem Dev.setCan_die (n : Nat) (r : CanRec) (i : Nat) : (d.setCan n r).die i = d.die i := (rfl)
@[simp] theorem Dev.setCan_gang (n : Nat) (r : CanRec) (i : Nat) : (d.setCan n r).gang i = d.gang i := (rfl)
@[simp] theorem Dev.setCan_frame (n : Nat) (r : CanRec) (i : Nat) : (d.setCan n r).frame i = d.frame i := (rfl)
@[simp] theorem Dev.setCan_axis (n : Nat) (r : CanRec) (i : Nat) : (d.setCan n r).axis i = d.axis i := (rfl)
@[simp] theorem Dev.setCan_conv (n : Nat) (r : CanRec) (i : Nat) : (d.setCan n r).conv i = d.conv i := (rfl)
@[simp] theorem Dev.setCan_fb (n : Nat) (r : CanRec) (i : Nat) : (d.setCan n r).fb i = d.fb i := (rfl)
@[simp] theorem Dev.setCan_uart (n : Nat) (r : CanRec) (i : Nat) : (d.setCan n r).uart i = d.uart i := (rfl)
@[simp] theorem Dev.setCan_reg (n : Nat) (r : CanRec) (i : Nat) : (d.setCan n r).reg i = d.reg i := (rfl)
@[simp] theorem Dev.setCan_fld (n : Nat) (r : CanRec) (q : Nat) (g : Fld) : (d.setCan n r).fld q g = d.fld q g := (rfl)
@[simp] theorem Dev.setCan_sfld (n : Nat) (r : CanRec) (q : Nat) (g : Fld) : (d.setCan n r).sfld q g = d.sfld q g := (rfl)
@[simp] theorem Dev.setCan_on (n : Nat) (r : CanRec) (q : Nat) (g : Fld) : (d.setCan n r).on q g = d.on q g := (rfl)

/-! ### `Dev.setUart` -/

@[simp] theorem Dev.setUart_dom (n : Nat) (r : UartRec) (i : Nat) : (d.setUart n r).dom i = d.dom i := (rfl)
@[simp] theorem Dev.setUart_wetAt (n : Nat) (r : UartRec) (i : Nat) : (d.setUart n r).wetAt i = d.wetAt i := (rfl)
@[simp] theorem Dev.setUart_coatAt (n : Nat) (r : UartRec) (i : Nat) : (d.setUart n r).coatAt i = d.coatAt i := (rfl)
@[simp] theorem Dev.setUart_leg (n : Nat) (r : UartRec) (i : Nat) : (d.setUart n r).leg i = d.leg i := (rfl)
@[simp] theorem Dev.setUart_plan (n : Nat) (r : UartRec) (i : Nat) : (d.setUart n r).plan i = d.plan i := (rfl)
@[simp] theorem Dev.setUart_die (n : Nat) (r : UartRec) (i : Nat) : (d.setUart n r).die i = d.die i := (rfl)
@[simp] theorem Dev.setUart_gang (n : Nat) (r : UartRec) (i : Nat) : (d.setUart n r).gang i = d.gang i := (rfl)
@[simp] theorem Dev.setUart_frame (n : Nat) (r : UartRec) (i : Nat) : (d.setUart n r).frame i = d.frame i := (rfl)
@[simp] theorem Dev.setUart_axis (n : Nat) (r : UartRec) (i : Nat) : (d.setUart n r).axis i = d.axis i := (rfl)
@[simp] theorem Dev.setUart_conv (n : Nat) (r : UartRec) (i : Nat) : (d.setUart n r).conv i = d.conv i := (rfl)
@[simp] theorem Dev.setUart_fb (n : Nat) (r : UartRec) (i : Nat) : (d.setUart n r).fb i = d.fb i := (rfl)
@[simp] theorem Dev.setUart_can (n : Nat) (r : UartRec) (i : Nat) : (d.setUart n r).can i = d.can i := (rfl)
@[simp] theorem Dev.setUart_reg (n : Nat) (r : UartRec) (i : Nat) : (d.setUart n r).reg i = d.reg i := (rfl)
@[simp] theorem Dev.setUart_fld (n : Nat) (r : UartRec) (q : Nat) (g : Fld) : (d.setUart n r).fld q g = d.fld q g := (rfl)
@[simp] theorem Dev.setUart_sfld (n : Nat) (r : UartRec) (q : Nat) (g : Fld) : (d.setUart n r).sfld q g = d.sfld q g := (rfl)
@[simp] theorem Dev.setUart_on (n : Nat) (r : UartRec) (q : Nat) (g : Fld) : (d.setUart n r).on q g = d.on q g := (rfl)

/-! ### `Dev.setRost` -/

@[simp] theorem Dev.setRost_dom (f : RostRec → RostRec) (i : Nat) : (d.setRost f).dom i = d.dom i := (rfl)
@[simp] theorem Dev.setRost_wetAt (f : RostRec → RostRec) (i : Nat) : (d.setRost f).wetAt i = d.wetAt i := (rfl)
@[simp] theorem Dev.setRost_coatAt (f : RostRec → RostRec) (i : Nat) : (d.setRost f).coatAt i = d.coatAt i := (rfl)
@[simp] theorem Dev.setRost_leg (f : RostRec → RostRec) (i : Nat) : (d.setRost f).leg i = d.leg i := (rfl)
@[simp] theorem Dev.setRost_plan (f : RostRec → RostRec) (i : Nat) : (d.setRost f).plan i = d.plan i := (rfl)
@[simp] theorem Dev.setRost_die (f : RostRec → RostRec) (i : Nat) : (d.setRost f).die i = d.die i := (rfl)
@[simp] theorem Dev.setRost_gang (f : RostRec → RostRec) (i : Nat) : (d.setRost f).gang i = d.gang i := (rfl)
@[simp] theorem Dev.setRost_frame (f : RostRec → RostRec) (i : Nat) : (d.setRost f).frame i = d.frame i := (rfl)
@[simp] theorem Dev.setRost_axis (f : RostRec → RostRec) (i : Nat) : (d.setRost f).axis i = d.axis i := (rfl)
@[simp] theorem Dev.setRost_conv (f : RostRec → RostRec) (i : Nat) : (d.setRost f).conv i = d.conv i := (rfl)
@[simp] theorem Dev.setRost_fb (f : RostRec → RostRec) (i : Nat) : (d.setRost f).fb i = d.fb i := (rfl)
@[simp] theorem Dev.setRost_can (f : RostRec → RostRec) (i : Nat) : (d.setRost f).can i = d.can i := (rfl)
@[simp] theorem Dev.setRost_uart (f : RostRec → RostRec) (i : Nat) : (d.setRost f).uart i = d.uart i := (rfl)
@[simp] theorem Dev.setRost_reg (f : RostRec → RostRec) (i : Nat) : (d.setRost f).reg i = d.reg i := (rfl)
@[simp] theorem Dev.setRost_fld (f : RostRec → RostRec) (q : Nat) (g : Fld) : (d.setRost f).fld q g = d.fld q g := (rfl)
@[simp] theorem Dev.setRost_sfld (f : RostRec → RostRec) (q : Nat) (g : Fld) : (d.setRost f).sfld q g = d.sfld q g := (rfl)
@[simp] theorem Dev.setRost_on (f : RostRec → RostRec) (q : Nat) (g : Fld) : (d.setRost f).on q g = d.on q g := (rfl)

/-! ### `Dev.setSamp` -/

@[simp] theorem Dev.setSamp_dom (f : SampRec → SampRec) (i : Nat) : (d.setSamp f).dom i = d.dom i := (rfl)
@[simp] theorem Dev.setSamp_wetAt (f : SampRec → SampRec) (i : Nat) : (d.setSamp f).wetAt i = d.wetAt i := (rfl)
@[simp] theorem Dev.setSamp_coatAt (f : SampRec → SampRec) (i : Nat) : (d.setSamp f).coatAt i = d.coatAt i := (rfl)
@[simp] theorem Dev.setSamp_leg (f : SampRec → SampRec) (i : Nat) : (d.setSamp f).leg i = d.leg i := (rfl)
@[simp] theorem Dev.setSamp_plan (f : SampRec → SampRec) (i : Nat) : (d.setSamp f).plan i = d.plan i := (rfl)
@[simp] theorem Dev.setSamp_die (f : SampRec → SampRec) (i : Nat) : (d.setSamp f).die i = d.die i := (rfl)
@[simp] theorem Dev.setSamp_gang (f : SampRec → SampRec) (i : Nat) : (d.setSamp f).gang i = d.gang i := (rfl)
@[simp] theorem Dev.setSamp_frame (f : SampRec → SampRec) (i : Nat) : (d.setSamp f).frame i = d.frame i := (rfl)
@[simp] theorem Dev.setSamp_axis (f : SampRec → SampRec) (i : Nat) : (d.setSamp f).axis i = d.axis i := (rfl)
@[simp] theorem Dev.setSamp_conv (f : SampRec → SampRec) (i : Nat) : (d.setSamp f).conv i = d.conv i := (rfl)
@[simp] theorem Dev.setSamp_fb (f : SampRec → SampRec) (i : Nat) : (d.setSamp f).fb i = d.fb i := (rfl)
@[simp] theorem Dev.setSamp_can (f : SampRec → SampRec) (i : Nat) : (d.setSamp f).can i = d.can i := (rfl)
@[simp] theorem Dev.setSamp_uart (f : SampRec → SampRec) (i : Nat) : (d.setSamp f).uart i = d.uart i := (rfl)
@[simp] theorem Dev.setSamp_reg (f : SampRec → SampRec) (i : Nat) : (d.setSamp f).reg i = d.reg i := (rfl)
@[simp] theorem Dev.setSamp_fld (f : SampRec → SampRec) (q : Nat) (g : Fld) : (d.setSamp f).fld q g = d.fld q g := (rfl)
@[simp] theorem Dev.setSamp_sfld (f : SampRec → SampRec) (q : Nat) (g : Fld) : (d.setSamp f).sfld q g = d.sfld q g := (rfl)
@[simp] theorem Dev.setSamp_on (f : SampRec → SampRec) (q : Nat) (g : Fld) : (d.setSamp f).on q g = d.on q g := (rfl)

/-! ### `Dev.setEng` -/

@[simp] theorem Dev.setEng_dom (f : EngRec → EngRec) (i : Nat) : (d.setEng f).dom i = d.dom i := (rfl)
@[simp] theorem Dev.setEng_wetAt (f : EngRec → EngRec) (i : Nat) : (d.setEng f).wetAt i = d.wetAt i := (rfl)
@[simp] theorem Dev.setEng_coatAt (f : EngRec → EngRec) (i : Nat) : (d.setEng f).coatAt i = d.coatAt i := (rfl)
@[simp] theorem Dev.setEng_leg (f : EngRec → EngRec) (i : Nat) : (d.setEng f).leg i = d.leg i := (rfl)
@[simp] theorem Dev.setEng_plan (f : EngRec → EngRec) (i : Nat) : (d.setEng f).plan i = d.plan i := (rfl)
@[simp] theorem Dev.setEng_die (f : EngRec → EngRec) (i : Nat) : (d.setEng f).die i = d.die i := (rfl)
@[simp] theorem Dev.setEng_gang (f : EngRec → EngRec) (i : Nat) : (d.setEng f).gang i = d.gang i := (rfl)
@[simp] theorem Dev.setEng_frame (f : EngRec → EngRec) (i : Nat) : (d.setEng f).frame i = d.frame i := (rfl)
@[simp] theorem Dev.setEng_axis (f : EngRec → EngRec) (i : Nat) : (d.setEng f).axis i = d.axis i := (rfl)
@[simp] theorem Dev.setEng_conv (f : EngRec → EngRec) (i : Nat) : (d.setEng f).conv i = d.conv i := (rfl)
@[simp] theorem Dev.setEng_fb (f : EngRec → EngRec) (i : Nat) : (d.setEng f).fb i = d.fb i := (rfl)
@[simp] theorem Dev.setEng_can (f : EngRec → EngRec) (i : Nat) : (d.setEng f).can i = d.can i := (rfl)
@[simp] theorem Dev.setEng_uart (f : EngRec → EngRec) (i : Nat) : (d.setEng f).uart i = d.uart i := (rfl)
@[simp] theorem Dev.setEng_reg (f : EngRec → EngRec) (i : Nat) : (d.setEng f).reg i = d.reg i := (rfl)
@[simp] theorem Dev.setEng_fld (f : EngRec → EngRec) (q : Nat) (g : Fld) : (d.setEng f).fld q g = d.fld q g := (rfl)
@[simp] theorem Dev.setEng_sfld (f : EngRec → EngRec) (q : Nat) (g : Fld) : (d.setEng f).sfld q g = d.sfld q g := (rfl)
@[simp] theorem Dev.setEng_on (f : EngRec → EngRec) (q : Nat) (g : Fld) : (d.setEng f).on q g = d.on q g := (rfl)

/-! ### `Dev.setNight` -/

@[simp] theorem Dev.setNight_dom (f : NightRec → NightRec) (i : Nat) : (d.setNight f).dom i = d.dom i := (rfl)
@[simp] theorem Dev.setNight_wetAt (f : NightRec → NightRec) (i : Nat) : (d.setNight f).wetAt i = d.wetAt i := (rfl)
@[simp] theorem Dev.setNight_coatAt (f : NightRec → NightRec) (i : Nat) : (d.setNight f).coatAt i = d.coatAt i := (rfl)
@[simp] theorem Dev.setNight_leg (f : NightRec → NightRec) (i : Nat) : (d.setNight f).leg i = d.leg i := (rfl)
@[simp] theorem Dev.setNight_plan (f : NightRec → NightRec) (i : Nat) : (d.setNight f).plan i = d.plan i := (rfl)
@[simp] theorem Dev.setNight_die (f : NightRec → NightRec) (i : Nat) : (d.setNight f).die i = d.die i := (rfl)
@[simp] theorem Dev.setNight_gang (f : NightRec → NightRec) (i : Nat) : (d.setNight f).gang i = d.gang i := (rfl)
@[simp] theorem Dev.setNight_frame (f : NightRec → NightRec) (i : Nat) : (d.setNight f).frame i = d.frame i := (rfl)
@[simp] theorem Dev.setNight_axis (f : NightRec → NightRec) (i : Nat) : (d.setNight f).axis i = d.axis i := (rfl)
@[simp] theorem Dev.setNight_conv (f : NightRec → NightRec) (i : Nat) : (d.setNight f).conv i = d.conv i := (rfl)
@[simp] theorem Dev.setNight_fb (f : NightRec → NightRec) (i : Nat) : (d.setNight f).fb i = d.fb i := (rfl)
@[simp] theorem Dev.setNight_can (f : NightRec → NightRec) (i : Nat) : (d.setNight f).can i = d.can i := (rfl)
@[simp] theorem Dev.setNight_uart (f : NightRec → NightRec) (i : Nat) : (d.setNight f).uart i = d.uart i := (rfl)
@[simp] theorem Dev.setNight_reg (f : NightRec → NightRec) (i : Nat) : (d.setNight f).reg i = d.reg i := (rfl)
@[simp] theorem Dev.setNight_fld (f : NightRec → NightRec) (q : Nat) (g : Fld) : (d.setNight f).fld q g = d.fld q g := (rfl)
@[simp] theorem Dev.setNight_sfld (f : NightRec → NightRec) (q : Nat) (g : Fld) : (d.setNight f).sfld q g = d.sfld q g := (rfl)
@[simp] theorem Dev.setNight_on (f : NightRec → NightRec) (q : Nat) (g : Fld) : (d.setNight f).on q g = d.on q g := (rfl)

/-! ### `Dev.setSys` -/

@[simp] theorem Dev.setSys_dom (f : SysRec → SysRec) (i : Nat) : (d.setSys f).dom i = d.dom i := (rfl)
@[simp] theorem Dev.setSys_wetAt (f : SysRec → SysRec) (i : Nat) : (d.setSys f).wetAt i = d.wetAt i := (rfl)
@[simp] theorem Dev.setSys_coatAt (f : SysRec → SysRec) (i : Nat) : (d.setSys f).coatAt i = d.coatAt i := (rfl)
@[simp] theorem Dev.setSys_leg (f : SysRec → SysRec) (i : Nat) : (d.setSys f).leg i = d.leg i := (rfl)
@[simp] theorem Dev.setSys_plan (f : SysRec → SysRec) (i : Nat) : (d.setSys f).plan i = d.plan i := (rfl)
@[simp] theorem Dev.setSys_die (f : SysRec → SysRec) (i : Nat) : (d.setSys f).die i = d.die i := (rfl)
@[simp] theorem Dev.setSys_gang (f : SysRec → SysRec) (i : Nat) : (d.setSys f).gang i = d.gang i := (rfl)
@[simp] theorem Dev.setSys_frame (f : SysRec → SysRec) (i : Nat) : (d.setSys f).frame i = d.frame i := (rfl)
@[simp] theorem Dev.setSys_axis (f : SysRec → SysRec) (i : Nat) : (d.setSys f).axis i = d.axis i := (rfl)
@[simp] theorem Dev.setSys_conv (f : SysRec → SysRec) (i : Nat) : (d.setSys f).conv i = d.conv i := (rfl)
@[simp] theorem Dev.setSys_fb (f : SysRec → SysRec) (i : Nat) : (d.setSys f).fb i = d.fb i := (rfl)
@[simp] theorem Dev.setSys_can (f : SysRec → SysRec) (i : Nat) : (d.setSys f).can i = d.can i := (rfl)
@[simp] theorem Dev.setSys_uart (f : SysRec → SysRec) (i : Nat) : (d.setSys f).uart i = d.uart i := (rfl)
@[simp] theorem Dev.setSys_reg (f : SysRec → SysRec) (i : Nat) : (d.setSys f).reg i = d.reg i := (rfl)
@[simp] theorem Dev.setSys_fld (f : SysRec → SysRec) (q : Nat) (g : Fld) : (d.setSys f).fld q g = d.fld q g := (rfl)
@[simp] theorem Dev.setSys_sfld (f : SysRec → SysRec) (q : Nat) (g : Fld) : (d.setSys f).sfld q g = d.sfld q g := (rfl)
@[simp] theorem Dev.setSys_on (f : SysRec → SysRec) (q : Nat) (g : Fld) : (d.setSys f).on q g = d.on q g := (rfl)

/-! ### `Dev.setLink` -/

@[simp] theorem Dev.setLink_dom (f : LinkRec → LinkRec) (i : Nat) : (d.setLink f).dom i = d.dom i := (rfl)
@[simp] theorem Dev.setLink_wetAt (f : LinkRec → LinkRec) (i : Nat) : (d.setLink f).wetAt i = d.wetAt i := (rfl)
@[simp] theorem Dev.setLink_coatAt (f : LinkRec → LinkRec) (i : Nat) : (d.setLink f).coatAt i = d.coatAt i := (rfl)
@[simp] theorem Dev.setLink_leg (f : LinkRec → LinkRec) (i : Nat) : (d.setLink f).leg i = d.leg i := (rfl)
@[simp] theorem Dev.setLink_plan (f : LinkRec → LinkRec) (i : Nat) : (d.setLink f).plan i = d.plan i := (rfl)
@[simp] theorem Dev.setLink_die (f : LinkRec → LinkRec) (i : Nat) : (d.setLink f).die i = d.die i := (rfl)
@[simp] theorem Dev.setLink_gang (f : LinkRec → LinkRec) (i : Nat) : (d.setLink f).gang i = d.gang i := (rfl)
@[simp] theorem Dev.setLink_frame (f : LinkRec → LinkRec) (i : Nat) : (d.setLink f).frame i = d.frame i := (rfl)
@[simp] theorem Dev.setLink_axis (f : LinkRec → LinkRec) (i : Nat) : (d.setLink f).axis i = d.axis i := (rfl)
@[simp] theorem Dev.setLink_conv (f : LinkRec → LinkRec) (i : Nat) : (d.setLink f).conv i = d.conv i := (rfl)
@[simp] theorem Dev.setLink_fb (f : LinkRec → LinkRec) (i : Nat) : (d.setLink f).fb i = d.fb i := (rfl)
@[simp] theorem Dev.setLink_can (f : LinkRec → LinkRec) (i : Nat) : (d.setLink f).can i = d.can i := (rfl)
@[simp] theorem Dev.setLink_uart (f : LinkRec → LinkRec) (i : Nat) : (d.setLink f).uart i = d.uart i := (rfl)
@[simp] theorem Dev.setLink_reg (f : LinkRec → LinkRec) (i : Nat) : (d.setLink f).reg i = d.reg i := (rfl)
@[simp] theorem Dev.setLink_fld (f : LinkRec → LinkRec) (q : Nat) (g : Fld) : (d.setLink f).fld q g = d.fld q g := (rfl)
@[simp] theorem Dev.setLink_sfld (f : LinkRec → LinkRec) (q : Nat) (g : Fld) : (d.setLink f).sfld q g = d.sfld q g := (rfl)
@[simp] theorem Dev.setLink_on (f : LinkRec → LinkRec) (q : Nat) (g : Fld) : (d.setLink f).on q g = d.on q g := (rfl)

/-! ### `Dev.setAuth` -/

@[simp] theorem Dev.setAuth_dom (r : AuthRec) (i : Nat) : (d.setAuth r).dom i = d.dom i := (rfl)
@[simp] theorem Dev.setAuth_wetAt (r : AuthRec) (i : Nat) : (d.setAuth r).wetAt i = d.wetAt i := (rfl)
@[simp] theorem Dev.setAuth_coatAt (r : AuthRec) (i : Nat) : (d.setAuth r).coatAt i = d.coatAt i := (rfl)
@[simp] theorem Dev.setAuth_leg (r : AuthRec) (i : Nat) : (d.setAuth r).leg i = d.leg i := (rfl)
@[simp] theorem Dev.setAuth_plan (r : AuthRec) (i : Nat) : (d.setAuth r).plan i = d.plan i := (rfl)
@[simp] theorem Dev.setAuth_die (r : AuthRec) (i : Nat) : (d.setAuth r).die i = d.die i := (rfl)
@[simp] theorem Dev.setAuth_gang (r : AuthRec) (i : Nat) : (d.setAuth r).gang i = d.gang i := (rfl)
@[simp] theorem Dev.setAuth_frame (r : AuthRec) (i : Nat) : (d.setAuth r).frame i = d.frame i := (rfl)
@[simp] theorem Dev.setAuth_axis (r : AuthRec) (i : Nat) : (d.setAuth r).axis i = d.axis i := (rfl)
@[simp] theorem Dev.setAuth_conv (r : AuthRec) (i : Nat) : (d.setAuth r).conv i = d.conv i := (rfl)
@[simp] theorem Dev.setAuth_fb (r : AuthRec) (i : Nat) : (d.setAuth r).fb i = d.fb i := (rfl)
@[simp] theorem Dev.setAuth_can (r : AuthRec) (i : Nat) : (d.setAuth r).can i = d.can i := (rfl)
@[simp] theorem Dev.setAuth_uart (r : AuthRec) (i : Nat) : (d.setAuth r).uart i = d.uart i := (rfl)
@[simp] theorem Dev.setAuth_reg (r : AuthRec) (i : Nat) : (d.setAuth r).reg i = d.reg i := (rfl)
@[simp] theorem Dev.setAuth_fld (r : AuthRec) (q : Nat) (g : Fld) : (d.setAuth r).fld q g = d.fld q g := (rfl)
@[simp] theorem Dev.setAuth_sfld (r : AuthRec) (q : Nat) (g : Fld) : (d.setAuth r).sfld q g = d.sfld q g := (rfl)
@[simp] theorem Dev.setAuth_on (r : AuthRec) (q : Nat) (g : Fld) : (d.setAuth r).on q g = d.on q g := (rfl)

/-! ### `Dev.send` -/

@[simp] theorem Dev.send_dom (m : FaultMsg) (i : Nat) : (d.send m).dom i = d.dom i := (rfl)
@[simp] theorem Dev.send_wetAt (m : FaultMsg) (i : Nat) : (d.send m).wetAt i = d.wetAt i := (rfl)
@[simp] theorem Dev.send_coatAt (m : FaultMsg) (i : Nat) : (d.send m).coatAt i = d.coatAt i := (rfl)
@[simp] theorem Dev.send_leg (m : FaultMsg) (i : Nat) : (d.send m).leg i = d.leg i := (rfl)
@[simp] theorem Dev.send_plan (m : FaultMsg) (i : Nat) : (d.send m).plan i = d.plan i := (rfl)
@[simp] theorem Dev.send_die (m : FaultMsg) (i : Nat) : (d.send m).die i = d.die i := (rfl)
@[simp] theorem Dev.send_gang (m : FaultMsg) (i : Nat) : (d.send m).gang i = d.gang i := (rfl)
@[simp] theorem Dev.send_frame (m : FaultMsg) (i : Nat) : (d.send m).frame i = d.frame i := (rfl)
@[simp] theorem Dev.send_axis (m : FaultMsg) (i : Nat) : (d.send m).axis i = d.axis i := (rfl)
@[simp] theorem Dev.send_conv (m : FaultMsg) (i : Nat) : (d.send m).conv i = d.conv i := (rfl)
@[simp] theorem Dev.send_fb (m : FaultMsg) (i : Nat) : (d.send m).fb i = d.fb i := (rfl)
@[simp] theorem Dev.send_can (m : FaultMsg) (i : Nat) : (d.send m).can i = d.can i := (rfl)
@[simp] theorem Dev.send_uart (m : FaultMsg) (i : Nat) : (d.send m).uart i = d.uart i := (rfl)
@[simp] theorem Dev.send_reg (m : FaultMsg) (i : Nat) : (d.send m).reg i = d.reg i := (rfl)
@[simp] theorem Dev.send_fld (m : FaultMsg) (q : Nat) (g : Fld) : (d.send m).fld q g = d.fld q g := (rfl)
@[simp] theorem Dev.send_sfld (m : FaultMsg) (q : Nat) (g : Fld) : (d.send m).sfld q g = d.sfld q g := (rfl)
@[simp] theorem Dev.send_on (m : FaultMsg) (q : Nat) (g : Fld) : (d.send m).on q g = d.on q g := (rfl)

/-! ### `Dev.setFld` -/

@[simp] theorem Dev.setFld_dom (p : Nat) (f : Fld) (v : Nat) (i : Nat) : (d.setFld p f v).dom i = d.dom i := (rfl)
@[simp] theorem Dev.setFld_wetAt (p : Nat) (f : Fld) (v : Nat) (i : Nat) : (d.setFld p f v).wetAt i = d.wetAt i := (rfl)
@[simp] theorem Dev.setFld_coatAt (p : Nat) (f : Fld) (v : Nat) (i : Nat) : (d.setFld p f v).coatAt i = d.coatAt i := (rfl)
@[simp] theorem Dev.setFld_leg (p : Nat) (f : Fld) (v : Nat) (i : Nat) : (d.setFld p f v).leg i = d.leg i := (rfl)
@[simp] theorem Dev.setFld_plan (p : Nat) (f : Fld) (v : Nat) (i : Nat) : (d.setFld p f v).plan i = d.plan i := (rfl)
@[simp] theorem Dev.setFld_die (p : Nat) (f : Fld) (v : Nat) (i : Nat) : (d.setFld p f v).die i = d.die i := (rfl)
@[simp] theorem Dev.setFld_gang (p : Nat) (f : Fld) (v : Nat) (i : Nat) : (d.setFld p f v).gang i = d.gang i := (rfl)
@[simp] theorem Dev.setFld_frame (p : Nat) (f : Fld) (v : Nat) (i : Nat) : (d.setFld p f v).frame i = d.frame i := (rfl)
@[simp] theorem Dev.setFld_axis (p : Nat) (f : Fld) (v : Nat) (i : Nat) : (d.setFld p f v).axis i = d.axis i := (rfl)
@[simp] theorem Dev.setFld_conv (p : Nat) (f : Fld) (v : Nat) (i : Nat) : (d.setFld p f v).conv i = d.conv i := (rfl)
@[simp] theorem Dev.setFld_fb (p : Nat) (f : Fld) (v : Nat) (i : Nat) : (d.setFld p f v).fb i = d.fb i := (rfl)
@[simp] theorem Dev.setFld_can (p : Nat) (f : Fld) (v : Nat) (i : Nat) : (d.setFld p f v).can i = d.can i := (rfl)
@[simp] theorem Dev.setFld_uart (p : Nat) (f : Fld) (v : Nat) (i : Nat) : (d.setFld p f v).uart i = d.uart i := (rfl)

/-! ### `Dev.lower` -/

@[simp] theorem Dev.lower_dom (p : Nat) (f : Fld) (i : Nat) : (d.lower p f).dom i = d.dom i := (rfl)
@[simp] theorem Dev.lower_wetAt (p : Nat) (f : Fld) (i : Nat) : (d.lower p f).wetAt i = d.wetAt i := (rfl)
@[simp] theorem Dev.lower_coatAt (p : Nat) (f : Fld) (i : Nat) : (d.lower p f).coatAt i = d.coatAt i := (rfl)
@[simp] theorem Dev.lower_leg (p : Nat) (f : Fld) (i : Nat) : (d.lower p f).leg i = d.leg i := (rfl)
@[simp] theorem Dev.lower_plan (p : Nat) (f : Fld) (i : Nat) : (d.lower p f).plan i = d.plan i := (rfl)
@[simp] theorem Dev.lower_die (p : Nat) (f : Fld) (i : Nat) : (d.lower p f).die i = d.die i := (rfl)
@[simp] theorem Dev.lower_gang (p : Nat) (f : Fld) (i : Nat) : (d.lower p f).gang i = d.gang i := (rfl)
@[simp] theorem Dev.lower_frame (p : Nat) (f : Fld) (i : Nat) : (d.lower p f).frame i = d.frame i := (rfl)
@[simp] theorem Dev.lower_axis (p : Nat) (f : Fld) (i : Nat) : (d.lower p f).axis i = d.axis i := (rfl)
@[simp] theorem Dev.lower_conv (p : Nat) (f : Fld) (i : Nat) : (d.lower p f).conv i = d.conv i := (rfl)
@[simp] theorem Dev.lower_fb (p : Nat) (f : Fld) (i : Nat) : (d.lower p f).fb i = d.fb i := (rfl)
@[simp] theorem Dev.lower_can (p : Nat) (f : Fld) (i : Nat) : (d.lower p f).can i = d.can i := (rfl)
@[simp] theorem Dev.lower_uart (p : Nat) (f : Fld) (i : Nat) : (d.lower p f).uart i = d.uart i := (rfl)

/-! ### `Dev.wrapBump` -/

@[simp] theorem Dev.wrapBump_dom (p : Nat) (f : Fld) (i : Nat) : (d.wrapBump p f).dom i = d.dom i := (rfl)
@[simp] theorem Dev.wrapBump_wetAt (p : Nat) (f : Fld) (i : Nat) : (d.wrapBump p f).wetAt i = d.wetAt i := (rfl)
@[simp] theorem Dev.wrapBump_coatAt (p : Nat) (f : Fld) (i : Nat) : (d.wrapBump p f).coatAt i = d.coatAt i := (rfl)
@[simp] theorem Dev.wrapBump_leg (p : Nat) (f : Fld) (i : Nat) : (d.wrapBump p f).leg i = d.leg i := (rfl)
@[simp] theorem Dev.wrapBump_plan (p : Nat) (f : Fld) (i : Nat) : (d.wrapBump p f).plan i = d.plan i := (rfl)
@[simp] theorem Dev.wrapBump_die (p : Nat) (f : Fld) (i : Nat) : (d.wrapBump p f).die i = d.die i := (rfl)
@[simp] theorem Dev.wrapBump_gang (p : Nat) (f : Fld) (i : Nat) : (d.wrapBump p f).gang i = d.gang i := (rfl)
@[simp] theorem Dev.wrapBump_frame (p : Nat) (f : Fld) (i : Nat) : (d.wrapBump p f).frame i = d.frame i := (rfl)
@[simp] theorem Dev.wrapBump_axis (p : Nat) (f : Fld) (i : Nat) : (d.wrapBump p f).axis i = d.axis i := (rfl)
@[simp] theorem Dev.wrapBump_conv (p : Nat) (f : Fld) (i : Nat) : (d.wrapBump p f).conv i = d.conv i := (rfl)
@[simp] theorem Dev.wrapBump_fb (p : Nat) (f : Fld) (i : Nat) : (d.wrapBump p f).fb i = d.fb i := (rfl)
@[simp] theorem Dev.wrapBump_can (p : Nat) (f : Fld) (i : Nat) : (d.wrapBump p f).can i = d.can i := (rfl)
@[simp] theorem Dev.wrapBump_uart (p : Nat) (f : Fld) (i : Nat) : (d.wrapBump p f).uart i = d.uart i := (rfl)

/-! ### `Dev.wipe` -/

@[simp] theorem Dev.wipe_dom (a : Nat) (w : Word) (i : Nat) : (d.wipe a w).dom i = d.dom i := (rfl)
@[simp] theorem Dev.wipe_wetAt (a : Nat) (w : Word) (i : Nat) : (d.wipe a w).wetAt i = d.wetAt i := (rfl)
@[simp] theorem Dev.wipe_coatAt (a : Nat) (w : Word) (i : Nat) : (d.wipe a w).coatAt i = d.coatAt i := (rfl)
@[simp] theorem Dev.wipe_leg (a : Nat) (w : Word) (i : Nat) : (d.wipe a w).leg i = d.leg i := (rfl)
@[simp] theorem Dev.wipe_plan (a : Nat) (w : Word) (i : Nat) : (d.wipe a w).plan i = d.plan i := (rfl)
@[simp] theorem Dev.wipe_die (a : Nat) (w : Word) (i : Nat) : (d.wipe a w).die i = d.die i := (rfl)
@[simp] theorem Dev.wipe_gang (a : Nat) (w : Word) (i : Nat) : (d.wipe a w).gang i = d.gang i := (rfl)
@[simp] theorem Dev.wipe_frame (a : Nat) (w : Word) (i : Nat) : (d.wipe a w).frame i = d.frame i := (rfl)
@[simp] theorem Dev.wipe_axis (a : Nat) (w : Word) (i : Nat) : (d.wipe a w).axis i = d.axis i := (rfl)
@[simp] theorem Dev.wipe_conv (a : Nat) (w : Word) (i : Nat) : (d.wipe a w).conv i = d.conv i := (rfl)
@[simp] theorem Dev.wipe_fb (a : Nat) (w : Word) (i : Nat) : (d.wipe a w).fb i = d.fb i := (rfl)
@[simp] theorem Dev.wipe_can (a : Nat) (w : Word) (i : Nat) : (d.wipe a w).can i = d.can i := (rfl)
@[simp] theorem Dev.wipe_uart (a : Nat) (w : Word) (i : Nat) : (d.wipe a w).uart i = d.uart i := (rfl)

/-! ### `Dev.event` -/

@[simp] theorem Dev.event_dom (a : Nat) (f : Word → Word) (i : Nat) : (d.event a f).dom i = d.dom i := (rfl)
@[simp] theorem Dev.event_wetAt (a : Nat) (f : Word → Word) (i : Nat) : (d.event a f).wetAt i = d.wetAt i := (rfl)
@[simp] theorem Dev.event_coatAt (a : Nat) (f : Word → Word) (i : Nat) : (d.event a f).coatAt i = d.coatAt i := (rfl)
@[simp] theorem Dev.event_leg (a : Nat) (f : Word → Word) (i : Nat) : (d.event a f).leg i = d.leg i := (rfl)
@[simp] theorem Dev.event_plan (a : Nat) (f : Word → Word) (i : Nat) : (d.event a f).plan i = d.plan i := (rfl)
@[simp] theorem Dev.event_die (a : Nat) (f : Word → Word) (i : Nat) : (d.event a f).die i = d.die i := (rfl)
@[simp] theorem Dev.event_gang (a : Nat) (f : Word → Word) (i : Nat) : (d.event a f).gang i = d.gang i := (rfl)
@[simp] theorem Dev.event_frame (a : Nat) (f : Word → Word) (i : Nat) : (d.event a f).frame i = d.frame i := (rfl)
@[simp] theorem Dev.event_axis (a : Nat) (f : Word → Word) (i : Nat) : (d.event a f).axis i = d.axis i := (rfl)
@[simp] theorem Dev.event_conv (a : Nat) (f : Word → Word) (i : Nat) : (d.event a f).conv i = d.conv i := (rfl)
@[simp] theorem Dev.event_fb (a : Nat) (f : Word → Word) (i : Nat) : (d.event a f).fb i = d.fb i := (rfl)
@[simp] theorem Dev.event_can (a : Nat) (f : Word → Word) (i : Nat) : (d.event a f).can i = d.can i := (rfl)
@[simp] theorem Dev.event_uart (a : Nat) (f : Word → Word) (i : Nat) : (d.event a f).uart i = d.uart i := (rfl)

/-! ### `Dev.raise` -/

@[simp] theorem Dev.raise_dom (p : Nat) (f : Fld) (i : Nat) : (d.raise p f).dom i = d.dom i := (rfl)
@[simp] theorem Dev.raise_wetAt (p : Nat) (f : Fld) (i : Nat) : (d.raise p f).wetAt i = d.wetAt i := (rfl)
@[simp] theorem Dev.raise_coatAt (p : Nat) (f : Fld) (i : Nat) : (d.raise p f).coatAt i = d.coatAt i := (rfl)
@[simp] theorem Dev.raise_leg (p : Nat) (f : Fld) (i : Nat) : (d.raise p f).leg i = d.leg i := (rfl)
@[simp] theorem Dev.raise_plan (p : Nat) (f : Fld) (i : Nat) : (d.raise p f).plan i = d.plan i := (rfl)
@[simp] theorem Dev.raise_die (p : Nat) (f : Fld) (i : Nat) : (d.raise p f).die i = d.die i := (rfl)
@[simp] theorem Dev.raise_gang (p : Nat) (f : Fld) (i : Nat) : (d.raise p f).gang i = d.gang i := (rfl)
@[simp] theorem Dev.raise_frame (p : Nat) (f : Fld) (i : Nat) : (d.raise p f).frame i = d.frame i := (rfl)
@[simp] theorem Dev.raise_axis (p : Nat) (f : Fld) (i : Nat) : (d.raise p f).axis i = d.axis i := (rfl)
@[simp] theorem Dev.raise_conv (p : Nat) (f : Fld) (i : Nat) : (d.raise p f).conv i = d.conv i := (rfl)
@[simp] theorem Dev.raise_fb (p : Nat) (f : Fld) (i : Nat) : (d.raise p f).fb i = d.fb i := (rfl)
@[simp] theorem Dev.raise_can (p : Nat) (f : Fld) (i : Nat) : (d.raise p f).can i = d.can i := (rfl)
@[simp] theorem Dev.raise_uart (p : Nat) (f : Fld) (i : Nat) : (d.raise p f).uart i = d.uart i := (rfl)

/-! ### `Dev.bump` -/

@[simp] theorem Dev.bump_dom (p : Nat) (f : Fld) (i : Nat) : (d.bump p f).dom i = d.dom i := (rfl)
@[simp] theorem Dev.bump_wetAt (p : Nat) (f : Fld) (i : Nat) : (d.bump p f).wetAt i = d.wetAt i := (rfl)
@[simp] theorem Dev.bump_coatAt (p : Nat) (f : Fld) (i : Nat) : (d.bump p f).coatAt i = d.coatAt i := (rfl)
@[simp] theorem Dev.bump_leg (p : Nat) (f : Fld) (i : Nat) : (d.bump p f).leg i = d.leg i := (rfl)
@[simp] theorem Dev.bump_plan (p : Nat) (f : Fld) (i : Nat) : (d.bump p f).plan i = d.plan i := (rfl)
@[simp] theorem Dev.bump_die (p : Nat) (f : Fld) (i : Nat) : (d.bump p f).die i = d.die i := (rfl)
@[simp] theorem Dev.bump_gang (p : Nat) (f : Fld) (i : Nat) : (d.bump p f).gang i = d.gang i := (rfl)
@[simp] theorem Dev.bump_frame (p : Nat) (f : Fld) (i : Nat) : (d.bump p f).frame i = d.frame i := (rfl)
@[simp] theorem Dev.bump_axis (p : Nat) (f : Fld) (i : Nat) : (d.bump p f).axis i = d.axis i := (rfl)
@[simp] theorem Dev.bump_conv (p : Nat) (f : Fld) (i : Nat) : (d.bump p f).conv i = d.conv i := (rfl)
@[simp] theorem Dev.bump_fb (p : Nat) (f : Fld) (i : Nat) : (d.bump p f).fb i = d.fb i := (rfl)
@[simp] theorem Dev.bump_can (p : Nat) (f : Fld) (i : Nat) : (d.bump p f).can i = d.can i := (rfl)
@[simp] theorem Dev.bump_uart (p : Nat) (f : Fld) (i : Nat) : (d.bump p f).uart i = d.uart i := (rfl)

/-! ### `Dev.bumpBy` -/

@[simp] theorem Dev.bumpBy_dom (p : Nat) (f : Fld) (k : Nat) (i : Nat) : (d.bumpBy p f k).dom i = d.dom i := (rfl)
@[simp] theorem Dev.bumpBy_wetAt (p : Nat) (f : Fld) (k : Nat) (i : Nat) : (d.bumpBy p f k).wetAt i = d.wetAt i := (rfl)
@[simp] theorem Dev.bumpBy_coatAt (p : Nat) (f : Fld) (k : Nat) (i : Nat) : (d.bumpBy p f k).coatAt i = d.coatAt i := (rfl)
@[simp] theorem Dev.bumpBy_leg (p : Nat) (f : Fld) (k : Nat) (i : Nat) : (d.bumpBy p f k).leg i = d.leg i := (rfl)
@[simp] theorem Dev.bumpBy_plan (p : Nat) (f : Fld) (k : Nat) (i : Nat) : (d.bumpBy p f k).plan i = d.plan i := (rfl)
@[simp] theorem Dev.bumpBy_die (p : Nat) (f : Fld) (k : Nat) (i : Nat) : (d.bumpBy p f k).die i = d.die i := (rfl)
@[simp] theorem Dev.bumpBy_gang (p : Nat) (f : Fld) (k : Nat) (i : Nat) : (d.bumpBy p f k).gang i = d.gang i := (rfl)
@[simp] theorem Dev.bumpBy_frame (p : Nat) (f : Fld) (k : Nat) (i : Nat) : (d.bumpBy p f k).frame i = d.frame i := (rfl)
@[simp] theorem Dev.bumpBy_axis (p : Nat) (f : Fld) (k : Nat) (i : Nat) : (d.bumpBy p f k).axis i = d.axis i := (rfl)
@[simp] theorem Dev.bumpBy_conv (p : Nat) (f : Fld) (k : Nat) (i : Nat) : (d.bumpBy p f k).conv i = d.conv i := (rfl)
@[simp] theorem Dev.bumpBy_fb (p : Nat) (f : Fld) (k : Nat) (i : Nat) : (d.bumpBy p f k).fb i = d.fb i := (rfl)
@[simp] theorem Dev.bumpBy_can (p : Nat) (f : Fld) (k : Nat) (i : Nat) : (d.bumpBy p f k).can i = d.can i := (rfl)
@[simp] theorem Dev.bumpBy_uart (p : Nat) (f : Fld) (k : Nat) (i : Nat) : (d.bumpBy p f k).uart i = d.uart i := (rfl)

/-! ### `Dev.raiseBit` -/

@[simp] theorem Dev.raiseBit_dom (a j : Nat) (i : Nat) : (d.raiseBit a j).dom i = d.dom i := (rfl)
@[simp] theorem Dev.raiseBit_wetAt (a j : Nat) (i : Nat) : (d.raiseBit a j).wetAt i = d.wetAt i := (rfl)
@[simp] theorem Dev.raiseBit_coatAt (a j : Nat) (i : Nat) : (d.raiseBit a j).coatAt i = d.coatAt i := (rfl)
@[simp] theorem Dev.raiseBit_leg (a j : Nat) (i : Nat) : (d.raiseBit a j).leg i = d.leg i := (rfl)
@[simp] theorem Dev.raiseBit_plan (a j : Nat) (i : Nat) : (d.raiseBit a j).plan i = d.plan i := (rfl)
@[simp] theorem Dev.raiseBit_die (a j : Nat) (i : Nat) : (d.raiseBit a j).die i = d.die i := (rfl)
@[simp] theorem Dev.raiseBit_gang (a j : Nat) (i : Nat) : (d.raiseBit a j).gang i = d.gang i := (rfl)
@[simp] theorem Dev.raiseBit_frame (a j : Nat) (i : Nat) : (d.raiseBit a j).frame i = d.frame i := (rfl)
@[simp] theorem Dev.raiseBit_axis (a j : Nat) (i : Nat) : (d.raiseBit a j).axis i = d.axis i := (rfl)
@[simp] theorem Dev.raiseBit_conv (a j : Nat) (i : Nat) : (d.raiseBit a j).conv i = d.conv i := (rfl)
@[simp] theorem Dev.raiseBit_fb (a j : Nat) (i : Nat) : (d.raiseBit a j).fb i = d.fb i := (rfl)
@[simp] theorem Dev.raiseBit_can (a j : Nat) (i : Nat) : (d.raiseBit a j).can i = d.can i := (rfl)
@[simp] theorem Dev.raiseBit_uart (a j : Nat) (i : Nat) : (d.raiseBit a j).uart i = d.uart i := (rfl)

@[simp] theorem memPut_dom (a : Nat) (v : Byte) (i : Nat) : (memPut a v d).dom i = d.dom i := (rfl)
@[simp] theorem memPut_wetAt (a : Nat) (v : Byte) (i : Nat) : (memPut a v d).wetAt i = d.wetAt i := (rfl)
@[simp] theorem memPut_coatAt (a : Nat) (v : Byte) (i : Nat) : (memPut a v d).coatAt i = d.coatAt i := (rfl)
@[simp] theorem memPut_leg (a : Nat) (v : Byte) (i : Nat) : (memPut a v d).leg i = d.leg i := (rfl)
@[simp] theorem memPut_plan (a : Nat) (v : Byte) (i : Nat) : (memPut a v d).plan i = d.plan i := (rfl)
@[simp] theorem memPut_die (a : Nat) (v : Byte) (i : Nat) : (memPut a v d).die i = d.die i := (rfl)
@[simp] theorem memPut_gang (a : Nat) (v : Byte) (i : Nat) : (memPut a v d).gang i = d.gang i := (rfl)
@[simp] theorem memPut_frame (a : Nat) (v : Byte) (i : Nat) : (memPut a v d).frame i = d.frame i := (rfl)
@[simp] theorem memPut_axis (a : Nat) (v : Byte) (i : Nat) : (memPut a v d).axis i = d.axis i := (rfl)
@[simp] theorem memPut_conv (a : Nat) (v : Byte) (i : Nat) : (memPut a v d).conv i = d.conv i := (rfl)
@[simp] theorem memPut_fb (a : Nat) (v : Byte) (i : Nat) : (memPut a v d).fb i = d.fb i := (rfl)
@[simp] theorem memPut_can (a : Nat) (v : Byte) (i : Nat) : (memPut a v d).can i = d.can i := (rfl)
@[simp] theorem memPut_uart (a : Nat) (v : Byte) (i : Nat) : (memPut a v d).uart i = d.uart i := (rfl)
@[simp] theorem memPut_reg (a : Nat) (v : Byte) (i : Nat) : (memPut a v d).reg i = d.reg i := (rfl)

end Sys2Proof.Machine
end

