-- ==== Sys2Proof/Laws/Memory.lean ====
section
/-!
SUPPORT. Byte memory: its canonical form is the one of sparse maps, every memory operation keeps it, and a byte reads back
what was written to it while every other byte stays.
-/

namespace Sys2Proof.Machine

/-! ### The canonical form -/

theorem bne_zero (v : Byte) : (v != 0) = decide (v ≠ 0) := by
  rw [bne, Bool.not_eq_eq_eq_not, decide_not, Bool.not_not]
  rfl

theorem Memory.wf_cons_lt (a : Nat) (v : Byte) (m : List Host.Cell) :
    Memory.wf ((a, v) :: m) = (decide (v ≠ 0) && SMap.wfFrom blankByte (a + 1) m) := by
  induction m generalizing a v with
  | nil => exact (bne_zero v).trans (Bool.and_true _).symm
  | cons p m ih =>
    obtain ⟨b, w⟩ := p
    rw [Memory.wf, ih b w, bne_zero, Bool.and_assoc]
    exact congrArg (decide (v ≠ 0) && ·) (Bool.and_assoc _ _ _).symm

/-- The memory's form is the form of a sparse map of bytes. -/
theorem Memory.wf_iff (m : List Host.Cell) : Memory.wf m = SMap.wfFrom blankByte 0 m := by
  cases m with
  | nil => rfl
  | cons p m =>
    obtain ⟨a, v⟩ := p
    rw [Memory.wf_cons_lt]
    simp only [SMap.wfFrom, blankByte, Nat.zero_le, decide_true, Bool.true_and]
    rfl

theorem Memory.wf_sput (m : List Host.Cell) (a : Nat) (v : Byte) (h : Memory.wf m = true) :
    Memory.wf (sput blankByte m a v) = true := by
  rw [Memory.wf_iff] at *
  exact SMap.wfFrom_sput blankByte m a v h

theorem Memory.wf_filter (m : List Host.Cell) (p : Host.Cell → Bool) (h : Memory.wf m = true) :
    Memory.wf (m.filter p) = true := by
  rw [Memory.wf_iff] at *
  exact SMap.wfFrom_filter blankByte m p 0 h

/-- One byte written. -/
theorem memPut_wf (a : Nat) (v : Byte) (d : Dev) (h : Memory.wf d.mem = true) : Memory.wf (memPut a v d).mem = true :=
  Memory.wf_sput _ _ _ h

/-- Bytes written from an address up. -/
theorem memPutAll_wf (a : Nat) (bs : List Byte) (d : Dev) (h : Memory.wf d.mem = true) :
    Memory.wf (memPutAll a bs d).mem = true := by
  induction bs generalizing a d with
  | nil => exact h
  | cons b bs ih => exact ih (a + 1) (memPut a b d) (memPut_wf a b d h)

/-! ### Reads after writes -/

@[simp] theorem memByte_memPut (d : Dev) (a b : Nat) (v : Byte) :
    memByte (memPut a v d) b = if b = a then v else memByte d b := by
  simp [memByte]

/-- A block of bytes: the bytes written from `a` up, and every other byte as before. -/
theorem memByte_memPutAll (d : Dev) (a b : Nat) (bs : List Byte) :
    memByte (memPutAll a bs d) b = if a ≤ b ∧ b < a + bs.length then bs.getD (b - a) 0 else memByte d b := by
  induction bs generalizing a d with
  | nil => rw [memPutAll, if_neg (by rw [List.length_nil]; omega)]
  | cons x bs ih =>
    rw [memPutAll, ih, memByte_memPut, List.length_cons]
    by_cases h : b = a
    · subst h
      rw [if_neg (by omega), if_pos rfl, if_pos (by omega)]
      simp
    · by_cases h1 : a + 1 ≤ b ∧ b < a + 1 + bs.length
      · have h3 : b - a = (b - (a + 1)) + 1 := by omega
        rw [if_pos h1, if_pos (by omega), h3, List.getD_cons_succ]
      · rw [if_neg h1, if_neg h, if_neg (by omega)]

/-- A write of bytes changes memory alone. -/
theorem memPutAll_eq (a : Nat) (bs : List Byte) (d : Dev) : memPutAll a bs d = { d with mem := (memPutAll a bs d).mem } := by
  induction bs generalizing a d with
  | nil => rfl
  | cons b bs ih =>
    rw [memPutAll, ih]
    rfl

@[simp] theorem breakResv_mem (own : Option Nat) (a n : Nat) (d : Dev) : (breakResv own a n d).mem = d.mem := (rfl)

theorem bytesWord_wordBytes (w : Word) : bytesWord (wordBytes w) = w := by
  apply BitVec.eq_of_getLsbD_eq
  intro i hi
  simp only [wordBytes, bytesWord, BitVec.getLsbD_or, BitVec.getLsbD_setWidth, BitVec.getLsbD_extractLsb',
    BitVec.getLsbD_shiftLeft]
  rcases Nat.lt_or_ge i 8 with h | h
  · simp [h, hi]
  · rcases Nat.lt_or_ge i 16 with h1 | h1
    · have : i - 8 < 8 := by omega
      have e : 8 + (i - 8) = i := by omega
      have n : ¬ i < 8 := by omega
      have hb : i - 8 < 32 := by omega
      simp [hi, this, e, n, hb]
    · rcases Nat.lt_or_ge i 24 with h2 | h2
      · have e : 16 + (i - 8 - 8) = i := by omega
        have n : ¬ i < 8 := by omega
        have n1 : ¬ i - 8 < 8 := by omega
        have n2 : i - 8 - 8 < 8 := by omega
        have hb : i - 8 < 32 := by omega
        have hb1 : i - 8 - 8 < 32 := by omega
        simp [hi, e, n, n1, n2, hb, hb1]
      · have e : 24 + (i - 8 - 8 - 8) = i := by omega
        have n : ¬ i < 8 := by omega
        have n1 : ¬ i - 8 < 8 := by omega
        have n2 : ¬ i - 8 - 8 < 8 := by omega
        have n3 : i - 8 - 8 - 8 < 8 := by omega
        have hb : i - 8 < 32 := by omega
        have hb1 : i - 8 - 8 < 32 := by omega
        have hb2 : i - 8 - 8 - 8 < 32 := by omega
        simp [hi, e, n, n1, n2, n3, hb, hb1, hb2]

/-- A word written reads back (R7). -/
theorem memWord_memPutAll (d : Dev) (a : Nat) (w : Word) : memWord (memPutAll a (wordBytes w) d) a = w := by
  have e : memBytes (memPutAll a (wordBytes w) d) a 4 = wordBytes w := by
    simp [memBytes, List.range_succ, memByte_memPutAll, wordBytes]
  rw [memWord, e, bytesWord_wordBytes]

end Sys2Proof.Machine
end

