-- ==== Sys2Proof/Laws/Access.lean ====
section
/-!
SUPPORT. Accesses: where the pages lie, what a write to a page that R455 lets through does, and what one that it ignores
leaves.
-/

namespace Sys2Proof.Machine

/-! ### Where the pages lie (R434, R436) -/

theorem pageAt_system (a : Nat) (h : a < 0x41000000) :
    pageAt a = (systemPages.find? fun r => decide (r.base ≤ a) && decide (a < r.base + r.count * 0x1000)).map
      fun r => (r, (a - r.base) / 0x1000) := by
  simp [pageAt, h]

theorem pageAt_block (a : Nat) (h : 0x41000000 ≤ a) :
    pageAt a = (blockPages.find? fun r => decide (r.base ≤ a) && decide (a < r.base + r.count * 0x1000)).map
      fun r => (r, (a - r.base) / 0x1000) := by
  simp [pageAt, Nat.not_lt.mpr h]

theorem regionAt_page (a : Nat) (h : 0x40000000 ≤ a) : regionAt a = (pageAt a).map fun (r, i) => .page r.page i := by
  have h1 : ¬ a < 0x10000 := by omega
  have h2 : ¬ a < 0x40000 := by omega
  have h3 : ¬ a < 0x02010000 := by omega
  have h4 : ¬ a < 0x0C400000 := by omega
  have h5 : ¬ a < 0x0E400000 := by omega
  have h6 : ¬ a < 0x10200000 := by omega
  have h7 : ¬ a < 0x18080000 := by omega
  have h8 : ¬ a < 0x20800000 := by omega
  have h9 : ¬ a < 0x30030000 := by omega
  have h10 : ¬ a < 0x30060000 := by omega
  have h11 : ¬ a < 0x31040000 := by omega
  have h12 : ¬ a < 0x40000000 := by omega
  simp [regionAt, inSram, inDeputy, inMram, h1, h2, h3, h4, h5, h6, h7, h8, h9, h10, h11, h12]

theorem pageAt_leg (n off : Nat) (hn : n < 256) (ho : off < 0x1000) :
    pageAt (legP n + off) = some (⟨.leg, 0x41000000, 256, 0x01⟩, n) := by
  have e : (0x41000000 + n * 0x1000 + off - 0x41000000) / 0x1000 = n := by omega
  rw [pageAt_block _ (by unfold legP; omega), blockPages, legP, List.find?_cons_of_pos (by simp; omega)]
  simp [e]

theorem pageAt_gang (n off : Nat) (hn : n < 64) (ho : off < 0x1000) :
    pageAt (gangP n + off) = some (⟨.gang, 0x41100000, 64, 0x02⟩, n) := by
  have e : (0x41100000 + n * 0x1000 + off - 0x41100000) / 0x1000 = n := by omega
  rw [pageAt_block _ (by unfold gangP; omega), blockPages, gangP, List.find?_cons_of_neg (by simp; omega), List.find?_cons_of_pos (by simp; omega)]
  simp [e]

theorem pageAt_frame (n off : Nat) (hn : n < 16) (ho : off < 0x1000) :
    pageAt (frameP n + off) = some (⟨.frame, 0x41140000, 16, 0x03⟩, n) := by
  have e : (0x41140000 + n * 0x1000 + off - 0x41140000) / 0x1000 = n := by omega
  rw [pageAt_block _ (by unfold frameP; omega), blockPages, frameP, List.find?_cons_of_neg (by simp; omega), List.find?_cons_of_neg (by simp; omega), List.find?_cons_of_pos (by simp; omega)]
  simp [e]

theorem pageAt_axis (n off : Nat) (hn : n < 16) (ho : off < 0x1000) :
    pageAt (axisP n + off) = some (⟨.axis, 0x41150000, 16, 0x04⟩, n) := by
  have e : (0x41150000 + n * 0x1000 + off - 0x41150000) / 0x1000 = n := by omega
  rw [pageAt_block _ (by unfold axisP; omega), blockPages, axisP, List.find?_cons_of_neg (by simp; omega), List.find?_cons_of_neg (by simp; omega), List.find?_cons_of_neg (by simp; omega), List.find?_cons_of_pos (by simp; omega)]
  simp [e]

theorem pageAt_conv (n off : Nat) (hn : n < 16) (ho : off < 0x1000) :
    pageAt (convP n + off) = some (⟨.conv, 0x41160000, 16, 0x05⟩, n) := by
  have e : (0x41160000 + n * 0x1000 + off - 0x41160000) / 0x1000 = n := by omega
  rw [pageAt_block _ (by unfold convP; omega), blockPages, convP, List.find?_cons_of_neg (by simp; omega), List.find?_cons_of_neg (by simp; omega), List.find?_cons_of_neg (by simp; omega), List.find?_cons_of_neg (by simp; omega), List.find?_cons_of_pos (by simp; omega)]
  simp [e]

theorem pageAt_fb (n off : Nat) (hn : n < 16) (ho : off < 0x1000) :
    pageAt (fbP n + off) = some (⟨.fb, 0x41170000, 16, 0x06⟩, n) := by
  have e : (0x41170000 + n * 0x1000 + off - 0x41170000) / 0x1000 = n := by omega
  rw [pageAt_block _ (by unfold fbP; omega), blockPages, fbP, List.find?_cons_of_neg (by simp; omega), List.find?_cons_of_neg (by simp; omega), List.find?_cons_of_neg (by simp; omega), List.find?_cons_of_neg (by simp; omega), List.find?_cons_of_neg (by simp; omega), List.find?_cons_of_pos (by simp; omega)]
  simp [e]

theorem pageAt_slice (n off : Nat) (hn : n < 12) (ho : off < 0x1000) :
    pageAt (sliceP n + off) = some (⟨.slice, 0x41180000, 12, 0x07⟩, n) := by
  have e : (0x41180000 + n * 0x1000 + off - 0x41180000) / 0x1000 = n := by omega
  rw [pageAt_block _ (by unfold sliceP; omega), blockPages, sliceP, List.find?_cons_of_neg (by simp; omega), List.find?_cons_of_neg (by simp; omega), List.find?_cons_of_neg (by simp; omega), List.find?_cons_of_neg (by simp; omega), List.find?_cons_of_neg (by simp; omega), List.find?_cons_of_neg (by simp; omega), List.find?_cons_of_pos (by simp; omega)]
  simp [e]

theorem pageAt_ddie (n off : Nat) (hn : n < 4) (ho : off < 0x1000) :
    pageAt (ddieP n + off) = some (⟨.ddie, 0x42000000, 4, 0x08⟩, n) := by
  have e : (0x42000000 + n * 0x1000 + off - 0x42000000) / 0x1000 = n := by omega
  rw [pageAt_block _ (by unfold ddieP; omega), blockPages, ddieP, List.find?_cons_of_neg (by simp; omega), List.find?_cons_of_neg (by simp; omega), List.find?_cons_of_neg (by simp; omega), List.find?_cons_of_neg (by simp; omega), List.find?_cons_of_neg (by simp; omega), List.find?_cons_of_neg (by simp; omega), List.find?_cons_of_neg (by simp; omega), List.find?_cons_of_pos (by simp; omega)]
  simp [e]

theorem pageAt_top (off : Nat) (ho : off < 0x1000) :
    pageAt (topP + off) = some (⟨.top, 0x40000000, 1, 0x10⟩, 0) := by
  rw [pageAt_system _ (by unfold topP; omega), systemPages, topP, List.find?_cons_of_pos (by simp; omega)]
  simp [ho]

theorem pageAt_clk (off : Nat) (ho : off < 0x1000) :
    pageAt (clkP + off) = some (⟨.clk, 0x40001000, 1, 0x11⟩, 0) := by
  rw [pageAt_system _ (by unfold clkP; omega), systemPages, clkP, List.find?_cons_of_neg (by simp), List.find?_cons_of_pos (by simp; omega)]
  simp [ho]

theorem pageAt_pwr (off : Nat) (ho : off < 0x1000) :
    pageAt (pwrP + off) = some (⟨.pwr, 0x40002000, 1, 0x12⟩, 0) := by
  rw [pageAt_system _ (by unfold pwrP; omega), systemPages, pwrP, List.find?_cons_of_neg (by simp; omega), List.find?_cons_of_neg (by simp), List.find?_cons_of_pos (by simp; omega)]
  simp [ho]

theorem pageAt_flt (off : Nat) (ho : off < 0x1000) :
    pageAt (fltP + off) = some (⟨.flt, 0x40003000, 1, 0x13⟩, 0) := by
  rw [pageAt_system _ (by unfold fltP; omega), systemPages, fltP, List.find?_cons_of_neg (by simp; omega), List.find?_cons_of_neg (by simp; omega), List.find?_cons_of_neg (by simp), List.find?_cons_of_pos (by simp; omega)]
  simp [ho]

theorem pageAt_auth (off : Nat) (ho : off < 0x1000) :
    pageAt (authP + off) = some (⟨.auth, 0x40004000, 1, 0x14⟩, 0) := by
  rw [pageAt_system _ (by unfold authP; omega), systemPages, authP, List.find?_cons_of_neg (by simp; omega), List.find?_cons_of_neg (by simp; omega), List.find?_cons_of_neg (by simp; omega), List.find?_cons_of_neg (by simp), List.find?_cons_of_pos (by simp; omega)]
  simp [ho]

theorem pageAt_arb (off : Nat) (ho : off < 0x1000) :
    pageAt (arbP + off) = some (⟨.arb, 0x40005000, 1, 0x15⟩, 0) := by
  rw [pageAt_system _ (by unfold arbP; omega), systemPages, arbP, List.find?_cons_of_neg (by simp; omega), List.find?_cons_of_neg (by simp; omega), List.find?_cons_of_neg (by simp; omega), List.find?_cons_of_neg (by simp; omega), List.find?_cons_of_neg (by simp), List.find?_cons_of_pos (by simp; omega)]
  simp [ho]

theorem pageAt_nv (off : Nat) (ho : off < 0x1000) :
    pageAt (nvP + off) = some (⟨.nv, 0x40006000, 1, 0x16⟩, 0) := by
  rw [pageAt_system _ (by unfold nvP; omega), systemPages, nvP, List.find?_cons_of_neg (by simp; omega), List.find?_cons_of_neg (by simp; omega), List.find?_cons_of_neg (by simp; omega), List.find?_cons_of_neg (by simp; omega), List.find?_cons_of_neg (by simp; omega), List.find?_cons_of_neg (by simp), List.find?_cons_of_pos (by simp; omega)]
  simp [ho]

theorem pageAt_bg (off : Nat) (ho : off < 0x1000) :
    pageAt (bgP + off) = some (⟨.bg, 0x40007000, 1, 0x17⟩, 0) := by
  rw [pageAt_system _ (by unfold bgP; omega), systemPages, bgP, List.find?_cons_of_neg (by simp; omega), List.find?_cons_of_neg (by simp; omega), List.find?_cons_of_neg (by simp; omega), List.find?_cons_of_neg (by simp; omega), List.find?_cons_of_neg (by simp; omega), List.find?_cons_of_neg (by simp; omega), List.find?_cons_of_neg (by simp), List.find?_cons_of_pos (by simp; omega)]
  simp [ho]

theorem pageAt_link (off : Nat) (ho : off < 0x1000) :
    pageAt (linkP + off) = some (⟨.link, 0x40008000, 1, 0x18⟩, 0) := by
  rw [pageAt_system _ (by unfold linkP; omega), systemPages, linkP, List.find?_cons_of_neg (by simp; omega), List.find?_cons_of_neg (by simp; omega), List.find?_cons_of_neg (by simp; omega), List.find?_cons_of_neg (by simp; omega), List.find?_cons_of_neg (by simp; omega), List.find?_cons_of_neg (by simp; omega), List.find?_cons_of_neg (by simp; omega), List.find?_cons_of_neg (by simp), List.find?_cons_of_pos (by simp; omega)]
  simp [ho]

theorem pageAt_spi (off : Nat) (ho : off < 0x1000) :
    pageAt (spiP + off) = some (⟨.spi, 0x40009000, 1, 0x19⟩, 0) := by
  rw [pageAt_system _ (by unfold spiP; omega), systemPages, spiP, List.find?_cons_of_neg (by simp; omega), List.find?_cons_of_neg (by simp; omega), List.find?_cons_of_neg (by simp; omega), List.find?_cons_of_neg (by simp; omega), List.find?_cons_of_neg (by simp; omega), List.find?_cons_of_neg (by simp; omega), List.find?_cons_of_neg (by simp; omega), List.find?_cons_of_neg (by simp; omega), List.find?_cons_of_neg (by simp), List.find?_cons_of_pos (by simp; omega)]
  simp [ho]

theorem pageAt_can (n off : Nat) (hn : n < 2) (ho : off < 0x1000) :
    pageAt (canP n + off) = some (⟨.can, 0x4000A000, 2, 0x1A⟩, n) := by
  have e : (0x4000A000 + n * 0x1000 + off - 0x4000A000) / 0x1000 = n := by omega
  rw [pageAt_system _ (by unfold canP; omega), systemPages, canP, List.find?_cons_of_neg (by simp; omega), List.find?_cons_of_neg (by simp; omega), List.find?_cons_of_neg (by simp; omega), List.find?_cons_of_neg (by simp; omega), List.find?_cons_of_neg (by simp; omega), List.find?_cons_of_neg (by simp; omega), List.find?_cons_of_neg (by simp; omega), List.find?_cons_of_neg (by simp; omega), List.find?_cons_of_neg (by simp; omega), List.find?_cons_of_neg (by simp; omega), List.find?_cons_of_pos (by simp; omega)]
  simp [e]

theorem pageAt_uart (n off : Nat) (hn : n < 2) (ho : off < 0x1000) :
    pageAt (uartP n + off) = some (⟨.uart, 0x4000C000, 2, 0x1B⟩, n) := by
  have e : (0x4000C000 + n * 0x1000 + off - 0x4000C000) / 0x1000 = n := by omega
  rw [pageAt_system _ (by unfold uartP; omega), systemPages, uartP, List.find?_cons_of_neg (by simp; omega), List.find?_cons_of_neg (by simp; omega), List.find?_cons_of_neg (by simp; omega), List.find?_cons_of_neg (by simp; omega), List.find?_cons_of_neg (by simp; omega), List.find?_cons_of_neg (by simp; omega), List.find?_cons_of_neg (by simp; omega), List.find?_cons_of_neg (by simp; omega), List.find?_cons_of_neg (by simp; omega), List.find?_cons_of_neg (by simp; omega), List.find?_cons_of_neg (by simp; omega), List.find?_cons_of_pos (by simp; omega)]
  simp [e]

theorem pageAt_i2c (off : Nat) (ho : off < 0x1000) :
    pageAt (i2cP + off) = some (⟨.i2c, 0x4000E000, 1, 0x1C⟩, 0) := by
  rw [pageAt_system _ (by unfold i2cP; omega), systemPages, i2cP, List.find?_cons_of_neg (by simp; omega), List.find?_cons_of_neg (by simp; omega), List.find?_cons_of_neg (by simp; omega), List.find?_cons_of_neg (by simp; omega), List.find?_cons_of_neg (by simp; omega), List.find?_cons_of_neg (by simp; omega), List.find?_cons_of_neg (by simp; omega), List.find?_cons_of_neg (by simp; omega), List.find?_cons_of_neg (by simp; omega), List.find?_cons_of_neg (by simp; omega), List.find?_cons_of_neg (by simp; omega), List.find?_cons_of_neg (by simp), List.find?_cons_of_pos (by simp; omega)]
  simp [ho]

theorem pageAt_gpio (off : Nat) (ho : off < 0x1000) :
    pageAt (gpioP + off) = some (⟨.gpio, 0x4000F000, 1, 0x1D⟩, 0) := by
  rw [pageAt_system _ (by unfold gpioP; omega), systemPages, gpioP, List.find?_cons_of_neg (by simp; omega), List.find?_cons_of_neg (by simp; omega), List.find?_cons_of_neg (by simp; omega), List.find?_cons_of_neg (by simp; omega), List.find?_cons_of_neg (by simp; omega), List.find?_cons_of_neg (by simp; omega), List.find?_cons_of_neg (by simp; omega), List.find?_cons_of_neg (by simp; omega), List.find?_cons_of_neg (by simp; omega), List.find?_cons_of_neg (by simp; omega), List.find?_cons_of_neg (by simp; omega), List.find?_cons_of_neg (by simp; omega), List.find?_cons_of_neg (by simp), List.find?_cons_of_pos (by simp; omega)]
  simp [ho]

theorem pageAt_adc (off : Nat) (ho : off < 0x1000) :
    pageAt (adcP + off) = some (⟨.adc, 0x40010000, 1, 0x1E⟩, 0) := by
  rw [pageAt_system _ (by unfold adcP; omega), systemPages, adcP, List.find?_cons_of_neg (by simp; omega), List.find?_cons_of_neg (by simp; omega), List.find?_cons_of_neg (by simp; omega), List.find?_cons_of_neg (by simp; omega), List.find?_cons_of_neg (by simp; omega), List.find?_cons_of_neg (by simp; omega), List.find?_cons_of_neg (by simp; omega), List.find?_cons_of_neg (by simp; omega), List.find?_cons_of_neg (by simp; omega), List.find?_cons_of_neg (by simp; omega), List.find?_cons_of_neg (by simp; omega), List.find?_cons_of_neg (by simp; omega), List.find?_cons_of_neg (by simp; omega), List.find?_cons_of_neg (by simp), List.find?_cons_of_pos (by simp; omega)]
  simp [ho]

theorem pageAt_res (off : Nat) (ho : off < 0x1000) :
    pageAt (resP + off) = some (⟨.res, 0x40011000, 1, 0x1F⟩, 0) := by
  rw [pageAt_system _ (by unfold resP; omega), systemPages, resP, List.find?_cons_of_neg (by simp; omega), List.find?_cons_of_neg (by simp; omega), List.find?_cons_of_neg (by simp; omega), List.find?_cons_of_neg (by simp; omega), List.find?_cons_of_neg (by simp; omega), List.find?_cons_of_neg (by simp; omega), List.find?_cons_of_neg (by simp; omega), List.find?_cons_of_neg (by simp; omega), List.find?_cons_of_neg (by simp; omega), List.find?_cons_of_neg (by simp; omega), List.find?_cons_of_neg (by simp; omega), List.find?_cons_of_neg (by simp; omega), List.find?_cons_of_neg (by simp; omega), List.find?_cons_of_neg (by simp; omega), List.find?_cons_of_neg (by simp), List.find?_cons_of_pos (by simp; omega)]
  simp [ho]

theorem pageAt_eng (off : Nat) (ho : off < 0x1000) :
    pageAt (engP + off) = some (⟨.eng, 0x40012000, 1, 0x20⟩, 0) := by
  rw [pageAt_system _ (by unfold engP; omega), systemPages, engP, List.find?_cons_of_neg (by simp; omega), List.find?_cons_of_neg (by simp; omega), List.find?_cons_of_neg (by simp; omega), List.find?_cons_of_neg (by simp; omega), List.find?_cons_of_neg (by simp; omega), List.find?_cons_of_neg (by simp; omega), List.find?_cons_of_neg (by simp; omega), List.find?_cons_of_neg (by simp; omega), List.find?_cons_of_neg (by simp; omega), List.find?_cons_of_neg (by simp; omega), List.find?_cons_of_neg (by simp; omega), List.find?_cons_of_neg (by simp; omega), List.find?_cons_of_neg (by simp; omega), List.find?_cons_of_neg (by simp; omega), List.find?_cons_of_neg (by simp; omega), List.find?_cons_of_neg (by simp), List.find?_cons_of_pos (by simp; omega)]
  simp [ho]

theorem pageAt_rost (off : Nat) (ho : off < 0x1000) :
    pageAt (rostP + off) = some (⟨.rost, 0x40013000, 1, 0x21⟩, 0) := by
  rw [pageAt_system _ (by unfold rostP; omega), systemPages, rostP, List.find?_cons_of_neg (by simp; omega), List.find?_cons_of_neg (by simp; omega), List.find?_cons_of_neg (by simp; omega), List.find?_cons_of_neg (by simp; omega), List.find?_cons_of_neg (by simp; omega), List.find?_cons_of_neg (by simp; omega), List.find?_cons_of_neg (by simp; omega), List.find?_cons_of_neg (by simp; omega), List.find?_cons_of_neg (by simp; omega), List.find?_cons_of_neg (by simp; omega), List.find?_cons_of_neg (by simp; omega), List.find?_cons_of_neg (by simp; omega), List.find?_cons_of_neg (by simp; omega), List.find?_cons_of_neg (by simp; omega), List.find?_cons_of_neg (by simp; omega), List.find?_cons_of_neg (by simp; omega), List.find?_cons_of_neg (by simp), List.find?_cons_of_pos (by simp; omega)]
  simp [ho]

/-! ### Accesses to a page (R435, R455) -/

theorem wordAddr_at (a : Nat) (h : a < 2 ^ 32) (ha : a % 4 = 0) : wordAddr (BitVec.ofNat 32 a) = a := by
  simp only [wordAddr, BitVec.toNat_ofNat]
  omega

/-- A page other than the machine timer serves every requester. -/
theorem access_page (who : Requester) (a : Nat) (w : Bool) (r : PageRow) (i : Nat) (h : 0x40000000 ≤ a)
    (hp : pageAt a = some (r, i)) : access who a w = some (.page r.page i) := by
  simp [access, regionAt_page a h, hp, serves, Region.readOnly]

/-- R455: whether a write of a requester is ignored reads the page's side, the requester's side and the latches. -/
theorem blocked_page (d : Dev) (who : Requester) (a : Nat) (r : PageRow) (i : Nat) (hp : pageAt a = some (r, i)) :
    blocked d who a = (r.page.driveSide && sideOf who != 0 && stamp d != 0 && stamp d != sideOf who) := by
  simp [blocked, hp]

/-- R469: only a Hewer core is stalled, by its bit of SBMASK; its access waits and nothing else moves. -/
theorem stalled_other (d : Dev) (who : Requester) (h : ∀ c, who ≠ .hewer c) : stalled d who = none := by
  cases who <;> simp_all [stalled]

theorem stalled_hewer (d : Dev) (c : Fin 4) : stalled d (.hewer c) = if masked d c.val = true then some c else none := rfl

theorem busWrite_stalled (who : Requester) (a val : Word) (d : Dev) (c : Fin 4) (hs : stalled d who = some c) :
    busWrite who a val d = stall c (.write a val) d := by
  simp [busWrite, busWriteEnd, hs]

theorem busRead_stalled (who : Requester) (a : Word) (d : Dev) (c : Fin 4) (hs : stalled d who = some c) :
    busRead who a d = (none, stall c (.read a) d) := by
  simp [busRead, hs]

/-- A write to a page that R455 lets through acts on the page; the requester's answer follows. -/
theorem busWrite_page (who : Requester) (a : Nat) (val : Word) (d : Dev) (r : PageRow) (i : Nat) (h : 0x40000000 ≤ a)
    (h2 : a < 2 ^ 32) (ha : a % 4 = 0) (hp : pageAt a = some (r, i)) (hb : blocked d who a = false)
    (hs : stalled d who = none) :
    busWrite who (BitVec.ofNat 32 a) val d = answer who 0 false (pageWrite who r.page i a val d) := by
  simp [busWrite, busWriteEnd, hs, wordAddr_at a h2 ha, access_page who a true r i h hp, hb, regionWrite]

/-- A write that R455 ignores leaves the log of the AUTH page alone. -/
theorem busWrite_blocked (who : Requester) (a : Nat) (val : Word) (d : Dev) (r : PageRow) (i : Nat) (h : 0x40000000 ≤ a)
    (h2 : a < 2 ^ 32) (ha : a % 4 = 0) (hp : pageAt a = some (r, i)) (hb : blocked d who a = true)
    (hs : stalled d who = none) :
    busWrite who (BitVec.ofNat 32 a) val d = answer who 0 false (logBlocked who a d) := by
  simp [busWrite, busWriteEnd, hs, wordAddr_at a h2 ha, access_page who a true r i h hp, hb]

/-- An access that no region serves is a fault (R435). -/
theorem busWrite_fault (who : Requester) (a val : Word) (d : Dev) (h : access who (wordAddr a) true = none)
    (hs : stalled d who = none) : busWrite who a val d = accessFaultAt who d := by
  simp [busWrite, busWriteEnd, h, hs]

theorem busRead_fault (who : Requester) (a : Word) (d : Dev) (h : access who (wordAddr a) false = none)
    (hs : stalled d who = none) : busRead who a d = (none, accessFaultAt who d) := by
  simp [busRead, h, hs]

/-- A read of a page: no checker is on its way. -/
theorem busRead_page (who : Requester) (a : Nat) (d : Dev) (r : PageRow) (i : Nat) (h : 0x40000000 ≤ a)
    (h2 : a < 2 ^ 32) (ha : a % 4 = 0) (hp : pageAt a = some (r, i)) (hs : stalled d who = none) :
    busRead who (BitVec.ofNat 32 a) d =
      (some (pageRead who r.page i a d).1, answer who (pageRead who r.page i a d).1 false (pageRead who r.page i a d).2) := by
  simp [busRead, hs, wordAddr_at a h2 ha, access_page who a false r i h hp, injRead, checker, regionRead]

/-- A write past the header of a page. -/
theorem pageWrite_body (who : Requester) (p : Page) (i a : Nat) (val : Word) (d : Dev) (h : 0x040 ≤ a % 0x1000) :
    pageWrite who p i a val d = bodyWrite who p i a val d := by
  have : ¬ a % 0x1000 < 0x040 := by omega
  simp [pageWrite, this]

theorem bodyWrite_special {who : Requester} {p : Page} {i a : Nat} {val : Word} {d e : Dev}
    (h : specialWrite who p i (a % 0x1000) val d = some e) : bodyWrite who p i a val d = e := by
  simp [bodyWrite, h]

theorem bodyWrite_code {who : Requester} {p : Page} {i a : Nat} {val : Word} {d : Dev} {acc : Acc}
    (h : specialWrite who p i (a % 0x1000) val d = none) (h2 : accAt p (a % 0x1000) = some acc) :
    bodyWrite who p i a val d = codeWrite a acc val d := by
  simp [bodyWrite, h, h2]

/-- A write to the header of a page. -/
theorem pageWrite_header (who : Requester) (p : Page) (i a : Nat) (val : Word) (d : Dev) (hp : p ≠ .mtime)
    (h : a % 0x1000 < 0x040) : pageWrite who p i a val d = headerWrite (pageBase a) (a % 0x1000) val d := by
  simp [pageWrite, h, hp]

/-! ### What an answer leaves alone -/

@[simp] theorem answer_now (who : Requester) (w : Word) (bad : Bool) (d : Dev) : (answer who w bad d).now = d.now := (rfl)
@[simp] theorem answer_free (who : Requester) (w : Word) (bad : Bool) (d : Dev) : (answer who w bad d).free = d.free := (rfl)
@[simp] theorem answer_mode (who : Requester) (w : Word) (bad : Bool) (d : Dev) : (answer who w bad d).mode = d.mode := (rfl)
@[simp] theorem answer_regs (who : Requester) (w : Word) (bad : Bool) (d : Dev) : (answer who w bad d).regs = d.regs := (rfl)
@[simp] theorem answer_events (who : Requester) (w : Word) (bad : Bool) (d : Dev) : (answer who w bad d).events = d.events := (rfl)
@[simp] theorem answer_wet (who : Requester) (w : Word) (bad : Bool) (d : Dev) : (answer who w bad d).wet = d.wet := (rfl)
@[simp] theorem answer_coat2 (who : Requester) (w : Word) (bad : Bool) (d : Dev) : (answer who w bad d).coat2 = d.coat2 := (rfl)
@[simp] theorem answer_cast (who : Requester) (w : Word) (bad : Bool) (d : Dev) : (answer who w bad d).cast = d.cast := (rfl)
@[simp] theorem answer_mem (who : Requester) (w : Word) (bad : Bool) (d : Dev) : (answer who w bad d).mem = d.mem := (rfl)
@[simp] theorem answer_pairs (who : Requester) (w : Word) (bad : Bool) (d : Dev) : (answer who w bad d).pairs = d.pairs := (rfl)
@[simp] theorem answer_lows (who : Requester) (w : Word) (bad : Bool) (d : Dev) : (answer who w bad d).lows = d.lows := (rfl)
@[simp] theorem answer_newer (who : Requester) (w : Word) (bad : Bool) (d : Dev) : (answer who w bad d).newer = d.newer := (rfl)
@[simp] theorem answer_commit (who : Requester) (w : Word) (bad : Bool) (d : Dev) : (answer who w bad d).commit = d.commit := (rfl)
@[simp] theorem answer_legs (who : Requester) (w : Word) (bad : Bool) (d : Dev) : (answer who w bad d).legs = d.legs := (rfl)
@[simp] theorem answer_plans (who : Requester) (w : Word) (bad : Bool) (d : Dev) : (answer who w bad d).plans = d.plans := (rfl)
@[simp] theorem answer_dies (who : Requester) (w : Word) (bad : Bool) (d : Dev) : (answer who w bad d).dies = d.dies := (rfl)
@[simp] theorem answer_gangs (who : Requester) (w : Word) (bad : Bool) (d : Dev) : (answer who w bad d).gangs = d.gangs := (rfl)
@[simp] theorem answer_frames (who : Requester) (w : Word) (bad : Bool) (d : Dev) : (answer who w bad d).frames = d.frames := (rfl)
@[simp] theorem answer_axes (who : Requester) (w : Word) (bad : Bool) (d : Dev) : (answer who w bad d).axes = d.axes := (rfl)
@[simp] theorem answer_convs (who : Requester) (w : Word) (bad : Bool) (d : Dev) : (answer who w bad d).convs = d.convs := (rfl)
@[simp] theorem answer_auth (who : Requester) (w : Word) (bad : Bool) (d : Dev) : (answer who w bad d).auth = d.auth := (rfl)
@[simp] theorem answer_flt (who : Requester) (w : Word) (bad : Bool) (d : Dev) : (answer who w bad d).flt = d.flt := (rfl)
@[simp] theorem answer_fbs (who : Requester) (w : Word) (bad : Bool) (d : Dev) : (answer who w bad d).fbs = d.fbs := (rfl)
@[simp] theorem answer_rost (who : Requester) (w : Word) (bad : Bool) (d : Dev) : (answer who w bad d).rost = d.rost := (rfl)
@[simp] theorem answer_samp (who : Requester) (w : Word) (bad : Bool) (d : Dev) : (answer who w bad d).samp = d.samp := (rfl)
@[simp] theorem answer_eng (who : Requester) (w : Word) (bad : Bool) (d : Dev) : (answer who w bad d).eng = d.eng := (rfl)
@[simp] theorem answer_night (who : Requester) (w : Word) (bad : Bool) (d : Dev) : (answer who w bad d).night = d.night := (rfl)
@[simp] theorem answer_sys (who : Requester) (w : Word) (bad : Bool) (d : Dev) : (answer who w bad d).sys = d.sys := (rfl)
@[simp] theorem answer_arb (who : Requester) (w : Word) (bad : Bool) (d : Dev) : (answer who w bad d).arb = d.arb := (rfl)
@[simp] theorem answer_spi (who : Requester) (w : Word) (bad : Bool) (d : Dev) : (answer who w bad d).spi = d.spi := (rfl)
@[simp] theorem answer_cans (who : Requester) (w : Word) (bad : Bool) (d : Dev) : (answer who w bad d).cans = d.cans := (rfl)
@[simp] theorem answer_uarts (who : Requester) (w : Word) (bad : Bool) (d : Dev) : (answer who w bad d).uarts = d.uarts := (rfl)
@[simp] theorem answer_link (who : Requester) (w : Word) (bad : Bool) (d : Dev) : (answer who w bad d).link = d.link := (rfl)
@[simp] theorem answer_timers (who : Requester) (w : Word) (bad : Bool) (d : Dev) : (answer who w bad d).timers = d.timers := (rfl)

@[simp] theorem answer_reg (who : Requester) (w : Word) (bad : Bool) (d : Dev) (a : Nat) : (answer who w bad d).reg a = d.reg a := (rfl)

/-- The word that the requester's latest access answered, and whether it was a fault. -/
theorem answer_resp (who : Requester) (w : Word) (bad : Bool) (d : Dev) :
    sget noWord0 (answer who w bad d).resp (requesterId who) = w ∧
      sget (fun _ => false) (answer who w bad d).afault (requesterId who) = bad := by
  simp [answer]

end Sys2Proof.Machine
end

