-- ==== Sys2Proof/Laws/Run.lean ====
section
/-!
SUPPORT. What the wrappers of the meanings do: a command answers a next state, its queue stays, and its effect is the
operation it names where the device is awake.
-/

namespace Sys2Proof.Machine

theorem act_awake {s : State} {f : Dev → Dev} (h : awake s.dev = true) : act s f = .next (s.put (f s.dev)) := by
  simp [act, h]

theorem act_asleep {s : State} {f : Dev → Dev} (h : awake s.dev = false) : act s f = .next s := by
  simp [act, h, State.put]

theorem act_next (s : State) (f : Dev → Dev) : ∃ d, act s f = .next (s.put d) := ⟨_, rfl⟩

theorem onDie_awake {s : State} {f : Dev → Dev} (h : asleep s.dev = false) : onDie s f = .next (s.put (f s.dev)) := by
  simp [onDie, h]

theorem onDie_next (s : State) (f : Dev → Dev) : ∃ d, onDie s f = .next (s.put d) := ⟨_, rfl⟩

theorem always_next (s : State) (f : Dev → Dev) : ∃ d, always s f = .next (s.put d) := ⟨_, rfl⟩

@[simp] theorem checked_true (o : Out) : checked true o = o := (rfl)
@[simp] theorem checked_false (o : Out) : checked false o = .fault .illFormed := (rfl)

@[simp] theorem State.put_dev (s : State) (d : Dev) : (s.put d).dev = d := (rfl)
@[simp] theorem State.put_pending (s : State) (d : Dev) : (s.put d).pending = s.pending := (rfl)
@[simp] theorem State.put_put (s : State) (d e : Dev) : (s.put d).put e = s.put e := (rfl)

/-- `awake` reads the mode and the system record. -/
theorem awake_congr {d e : Dev} (h1 : e.sys = d.sys) (h2 : e.mode = d.mode) : awake e = awake d := by
  simp [awake, asleep, h1, h2]

/-! ### The step -/

theorem step_cons (d : Dev) (c : Instr) (cs : List Instr) : step ⟨d, c :: cs⟩ = exec c ⟨d, cs⟩ := rfl

theorem step_nil (d : Dev) : step ⟨d, []⟩ = .next ⟨tick d, []⟩ := rfl

end Sys2Proof.Machine
end

