-- ==== Sys2Proof/Laws/Writes.lean ====
section
/-!
SUPPORT. A write to a register of each page, as the meanings make it: past the header it goes to the page's own meaning or to
its access code, and the requester's answer follows. Writes to the pages of the drive side act for whom R455 lets through.
-/

namespace Sys2Proof.Machine

theorem blocked_hears {d : Dev} {who : Requester} {a i : Nat} {r : PageRow} (hp : pageAt a = some (r, i)) (h : d.hears who) :
    blocked d who a = false := by
  rw [blocked_page d who a r i hp]
  rcases h with h | h | h <;> simp [h]

theorem blocked_plain {d : Dev} {who : Requester} {a i : Nat} {r : PageRow} (hp : pageAt a = some (r, i))
    (h : r.page.driveSide = false) : blocked d who a = false := by
  rw [blocked_page d who a r i hp, h]
  simp

/-- A write past the header of a page, where R455 does not ignore it. -/
theorem busWrite_body (who : Requester) (a : Nat) (val : Word) (d : Dev) (r : PageRow) (i : Nat) (h : 0x40000000 ≤ a)
    (h2 : a < 2 ^ 32) (ha : a % 4 = 0) (h40 : 0x040 ≤ a % 0x1000) (hp : pageAt a = some (r, i))
    (hb : blocked d who a = false) (hs : stalled d who = none) :
    busWrite who (at_ a) val d = answer who 0 false (bodyWrite who r.page i a val d) := by
  rw [at_, busWrite_page who a val d r i h h2 ha hp hb hs, pageWrite_body _ _ _ _ _ _ h40]


theorem write_leg (who : Requester) (n off : Nat) (val : Word) (d : Dev) (hn : n < 256) (ho : off < 0x1000)
    (h4 : off % 4 = 0) (h40 : 0x040 ≤ off) (h : d.hears who) (hs : stalled d who = none) :
    busWrite who (at_ (legP n + off)) val d = answer who 0 false (bodyWrite who .leg n (legP n + off) val d) :=
  busWrite_body who _ val d _ n (by unfold legP; omega) (by unfold legP; omega) (by unfold legP; omega)
    (by unfold legP; omega) (pageAt_leg n off hn ho) (blocked_hears (pageAt_leg n off hn ho) h) hs

theorem write_gang (who : Requester) (n off : Nat) (val : Word) (d : Dev) (hn : n < 64) (ho : off < 0x1000)
    (h4 : off % 4 = 0) (h40 : 0x040 ≤ off) (h : d.hears who) (hs : stalled d who = none) :
    busWrite who (at_ (gangP n + off)) val d = answer who 0 false (bodyWrite who .gang n (gangP n + off) val d) :=
  busWrite_body who _ val d _ n (by unfold gangP; omega) (by unfold gangP; omega) (by unfold gangP; omega)
    (by unfold gangP; omega) (pageAt_gang n off hn ho) (blocked_hears (pageAt_gang n off hn ho) h) hs

theorem write_frame (who : Requester) (n off : Nat) (val : Word) (d : Dev) (hn : n < 16) (ho : off < 0x1000)
    (h4 : off % 4 = 0) (h40 : 0x040 ≤ off) (h : d.hears who) (hs : stalled d who = none) :
    busWrite who (at_ (frameP n + off)) val d = answer who 0 false (bodyWrite who .frame n (frameP n + off) val d) :=
  busWrite_body who _ val d _ n (by unfold frameP; omega) (by unfold frameP; omega) (by unfold frameP; omega)
    (by unfold frameP; omega) (pageAt_frame n off hn ho) (blocked_hears (pageAt_frame n off hn ho) h) hs

theorem write_axis (who : Requester) (n off : Nat) (val : Word) (d : Dev) (hn : n < 16) (ho : off < 0x1000)
    (h4 : off % 4 = 0) (h40 : 0x040 ≤ off) (h : d.hears who) (hs : stalled d who = none) :
    busWrite who (at_ (axisP n + off)) val d = answer who 0 false (bodyWrite who .axis n (axisP n + off) val d) :=
  busWrite_body who _ val d _ n (by unfold axisP; omega) (by unfold axisP; omega) (by unfold axisP; omega)
    (by unfold axisP; omega) (pageAt_axis n off hn ho) (blocked_hears (pageAt_axis n off hn ho) h) hs

theorem write_conv (who : Requester) (n off : Nat) (val : Word) (d : Dev) (hn : n < 16) (ho : off < 0x1000)
    (h4 : off % 4 = 0) (h40 : 0x040 ≤ off) (h : d.hears who) (hs : stalled d who = none) :
    busWrite who (at_ (convP n + off)) val d = answer who 0 false (bodyWrite who .conv n (convP n + off) val d) :=
  busWrite_body who _ val d _ n (by unfold convP; omega) (by unfold convP; omega) (by unfold convP; omega)
    (by unfold convP; omega) (pageAt_conv n off hn ho) (blocked_hears (pageAt_conv n off hn ho) h) hs

theorem write_fb (who : Requester) (n off : Nat) (val : Word) (d : Dev) (hn : n < 16) (ho : off < 0x1000)
    (h4 : off % 4 = 0) (h40 : 0x040 ≤ off) (h : d.hears who) (hs : stalled d who = none) :
    busWrite who (at_ (fbP n + off)) val d = answer who 0 false (bodyWrite who .fb n (fbP n + off) val d) :=
  busWrite_body who _ val d _ n (by unfold fbP; omega) (by unfold fbP; omega) (by unfold fbP; omega)
    (by unfold fbP; omega) (pageAt_fb n off hn ho) (blocked_hears (pageAt_fb n off hn ho) h) hs

theorem write_ddie (who : Requester) (n off : Nat) (val : Word) (d : Dev) (hn : n < 4) (ho : off < 0x1000)
    (h4 : off % 4 = 0) (h40 : 0x040 ≤ off) (h : d.hears who) (hs : stalled d who = none) :
    busWrite who (at_ (ddieP n + off)) val d = answer who 0 false (bodyWrite who .ddie n (ddieP n + off) val d) :=
  busWrite_body who _ val d _ n (by unfold ddieP; omega) (by unfold ddieP; omega) (by unfold ddieP; omega)
    (by unfold ddieP; omega) (pageAt_ddie n off hn ho) (blocked_hears (pageAt_ddie n off hn ho) h) hs

theorem write_slice (who : Requester) (n off : Nat) (val : Word) (d : Dev) (hn : n < 12) (ho : off < 0x1000)
    (h4 : off % 4 = 0) (h40 : 0x040 ≤ off) (hs : stalled d who = none) :
    busWrite who (at_ (sliceP n + off)) val d = answer who 0 false (bodyWrite who .slice n (sliceP n + off) val d) :=
  busWrite_body who _ val d _ n (by unfold sliceP; omega) (by unfold sliceP; omega) (by unfold sliceP; omega)
    (by unfold sliceP; omega) (pageAt_slice n off hn ho) (blocked_plain (pageAt_slice n off hn ho) rfl) hs

theorem write_can (who : Requester) (n off : Nat) (val : Word) (d : Dev) (hn : n < 2) (ho : off < 0x1000)
    (h4 : off % 4 = 0) (h40 : 0x040 ≤ off) (hs : stalled d who = none) :
    busWrite who (at_ (canP n + off)) val d = answer who 0 false (bodyWrite who .can n (canP n + off) val d) :=
  busWrite_body who _ val d _ n (by unfold canP; omega) (by unfold canP; omega) (by unfold canP; omega)
    (by unfold canP; omega) (pageAt_can n off hn ho) (blocked_plain (pageAt_can n off hn ho) rfl) hs

theorem write_uart (who : Requester) (n off : Nat) (val : Word) (d : Dev) (hn : n < 2) (ho : off < 0x1000)
    (h4 : off % 4 = 0) (h40 : 0x040 ≤ off) (hs : stalled d who = none) :
    busWrite who (at_ (uartP n + off)) val d = answer who 0 false (bodyWrite who .uart n (uartP n + off) val d) :=
  busWrite_body who _ val d _ n (by unfold uartP; omega) (by unfold uartP; omega) (by unfold uartP; omega)
    (by unfold uartP; omega) (pageAt_uart n off hn ho) (blocked_plain (pageAt_uart n off hn ho) rfl) hs

theorem write_top (who : Requester) (off : Nat) (val : Word) (d : Dev) (ho : off < 0x1000) (h4 : off % 4 = 0)
    (h40 : 0x040 ≤ off) (hs : stalled d who = none) :
    busWrite who (at_ (topP + off)) val d = answer who 0 false (bodyWrite who .top 0 (topP + off) val d) :=
  busWrite_body who _ val d _ 0 (by unfold topP; omega) (by unfold topP; omega) (by unfold topP; omega)
    (by unfold topP; omega) (pageAt_top off ho) (blocked_plain (pageAt_top off ho) rfl) hs

theorem write_clk (who : Requester) (off : Nat) (val : Word) (d : Dev) (ho : off < 0x1000) (h4 : off % 4 = 0)
    (h40 : 0x040 ≤ off) (hs : stalled d who = none) :
    busWrite who (at_ (clkP + off)) val d = answer who 0 false (bodyWrite who .clk 0 (clkP + off) val d) :=
  busWrite_body who _ val d _ 0 (by unfold clkP; omega) (by unfold clkP; omega) (by unfold clkP; omega)
    (by unfold clkP; omega) (pageAt_clk off ho) (blocked_plain (pageAt_clk off ho) rfl) hs

theorem write_pwr (who : Requester) (off : Nat) (val : Word) (d : Dev) (ho : off < 0x1000) (h4 : off % 4 = 0)
    (h40 : 0x040 ≤ off) (hs : stalled d who = none) :
    busWrite who (at_ (pwrP + off)) val d = answer who 0 false (bodyWrite who .pwr 0 (pwrP + off) val d) :=
  busWrite_body who _ val d _ 0 (by unfold pwrP; omega) (by unfold pwrP; omega) (by unfold pwrP; omega)
    (by unfold pwrP; omega) (pageAt_pwr off ho) (blocked_plain (pageAt_pwr off ho) rfl) hs

theorem write_flt (who : Requester) (off : Nat) (val : Word) (d : Dev) (ho : off < 0x1000) (h4 : off % 4 = 0)
    (h40 : 0x040 ≤ off) (hs : stalled d who = none) :
    busWrite who (at_ (fltP + off)) val d = answer who 0 false (bodyWrite who .flt 0 (fltP + off) val d) :=
  busWrite_body who _ val d _ 0 (by unfold fltP; omega) (by unfold fltP; omega) (by unfold fltP; omega)
    (by unfold fltP; omega) (pageAt_flt off ho) (blocked_plain (pageAt_flt off ho) rfl) hs

theorem write_auth (who : Requester) (off : Nat) (val : Word) (d : Dev) (ho : off < 0x1000) (h4 : off % 4 = 0)
    (h40 : 0x040 ≤ off) (hs : stalled d who = none) :
    busWrite who (at_ (authP + off)) val d = answer who 0 false (bodyWrite who .auth 0 (authP + off) val d) :=
  busWrite_body who _ val d _ 0 (by unfold authP; omega) (by unfold authP; omega) (by unfold authP; omega)
    (by unfold authP; omega) (pageAt_auth off ho) (blocked_plain (pageAt_auth off ho) rfl) hs

theorem write_arb (who : Requester) (off : Nat) (val : Word) (d : Dev) (ho : off < 0x1000) (h4 : off % 4 = 0)
    (h40 : 0x040 ≤ off) (hs : stalled d who = none) :
    busWrite who (at_ (arbP + off)) val d = answer who 0 false (bodyWrite who .arb 0 (arbP + off) val d) :=
  busWrite_body who _ val d _ 0 (by unfold arbP; omega) (by unfold arbP; omega) (by unfold arbP; omega)
    (by unfold arbP; omega) (pageAt_arb off ho) (blocked_plain (pageAt_arb off ho) rfl) hs

theorem write_nv (who : Requester) (off : Nat) (val : Word) (d : Dev) (ho : off < 0x1000) (h4 : off % 4 = 0)
    (h40 : 0x040 ≤ off) (hs : stalled d who = none) :
    busWrite who (at_ (nvP + off)) val d = answer who 0 false (bodyWrite who .nv 0 (nvP + off) val d) :=
  busWrite_body who _ val d _ 0 (by unfold nvP; omega) (by unfold nvP; omega) (by unfold nvP; omega)
    (by unfold nvP; omega) (pageAt_nv off ho) (blocked_plain (pageAt_nv off ho) rfl) hs

theorem write_bg (who : Requester) (off : Nat) (val : Word) (d : Dev) (ho : off < 0x1000) (h4 : off % 4 = 0)
    (h40 : 0x040 ≤ off) (hs : stalled d who = none) :
    busWrite who (at_ (bgP + off)) val d = answer who 0 false (bodyWrite who .bg 0 (bgP + off) val d) :=
  busWrite_body who _ val d _ 0 (by unfold bgP; omega) (by unfold bgP; omega) (by unfold bgP; omega)
    (by unfold bgP; omega) (pageAt_bg off ho) (blocked_plain (pageAt_bg off ho) rfl) hs

theorem write_link (who : Requester) (off : Nat) (val : Word) (d : Dev) (ho : off < 0x1000) (h4 : off % 4 = 0)
    (h40 : 0x040 ≤ off) (hs : stalled d who = none) :
    busWrite who (at_ (linkP + off)) val d = answer who 0 false (bodyWrite who .link 0 (linkP + off) val d) :=
  busWrite_body who _ val d _ 0 (by unfold linkP; omega) (by unfold linkP; omega) (by unfold linkP; omega)
    (by unfold linkP; omega) (pageAt_link off ho) (blocked_plain (pageAt_link off ho) rfl) hs

theorem write_spi (who : Requester) (off : Nat) (val : Word) (d : Dev) (ho : off < 0x1000) (h4 : off % 4 = 0)
    (h40 : 0x040 ≤ off) (hs : stalled d who = none) :
    busWrite who (at_ (spiP + off)) val d = answer who 0 false (bodyWrite who .spi 0 (spiP + off) val d) :=
  busWrite_body who _ val d _ 0 (by unfold spiP; omega) (by unfold spiP; omega) (by unfold spiP; omega)
    (by unfold spiP; omega) (pageAt_spi off ho) (blocked_plain (pageAt_spi off ho) rfl) hs

theorem write_i2c (who : Requester) (off : Nat) (val : Word) (d : Dev) (ho : off < 0x1000) (h4 : off % 4 = 0)
    (h40 : 0x040 ≤ off) (hs : stalled d who = none) :
    busWrite who (at_ (i2cP + off)) val d = answer who 0 false (bodyWrite who .i2c 0 (i2cP + off) val d) :=
  busWrite_body who _ val d _ 0 (by unfold i2cP; omega) (by unfold i2cP; omega) (by unfold i2cP; omega)
    (by unfold i2cP; omega) (pageAt_i2c off ho) (blocked_plain (pageAt_i2c off ho) rfl) hs

theorem write_gpio (who : Requester) (off : Nat) (val : Word) (d : Dev) (ho : off < 0x1000) (h4 : off % 4 = 0)
    (h40 : 0x040 ≤ off) (hs : stalled d who = none) :
    busWrite who (at_ (gpioP + off)) val d = answer who 0 false (bodyWrite who .gpio 0 (gpioP + off) val d) :=
  busWrite_body who _ val d _ 0 (by unfold gpioP; omega) (by unfold gpioP; omega) (by unfold gpioP; omega)
    (by unfold gpioP; omega) (pageAt_gpio off ho) (blocked_plain (pageAt_gpio off ho) rfl) hs

theorem write_adc (who : Requester) (off : Nat) (val : Word) (d : Dev) (ho : off < 0x1000) (h4 : off % 4 = 0)
    (h40 : 0x040 ≤ off) (hs : stalled d who = none) :
    busWrite who (at_ (adcP + off)) val d = answer who 0 false (bodyWrite who .adc 0 (adcP + off) val d) :=
  busWrite_body who _ val d _ 0 (by unfold adcP; omega) (by unfold adcP; omega) (by unfold adcP; omega)
    (by unfold adcP; omega) (pageAt_adc off ho) (blocked_plain (pageAt_adc off ho) rfl) hs

theorem write_res (who : Requester) (off : Nat) (val : Word) (d : Dev) (ho : off < 0x1000) (h4 : off % 4 = 0)
    (h40 : 0x040 ≤ off) (hs : stalled d who = none) :
    busWrite who (at_ (resP + off)) val d = answer who 0 false (bodyWrite who .res 0 (resP + off) val d) :=
  busWrite_body who _ val d _ 0 (by unfold resP; omega) (by unfold resP; omega) (by unfold resP; omega)
    (by unfold resP; omega) (pageAt_res off ho) (blocked_plain (pageAt_res off ho) rfl) hs

theorem write_eng (who : Requester) (off : Nat) (val : Word) (d : Dev) (ho : off < 0x1000) (h4 : off % 4 = 0)
    (h40 : 0x040 ≤ off) (hs : stalled d who = none) :
    busWrite who (at_ (engP + off)) val d = answer who 0 false (bodyWrite who .eng 0 (engP + off) val d) :=
  busWrite_body who _ val d _ 0 (by unfold engP; omega) (by unfold engP; omega) (by unfold engP; omega)
    (by unfold engP; omega) (pageAt_eng off ho) (blocked_plain (pageAt_eng off ho) rfl) hs

theorem write_rost (who : Requester) (off : Nat) (val : Word) (d : Dev) (ho : off < 0x1000) (h4 : off % 4 = 0)
    (h40 : 0x040 ≤ off) (hs : stalled d who = none) :
    busWrite who (at_ (rostP + off)) val d = answer who 0 false (bodyWrite who .rost 0 (rostP + off) val d) :=
  busWrite_body who _ val d _ 0 (by unfold rostP; omega) (by unfold rostP; omega) (by unfold rostP; omega)
    (by unfold rostP; omega) (pageAt_rost off ho) (blocked_plain (pageAt_rost off ho) rfl) hs

theorem legP_mod (n off : Nat) (ho : off < 0x1000) : (legP n + off) % 0x1000 = off := by unfold legP; omega

theorem gangP_mod (n off : Nat) (ho : off < 0x1000) : (gangP n + off) % 0x1000 = off := by unfold gangP; omega

theorem frameP_mod (n off : Nat) (ho : off < 0x1000) : (frameP n + off) % 0x1000 = off := by unfold frameP; omega

theorem axisP_mod (n off : Nat) (ho : off < 0x1000) : (axisP n + off) % 0x1000 = off := by unfold axisP; omega

theorem convP_mod (n off : Nat) (ho : off < 0x1000) : (convP n + off) % 0x1000 = off := by unfold convP; omega

theorem fbP_mod (n off : Nat) (ho : off < 0x1000) : (fbP n + off) % 0x1000 = off := by unfold fbP; omega

theorem ddieP_mod (n off : Nat) (ho : off < 0x1000) : (ddieP n + off) % 0x1000 = off := by unfold ddieP; omega

theorem sliceP_mod (n off : Nat) (ho : off < 0x1000) : (sliceP n + off) % 0x1000 = off := by unfold sliceP; omega

theorem canP_mod (n off : Nat) (ho : off < 0x1000) : (canP n + off) % 0x1000 = off := by unfold canP; omega

theorem uartP_mod (n off : Nat) (ho : off < 0x1000) : (uartP n + off) % 0x1000 = off := by unfold uartP; omega

theorem topP_mod (off : Nat) (ho : off < 0x1000) : (topP + off) % 0x1000 = off := by unfold topP; omega

theorem clkP_mod (off : Nat) (ho : off < 0x1000) : (clkP + off) % 0x1000 = off := by unfold clkP; omega

theorem pwrP_mod (off : Nat) (ho : off < 0x1000) : (pwrP + off) % 0x1000 = off := by unfold pwrP; omega

theorem fltP_mod (off : Nat) (ho : off < 0x1000) : (fltP + off) % 0x1000 = off := by unfold fltP; omega

theorem authP_mod (off : Nat) (ho : off < 0x1000) : (authP + off) % 0x1000 = off := by unfold authP; omega

theorem arbP_mod (off : Nat) (ho : off < 0x1000) : (arbP + off) % 0x1000 = off := by unfold arbP; omega

theorem nvP_mod (off : Nat) (ho : off < 0x1000) : (nvP + off) % 0x1000 = off := by unfold nvP; omega

theorem bgP_mod (off : Nat) (ho : off < 0x1000) : (bgP + off) % 0x1000 = off := by unfold bgP; omega

theorem linkP_mod (off : Nat) (ho : off < 0x1000) : (linkP + off) % 0x1000 = off := by unfold linkP; omega

theorem spiP_mod (off : Nat) (ho : off < 0x1000) : (spiP + off) % 0x1000 = off := by unfold spiP; omega

theorem i2cP_mod (off : Nat) (ho : off < 0x1000) : (i2cP + off) % 0x1000 = off := by unfold i2cP; omega

theorem gpioP_mod (off : Nat) (ho : off < 0x1000) : (gpioP + off) % 0x1000 = off := by unfold gpioP; omega

theorem adcP_mod (off : Nat) (ho : off < 0x1000) : (adcP + off) % 0x1000 = off := by unfold adcP; omega

theorem resP_mod (off : Nat) (ho : off < 0x1000) : (resP + off) % 0x1000 = off := by unfold resP; omega

theorem engP_mod (off : Nat) (ho : off < 0x1000) : (engP + off) % 0x1000 = off := by unfold engP; omega

theorem rostP_mod (off : Nat) (ho : off < 0x1000) : (rostP + off) % 0x1000 = off := by unfold rostP; omega

end Sys2Proof.Machine
end

