-- ==== Sys2Proof/Laws/DriveDie.lean ====
section
/-!
SUPPORT. The drive dies' shared operations: what the gates do, what forcing a die off leaves, and what a command that a die
accepts changes before it acts.
-/

namespace Sys2Proof.Machine

/-! ### Gates -/

theorem drive_eq (n : Nat) (g : Gate) (v : Bool) (d : Dev) : drive n g v d = { d with legs := (drive n g v d).legs } := rfl

theorem drive_ne (n m : Nat) (g : Gate) (v : Bool) (d : Dev) (h : m ≠ n) : (drive n g v d).leg m = d.leg m := by
  simp [drive, h]

/-- The gate moved takes the value, the other gate stays. -/
theorem drive_gates (n : Nat) (g : Gate) (v : Bool) (d : Dev) :
    ((drive n g v d).leg n).gh = (match g with | .gh => v | .gl => (d.leg n).gh) ∧
      ((drive n g v d).leg n).gl = (match g with | .gl => v | .gh => (d.leg n).gl) := by
  cases g <;> simp only [drive, Dev.leg_setLeg, if_true] <;> constructor <;> split <;> simp_all

/-- Nothing of the leg but its gates, its kept edges and its blanking window changes. -/
theorem drive_leg (n : Nat) (g : Gate) (v : Bool) (d : Dev) :
    (drive n g v d).leg n = { d.leg n with
      gh := ((drive n g v d).leg n).gh, gl := ((drive n g v d).leg n).gl, outs := ((drive n g v d).leg n).outs,
      blankEnd := ((drive n g v d).leg n).blankEnd } := by
  cases g <;> simp only [drive, Dev.leg_setLeg, if_true] <;> split <;> rfl

theorem gatesOff_eq (n : Nat) (d : Dev) : gatesOff n d = { d with legs := (gatesOff n d).legs } := rfl

theorem gatesOff_ne (n m : Nat) (d : Dev) (h : m ≠ n) : (gatesOff n d).leg m = d.leg m := by
  simp [gatesOff, drive, h]

theorem gatesOff_off (n : Nat) (d : Dev) : (gatesOff n d).legOff n := by
  simp only [gatesOff, drive, Dev.legOff, Dev.leg_setLeg, if_true]
  refine ⟨?_, ?_, trivial⟩ <;> (split <;> split <;> simp_all)

/-- A leg forced off keeps everything but its gates, its wait, its kept edges and its blanking window. -/
theorem gatesOff_leg (n : Nat) (d : Dev) :
    (gatesOff n d).leg n = { d.leg n with
      gh := false, gl := false, wait := none, outs := ((gatesOff n d).leg n).outs, blankEnd := ((gatesOff n d).leg n).blankEnd } := by
  simp only [gatesOff, drive, Dev.leg_setLeg, if_true]
  split <;> split <;> simp_all

/-- A loop keeps what each of its rounds keeps. -/
theorem each_keep {α : Type} (π : Dev → α) {f : Nat → Dev → Dev} (l : List Nat) (d : Dev) (h : ∀ n x, π (f n x) = π x) :
    π (each l f d) = π d := by
  induction l generalizing d with
  | nil => rfl
  | cons a l ih => exact (ih (f a d)).trans (h a d)

theorem each_gatesOff (l : List Nat) (d : Dev) :
    (∃ ls, each l gatesOff d = { d with legs := ls }) ∧
      (∀ n, n ∈ l → (each l gatesOff d).legOff n) ∧ (∀ n, n ∉ l → (each l gatesOff d).leg n = d.leg n) := by
  induction l generalizing d with
  | nil => exact ⟨⟨d.legs, rfl⟩, by simp, fun _ _ => rfl⟩
  | cons a l ih =>
    have e : each (a :: l) gatesOff d = each l gatesOff (gatesOff a d) := rfl
    obtain ⟨⟨ls, h1⟩, h2, h3⟩ := ih (gatesOff a d)
    rw [e]
    obtain ⟨l2, h4⟩ : ∃ l2, gatesOff a d = { d with legs := l2 } := ⟨_, gatesOff_eq a d⟩
    refine ⟨⟨ls, by rw [h1, h4]⟩, fun n hn => ?_, fun n hn => ?_⟩
    · by_cases h : n ∈ l
      · exact h2 n h
      · have : n = a := by simpa [h] using hn
        subst this
        unfold Dev.legOff
        rw [h3 n h]
        exact gatesOff_off n d
    · have h' : n ∉ l := fun q => hn (by simp [q])
      have h : n ≠ a := fun q => hn (by simp [q])
      rw [h3 n h', gatesOff_ne a n d h]

/-- Forcing a die low turns off its 64 legs and touches nothing else. -/
theorem dieOff_spec (k : Nat) (d : Dev) :
    (∃ ls, dieOff k d = { d with legs := ls }) ∧ (dieOff k d).dieLow k ∧
      ∀ n, n / 64 ≠ k → (dieOff k d).leg n = d.leg n := by
  obtain ⟨h1, h2, h3⟩ := each_gatesOff ((List.range 64).map (64 * k + ·)) d
  refine ⟨h1, fun n hn => h2 n ?_, fun n hn => h3 n ?_⟩
  · simp only [List.mem_map, List.mem_range]
    exact ⟨n % 64, by omega, by omega⟩
  · simp only [List.mem_map, List.mem_range]
    rintro ⟨a, ha, rfl⟩
    omega

/-! ### Messages and commands on a link -/

/-- A message of a die whose link works goes under way. -/
theorem sendDie_up (k : Nat) (m : FaultMsg) (d : Dev) (h : (d.die k).link = true) : sendDie k m d = d.send m := by
  simp [sendDie, h]

/-- What a die that accepts a command takes from it before it acts (R18, R19, R454). -/
def taken (k : Nat) (d : Dev) : Dev :=
  d.setDie k { d.die k with holder := stamp d, lastSent := d.now, lastValid := d.now, wdPend := false }

theorem carry_accepts {d : Dev} {k : Nat} (h : d.accepts k) (hp : (d.die k).wdPend = false) :
    carry k true d = (taken k d, true) := by
  obtain ⟨h1, h2, h3, h4⟩ := h
  have h5 : ¬ ((d.die k).holder ≠ 0 ∧ stamp d ≠ (d.die k).holder) := by
    rintro ⟨a, b⟩
    rcases h4 with h4 | h4
    · exact a h4
    · exact b h4
  simp [carry, h1, h2, h3, h5, hp, taken]

/-- A command that a die accepts acts on what `taken` leaves. -/
theorem carried_accepts {d : Dev} {k : Nat} (f : Dev → Dev) (h : d.accepts k) (hp : (d.die k).wdPend = false) :
    carried k true d f = f (taken k d) := by
  simp [carried, carry_accepts h hp]

theorem taken_eq (k : Nat) (d : Dev) : taken k d = { d with dies := (taken k d).dies } := rfl

@[simp] theorem taken_leg (k n : Nat) (d : Dev) : (taken k d).leg n = d.leg n := by simp [taken]

@[simp] theorem taken_reg (k a : Nat) (d : Dev) : (taken k d).reg a = d.reg a := by simp [taken]

@[simp] theorem taken_die (k j : Nat) (d : Dev) : (taken k d).die j =
    if j = k then { d.die k with holder := stamp d, lastSent := d.now, lastValid := d.now, wdPend := false } else d.die j := by
  simp [taken]

/-! ### What they leave alone -/

@[simp] theorem drive_now (n : Nat) (g : Gate) (v : Bool) (d : Dev) : (drive n g v d).now = d.now := by simp [drive]
@[simp] theorem drive_free (n : Nat) (g : Gate) (v : Bool) (d : Dev) : (drive n g v d).free = d.free := by simp [drive]
@[simp] theorem drive_mode (n : Nat) (g : Gate) (v : Bool) (d : Dev) : (drive n g v d).mode = d.mode := by simp [drive]
@[simp] theorem drive_regs (n : Nat) (g : Gate) (v : Bool) (d : Dev) : (drive n g v d).regs = d.regs := by simp [drive]
@[simp] theorem drive_events (n : Nat) (g : Gate) (v : Bool) (d : Dev) : (drive n g v d).events = d.events := by simp [drive]
@[simp] theorem drive_wet (n : Nat) (g : Gate) (v : Bool) (d : Dev) : (drive n g v d).wet = d.wet := by simp [drive]
@[simp] theorem drive_coat2 (n : Nat) (g : Gate) (v : Bool) (d : Dev) : (drive n g v d).coat2 = d.coat2 := by simp [drive]
@[simp] theorem drive_cast (n : Nat) (g : Gate) (v : Bool) (d : Dev) : (drive n g v d).cast = d.cast := by simp [drive]
@[simp] theorem drive_mem (n : Nat) (g : Gate) (v : Bool) (d : Dev) : (drive n g v d).mem = d.mem := by simp [drive]
@[simp] theorem drive_pairs (n : Nat) (g : Gate) (v : Bool) (d : Dev) : (drive n g v d).pairs = d.pairs := by simp [drive]
@[simp] theorem drive_lows (n : Nat) (g : Gate) (v : Bool) (d : Dev) : (drive n g v d).lows = d.lows := by simp [drive]
@[simp] theorem drive_newer (n : Nat) (g : Gate) (v : Bool) (d : Dev) : (drive n g v d).newer = d.newer := by simp [drive]
@[simp] theorem drive_resp (n : Nat) (g : Gate) (v : Bool) (d : Dev) : (drive n g v d).resp = d.resp := by simp [drive]
@[simp] theorem drive_afault (n : Nat) (g : Gate) (v : Bool) (d : Dev) : (drive n g v d).afault = d.afault := by simp [drive]
@[simp] theorem drive_commit (n : Nat) (g : Gate) (v : Bool) (d : Dev) : (drive n g v d).commit = d.commit := by simp [drive]
@[simp] theorem drive_plans (n : Nat) (g : Gate) (v : Bool) (d : Dev) : (drive n g v d).plans = d.plans := by simp [drive]
@[simp] theorem drive_dies (n : Nat) (g : Gate) (v : Bool) (d : Dev) : (drive n g v d).dies = d.dies := by simp [drive]
@[simp] theorem drive_gangs (n : Nat) (g : Gate) (v : Bool) (d : Dev) : (drive n g v d).gangs = d.gangs := by simp [drive]
@[simp] theorem drive_frames (n : Nat) (g : Gate) (v : Bool) (d : Dev) : (drive n g v d).frames = d.frames := by simp [drive]
@[simp] theorem drive_axes (n : Nat) (g : Gate) (v : Bool) (d : Dev) : (drive n g v d).axes = d.axes := by simp [drive]
@[simp] theorem drive_convs (n : Nat) (g : Gate) (v : Bool) (d : Dev) : (drive n g v d).convs = d.convs := by simp [drive]
@[simp] theorem drive_auth (n : Nat) (g : Gate) (v : Bool) (d : Dev) : (drive n g v d).auth = d.auth := by simp [drive]
@[simp] theorem drive_flt (n : Nat) (g : Gate) (v : Bool) (d : Dev) : (drive n g v d).flt = d.flt := by simp [drive]
@[simp] theorem drive_fbs (n : Nat) (g : Gate) (v : Bool) (d : Dev) : (drive n g v d).fbs = d.fbs := by simp [drive]
@[simp] theorem drive_rost (n : Nat) (g : Gate) (v : Bool) (d : Dev) : (drive n g v d).rost = d.rost := by simp [drive]
@[simp] theorem drive_samp (n : Nat) (g : Gate) (v : Bool) (d : Dev) : (drive n g v d).samp = d.samp := by simp [drive]
@[simp] theorem drive_eng (n : Nat) (g : Gate) (v : Bool) (d : Dev) : (drive n g v d).eng = d.eng := by simp [drive]
@[simp] theorem drive_night (n : Nat) (g : Gate) (v : Bool) (d : Dev) : (drive n g v d).night = d.night := by simp [drive]
@[simp] theorem drive_sys (n : Nat) (g : Gate) (v : Bool) (d : Dev) : (drive n g v d).sys = d.sys := by simp [drive]
@[simp] theorem drive_arb (n : Nat) (g : Gate) (v : Bool) (d : Dev) : (drive n g v d).arb = d.arb := by simp [drive]
@[simp] theorem drive_spi (n : Nat) (g : Gate) (v : Bool) (d : Dev) : (drive n g v d).spi = d.spi := by simp [drive]
@[simp] theorem drive_cans (n : Nat) (g : Gate) (v : Bool) (d : Dev) : (drive n g v d).cans = d.cans := by simp [drive]
@[simp] theorem drive_uarts (n : Nat) (g : Gate) (v : Bool) (d : Dev) : (drive n g v d).uarts = d.uarts := by simp [drive]
@[simp] theorem drive_link (n : Nat) (g : Gate) (v : Bool) (d : Dev) : (drive n g v d).link = d.link := by simp [drive]
@[simp] theorem drive_timers (n : Nat) (g : Gate) (v : Bool) (d : Dev) : (drive n g v d).timers = d.timers := by simp [drive]
@[simp] theorem drive_reg (n : Nat) (g : Gate) (v : Bool) (i : Nat) (d : Dev) : (drive n g v d).reg i = d.reg i := by simp [drive]
@[simp] theorem drive_die (n : Nat) (g : Gate) (v : Bool) (i : Nat) (d : Dev) : (drive n g v d).die i = d.die i := by simp [drive]
@[simp] theorem drive_plan (n : Nat) (g : Gate) (v : Bool) (i : Nat) (d : Dev) : (drive n g v d).plan i = d.plan i := by simp [drive]
@[simp] theorem drive_gang (n : Nat) (g : Gate) (v : Bool) (i : Nat) (d : Dev) : (drive n g v d).gang i = d.gang i := by simp [drive]
@[simp] theorem drive_frame (n : Nat) (g : Gate) (v : Bool) (i : Nat) (d : Dev) : (drive n g v d).frame i = d.frame i := by simp [drive]
@[simp] theorem drive_axis (n : Nat) (g : Gate) (v : Bool) (i : Nat) (d : Dev) : (drive n g v d).axis i = d.axis i := by simp [drive]
@[simp] theorem drive_conv (n : Nat) (g : Gate) (v : Bool) (i : Nat) (d : Dev) : (drive n g v d).conv i = d.conv i := by simp [drive]
@[simp] theorem drive_fld (n : Nat) (g : Gate) (v : Bool) (q : Nat) (f : Fld) (d : Dev) : (drive n g v d).fld q f = d.fld q f := by simp [drive]
@[simp] theorem drive_on (n : Nat) (g : Gate) (v : Bool) (q : Nat) (f : Fld) (d : Dev) : (drive n g v d).on q f = d.on q f := by simp [drive]

@[simp] theorem gatesOff_now (n : Nat) (d : Dev) : (gatesOff n d).now = d.now := by simp [gatesOff]
@[simp] theorem gatesOff_free (n : Nat) (d : Dev) : (gatesOff n d).free = d.free := by simp [gatesOff]
@[simp] theorem gatesOff_mode (n : Nat) (d : Dev) : (gatesOff n d).mode = d.mode := by simp [gatesOff]
@[simp] theorem gatesOff_regs (n : Nat) (d : Dev) : (gatesOff n d).regs = d.regs := by simp [gatesOff]
@[simp] theorem gatesOff_events (n : Nat) (d : Dev) : (gatesOff n d).events = d.events := by simp [gatesOff]
@[simp] theorem gatesOff_wet (n : Nat) (d : Dev) : (gatesOff n d).wet = d.wet := by simp [gatesOff]
@[simp] theorem gatesOff_coat2 (n : Nat) (d : Dev) : (gatesOff n d).coat2 = d.coat2 := by simp [gatesOff]
@[simp] theorem gatesOff_cast (n : Nat) (d : Dev) : (gatesOff n d).cast = d.cast := by simp [gatesOff]
@[simp] theorem gatesOff_mem (n : Nat) (d : Dev) : (gatesOff n d).mem = d.mem := by simp [gatesOff]
@[simp] theorem gatesOff_pairs (n : Nat) (d : Dev) : (gatesOff n d).pairs = d.pairs := by simp [gatesOff]
@[simp] theorem gatesOff_lows (n : Nat) (d : Dev) : (gatesOff n d).lows = d.lows := by simp [gatesOff]
@[simp] theorem gatesOff_newer (n : Nat) (d : Dev) : (gatesOff n d).newer = d.newer := by simp [gatesOff]
@[simp] theorem gatesOff_resp (n : Nat) (d : Dev) : (gatesOff n d).resp = d.resp := by simp [gatesOff]
@[simp] theorem gatesOff_afault (n : Nat) (d : Dev) : (gatesOff n d).afault = d.afault := by simp [gatesOff]
@[simp] theorem gatesOff_commit (n : Nat) (d : Dev) : (gatesOff n d).commit = d.commit := by simp [gatesOff]
@[simp] theorem gatesOff_plans (n : Nat) (d : Dev) : (gatesOff n d).plans = d.plans := by simp [gatesOff]
@[simp] theorem gatesOff_dies (n : Nat) (d : Dev) : (gatesOff n d).dies = d.dies := by simp [gatesOff]
@[simp] theorem gatesOff_gangs (n : Nat) (d : Dev) : (gatesOff n d).gangs = d.gangs := by simp [gatesOff]
@[simp] theorem gatesOff_frames (n : Nat) (d : Dev) : (gatesOff n d).frames = d.frames := by simp [gatesOff]
@[simp] theorem gatesOff_axes (n : Nat) (d : Dev) : (gatesOff n d).axes = d.axes := by simp [gatesOff]
@[simp] theorem gatesOff_convs (n : Nat) (d : Dev) : (gatesOff n d).convs = d.convs := by simp [gatesOff]
@[simp] theorem gatesOff_auth (n : Nat) (d : Dev) : (gatesOff n d).auth = d.auth := by simp [gatesOff]
@[simp] theorem gatesOff_flt (n : Nat) (d : Dev) : (gatesOff n d).flt = d.flt := by simp [gatesOff]
@[simp] theorem gatesOff_fbs (n : Nat) (d : Dev) : (gatesOff n d).fbs = d.fbs := by simp [gatesOff]
@[simp] theorem gatesOff_rost (n : Nat) (d : Dev) : (gatesOff n d).rost = d.rost := by simp [gatesOff]
@[simp] theorem gatesOff_samp (n : Nat) (d : Dev) : (gatesOff n d).samp = d.samp := by simp [gatesOff]
@[simp] theorem gatesOff_eng (n : Nat) (d : Dev) : (gatesOff n d).eng = d.eng := by simp [gatesOff]
@[simp] theorem gatesOff_night (n : Nat) (d : Dev) : (gatesOff n d).night = d.night := by simp [gatesOff]
@[simp] theorem gatesOff_sys (n : Nat) (d : Dev) : (gatesOff n d).sys = d.sys := by simp [gatesOff]
@[simp] theorem gatesOff_arb (n : Nat) (d : Dev) : (gatesOff n d).arb = d.arb := by simp [gatesOff]
@[simp] theorem gatesOff_spi (n : Nat) (d : Dev) : (gatesOff n d).spi = d.spi := by simp [gatesOff]
@[simp] theorem gatesOff_cans (n : Nat) (d : Dev) : (gatesOff n d).cans = d.cans := by simp [gatesOff]
@[simp] theorem gatesOff_uarts (n : Nat) (d : Dev) : (gatesOff n d).uarts = d.uarts := by simp [gatesOff]
@[simp] theorem gatesOff_link (n : Nat) (d : Dev) : (gatesOff n d).link = d.link := by simp [gatesOff]
@[simp] theorem gatesOff_timers (n : Nat) (d : Dev) : (gatesOff n d).timers = d.timers := by simp [gatesOff]
@[simp] theorem gatesOff_reg (n : Nat) (i : Nat) (d : Dev) : (gatesOff n d).reg i = d.reg i := by simp [gatesOff]
@[simp] theorem gatesOff_die (n : Nat) (i : Nat) (d : Dev) : (gatesOff n d).die i = d.die i := by simp [gatesOff]
@[simp] theorem gatesOff_plan (n : Nat) (i : Nat) (d : Dev) : (gatesOff n d).plan i = d.plan i := by simp [gatesOff]
@[simp] theorem gatesOff_gang (n : Nat) (i : Nat) (d : Dev) : (gatesOff n d).gang i = d.gang i := by simp [gatesOff]
@[simp] theorem gatesOff_frame (n : Nat) (i : Nat) (d : Dev) : (gatesOff n d).frame i = d.frame i := by simp [gatesOff]
@[simp] theorem gatesOff_axis (n : Nat) (i : Nat) (d : Dev) : (gatesOff n d).axis i = d.axis i := by simp [gatesOff]
@[simp] theorem gatesOff_conv (n : Nat) (i : Nat) (d : Dev) : (gatesOff n d).conv i = d.conv i := by simp [gatesOff]
@[simp] theorem gatesOff_fld (n : Nat) (q : Nat) (f : Fld) (d : Dev) : (gatesOff n d).fld q f = d.fld q f := by simp [gatesOff]
@[simp] theorem gatesOff_on (n : Nat) (q : Nat) (f : Fld) (d : Dev) : (gatesOff n d).on q f = d.on q f := by simp [gatesOff]

@[simp] theorem dieOff_now (k : Nat) (d : Dev) : (dieOff k d).now = d.now := by
  unfold dieOff; exact each_keep Dev.now _ d fun n x => gatesOff_now n x
@[simp] theorem dieOff_free (k : Nat) (d : Dev) : (dieOff k d).free = d.free := by
  unfold dieOff; exact each_keep Dev.free _ d fun n x => gatesOff_free n x
@[simp] theorem dieOff_mode (k : Nat) (d : Dev) : (dieOff k d).mode = d.mode := by
  unfold dieOff; exact each_keep Dev.mode _ d fun n x => gatesOff_mode n x
@[simp] theorem dieOff_regs (k : Nat) (d : Dev) : (dieOff k d).regs = d.regs := by
  unfold dieOff; exact each_keep Dev.regs _ d fun n x => gatesOff_regs n x
@[simp] theorem dieOff_events (k : Nat) (d : Dev) : (dieOff k d).events = d.events := by
  unfold dieOff; exact each_keep Dev.events _ d fun n x => gatesOff_events n x
@[simp] theorem dieOff_wet (k : Nat) (d : Dev) : (dieOff k d).wet = d.wet := by
  unfold dieOff; exact each_keep Dev.wet _ d fun n x => gatesOff_wet n x
@[simp] theorem dieOff_coat2 (k : Nat) (d : Dev) : (dieOff k d).coat2 = d.coat2 := by
  unfold dieOff; exact each_keep Dev.coat2 _ d fun n x => gatesOff_coat2 n x
@[simp] theorem dieOff_cast (k : Nat) (d : Dev) : (dieOff k d).cast = d.cast := by
  unfold dieOff; exact each_keep Dev.cast _ d fun n x => gatesOff_cast n x
@[simp] theorem dieOff_mem (k : Nat) (d : Dev) : (dieOff k d).mem = d.mem := by
  unfold dieOff; exact each_keep Dev.mem _ d fun n x => gatesOff_mem n x
@[simp] theorem dieOff_pairs (k : Nat) (d : Dev) : (dieOff k d).pairs = d.pairs := by
  unfold dieOff; exact each_keep Dev.pairs _ d fun n x => gatesOff_pairs n x
@[simp] theorem dieOff_lows (k : Nat) (d : Dev) : (dieOff k d).lows = d.lows := by
  unfold dieOff; exact each_keep Dev.lows _ d fun n x => gatesOff_lows n x
@[simp] theorem dieOff_newer (k : Nat) (d : Dev) : (dieOff k d).newer = d.newer := by
  unfold dieOff; exact each_keep Dev.newer _ d fun n x => gatesOff_newer n x
@[simp] theorem dieOff_resp (k : Nat) (d : Dev) : (dieOff k d).resp = d.resp := by
  unfold dieOff; exact each_keep Dev.resp _ d fun n x => gatesOff_resp n x
@[simp] theorem dieOff_afault (k : Nat) (d : Dev) : (dieOff k d).afault = d.afault := by
  unfold dieOff; exact each_keep Dev.afault _ d fun n x => gatesOff_afault n x
@[simp] theorem dieOff_commit (k : Nat) (d : Dev) : (dieOff k d).commit = d.commit := by
  unfold dieOff; exact each_keep Dev.commit _ d fun n x => gatesOff_commit n x
@[simp] theorem dieOff_plans (k : Nat) (d : Dev) : (dieOff k d).plans = d.plans := by
  unfold dieOff; exact each_keep Dev.plans _ d fun n x => gatesOff_plans n x
@[simp] theorem dieOff_dies (k : Nat) (d : Dev) : (dieOff k d).dies = d.dies := by
  unfold dieOff; exact each_keep Dev.dies _ d fun n x => gatesOff_dies n x
@[simp] theorem dieOff_gangs (k : Nat) (d : Dev) : (dieOff k d).gangs = d.gangs := by
  unfold dieOff; exact each_keep Dev.gangs _ d fun n x => gatesOff_gangs n x
@[simp] theorem dieOff_frames (k : Nat) (d : Dev) : (dieOff k d).frames = d.frames := by
  unfold dieOff; exact each_keep Dev.frames _ d fun n x => gatesOff_frames n x
@[simp] theorem dieOff_axes (k : Nat) (d : Dev) : (dieOff k d).axes = d.axes := by
  unfold dieOff; exact each_keep Dev.axes _ d fun n x => gatesOff_axes n x
@[simp] theorem dieOff_convs (k : Nat) (d : Dev) : (dieOff k d).convs = d.convs := by
  unfold dieOff; exact each_keep Dev.convs _ d fun n x => gatesOff_convs n x
@[simp] theorem dieOff_auth (k : Nat) (d : Dev) : (dieOff k d).auth = d.auth := by
  unfold dieOff; exact each_keep Dev.auth _ d fun n x => gatesOff_auth n x
@[simp] theorem dieOff_flt (k : Nat) (d : Dev) : (dieOff k d).flt = d.flt := by
  unfold dieOff; exact each_keep Dev.flt _ d fun n x => gatesOff_flt n x
@[simp] theorem dieOff_fbs (k : Nat) (d : Dev) : (dieOff k d).fbs = d.fbs := by
  unfold dieOff; exact each_keep Dev.fbs _ d fun n x => gatesOff_fbs n x
@[simp] theorem dieOff_rost (k : Nat) (d : Dev) : (dieOff k d).rost = d.rost := by
  unfold dieOff; exact each_keep Dev.rost _ d fun n x => gatesOff_rost n x
@[simp] theorem dieOff_samp (k : Nat) (d : Dev) : (dieOff k d).samp = d.samp := by
  unfold dieOff; exact each_keep Dev.samp _ d fun n x => gatesOff_samp n x
@[simp] theorem dieOff_eng (k : Nat) (d : Dev) : (dieOff k d).eng = d.eng := by
  unfold dieOff; exact each_keep Dev.eng _ d fun n x => gatesOff_eng n x
@[simp] theorem dieOff_night (k : Nat) (d : Dev) : (dieOff k d).night = d.night := by
  unfold dieOff; exact each_keep Dev.night _ d fun n x => gatesOff_night n x
@[simp] theorem dieOff_sys (k : Nat) (d : Dev) : (dieOff k d).sys = d.sys := by
  unfold dieOff; exact each_keep Dev.sys _ d fun n x => gatesOff_sys n x
@[simp] theorem dieOff_arb (k : Nat) (d : Dev) : (dieOff k d).arb = d.arb := by
  unfold dieOff; exact each_keep Dev.arb _ d fun n x => gatesOff_arb n x
@[simp] theorem dieOff_spi (k : Nat) (d : Dev) : (dieOff k d).spi = d.spi := by
  unfold dieOff; exact each_keep Dev.spi _ d fun n x => gatesOff_spi n x
@[simp] theorem dieOff_cans (k : Nat) (d : Dev) : (dieOff k d).cans = d.cans := by
  unfold dieOff; exact each_keep Dev.cans _ d fun n x => gatesOff_cans n x
@[simp] theorem dieOff_uarts (k : Nat) (d : Dev) : (dieOff k d).uarts = d.uarts := by
  unfold dieOff; exact each_keep Dev.uarts _ d fun n x => gatesOff_uarts n x
@[simp] theorem dieOff_link (k : Nat) (d : Dev) : (dieOff k d).link = d.link := by
  unfold dieOff; exact each_keep Dev.link _ d fun n x => gatesOff_link n x
@[simp] theorem dieOff_timers (k : Nat) (d : Dev) : (dieOff k d).timers = d.timers := by
  unfold dieOff; exact each_keep Dev.timers _ d fun n x => gatesOff_timers n x
@[simp] theorem dieOff_die (k i : Nat) (d : Dev) : (dieOff k d).die i = d.die i := by
  unfold dieOff; exact each_keep (fun e => Dev.die e i) _ d fun n x => gatesOff_die n i x
@[simp] theorem dieOff_reg (k : Nat) (i : Nat) (d : Dev) : (dieOff k d).reg i = d.reg i := by
  unfold dieOff; exact each_keep (fun e => Dev.reg e i) _ d fun n x => gatesOff_reg n i x
@[simp] theorem dieOff_plan (k : Nat) (i : Nat) (d : Dev) : (dieOff k d).plan i = d.plan i := by
  unfold dieOff; exact each_keep (fun e => Dev.plan e i) _ d fun n x => gatesOff_plan n i x
@[simp] theorem dieOff_gang (k : Nat) (i : Nat) (d : Dev) : (dieOff k d).gang i = d.gang i := by
  unfold dieOff; exact each_keep (fun e => Dev.gang e i) _ d fun n x => gatesOff_gang n i x
@[simp] theorem dieOff_frame (k : Nat) (i : Nat) (d : Dev) : (dieOff k d).frame i = d.frame i := by
  unfold dieOff; exact each_keep (fun e => Dev.frame e i) _ d fun n x => gatesOff_frame n i x
@[simp] theorem dieOff_axis (k : Nat) (i : Nat) (d : Dev) : (dieOff k d).axis i = d.axis i := by
  unfold dieOff; exact each_keep (fun e => Dev.axis e i) _ d fun n x => gatesOff_axis n i x
@[simp] theorem dieOff_conv (k : Nat) (i : Nat) (d : Dev) : (dieOff k d).conv i = d.conv i := by
  unfold dieOff; exact each_keep (fun e => Dev.conv e i) _ d fun n x => gatesOff_conv n i x
@[simp] theorem dieOff_fld (k : Nat) (q : Nat) (f : Fld) (d : Dev) : (dieOff k d).fld q f = d.fld q f := by
  unfold dieOff; exact each_keep (fun e => Dev.fld e q f) _ d fun n x => gatesOff_fld n q f x
@[simp] theorem dieOff_on (k : Nat) (q : Nat) (f : Fld) (d : Dev) : (dieOff k d).on q f = d.on q f := by
  unfold dieOff; exact each_keep (fun e => Dev.on e q f) _ d fun n x => gatesOff_on n q f x

@[simp] theorem taken_now (k : Nat) (d : Dev) : (taken k d).now = d.now := by simp [taken]
@[simp] theorem taken_free (k : Nat) (d : Dev) : (taken k d).free = d.free := by simp [taken]
@[simp] theorem taken_mode (k : Nat) (d : Dev) : (taken k d).mode = d.mode := by simp [taken]
@[simp] theorem taken_regs (k : Nat) (d : Dev) : (taken k d).regs = d.regs := by simp [taken]
@[simp] theorem taken_events (k : Nat) (d : Dev) : (taken k d).events = d.events := by simp [taken]
@[simp] theorem taken_wet (k : Nat) (d : Dev) : (taken k d).wet = d.wet := by simp [taken]
@[simp] theorem taken_coat2 (k : Nat) (d : Dev) : (taken k d).coat2 = d.coat2 := by simp [taken]
@[simp] theorem taken_cast (k : Nat) (d : Dev) : (taken k d).cast = d.cast := by simp [taken]
@[simp] theorem taken_mem (k : Nat) (d : Dev) : (taken k d).mem = d.mem := by simp [taken]
@[simp] theorem taken_pairs (k : Nat) (d : Dev) : (taken k d).pairs = d.pairs := by simp [taken]
@[simp] theorem taken_lows (k : Nat) (d : Dev) : (taken k d).lows = d.lows := by simp [taken]
@[simp] theorem taken_newer (k : Nat) (d : Dev) : (taken k d).newer = d.newer := by simp [taken]
@[simp] theorem taken_resp (k : Nat) (d : Dev) : (taken k d).resp = d.resp := by simp [taken]
@[simp] theorem taken_afault (k : Nat) (d : Dev) : (taken k d).afault = d.afault := by simp [taken]
@[simp] theorem taken_commit (k : Nat) (d : Dev) : (taken k d).commit = d.commit := by simp [taken]
@[simp] theorem taken_legs (k : Nat) (d : Dev) : (taken k d).legs = d.legs := by simp [taken]
@[simp] theorem taken_plans (k : Nat) (d : Dev) : (taken k d).plans = d.plans := by simp [taken]
@[simp] theorem taken_gangs (k : Nat) (d : Dev) : (taken k d).gangs = d.gangs := by simp [taken]
@[simp] theorem taken_frames (k : Nat) (d : Dev) : (taken k d).frames = d.frames := by simp [taken]
@[simp] theorem taken_axes (k : Nat) (d : Dev) : (taken k d).axes = d.axes := by simp [taken]
@[simp] theorem taken_convs (k : Nat) (d : Dev) : (taken k d).convs = d.convs := by simp [taken]
@[simp] theorem taken_auth (k : Nat) (d : Dev) : (taken k d).auth = d.auth := by simp [taken]
@[simp] theorem taken_flt (k : Nat) (d : Dev) : (taken k d).flt = d.flt := by simp [taken]
@[simp] theorem taken_fbs (k : Nat) (d : Dev) : (taken k d).fbs = d.fbs := by simp [taken]
@[simp] theorem taken_rost (k : Nat) (d : Dev) : (taken k d).rost = d.rost := by simp [taken]
@[simp] theorem taken_samp (k : Nat) (d : Dev) : (taken k d).samp = d.samp := by simp [taken]
@[simp] theorem taken_eng (k : Nat) (d : Dev) : (taken k d).eng = d.eng := by simp [taken]
@[simp] theorem taken_night (k : Nat) (d : Dev) : (taken k d).night = d.night := by simp [taken]
@[simp] theorem taken_sys (k : Nat) (d : Dev) : (taken k d).sys = d.sys := by simp [taken]
@[simp] theorem taken_arb (k : Nat) (d : Dev) : (taken k d).arb = d.arb := by simp [taken]
@[simp] theorem taken_spi (k : Nat) (d : Dev) : (taken k d).spi = d.spi := by simp [taken]
@[simp] theorem taken_cans (k : Nat) (d : Dev) : (taken k d).cans = d.cans := by simp [taken]
@[simp] theorem taken_uarts (k : Nat) (d : Dev) : (taken k d).uarts = d.uarts := by simp [taken]
@[simp] theorem taken_link (k : Nat) (d : Dev) : (taken k d).link = d.link := by simp [taken]
@[simp] theorem taken_timers (k : Nat) (d : Dev) : (taken k d).timers = d.timers := by simp [taken]
@[simp] theorem taken_plan (k : Nat) (i : Nat) (d : Dev) : (taken k d).plan i = d.plan i := by simp [taken]
@[simp] theorem taken_gang (k : Nat) (i : Nat) (d : Dev) : (taken k d).gang i = d.gang i := by simp [taken]
@[simp] theorem taken_frame (k : Nat) (i : Nat) (d : Dev) : (taken k d).frame i = d.frame i := by simp [taken]
@[simp] theorem taken_axis (k : Nat) (i : Nat) (d : Dev) : (taken k d).axis i = d.axis i := by simp [taken]
@[simp] theorem taken_conv (k : Nat) (i : Nat) (d : Dev) : (taken k d).conv i = d.conv i := by simp [taken]
@[simp] theorem taken_fld (k : Nat) (q : Nat) (f : Fld) (d : Dev) : (taken k d).fld q f = d.fld q f := by simp [taken]
@[simp] theorem taken_on (k : Nat) (q : Nat) (f : Fld) (d : Dev) : (taken k d).on q f = d.on q f := by simp [taken]

@[simp] theorem dieEvt_now (k j : Nat) (d : Dev) : (dieEvt k j d).now = d.now := by simp [dieEvt]
@[simp] theorem dieEvt_free (k j : Nat) (d : Dev) : (dieEvt k j d).free = d.free := by simp [dieEvt]
@[simp] theorem dieEvt_mode (k j : Nat) (d : Dev) : (dieEvt k j d).mode = d.mode := by simp [dieEvt]
@[simp] theorem dieEvt_regs (k j : Nat) (d : Dev) : (dieEvt k j d).regs = d.regs := by simp [dieEvt]
@[simp] theorem dieEvt_events (k j : Nat) (d : Dev) : (dieEvt k j d).events = d.events := by simp [dieEvt]
@[simp] theorem dieEvt_wet (k j : Nat) (d : Dev) : (dieEvt k j d).wet = d.wet := by simp [dieEvt]
@[simp] theorem dieEvt_coat2 (k j : Nat) (d : Dev) : (dieEvt k j d).coat2 = d.coat2 := by simp [dieEvt]
@[simp] theorem dieEvt_cast (k j : Nat) (d : Dev) : (dieEvt k j d).cast = d.cast := by simp [dieEvt]
@[simp] theorem dieEvt_mem (k j : Nat) (d : Dev) : (dieEvt k j d).mem = d.mem := by simp [dieEvt]
@[simp] theorem dieEvt_pairs (k j : Nat) (d : Dev) : (dieEvt k j d).pairs = d.pairs := by simp [dieEvt]
@[simp] theorem dieEvt_lows (k j : Nat) (d : Dev) : (dieEvt k j d).lows = d.lows := by simp [dieEvt]
@[simp] theorem dieEvt_newer (k j : Nat) (d : Dev) : (dieEvt k j d).newer = d.newer := by simp [dieEvt]
@[simp] theorem dieEvt_resp (k j : Nat) (d : Dev) : (dieEvt k j d).resp = d.resp := by simp [dieEvt]
@[simp] theorem dieEvt_afault (k j : Nat) (d : Dev) : (dieEvt k j d).afault = d.afault := by simp [dieEvt]
@[simp] theorem dieEvt_commit (k j : Nat) (d : Dev) : (dieEvt k j d).commit = d.commit := by simp [dieEvt]
@[simp] theorem dieEvt_legs (k j : Nat) (d : Dev) : (dieEvt k j d).legs = d.legs := by simp [dieEvt]
@[simp] theorem dieEvt_plans (k j : Nat) (d : Dev) : (dieEvt k j d).plans = d.plans := by simp [dieEvt]
@[simp] theorem dieEvt_gangs (k j : Nat) (d : Dev) : (dieEvt k j d).gangs = d.gangs := by simp [dieEvt]
@[simp] theorem dieEvt_frames (k j : Nat) (d : Dev) : (dieEvt k j d).frames = d.frames := by simp [dieEvt]
@[simp] theorem dieEvt_axes (k j : Nat) (d : Dev) : (dieEvt k j d).axes = d.axes := by simp [dieEvt]
@[simp] theorem dieEvt_convs (k j : Nat) (d : Dev) : (dieEvt k j d).convs = d.convs := by simp [dieEvt]
@[simp] theorem dieEvt_auth (k j : Nat) (d : Dev) : (dieEvt k j d).auth = d.auth := by simp [dieEvt]
@[simp] theorem dieEvt_flt (k j : Nat) (d : Dev) : (dieEvt k j d).flt = d.flt := by simp [dieEvt]
@[simp] theorem dieEvt_fbs (k j : Nat) (d : Dev) : (dieEvt k j d).fbs = d.fbs := by simp [dieEvt]
@[simp] theorem dieEvt_rost (k j : Nat) (d : Dev) : (dieEvt k j d).rost = d.rost := by simp [dieEvt]
@[simp] theorem dieEvt_samp (k j : Nat) (d : Dev) : (dieEvt k j d).samp = d.samp := by simp [dieEvt]
@[simp] theorem dieEvt_eng (k j : Nat) (d : Dev) : (dieEvt k j d).eng = d.eng := by simp [dieEvt]
@[simp] theorem dieEvt_night (k j : Nat) (d : Dev) : (dieEvt k j d).night = d.night := by simp [dieEvt]
@[simp] theorem dieEvt_sys (k j : Nat) (d : Dev) : (dieEvt k j d).sys = d.sys := by simp [dieEvt]
@[simp] theorem dieEvt_arb (k j : Nat) (d : Dev) : (dieEvt k j d).arb = d.arb := by simp [dieEvt]
@[simp] theorem dieEvt_spi (k j : Nat) (d : Dev) : (dieEvt k j d).spi = d.spi := by simp [dieEvt]
@[simp] theorem dieEvt_cans (k j : Nat) (d : Dev) : (dieEvt k j d).cans = d.cans := by simp [dieEvt]
@[simp] theorem dieEvt_uarts (k j : Nat) (d : Dev) : (dieEvt k j d).uarts = d.uarts := by simp [dieEvt]
@[simp] theorem dieEvt_link (k j : Nat) (d : Dev) : (dieEvt k j d).link = d.link := by simp [dieEvt]
@[simp] theorem dieEvt_timers (k j : Nat) (d : Dev) : (dieEvt k j d).timers = d.timers := by simp [dieEvt]
@[simp] theorem dieEvt_reg (k j : Nat) (i : Nat) (d : Dev) : (dieEvt k j d).reg i = d.reg i := by simp [dieEvt]
@[simp] theorem dieEvt_leg (k j : Nat) (i : Nat) (d : Dev) : (dieEvt k j d).leg i = d.leg i := by simp [dieEvt]
@[simp] theorem dieEvt_plan (k j : Nat) (i : Nat) (d : Dev) : (dieEvt k j d).plan i = d.plan i := by simp [dieEvt]
@[simp] theorem dieEvt_gang (k j : Nat) (i : Nat) (d : Dev) : (dieEvt k j d).gang i = d.gang i := by simp [dieEvt]
@[simp] theorem dieEvt_frame (k j : Nat) (i : Nat) (d : Dev) : (dieEvt k j d).frame i = d.frame i := by simp [dieEvt]
@[simp] theorem dieEvt_axis (k j : Nat) (i : Nat) (d : Dev) : (dieEvt k j d).axis i = d.axis i := by simp [dieEvt]
@[simp] theorem dieEvt_conv (k j : Nat) (i : Nat) (d : Dev) : (dieEvt k j d).conv i = d.conv i := by simp [dieEvt]
@[simp] theorem dieEvt_fld (k j : Nat) (q : Nat) (f : Fld) (d : Dev) : (dieEvt k j d).fld q f = d.fld q f := by simp [dieEvt]
@[simp] theorem dieEvt_on (k j : Nat) (q : Nat) (f : Fld) (d : Dev) : (dieEvt k j d).on q f = d.on q f := by simp [dieEvt]

@[simp] theorem dieEvt_die (k j m : Nat) (d : Dev) : (dieEvt k j d).die m =
    if m = k then { d.die k with evt := (d.die k).evt ||| BitVec.ofNat 32 (2 ^ j) } else d.die m := by
  simp [dieEvt]

end Sys2Proof.Machine
end

