-- ==== Sys2Proof/Machine/Pins.lean ====
section
/-!
DEFINITION. The levels that the device gives its pin functions (R242, R374, R402, R531, R532). They follow from the registers and
records; no command reads them.
-/

namespace Sys2Proof.Machine

/-- The level of a pin function by its index; none where the device does not drive the pin. -/
def pinLevel (d : Dev) (i : Nat) : Option Bool :=
  if i < 48 then lineOut d i
  else if i < 60 then
    let k := (i - 48) / 3
    if emuOn d k then
      let (a, b, z) := emuLevels d k
      some (match (i - 48) % 3 with | 0 => a | 1 => b | _ => z)
    else some false
  else match i with
    | 60 => some (faultN d)
    | 61 => some (dsafeN d)
    | 62 => some (d.on bgP BG.DSTAT.SW)
    | _ => none

/-- R353, R371: the level that channel `k` drives on FBk_A, CLK of its absolute encoder; none while the pin is an input. -/
def clkLevel (d : Dev) (k : Nat) : Option Bool := fbClk d k

/-- R242: whether the test DAC's output, an analog level, is buffered to TDMON. -/
def tdmonOn (d : Dev) : Bool := d.on adcP ADC.CFG.TDMON_EN

end Sys2Proof.Machine
end

