-- ==== Sys2Proof/Tests/Slice0.lean ====
section
/-!
SUPPORT. Tests of the model: a term that `WellFormed` refuses for each of its checks, small results worked out by hand from
the rules, and for every statement with hypotheses the states and operands that meet them, clause by clause, with the clause's
boundary values where its rule has a range.
-/

namespace Sys2Proof.Tests

open Sys2Proof Sys2Proof.Machine

/-! ### Small states -/

/-- A state in RUN at tick 100,000, changed by `f`. -/
def inRun (f : Dev → Dev) : State := ⟨f { Dev.reset with mode := .run, now := 100000 }, []⟩

/-- Registers with words. -/
def regs (l : List (Nat × Nat)) (d : Dev) : Dev := l.foldl (fun d p => d.setReg p.1 (BitVec.ofNat 32 p.2)) d

/-- The Hewer holds the drive dies, and die 3 knows it and is in MODE 1. -/
def held (d : Dev) : Dev := (d.setFld authP AUTH.STATE.HCLAIM 1).setDie 3 { d.die 3 with holder := 1, cfg := 0x0C400301 }

/-- Gang 5 of die 3 is enabled on frame 0 with leg 2 of its die, which is leg 194, in slot 0. -/
def ganged (d : Dev) : Dev := regs [(gangP 5 + 0x040, 0x80300000), (gangP 5 + 0x058, 0x82)] d

/-! ### Drive dies -/

def mayNot : State := inRun held

/-- Die 3 heard a valid command 1,199 ticks before. -/
def heard : State := inRun fun d => (held d).setDie 3 { (held d).die 3 with lastValid := 98801 }

theorem wit_DieForcedLow : asleep mayNot.dev = false ∧ (mayNot.dev.die 3).link = true ∧ bits (mayNot.dev.die 3).cfg 0 2 ≠ 0 ∧
    (mayNot.dev.die 3).lastValid + 1200 ≤ mayNot.dev.now ∧ heard.dev.mode ≠ .powerUp ∧ awake heard.dev = true ∧
    heard.dev.now + 1 = (heard.dev.die 3).lastValid + 1200 := by decide

def blanking : State := inRun fun d => d.setLeg 255 { d.leg 255 with blankEnd := 100001, gl := true }
def quiet : State := inRun fun d => d.setLeg 255 { d.leg 255 with blankEnd := 100000, gh := true, gl := true }

theorem wit_TripsPresenceAndBootstrap : asleep quiet.dev = false ∧ underTest quiet.dev 255 = false ∧
    (quiet.dev.die (255 / 64)).link = true ∧ softTime quiet.dev (255 / 64) (quiet.dev.now - 24) = 24 ∧
    (quiet.dev.leg 255).blankEnd ≤ quiet.dev.now ∧ blanking.dev.now < (blanking.dev.leg 255).blankEnd ∧
    (quiet.dev.leg 255).gl = true ∧ (quiet.dev.leg 255).gh = true := by decide

/-- The edge of leg 194 that its frame laid out 24 ticks ago. -/
def mayTurnOn : State := inRun fun d => (ganged (held d)).setPlan 194 { d.plan 194 with
  due := [(99976, .gh, true), (99976, .gl, true), (99976, .gl, false)] }
def mayNotTurn : State := inRun fun d => (held d).setPlan 194 { d.plan 194 with due := [(99976, .gl, true)] }
/-- The reload that freed the leg came 23 ticks ago, after the command's issue. -/
def issuedBefore : State := ⟨mayTurnOn.dev.setPlan 194 { mayTurnOn.dev.plan 194 with since := 99977 }, []⟩
def waits : State := inRun fun d => (ganged (held d)).setLeg 194 { d.leg 194 with wait := some (.gl, 100000 - 64) }
def waitsGh : State := inRun fun d => (ganged (held d)).setLeg 194 { d.leg 194 with wait := some (.gh, 100000 - 63) }

theorem wit_EdgesAndInterlock : mayTurnOn.dev.accepts (194 / 64) ∧ awake mayTurnOn.dev = true ∧
    (mayTurnOn.dev.die (194 / 64)).wdPend = false ∧ (mayTurnOn.dev.leg 194).dieHold ≠ .short ∧
    edgeDue mayTurnOn.dev 194 .gh true = true ∧ edgeDue mayTurnOn.dev 194 .gl false = true ∧
    edgeDue mayTurnOn.dev 194 .gh false = false ∧
    gatesFree mayTurnOn.dev 194 = true ∧ (mayTurnOn.dev.plan 194).since + 24 ≤ mayTurnOn.dev.now ∧
    gatesFree issuedBefore.dev 194 = true ∧ issuedBefore.dev.now < (issuedBefore.dev.plan 194).since + 24 ∧ (mayTurnOn.dev.leg 194).gl = false ∧ (mayTurnOn.dev.leg 194).gh = false ∧
    mayNotTurn.dev.accepts (194 / 64) ∧ edgeDue mayNotTurn.dev 194 .gl true = true ∧ gatesFree mayNotTurn.dev 194 = false ∧
    asleep waits.dev = false ∧ (waits.dev.leg 194).wait = some (.gl, 100000 - 64) ∧ gatesFree waits.dev 194 = true ∧
    100000 - 64 + intlkTo waits.dev (194 / 64) ≤ waits.dev.now ∧ (waits.dev.die (194 / 64)).link = true ∧
    (waitsGh.dev.leg 194).wait = some (.gh, 100000 - 63) ∧ (waitsGh.dev.leg 194).gl = false ∧
    gatesFree waitsGh.dev 194 = true ∧ waitsGh.dev.now < 100000 - 63 + intlkTo waitsGh.dev (194 / 64) := by
  unfold Dev.accepts; decide

def isOn : State := inRun fun d => (held d).setLeg 255 { d.leg 255 with gh := true }
def hardsafe : State := inRun fun d => (held d).setDie 3 { (held d).die 3 with hardsafe := true }

theorem wit_HoldCommands : awake isOn.dev = true ∧ isOn.dev.accepts (255 / 64) ∧ (isOn.dev.die (255 / 64)).wdPend = false ∧
    dieFree isOn.dev (255 / 64) = true ∧ latched isOn.dev 255 = false ∧ (isOn.dev.leg 255).gh = true ∧
    (isOn.dev.leg 255).gl = false ∧ hardsafe.dev.accepts (255 / 64) ∧ dieFree hardsafe.dev (255 / 64) = false := by
  unfold Dev.accepts; decide

def deputyHeld : State := inRun fun d => (held d).setDie 3 { (held d).die 3 with holder := 2 }
def switching : State := inRun fun d => (held d).setDie 3 { (held d).die 3 with holderCmd := some (1, 2) }
/-- Die 3 holds NONE and has yet to hear of the draw from HEWER to DEPUTY. -/
def switchingNone : State := inRun fun d => (held d).setDie 3 { (held d).die 3 with holder := 0, holderCmd := some (1, 2) }
/-- A command went to die 3 255 ticks before. -/
def justSent : State := inRun fun d => (held d).setDie 3 { (held d).die 3 with lastSent := 99745 }

theorem wit_DriveLink : awake mayNot.dev = true ∧ (mayNot.dev.die 3).link = true ∧ mayNot.dev.accepts 3 ∧
    (mayNot.dev.die 3).lastSent + 256 ≤ mayNot.dev.now ∧ justSent.dev.now + 1 = (justSent.dev.die 3).lastSent + 256 ∧
    (mayNot.dev.die 3).wdPend = false ∧ (mayNot.dev.die 3).holderCmd = none ∧ (deputyHeld.dev.die 3).holderCmd = none ∧
    (deputyHeld.dev.die 3).holder ≠ 0 ∧ stamp deputyHeld.dev ≠ (deputyHeld.dev.die 3).holder ∧
    (switching.dev.die 3).holderCmd = some ((switching.dev.die 3).holder, 2) ∧
    (switchingNone.dev.die 3).holder = 0 ∧ (switchingNone.dev.die 3).holderCmd = some (1, 2) ∧ (switching.dev.die 3).wdPend = false ∧
    asleep mayNot.dev = false := by
  unfold Dev.accepts; decide

def tripped : State := inRun fun d => regs [(legP 255 + 0x05C, 0x1F)] (held d)
/-- The HARD latch was set on this cycle. -/
def trippedNow : State := inRun fun d => (regs [(legP 255 + 0x05C, 0x1B)] (held d)).raise (legP 255) LEG.TRIP.HARD_LAT
def playing : State := inRun fun d => (ganged (held d)).setFld (frameP 0) FRAME.STAT.RUN 1

theorem wit_LatchesAndDieSettings : awake tripped.dev = true ∧ stalled tripped.dev (.hewer 0) = none ∧ tripped.dev.hears (.hewer 0) ∧ tripped.dev.accepts (255 / 64) ∧
    (tripped.dev.die (255 / 64)).wdPend = false ∧ tripped.dev.eventAt (legP 255 + 0x05C) = none ∧
    ((trippedNow.dev.eventAt (legP 255 + 0x05C)).map fun x => bitOf x.2 2) = some true ∧ mayNot.dev.accepts 3 ∧
    (mayNot.dev.die 3).wdPend = false ∧ (∀ i < 64, legState mayNot.dev (64 * 3 + i) ≠ 1 ∧
      legState mayNot.dev (64 * 3 + i) ≠ 2 ∧ legState mayNot.dev (64 * 3 + i) ≠ 3) ∧ playing.dev.accepts 3 ∧
    legState playing.dev (64 * 3 + 2) = 1 ∧
    bits (2 : Word) 0 2 ≠ bits (playing.dev.die 3).cfg 0 2 ∧ bits (30 : Word) 0 8 = 30 ∧
    ovLimit (bits (mayNot.dev.die 3).cfg 0 2) = some 58 ∧ bits (54 : Word) 0 8 + 3 < 58 ∧ bits (29 : Word) 0 8 < 30 := by
  unfold Dev.accepts Dev.hears; decide

/-- Die 3 tests leg 195, which no gang lists, at its fourth step, with the test DAC. -/
def testing : State := inRun fun d =>
  ((held d).setDie 3 { (held d).die 3 with stRun := true, stOn := true, stLegs := [3], stStep := 4 }).setSamp fun r => { r with comp := some 3 }

def between : State := ⟨testing.dev.setSamp fun r => { r with comp := none }, []⟩

set_option maxRecDepth 20000 in
theorem wit_SelfTest : awake mayNot.dev = true ∧ stalled mayNot.dev (.hewer 0) = none ∧ mayNot.dev.hears (.hewer 0) ∧ mayNot.dev.accepts 3 ∧
    (mayNot.dev.die 3).wdPend = false ∧ (mayNot.dev.die 3).stRun = false ∧ maskLegs (mayNot.dev.die 3) ≠ [] ∧
    testing.dev.hears (.hewer 0) ∧ testing.dev.accepts 3 ∧ (testing.dev.die 3).stRun = true ∧
    (testing.dev.die 3).stAbort = false ∧ (testing.dev.die 3).stOn = true ∧ testing.dev.samp.comp = some 3 ∧ (testing.dev.die 3).stLegs = [3] ∧
    (testing.dev.die 3).stStep < 5 ∧ testable (dacRequest (.comp 3) (dacRelease testing.dev)) (64 * 3 + 3) = true ∧
    stPasses testing.dev 3 4 (some 20) = true ∧ stPasses testing.dev 3 4 (some 21) = false ∧ between.dev.samp.comp ≠ some 3 ∧
    (between.dev.die 3).stRun = true := by
  unfold Dev.accepts Dev.hears; decide

/-! ### The collector -/

/-- A message of kind 13 of the sampling page, decided at L0; the tally has one place left. -/
def oneMsg : State := inRun fun d => d.setFlt fun r => { r with
  inflight := [faultOf adcP 13 0], tally := List.replicate 63 (1, 2) }

theorem wit_EventsTallyAndFirst : awake oneMsg.dev = true ∧ stalled oneMsg.dev (.hewer 0) = none ∧ oneMsg.dev.flt.inflight = [faultOf adcP 13 0] ∧
    oneMsg.dev.flt.waiting = [] ∧ oneMsg.dev.flt.tally.length < 64 ∧ injArmed oneMsg.dev = false ∧
    (faultOf adcP 13 0).kind ≠ 14 ∧ (faultOf adcP 13 0).kind ≤ 56 ∧ decideLevel oneMsg.dev (faultOf adcP 13 0) = (0, false) ∧
    oneMsg.dev.flt.decCycle ≠ oneMsg.dev.now / 2 ∧ oneMsg.dev.flt.tally = (1, 2) :: List.replicate 62 (1, 2) ∧
    tallyBefore mayNot.dev = [] ∧ mayNot.dev.flt.firstTaken = false := by decide

def owesClear : State := inRun fun d => (regs [(legP 255 + 0x05C, 6)] (held d)).setFlt fun r => { r with
  retry := [⟨255, false, 100000, 7⟩, ⟨255, true, 100000, 8⟩, ⟨255, true, 100001, 9⟩], occ := [⟨255, 1, 0, 0, true⟩, ⟨255, 2, 0, 0, true⟩, ⟨254, 1, 0, 0, true⟩] }

theorem wit_RetriesAndOccurrences : awake owesClear.dev = true ∧
    ⟨255, false, 100000, 7⟩ ∈ owesClear.dev.flt.retry ∧ owesClear.dev.now = 100000 ∧ (owesClear.dev.leg 255).retired = false ∧
    owesClear.dev.accepts (255 / 64) ∧ (owesClear.dev.die (255 / 64)).wdPend = false ∧
    owesClear.dev.eventAt (legP 255 + 0x05C) = none ∧ softFilter owesClear.dev (255 / 64) + 32 ≤ 96 ∧
    ¬ softFilter owesClear.dev (255 / 64) + 32 ≤ 43 := by unfold Dev.accepts; decide

/-- A request waits for a scope, with the root clock locked and the supplies good; the tick is `n` ticks into the quiet period, which is 100 ms at reset. -/
def recovers (sc : Scope) (m : Mode) (n : Nat) : State :=
  inRun fun d => ({ regs [(clkP + 0x044, 0x80000000), (pwrP + 0x040, 7)] (held d) with mode := m, now := n }.setAuth
    { d.auth with lastBeat := n }).setFlt fun r => { r with wait := some ⟨sc, false⟩ }

/-- Whether something speaks against the release once the clears have been sent. -/
def clearBlocked (sc : Scope) (m : Mode) (n : Nat) : Bool :=
  let sent := sendClears [] (recLatched (recovers sc m n).dev sc) (recovers sc m n).dev
  recBlocked sent.1 sc [] sent.2

set_option maxRecDepth 20000 in
theorem wit_Recovery : awake mayNot.dev = true ∧ stalled mayNot.dev (.hewer 0) = none ∧ mayNot.dev.flt.wait = none ∧ scopeOfCode 1 63 = some (.gang 63) ∧
    recRefusal mayNot.dev (.hewer 0) 1 63 = 0 ∧ recRefusal mayNot.dev (.hewer 0) 1 64 ≠ 0 ∧
    quietEnd (recovers (.axis 15) .run 60000000).dev (.axis 15) = 60000000 ∧
    recMode (recovers (.axis 15) .run 60000000).dev (.axis 15) = false ∧ (clearBlocked (.axis 15) .run 60000000) = false ∧
    recMode (recovers (.gang 63) .run 60000000).dev (.gang 63) = false ∧ (clearBlocked (.gang 63) .run 60000000) = true ∧
    recMode (recovers .device .safe 600000000).dev .device = false ∧ (clearBlocked .device .safe 600000000) = false ∧
    recMode (recovers .device .run 600000000).dev .device = true ∧
    quietEnd (recovers .device .safe 600000000).dev .device = 600000000 := by decide

def armed : State := inRun fun d => (regs [(fltP + 0x08C, 0x00010001), (fltP + 0x098, 0x10000000), (fltP + 0x094, 0)] d).setFlt
  fun r => { r with injAt := 100000 - 600 }

theorem wit_InjectionSession : awake mayNot.dev = true ∧ stalled mayNot.dev (.hewer 0) = none ∧ injArmed mayNot.dev = false ∧
    inTarget 0 (regs [(fltP + 0x090, 0x10000000)] mayNot.dev |>.reg (fltP + 0x090)).toNat = true ∧ injArmed armed.dev = true ∧
    armed.dev.flt.injAt + 600 * max 1 (bits (armed.dev.reg (fltP + 0x094)) 0 16) = armed.dev.now := by decide

/-! ### The journal -/

/-- The journal is ready with its head at a slot, and the record of leg 255 waits. -/
def journals (h : Nat) : State := inRun fun d => (regs [(nvP + 0x050, 0)] d |>.setFld nvP NV.JSTAT.READY 1
  |>.setFld nvP NV.JSTAT.HEAD h).setFlt fun r => { r with journal := [⟨255, 1, 7, false⟩] }
def unscanned : State := inRun fun d => memPutAll (journalA 4095) (journalBytes ⟨255, 1, 7, false⟩) d
def reclaims : State := inRun fun d => (memPutAll (journalA 4095) (journalBytes ⟨255, 1, 7, false⟩)
  (memPutAll (journalA 300) (journalBytes ⟨255, 1, 5, true⟩) d)).setNight fun r => { r with scanned := true, reclaim := some 1 }
def configures : State := inRun fun d => { d with mode := .configure }.setFld nvP NV.JSTAT.READY 1
def formats : State := inRun fun d => (memPutAll (journalA 4095) [1] d).setFld nvP HDR.PROG.RUN 1

set_option maxRecDepth 20000 in
theorem wit_Journal : awake (journals 4095).dev = true ∧ stalled (journals 4095).dev (.hewer 0) = none ∧ nightRuns (journals 4095).dev = true ∧
    (journals 4095).dev.flt.journal = [⟨255, 1, 7, false⟩] ∧ journalReady (journals 4095).dev = true ∧
    (journals 4095).dev.night.reclaim = none ∧ formatting (journals 4095).dev = false ∧
    unscanned.dev.night.scanned = false ∧ reclaims.dev.night.scanned = true ∧ reclaims.dev.night.reclaim = some 1 ∧
    (∀ sl ∈ validSlots reclaims.dev, sl / 256 = 1 →
      newestOf reclaims.dev (validSlots reclaims.dev) (slotLeg reclaims.dev sl) ≠ some sl) ∧
    injHit reclaims.dev (journalA 256) 4096 = false ∧ configures.dev.flt.journal = [] ∧ formatting configures.dev = false ∧
    journalReady configures.dev = true ∧ formatting formats.dev = true := by decide

/-! ### Accesses and commits -/

/-- What a statement asks of a register, for the last gang's page. -/
theorem plain_gang (d : Dev) (who : Requester) (a : Nat) (val : Word) (acc : Acc) (hb : blocked d who a = false)
    (ha : 0x4113F040 ≤ a ∧ a < 0x41140000 ∧ a % 4 = 0 ∧ 0x040 ≤ a % 0x1000) (hp : pageAt a = some (⟨.gang, 0x41100000, 64, 2⟩, 63))
    (hc : accAt .gang (a % 0x1000) = some acc) (hs : specialWrite who .gang 63 (a % 0x1000) val d = none) :
    d.plainAt who a val acc :=
  ⟨by omega, by omega, by omega, by omega, hb, _, _, hp, hc, hs⟩

def evented : State := inRun fun d => (regs [(gangP 63 + 0x0AC, 3)] d).raise (gangP 63) GANG.EVT.SLOT_LOST

theorem wit_WriteByAccessCode : awake evented.dev = true ∧ stalled evented.dev (.hewer 0) = none ∧ evented.dev.plainAt .spi (gangP 63 + 0x0B0) 0xFFFFFFFF .rw ∧
    evented.dev.plainAt .spi (gangP 63 + 0x0AC) 0xFFFFFFFF .w1c ∧ evented.dev.eventAt (gangP 63 + 0x0AC) ≠ none ∧
    evented.dev.eventAt (gangP 63 + 0x0B0) = none ∧ evented.dev.plainAt .spi (gangP 63 + 0x080) 0xFFFFFFFF .roc ∧
    evented.dev.plainAt .spi (gangP 63 + 0x0B8) 0xFFFFFFFF .rc := by
  refine ⟨by decide, by decide, ?_, ?_, by decide, by decide, ?_, ?_⟩ <;>
    exact plain_gang _ _ _ _ _ (by decide) (by decide) (by decide) (by decide) rfl

theorem wit_BlockedWriteIsLogged : pageAt (gangP 63) = some (⟨.gang, 0x41100000, 64, 2⟩, 63) ∧ Page.gang ∈ [Page.frame, .gang, .leg, .axis, .conv, .fb, .ddie] ∧ awake mayNot.dev = true ∧ stalled mayNot.dev (.hewer 0) = none ∧
    sideOf .deputy ≠ 0 ∧ stamp mayNot.dev ≠ 0 ∧ stamp mayNot.dev ≠ sideOf .deputy := by decide

/-- The domain of gang 63 has its commit on its way. -/
def busy : State := inRun fun d => d.setDom 0 { d.dom 0 with st := .queued }

theorem wit_pageOpen (d : Dev) (hs : stamp d = 0) : d.pageOpen .spi (gangP 63) ⟨.gang, 0x41100000, 64, 2⟩ := by
  refine ⟨by decide, by decide, by decide, by decide, .inl (.inr (.inl hs)), 63, fun off h => ?_⟩
  have h1 : gangP 63 = 0x4113F000 := by decide
  have h2 : (0x4113F000 + off - 0x41100000) / 0x1000 = 63 := by omega
  have h3 : ¬ (0x4113F000 + off < 0x41000000) := by omega
  have h4 : ¬ (0x4113F000 + off < 0x41000000 + 256 * 0x1000) := by omega
  have h5 : 0x41100000 ≤ 0x4113F000 + off ∧ 0x4113F000 + off < 0x41100000 + 64 * 0x1000 := by omega
  simp [pageAt, blockPages, h1, h2, h3, h4, h5]

theorem wit_WetAndDomainWrites : awake (inRun id).dev = true ∧ stalled (inRun id).dev (.hewer 0) = none ∧
    (inRun id).dev.plainAt .spi (gangP 63 + 0x040) 0xFFFFFFFF .rww ∧
    busy.dev.plainAt .spi (gangP 63 + 0x040) 0xFFFFFFFF .rww ∧ (inRun id).dev.domBusy ((inRun id).dev.domAt (gangP 63)) = false ∧
    busy.dev.domBusy (busy.dev.domAt (gangP 63)) = true ∧ pageWet (inRun id).dev (gangP 63) = false ∧
    pageCoat (inRun id).dev (gangP 63) = false ∧ bits (63 : Word) 0 7 < 64 ∧ 64 ≤ bits (64 : Word) 0 7 ∧
    PageRow.page ⟨.gang, 0x41100000, 64, 2⟩ = .gang ∧ Page.movable .gang = true := by
  refine ⟨by decide, by decide, ?_, ?_, by decide⟩ <;> exact plain_gang _ _ _ _ _ (by decide) (by decide) (by decide) (by decide) rfl

/-- Domain 0's sibling 1 has a commit on its way, and gang 63 has wet values. -/
def sibBusy : State := inRun fun d => (d.setDom 1 { d.dom 1 with st := .armed }).setWet (gangP 63 + 0x040) (some 5)

theorem wit_GoAndDiscard : awake sibBusy.dev = true ∧ stalled sibBusy.dev (.hewer 0) = none ∧
    sibBusy.dev.domAt (gangP 63) < 67 ∧ sibBusy.dev.domBusy (sibBusy.dev.domAt (gangP 63)) = false ∧
    goBlocked sibBusy.dev (sibBusy.dev.domAt (gangP 63)) = false ∧ sibBusy.dev.domAt (gangP 63) ≠ 64 ∧
    1 ∈ siblings (sibBusy.dev.domAt (gangP 63)) 15 ∧ stamp sibBusy.dev = 0 ∧ stamp busy.dev = 0 := by decide

def aCommit (dom : Nat) : Commit := ⟨dom, [dom], none, 40000, 99999, false, false⟩
def queued : State := inRun fun d =>
  { d with commit := { d.commit with queue := [aCommit 0] } }.setDom 0 { d.dom 0 with st := .queued }
/-- The commit would give leg 2 of die 3 to gang 63 as well as to gang 5. -/
def flawed : State := ⟨regs [(gangP 5 + 0x040, 0x80300000), (gangP 5 + 0x058, 0x82)] ((queued.dev.setWet (gangP 63 + 0x040)
  (some 0x80300000)).setWet (gangP 63 + 0x058) (some 0x82)), []⟩
/-- Sibling domain 1 has a commit on its way. -/
def unioned : State := inRun fun d => { d with commit := { d.commit with queue := [⟨0, [0, 1], some 1, 40000, 0, false, false⟩] } }
/-- An entry of frame 8 for the roster commit that is queued, or armed for a stopped frame, or armed with no entry left. -/
def aSwap : BitVec 64 := BitVec.ofNat 64 (2 ^ 63 + 7 * 2 ^ 40)
def rostQueuedWith (e : BitVec 64) (c : Commit) : State := inRun fun d => { (d.setRost fun r => { r with ents := sput noEntry r.ents 16384 e }) with
  commit := { d.commit with queue := [c] } }
def rostQueued : State := rostQueuedWith aSwap (aCommit 64)
/-- The entry's offset lies past its frame's period. -/
def rostFlawed : State := rostQueuedWith (aSwap ||| BitVec.ofNat 64 (65535 * 2 ^ 44)) (aCommit 64)
def rostBusy : State := rostQueuedWith aSwap { aCommit 64 with bad := some 64 }
def rostArmed (l : List (Nat × Arm)) : State := inRun fun d => { (d.setRost fun r => { r with swaps := l, wet := true }) with
  commit := { d.commit with armed := [aCommit 64] } }
def armedIn (dom a : Nat) (run : Bool) : State := inRun fun d =>
  ({ d with commit := { d.commit with armed := [aCommit dom] } }.setWet a (some 7)).setFld (frameP 15) FRAME.STAT.RUN (b2n run)
    |>.setCoat a (some 9)
def armedEng : State := armedIn 66 (engP + 0x100) false

set_option maxRecDepth 20000 in
theorem wit_CommitValidatesAndSets : queued.dev.commit.queue = [aCommit 0] ∧ (aCommit 0).dom ≠ 64 ∧ (aCommit 0).bad = none ∧
    unioned.dev.commit.queue = [⟨0, [0, 1], some 1, 40000, 0, false, false⟩] ∧ rostQueued.dev.commit.queue = [aCommit 64] ∧
    rostFlawed.dev.commit.queue = [aCommit 64] ∧ rostBusy.dev.commit.queue = [{ aCommit 64 with bad := some 64 }] ∧
    ((rostArmed []).dev.commit.armed.find? fun x => x.dom = 64) = some (aCommit 64) ∧ (rostArmed []).dev.rost.swaps = [] ∧
    (rostArmed [(3, ⟨99999, false, false⟩)]).dev.rost.swapped = false ∧
    frameRun (rostArmed [(3, ⟨99999, false, false⟩)]).dev 3 = false ∧
    ((armedIn 65 adcP false).dev.commit.armed.find? fun x => x.dom = 65) = some (aCommit 65) ∧
    ((armedIn 63 (gangP 63 + 0x040) false).dev.commit.armed.find? fun x => x.dom = 63) = some (aCommit 63) ∧
    frameRun (armedIn 63 (gangP 63 + 0x040) false).dev (63 / 4) = false ∧
    frameRun (armedIn 63 (gangP 63 + 0x040) true).dev (63 / 4) = true ∧
    (armedEng.dev.commit.armed.find? fun x => x.dom = 66) = some (aCommit 66) ∧ (aCommit 66).armedAt < armedEng.dev.now ∧
    (engP + 0x100, some 7) ∈ armedEng.dev.wet ∧ armedEng.dev.domAt (engP + 0x100) ∈ (aCommit 66).union ∧
    (aCommit 66).union.count 66 = 1 := by decide

theorem wit_CastAndReadClears : awake evented.dev = true ∧ stalled evented.dev (.hewer 0) = none ∧
    stamp evented.dev = 0 ∧ bitOf (1 : Word) 0 = true ∧ bitOf (1 : Word) 1 = false ∧
    accAt .gang 0x0B8 = some .rc ∧ isPairLow (gangP 63 + 0x0B8) = false ∧ isPairHigh (gangP 63 + 0x0B8) = false ∧
    evented.dev.eventAt (gangP 63 + 0x0B8) = none ∧
    ((evented.dev.event (gangP 63 + 0x0B8) fun _ => 9).eventAt (gangP 63 + 0x0B8)) = some (0, 9) := by decide

/-- The reader has the high word of the engine's CYC, and the low words of ALARM and ST_MASK of die 3 wait. -/
def pairs : State := inRun fun d => { held d with
  pairs := [(requesterId .spi, [(engP + 0x064, 11)])],
  lows := [(lowKey (requesterId .spi) (pwrP + 0x06C), some 5), (lowKey (requesterId .spi) (ddieP 3 + 0x064), some 6)] }

theorem wit_PairAccess : awake pairs.dev = true ∧ stalled pairs.dev (.hewer 0) = none ∧
    isPairLow (engP + 0x060) = true ∧ isPairHigh (engP + 0x060) = false ∧
    accAt .eng 0x060 ≠ some .rc ∧ isPairHigh (engP + 0x064) = true ∧
    pairTake (sget noPairs pairs.dev.pairs (requesterId .spi)) (engP + 0x064) = some (11, []) ∧
    pairTake (sget noPairs mayNot.dev.pairs (requesterId .spi)) (engP + 0x064) = none ∧
    sget noLow pairs.dev.lows (lowKey (requesterId .spi) (pwrP + 0x06C)) = some 5 ∧ pairs.dev.hears .spi ∧ pairs.dev.accepts 3 ∧
    sget noLow pairs.dev.lows (lowKey (requesterId .spi) (ddieP 3 + 0x064)) = some 6 ∧ (pairs.dev.die 3).wdPend = false := by
  unfold Dev.hears Dev.accepts; decide

/-! ### Frames, gangs and legs -/

/-- A frame in RUN, in a period of 60,000 ticks, at its last PCOUNT and DITH, whose next reload is at tick `t`. -/
def framed (f t : Nat) (d : Dev) : Dev :=
  (regs [(frameP f + 0x040, 0x8000EA60), (frameP f + 0x060, 0xFFF1EA60)] d).setFrame f { d.frame f with reload := t - 60000, next := t }
def reloads : State := inRun (framed 15 100000)
def starts : State := inRun fun d => (framed 15 100000 d).setFrame 15 { d.frame 15 with starting := true, next := 100000 }
  |>.setFld (frameP 15) FRAME.STAT.RUN 0

/-- A commit of frame 15 that clears its RUN, or leaves it, sets at its reload. -/
def setsNow (cfg : Nat) : State := inRun fun d => { (framed 15 100000 d).setWet (frameP 15 + 0x040) (some (BitVec.ofNat 32 cfg)) with
  commit := { d.commit with armed := [⟨60, [60], none, 40000, 99998, false, false⟩] } }
/-- The swap of frame 15 is due at its reload; with `last` it is the only one that waits, and the first. -/
def swapsNow (last : Bool) : State := inRun fun d => { (framed 15 100000 d).setRost fun r => { r with
    swaps := (15, ⟨99998, false, false⟩) :: if last then [] else [(3, ⟨99998, false, false⟩)], swapped := !last, wet := last } with
  commit := { d.commit with armed := [aCommit 64] } }
/-- Gang 5 has legs 2, 3 and 4 of die 3 and a duty for the period of frame 0 that begins now. -/
def laidOut (cfg shed ff msel : Nat) (eng : Option Nat) (act : Nat) (rot : Bool) : State := inRun fun d =>
  (regs [(gangP 5 + 0x040, 0x80300000 + cfg), (gangP 5 + 0x048, shed), (gangP 5 + 0x050, ff), (gangP 5 + 0x058, 0x848382),
    (frameP 0 + 0x04C, 0), (frameP 0 + 0x054, msel), (mdutyA 0 5, 0x22220), (sdutyA 0 5, 0x80013450), (gangP 5 + 0x084, 0x20000),
    (legP 195 + LEG.DEAD.DT_LH.off, 0x00300020)] (framed 0 100000 (held d))).setGang 5 { d.gang 5 with
      occ := [⟨2, false, false⟩, ⟨3, false, false⟩, ⟨4, false, false⟩], engWet := eng, act := act, rotate := rot, loadNew := true,
      ffTrig := some 99000 }
def laid : State := laidOut 0x10064 0 0 0 none 0 false

set_option maxRecDepth 20000 in
theorem wit_FrameReload : awake reloads.dev = true ∧ syncMode reloads.dev 15 = 0 ∧ (reloads.dev.frame 15).next ≤ reloads.dev.now ∧
    reloads.dev.rost.deferred = [] ∧ frameRun reloads.dev 15 = true ∧ reloads.dev.on (frameP 15) FRAME.CFG.RUN = true ∧ reloads.dev.commit.armed = [] ∧
    reloads.dev.rost.swaps = [] ∧ reloads.dev.rost.jobs = [] ∧ syncMode starts.dev 15 = 0 ∧
    (starts.dev.frame 15).next ≤ starts.dev.now ∧ frameRun starts.dev 15 = false ∧ (starts.dev.frame 15).starting = true ∧
    dueReload (setsNow 0).dev 15 = some 100000 ∧
    (slipArmed 15 100000 (hasCommitPoint (setsNow 0).dev 15) (setsNow 0).dev).commit.armed.filter
      (setsAt 15 100000 (hasCommitPoint (setsNow 0).dev 15)) = [⟨60, [60], none, 40000, 99998, false, false⟩] ∧
    dueReload (swapsNow true).dev 15 = some 100000 ∧ masterless (swapsNow true).dev 15 = false ∧
    regangDue (hasCommitPoint (swapsNow true).dev 15) 100000 ⟨99998, false, false⟩ = true ∧
    gangsOn laid.dev 0 = [5] ∧ gangSwitching laid.dev 5 = true ∧ laid.dev.on (frameP 0) FRAME.REFR.EN = false ∧
    rankList laid.dev 5 = [194, 195, 196] ∧ laid.dev.fld (frameP 0) FRAME.CFG.PERIOD = 60000 ∧
    (∀ m ∈ [194, 195, 196], legLive laid.dev m = true ∧ (laid.dev.leg m).dark = false ∧ (laid.dev.leg m).refreshOwed = false ∧
      planFrom (laid.dev.plan m) 100000 = ((false, false), [])) ∧ bitOf (laid.dev.reg (sdutyA 0 5)) 31 = true := by
  and_intros <;> decide

def strong : State := inRun fun d => (ganged (held d)).setLeg 194 { d.leg 194 with sw := true, strongLeft := 0 }
def aged (n : Nat) : State := inRun fun d => (ganged d).setGang 5 { d.gang 5 with loadAge := n }
def retired : State := inRun fun d => (held d).setLeg 255 { d.leg 255 with retired := true, dieRetired := true }

theorem wit_LegUpkeep : awake strong.dev = true ∧ stalled strong.dev (.hewer 0) = none ∧
    strong.dev.mode ≠ .powerUp ∧ strong.dev.mode ≠ .test ∧ strong.dev.accepts (194 / 64) ∧
    (strong.dev.die (194 / 64)).wdPend = false ∧ (strong.dev.leg 194).sw = true ∧ (strong.dev.leg 194).strongLeft = 0 ∧
    (strong.dev.leg 194).adaptive = false ∧ (strong.dev.plan 194).stop = false ∧ strong.dev.on (legP 194) LEG.GATE.FIXED = false ∧
    ((aged 4).dev.gang 5).loadNew = false ∧ gangEn (aged 4).dev 5 = true ∧
    (aged 4).dev.on (gangP 5) GANG.STAT.LOAD_STALE = false ∧ ((aged 4).dev.gang 5).loadAge = 4 ∧
    ((aged 2).dev.gang 5).loadAge < 3 ∧ ((aged 3).dev.gang 5).loadAge = 3 ∧
    (aged 3).dev.now ≠ ((aged 3).dev.frame (gangFrame (aged 3).dev 5)).next ∧ gangEn (aged 2).dev 5 = true ∧ mayNot.dev.hears (.hewer 0) ∧
    (mayNot.dev.leg 255).retired = false ∧ retired.dev.hears (.hewer 0) ∧ (retired.dev.leg 255).retired = true ∧
    listedIn retired.dev 255 = none ∧ (retired.dev.leg 255).retCycle ≠ some (retired.dev.now / 2) := by
  unfold Dev.accepts Dev.hears; decide

/-- Work of a context, of a kind, with a tag. -/
def aWork (ctx kind tag : Nat) : Work :=
  { ctx := ctx, kind := kind, frame := 0, key := 7, tag := tag, inputs := [], readyAt := 99000, lane := none, idx := 0,
    began := 99000, first := 0, nst := 0, slot := List.replicate 8 0, ins := List.replicate 16 0, refs := List.replicate 8 0,
    live := 0, pred := false, written := [], sat := none, held := [], land := [], off := 0, duty := false, slack := 0, done := false, passed := false,
    dead := false }
/-- A duty for gang 5 is on its way; its frame's next reload is `n` ticks away. -/
def duty (tag n : Nat) : State := inRun fun d =>
  (framed 0 (100000 + n) (ganged d)).setEng fun r => { r with works := [{ aWork 255 1 tag with land := [(5, 0x12345, 100000)] }] }

theorem wit_EngineDutyLands : (duty 0 6000).dev.mode ≠ .halt ∧
    (duty 0 6000).dev.eng.works = [{ aWork 255 1 0 with land := [(5, 0x12345, 100000)] }] ∧
    frameRun (duty 0 6000).dev (gangFrame (duty 0 6000).dev 5) = true ∧
    mselBit (duty 0 6000).dev (gangFrame (duty 0 6000).dev 5) 5 = false ∧
    0 = (pcount (duty 0 6000).dev (gangFrame (duty 0 6000).dev 5) + 1) % 256 ∧
    (duty 0 6000).dev.now + (duty 0 6000).dev.fld (frameP 0) FRAME.LATE.LATE ≤ ((duty 0 6000).dev.frame 0).next ∧
    (duty 0 1).dev.on (gangP 5) GANG.CFG.EN = true ∧ ((duty 0 1).dev.frame 0).next < (duty 0 1).dev.now + (duty 0 1).dev.fld (frameP 0) FRAME.LATE.LATE ∧
    (aWork 255 1 0).dead = false ∧ (aWork 255 1 0).done = false ∧ 1 ≠ (pcount (duty 1 6000).dev (gangFrame (duty 1 6000).dev 5) + 1) % 256 := by decide

/-! ### The roster -/

/-- Entry `i` of frame 0's bank, with an action and operand bits, is due on this tick. -/
def entryOf (act ops : Nat) : BitVec 64 := BitVec.ofNat 64 (59999 * 2 ^ 44 + act * 2 ^ 40 + ops)
def dueIn (i act ops : Nat) (d : Dev) : Dev :=
  (framed 0 100001 (ganged d)).setRost fun r => { r with ents := [(i, entryOf act ops)] }
def due (act ops : Nat) : State := inRun (dueIn 16383 act ops)
/-- An armed commit of domain 0, from before this tick, and one of domain 3 on it. -/
def dueCp : State := inRun fun d => { dueIn 16383 3 0 d with
  commit := ⟨[], [], [aCommit 0, { aCommit 3 with armedAt := 100000 }]⟩ }
/-- The entry's gang is enabled on frame 1. -/
def otherFrame : State := inRun fun d => regs [(gangP 5 + 0x040, 0x81300000)] (dueIn 16383 5 5 d)
def ninth : State := inRun fun d => (dueIn 16383 7 0 d).setRost fun r => { r with dispAt := 100000, disp := 8 }
/-- A SAMPLE of the tick before waits, and seven others have been dispatched on this tick. -/
def deferredOne : State := inRun fun d => (dueIn 16383 1 0 d).setRost fun r => { r with
  deferred := [⟨0, 16383, 0, 99999⟩], dispAt := 100000, disp := 7 }

theorem wit_RosterEntriesAct : (due 1 0).dev.dispatches (0 : Fin 16) 16383 1 ∧ (due 2 0).dev.dispatches (0 : Fin 16) 16383 2 ∧
    (due 2 0).dev.rost.jobs = [] ∧ dueCp.dev.dispatches (0 : Fin 16) 16383 3 ∧
    (due 4 5).dev.dispatches (0 : Fin 16) 16383 4 ∧ gangEn (due 4 5).dev 5 = true ∧ gangFrame (due 4 5).dev 5 = 0 ∧
    (due 5 5).dev.dispatches (0 : Fin 16) 16383 5 ∧ (due 5 63).dev.dispatches (0 : Fin 16) 16383 5 ∧
    gangEn (due 5 63).dev 63 = false ∧ (due 4 63).dev.dispatches (0 : Fin 16) 16383 4 ∧ gangEn (due 4 63).dev 63 = false ∧
    otherFrame.dev.dispatches (0 : Fin 16) 16383 5 ∧ gangEn otherFrame.dev 5 = true ∧ gangFrame otherFrame.dev 5 = 1 ∧ (due 6 0x100).dev.dispatches (0 : Fin 16) 16383 6 ∧
    (due 7 0x1FFFF).dev.dispatches (0 : Fin 16) 16383 7 ∧ entryDue ninth.dev 0 16383 = true ∧ ninth.dev.rost.deferred = [] ∧
    8 ≤ dispatched ninth.dev ∧ deferredOne.dev.rost.deferred = [⟨0, 16383, 0, 99999⟩] ∧
    eAction (entryAt deferredOne.dev 16383) = 1 ∧ 99999 < deferredOne.dev.now ∧ dispatched deferredOne.dev = 7 := by
  unfold Dev.dispatches
  and_intros <;> decide

def aJob : JobWait := ⟨191, 7, 1, 0, true, 0⟩
def ready (en : Bool) (ws : List Work) : State := inRun fun d =>
  ((regs (if en then [(engP + 0x100 + 4 * 191, 0x80000000)] else []) d).setRost fun r => { r with jobs := [aJob] }).setEng fun r =>
    { r with works := ws }
def lowHeld : State := inRun fun d => { d with lows := [(lowKey (requesterId .spi) 0x31037FF8, some 9)] }
def lowHeld0 : State := inRun fun d => { d with lows := [(lowKey (requesterId .spi) 0x31017FF8, some 9)] }
/-- A swap of the roster waits. -/
def swapWaits : State := ⟨lowHeld.dev.setRost fun r => { r with swaps := [(3, ⟨99999, false, false⟩)] }, []⟩
def clears : State := inRun fun d => (framed 0 100001 d).setRost fun r => { r with cmd := 2, ents := [(5, 1), (16384, 2)] }
def copies : State := inRun fun d => (framed 0 100001 d).setRost fun r => { r with cmd := 1, ents := [(5, 1), (16384, 2)] }

theorem wit_RosterAccess : awake (ready true []).dev = true ∧ stalled (ready true []).dev (.hewer 0) = none ∧
    ((ready true []).dev.rost.jobs.find? fun x => x.ctx = 191 && (x.nowait || jobComplete (ready true []).dev x)) =
      some aJob ∧ unfinished (ready true []).dev 191 = false ∧ (ready true []).dev.eng.works = [] ∧
     chainEn (ready true []).dev 191 = true ∧
    unfinished (ready true [aWork 191 1 0]).dev 191 = true ∧
    sget noLow lowHeld.dev.lows (lowKey (requesterId .spi) (0x31000000 + 0x20000 + 8 * 12287)) = some 9 ∧
    lowHeld.dev.domBusy 64 = false ∧ lowHeld.dev.rost.swaps = [] ∧ lowHeld.dev.rost.cmd = 0 ∧ true ≠ activeBank lowHeld.dev ∧
    false = activeBank lowHeld.dev ∧ swapWaits.dev.rost.swaps ≠ [] ∧ true ≠ activeBank swapWaits.dev ∧ clears.dev.rost.cmd = 2 ∧ copies.dev.rost.cmd = 1 ∧ clears.dev.rost.swaps = [] := by
  decide

/-! ### Sampling -/

/-- Slices 0 to 10 are on shift; a request of a frame is under way. -/
def aReq (frame arrive : Nat) : Req := ⟨frame, 5, 3, 0, 20, 63, 255, 0, arrive, none⟩
def onShift (d : Dev) : Dev := regs ((adcP + ADC.STAT.READY.off, 2 ^ ADC.STAT.READY.lo) ::
  (List.range 11).map fun t => (sliceP t + SLICE.SSTAT.STATE.off, 2 ^ SLICE.SSTAT.STATE.lo)) d
def asks (frame arrive : Nat) : State := inRun fun d => (onShift d).setSamp fun r => { r with reqs := [aReq frame arrive] }
/-- Input 3 is guarded against the edges of gang 5's frame, and an edge falls into the acquisition. -/
def guards : State := inRun fun d => (regs [(adcP + 0x10C, 0x80000000)] (ganged (onShift d))).setPlan 194
  { d.plan 194 with edges := [(100000, .gh, true)] } |>.setSamp fun r => { r with reqs := [aReq 0 99998] }

theorem wit_SliceWork_unready : nextReq (inRun fun d => d.setSamp fun r => { r with reqs := [aReq 0 99998] }).dev = some (aReq 0 99998) ∧
    (inRun fun d => d.setSamp fun r => { r with reqs := [aReq 0 99998] }).dev.on adcP ADC.STAT.READY = false := by decide

/-- A result of frame 0 is to be delivered on the tick on which a request of frame 1 is given up. -/
def staleBehind : State := ⟨(asks 1 99400).dev.setSamp fun r => { r with dels := [⟨aReq 0 99900, 100000, 99972, 11, none, 0, []⟩] }, []⟩

theorem wit_SliceWork : nextReq (asks 0 99998).dev = some (aReq 0 99998) ∧ sampReady (asks 0 99998).dev = true ∧
    freeSlices (asks 0 99998).dev = List.range 11 ∧ guarded (asks 0 99998).dev (aReq 0 99998) = false ∧
    (asks 0 99998).dev.samp.diag = none ∧ nextReq guards.dev = some (aReq 0 99998) ∧ sampReady guards.dev = true ∧
    freeSlices guards.dev = List.range 11 ∧ guarded guards.dev (aReq 0 99998) = true ∧
    staleReq (asks 17 99400).dev = some (aReq 17 99400) ∧ staleReq (asks 16 99400).dev = some (aReq 16 99400) ∧
    staleReq staleBehind.dev = some (aReq 1 99400) ∧ (∃ y ∈ staleBehind.dev.samp.dels, y.at_ = staleBehind.dev.now ∧ y.req.frame < 1) := by
  decide

def aDel (frame : Nat) : Del := ⟨aReq frame 99900, 100000, 99972, 11, none, 0, []⟩
def delivers (frame : Nat) : State := inRun fun d => d.setSamp fun r => { r with dels := [aDel frame] }

/-- A result of a roster entry for IN word 0 of context 191, or of none, converted or skipped; with or without a prediction. -/
def entryDel (ctx sl : Nat) : Del := ⟨{ aReq 0 99900 with ctx := ctx }, 100000, 99972, sl, none, 0, []⟩
def entryDone (ctx sl pre : Nat) : State := inRun fun d => (setCtxWord 191 16 (BitVec.ofNat 32 pre) (setCtxWord 191 0 77
  (regs [(engP + 0x100 + 4 * 191, 0x80001000)] d))).setSamp fun r => { r with dels := [entryDel ctx sl] }

theorem wit_ResultDelivery_entry : nextDel (entryDone 191 11 0).dev = some (entryDel 191 11) ∧ (entryDel 191 11).tdac = none ∧
    (entryDone 191 11 0).dev.samp.reqs = [] ∧ (∀ y ∈ (entryDone 191 11 0).dev.samp.dels, y.at_ ≠ y.hold) ∧
    phaseOf (entryDone 191 11 0).dev 191 0 = none ∧ nextDel (entryDone 191 15 0x80000123).dev = some (entryDel 191 15) ∧
    phaseOf (entryDone 191 15 0x80000123).dev 191 0 = none ∧
    bitOf (ctxWord (entryDone 191 15 0x80000123).dev 191 16) 31 = true := by decide

theorem wit_ResultDelivery (f : Nat) (hf : f = 16 ∨ f = 17) :
    nextDel (delivers f).dev = some (aDel f) ∧ (delivers f).dev.samp.reqs = [] ∧ (∀ y ∈ (delivers f).dev.samp.dels, y.at_ ≠ y.hold) ∧
    (aDel f).slice < 12 ∧ (aDel f).tdac = none ∧ (aDel f).req.ctx = 255 ∧ (aDel f).req.res < 64 ∧ (aDel f).req.input < 64 := by
  rcases hf with rfl | rfl <;> decide

def drains : State := inRun fun d => (regs [(sliceP 11 + SLICE.SSTAT.STATE.off, 2 * 2 ^ SLICE.SSTAT.STATE.lo)] (onShift d)).setSamp
  fun r => { r with plumb := none, drainAt := 99999 }
def plumbs (fails : Nat) : State := inRun fun d => (regs [(sliceP 11 + SLICE.SSTAT.STATE.off,
  3 * 2 ^ SLICE.SSTAT.STATE.lo + fails * 2 ^ SLICE.SSTAT.FAILS.lo)] (onShift d)).setSamp
  fun r => { r with plumb := some (11, 5, 100000) }
def calibrated : State := inRun fun d => d.setSamp fun r => { r with plumb := some (15, 5, 100000) }

theorem wit_SliceCalibration : sliceState drains.dev 11 = 2 ∧ drains.dev.samp.dels = [] ∧ drains.dev.samp.drainAt < drains.dev.now ∧
    drains.dev.samp.plumb = none ∧ (plumbs 0).dev.samp.plumb = some (11, 5, 100000) ∧ sliceState (plumbs 0).dev 11 = 3 ∧
    plumbCause ⟨-512, 2047, -32, 8200⟩ = 0 ∧ plumbCause ⟨-512, 2047, -32, 8201⟩ = 4 ∧ plumbCause ⟨-513, 2047, -32, 8200⟩ = 1 ∧
    (plumbs 0).dev.fld (sliceP 11) SLICE.SSTAT.FAILS = 0 ∧ (plumbs 1).dev.fld (sliceP 11) SLICE.SSTAT.FAILS ≠ 0 ∧
    nextSlice (plumbs 0).dev 11 = some 0 ∧ calibrated.dev.samp.plumb = some (15, 5, 100000) ∧
    (∀ t < 12, sliceState calibrated.dev t ≠ 4) := by decide

def dac (owner td : Nat) (pl : Option (Nat × Nat × Nat)) (wait : Bool) (q : List DacUser) : State := inRun fun d =>
  ((d.setFld adcP ADC.STAT.DACOWN owner).setFld adcP ADC.STAT.TD td).setSamp fun r =>
    { r with plumb := pl, plumbWait := wait, queue := q, armedAt := 100000 - 100000, diag := some (1, 2) }
/-- Die 3's self-test waits for the DAC with leg 2 still to test. -/
def dacSt : State := let s := dac 0 1 none false [.comp 3]; { s with dev := s.dev.setDie 3 { s.dev.die 3 with stRun := true, stLegs := [2] } }
def dacOld : State := inRun fun d => { d with now := 600000 }.setFld adcP ADC.STAT.TD 2
def manFree : State := inRun (regs [(adcP + ADC.MANRES.VALID.off, 2 ^ ADC.MANRES.VALID.lo + 63 * 2 ^ ADC.MANRES.RES.lo)])
/-- MAN for input 63 at gain 0 with the shortest acquisition, into result 63. -/
def manWord : Word := BitVec.ofNat 32 (1 + 63 * 2 ^ 8 + 63 * 2 ^ 16 + 8 * 2 ^ 22)

theorem wit_TestDacManAndWindows : awake dacSt.dev = true ∧ stalled dacSt.dev (.hewer 0) = none ∧
    (dac 0 1 none false [.diag]).dev.samp.queue = [.diag] ∧ dacOwner (dac 0 1 none false [.diag]).dev = 0 ∧
    dacSt.dev.samp.queue = [.comp (3 : Fin 4)] ∧ dacSt.dev.samp.comp = none ∧ dacOwner dacSt.dev = 0 ∧ (dacSt.dev.die 3).stLegs = [2] ∧
    testable dacSt.dev 194 = true ∧ dacOwner (dac 2 2 (some (4, 2, 7)) true []).dev = 2 ∧
    (dac 2 2 (some (4, 2, 7)) true []).dev.samp.plumbWait = true ∧ dacOwner (dac 0 0 (some (4, 2, 7)) true []).dev = 0 ∧ mayNot.dev.fld adcP ADC.STAT.TD = 0 ∧
    (dac 2 2 none true []).dev.fld adcP ADC.STAT.TD ≠ 0 ∧ dacOld.dev.fld adcP ADC.STAT.TD = 2 ∧
    dacOld.dev.samp.armedAt + 600000 = dacOld.dev.now ∧ bitOf manWord 0 = true ∧ manFree.dev.on adcP ADC.MANRES.VALID = true ∧
    manFree.dev.fld adcP ADC.MANRES.RES = bits manWord 16 6 ∧ manFree.dev.samp.reqs = [] ∧ manFree.dev.samp.dels = [] ∧
    sargOk (bits manWord 8 6) (bits manWord 29 3) (bits manWord 22 7) = true ∧ mayNot.dev.on adcP ADC.MANRES.VALID = false := by
  decide

/-! ### The engine -/

def works (ws : List Work) : State := inRun fun d =>
  (regs [(engP + 0x100 + 4 * 191, 0x80001000)] d).setEng fun r => { r with works := ws }
/-- A stage of type 19, HOLD, at its last tick in lane 3. -/
def running (idx nst : Nat) : Work := { aWork 191 1 5 with
  lane := some 3, began := 100000 - 6, idx := idx, nst := nst, slot := 0x98000000 :: List.replicate 7 0 }

theorem wit_WorkStartAndRun : freeLane (works [aWork 191 1 5]).dev = some 0 ∧
    waitingWork (works [aWork 191 1 5]).dev = some (aWork 191 1 5) ∧
    ((works [running 0 1]).dev.eng.works.find? fun x => x.lane = some 3) = some (running 0 1) ∧
    (running 0 1).began + stageCost (stageOf (running 0 1).slot).type = (works [running 0 1]).dev.now ∧
    (running 0 1).dead = false ∧ (running 0 1).passed = false ∧ ctxResetting (works [running 0 1]).dev 191 = false ∧ injArmed (works [running 0 1]).dev = false ∧
    (runStage (stageOf (running 0 1).slot) (stageEnv (addCycles (stageCost (stageOf (running 0 1).slot).type)
      (works [running 0 1]).dev) (running 0 1))).fx = [] := by decide

def finished : Work := { aWork 191 1 255 with done := true, written := [(16, 3), (126, 4)] }

theorem wit_JobCommitAndVerify_job : committable (works [finished]).dev 191 = some finished ∧ (126, 4) ∈ finished.written ∧
    (∀ q ∈ finished.written, q.1 = 126 → q.2 = 4) ∧ finished.written.all (fun p => p.1 != 127) = true := by decide

def spec : Work := { aWork 191 2 0 with lane := some 0, ins := 100 :: List.replicate 15 0 }
/-- The context's tolerance is 4 codes; input 0 has been delivered with code `n`, 100 was predicted. -/
def verifies (n : Nat) : State := inRun fun d => (setCtxWord 191 0 (BitVec.ofNat 32 n)
  (regs [(engP + 0x100 + 4 * 191, 0x80001000)] d)).setEng fun r =>
    { r with works := [spec], verifs := [⟨191, 0, 7, 9, [0], 0, false, 100000⟩] }

theorem wit_JobCommitAndVerify_verify : ((verifies 104).dev.eng.verifs.find? fun x => x.ctx = 191) = some ⟨191, 0, 7, 9, [0], 0, false, 100000⟩ ∧
    ((verifies 104).dev.eng.works.find? fun x => x.ctx = 191 && x.kind = 2) = some spec ∧ spec.done = false ∧ spec.lane ≠ none ∧
    spec.passed = false ∧ spec.dead = false ∧ bitOf (ctxWord (verifies 105).dev 191 0) 31 = false ∧
    ((bits (ctxWord (verifies 104).dev 191 0) 0 14 : Int) - bits (spec.ins.getD 0 0) 0 14).natAbs =
      4 * bits (chainWord (verifies 104).dev 191) 12 6 ∧
    4 * bits (chainWord (verifies 105).dev 191) 12 6 <
      ((bits (ctxWord (verifies 105).dev 191 0) 0 14 : Int) - bits (spec.ins.getD 0 0) 0 14).natAbs := by decide

def resets : State := inRun fun d => (setCtxWord 191 127 5 (setCtxWord 191 33 6 (setCtxWord 190 40 7 d))).setEng fun r =>
  { r with resets := [⟨191, true, none⟩] }
/-- Context 191's chain is on and holds slots 4094 and 4095. -/
def chained : State := inRun fun d => regs [(engP + 0x100 + 4 * 191, 0x80040FFE)] (putSlot 4095 2 0xAABBCCDD d)

theorem wit_ContextAccess : awake mayNot.dev = true ∧ stalled mayNot.dev (.hewer 0) = none ∧
    mayNot.dev.eng.resets = [] ∧ mayNot.dev.eng.works = [] ∧ bits (0xBF01 : Word) 8 8 = 191 ∧
    bits (0xC001 : Word) 8 8 = 192 ∧ resets.dev.eng.resets = [⟨191, true, none⟩] ∧ chainEn mayNot.dev 191 = false ∧
    chainEn chained.dev 191 = true := by decide

set_option maxRecDepth 20000 in
theorem wit_ContextAccess_slots : liveIn mayNot.dev 4095 = none ∧ liveIn chained.dev 4095 = some 191 := by decide

/-! ### Axes -/

/-- Axis 15 is enabled, in a state, with the Hewer holding. -/
def axisIn (st : Nat) (d : Dev) : Dev := regs [(axisP 15 + 0x040, 0x80000000), (axisP 15 + 0x090, st * 2 ^ 28)] (held d)
def axisAt (st : Nat) : State := inRun (axisIn st)
def lowBus : State := inRun fun d => regs [(axisP 15 + 0x0E8, 1)] (axisIn 0 d)
/-- The axis's sounding window has ended on this tick, and the axis has gone on. -/
def overWindow : Window := ⟨some 40000, 100000, false, 8, 0, 40000, some ⟨100000, 0, 0, 0, 0⟩, 0, [0, 0, 0, 0x10000, 0x01000000, 0]⟩
def windowOver : State := inRun fun d => (axisIn 1 d).setAxis 15 { d.axis 15 with window := some overWindow }
def ownTaken : State := ⟨match Machine.exec (.soundingWindowEnd 15) windowOver with | .next t => t.dev | _ => Dev.reset, []⟩
/-- The window's end comes on a tick whose cause is taken. -/
def windowOwed : State := ⟨windowOver.dev.setAxis 15 { windowOver.dev.axis 15 with cause := some 100000 }, []⟩
def causeTaken : State := inRun fun d => (axisIn 4 d).setAxis 15 { d.axis 15 with cause := some 100000 }

/-- The axis's frame 0 reloads on this tick. -/
def reloadsNow (st : Nat) : State := inRun fun d => (((axisIn st d).setFld (frameP 0) FRAME.STAT.RUN 1).setFrame 0
  { d.frame 0 with reload := 100000 }).setAxis 15 { d.axis 15 with resoundAt := 100000 }

theorem wit_AxisCommands_reload : axisState (reloadsNow 0).dev 15 = 0 ∧ causeFree (reloadsNow 0).dev 15 = true ∧
    frameRun (reloadsNow 0).dev (axFrame (reloadsNow 0).dev 15) = true ∧
    ((reloadsNow 0).dev.frame (axFrame (reloadsNow 0).dev 15)).reload = (reloadsNow 0).dev.now ∧
    frameRun (axisAt 0).dev (axFrame (axisAt 0).dev 15) = false ∧ axisState (reloadsNow 6).dev 15 = 6 ∧
    ((reloadsNow 6).dev.axis 15).window = none ∧ resoundOk (reloadsNow 6).dev 15 = true := by decide

set_option maxRecDepth 20000 in
theorem wit_AxisCommands : awake (axisAt 0).dev = true ∧ stalled (axisAt 0).dev (.hewer 0) = none ∧
    (axisAt 0).dev.hears (.hewer 0) ∧ causeFree (axisAt 0).dev 15 = true ∧ axisState (axisAt 0).dev 15 = 0 ∧
    axOn (axisAt 0).dev 15 = true ∧ (axisAt 0).dev.mode = .run ∧ vbAtLeast (axisAt 0).dev 15 AXIS.BUSL.BUS_LO = true ∧
    vbAtLeast lowBus.dev 15 AXIS.BUSL.BUS_LO = false ∧ axisState lowBus.dev 15 = 0 ∧ axisState (axisAt 4).dev 15 = 4 ∧
    axisState (axisAt 1).dev 15 = 1 ∧ axisState (axisAt 5).dev 15 = 5 ∧ axisState (axisAt 8).dev 15 = 8 ∧
    ((axisAt 0).dev.axis 15).late = [] ∧ axisMay causeTaken.dev 15 3 = false ∧ axisMay ownTaken.dev 15 3 = true ∧
    axisState ownTaken.dev 15 = 3 ∧ axisState (axisBack 15 ownTaken.dev) 15 = 1 ∧ (ownTaken.dev.axis 15).late = [] ∧
    axisMay windowOwed.dev 15 4 = false ∧ axisState windowOwed.dev 15 = 1 ∧
    causeFree (axisAt 8).dev 15 = true ∧ causeTaken.dev.hears (.hewer 0) ∧
    bitOf (3 : Word) 0 = true ∧ bitOf (3 : Word) 1 = true := by
  unfold Dev.hears; decide

/-- A sounding window that ends on this tick, after so many sets, with VMIN and FE_MAX, whose angle turned by `turn`. -/
def aWindow (sets vmin fe : Nat) (turn : Int) : Window :=
  ⟨some 40000, 100000, false, sets, 0, 40000, some ⟨100000, 0, 0, 0, 0⟩, turn,
    [BitVec.ofNat 32 fe, 0, 0, BitVec.ofNat 32 (vmin * 2 ^ 16), 0x01000000, 0]⟩
def sounds (w : Window) : State := inRun fun d => (axisIn 1 d).setAxis 15 { d.axis 15 with window := some w }
def catches (resid : Nat) : State := inRun fun d => (setCtxWord 0 40 (BitVec.ofNat 32 resid) (regs [(axisP 15 + 0x0E0, 0x00000001)]
  (axisIn 2 d))).setAxis 15 { d.axis 15 with seed := some (aWindow 8 0 0 0, 0), catchAt := some 40000 }
def coasts : State := inRun fun d => (axisIn 6 d).setAxis 15 { d.axis 15 with resoundAt := 100000 }
def lost : State := inRun fun d => { (axisIn 4 d).setFld (axisP 15) AXIS.HSTAT.LOST 1 with now := 1200000 }
/-- LR_IQ is 1/32 A, LR_TIME 1 ms, and the tapped iq is 1 A. -/
def locked : State := inRun fun d => (setCtxWord 0 40 0x3F800000 (regs [(axisP 15 + 0x080, 0x00010001)] (axisIn 4 d))).setAxis 15 { d.axis 15 with lrAt := some 40000 }

theorem wit_AxisProgress : axisState (sounds (aWindow 8 1 0 0)).dev 15 = 1 ∧
    causeFree (sounds (aWindow 8 1 0 0)).dev 15 = true ∧ windowClass (aWindow 8 1 0 0) = 1 ∧ windowClass (aWindow 7 1 0 0) = 4 ∧
    windowClass (aWindow 8 0 0 0) = 2 ∧ (⟨windowFe (aWindow 8 0 0 0), -60⟩ : Dy).abs.le ⟨0, 0⟩ = true ∧
    windowClass (aWindow 8 0 1 (-(2 ^ 60))) = 3 ∧ (⟨windowFe (aWindow 8 0 1 (-(2 ^ 60))), -60⟩ : Dy).abs.le ⟨1, 0⟩ = false ∧
    axisState (catches 0).dev 15 = 2 ∧ ((catches 0).dev.axis 15).seed = some (aWindow 8 0 0 0, 0) ∧
    ((catches 0).dev.axis 15).catchAt = some 40000 ∧ 40000 + bits ((aWindow 8 0 0 0).par.getD 4 0) 24 8 * 60000 = (catches 0).dev.now ∧
    residBad (catches 1).dev 15 = false ∧ residBad (catches 2).dev 15 = true ∧ axisState coasts.dev 15 = 6 ∧
    (coasts.dev.axis 15).window = none ∧ (coasts.dev.axis 15).resoundAt = coasts.dev.now ∧ resoundOk coasts.dev 15 = true ∧
    axisState lost.dev 15 = 4 ∧ lost.dev.on (axisP 15) AXIS.HSTAT.LOST = true ∧ (lost.dev.axis 15).lostAt + 1200000 = lost.dev.now ∧
    (locked.dev.axis 15).lrAt = some 40000 ∧ axOn locked.dev 15 = true ∧ lockArmed locked.dev 15 = true ∧ (locked.dev.axis 15).lrSent = false ∧
    40000 + locked.dev.fld (axisP 15) AXIS.LR.LR_TIME * 60000 = locked.dev.now := by decide

/-! ### Feedback channels -/

/-- Channel `k` is enabled in a mode, with a gate of 10 ticks and so many net counts in it. -/
def fbIn (k mode : Nat) (delta : Int) (d : Dev) : Dev :=
  (regs [(fbP k + 0x040, 2 ^ 31 + mode * 2 ^ 28), (fbP k + 0x044, 4096), (fbP k + 0x054, 0x000A0805)] d).setFb k
    { d.fb k with delta := delta }
def counts (pos : Nat) : State := inRun fun d => (regs [(fbP 15 + 0x080, pos)] (fbIn 15 0 0 d)).setFb 15
  { (fbIn 15 0 0 d).fb 15 with change := [some 99999, none, none] } |>.setFld (fbP 15) FB.EDGE.MIN_EDGE 0
def indexes : State := inRun fun d => (fbIn 15 0 0 d).setFb 15 { d.fb 15 with idxDue := some 0 }
def gates (mode : Nat) (delta : Int) : State := inRun (fbIn 15 mode delta)
/-- A read of eight bits that began at tick 0, with DATA at `lvl` since then. -/
def reads (lvl : Bool) : State := inRun fun d => ((fbIn 15 2 0 d).setFld (fbP 15) FB.ABS.PBITS 8).setFb 15
  { d.fb 15 with readAt := some 0, data := [(0, lvl)] }
/-- Both lines changed on this tick, and FILT is 0. -/
def tooSoon : State := inRun fun d => (fbIn 15 0 0 d).setFb 15 { (fbIn 15 0 0 d).fb 15 with change := [some 100000, some 100000, some 100000] }
def emulates : State := inRun fun d => (regs [(fbP 3 + 0x064, 0x80000400), (fbP 3 + 0x068, 100000), (fbP 3 + 0x080, 1)] (fbIn 3 0 0 d))

theorem wit_FeedbackChannel : fbOn (counts 0).dev 15 = true ∧ fbMode (counts 0).dev 15 = 0 ∧
    99999 + (counts 0).dev.fld (fbP 15) FB.EDGE.MIN_EDGE ≤ (counts 0).dev.now ∧
    99999 + (counts 0).dev.fld (fbP 15) FB.CFG.FILT + 1 = (counts 0).dev.now ∧ ((counts 0).dev.fb 15).change = [some 99999, none, none] ∧
    quad 4 = (quad (BitVec.ofNat 3 ((counts 0).dev.fld (fbP 15) FB.FSTAT.LINES)) + 1) % 4 ∧
    quad (BitVec.ofNat 3 ((counts 0).dev.fld (fbP 15) FB.FSTAT.LINES)) = (quad 2 + 1) % 4 ∧
    (quad 6 + 2) % 4 = quad (BitVec.ofNat 3 ((counts 0).dev.fld (fbP 15) FB.FSTAT.LINES)) ∧ fbOn indexes.dev 15 = true ∧
    (indexes.dev.fb 15).idxDue = some 0 ∧ indexes.dev.on (fbP 15) FB.FSTAT.HOMED = false ∧ 0 = fbPos indexes.dev 15 ∧
    0 < fbCpr indexes.dev 15 ∧ fbCpr indexes.dev 15 < 2 ^ 30 ∧ (10 : Nat) = max 1 ((gates 0 8).dev.fld (fbP 15) FB.SPDCFG.GATE) ∧
    dataAt (reads true).dev 15 (0 + absTicks (reads true).dev 15) = true ∧
    dataAt (reads false).dev 15 (0 + absTicks (reads false).dev 15) = false ∧ absWord (reads true).dev 15 0 = 255 ∧
    lineWithin tooSoon.dev 15 0 1 = true ∧ lineWithin tooSoon.dev 15 1 1 = true ∧ lineWithin tooSoon.dev 15 2 1 = true ∧
    ((gates 0 8).dev.fb 15).gateAt < (gates 0 8).dev.now / 10 * 10 ∧ (gates 0 8).dev.fld (fbP 15) FB.SPDCFG.CO_HI = 8 ∧
    (gates 0 4).dev.fld (fbP 15) FB.SPDCFG.CO_LO = 5 ∧ fbMode (gates 2 4).dev 15 = 2 ∧ ((reads true).dev.fb 15).readAt = some 0 ∧
    0 + absTicks (reads true).dev 15 ≤ (reads true).dev.now ∧ (reads true).dev.fld (fbP 15) FB.ABS.CHK = 0 ∧ (reads true).dev.fld (fbP 15) FB.ABS.SBITS = 0 ∧
    (reads true).dev.on (fbP 15) FB.ABS.GRAY = false ∧ ((reads true).dev.fb 15).prev = none ∧ fbOn emulates.dev 3 = true ∧
    emuOn emulates.dev 3 = true ∧ fbCprEff emulates.dev 3 ≠ 0 ∧
    (emulates.dev.fb 3).emuAt + emulates.dev.fld (fbP 3) FB.EMU2.EMIN ≤ emulates.dev.now := by decide

/-- Channel 15 before a count of this tick, and after it: A has risen. -/
def countBase : Dev := (inRun fun d => (regs [(fbP 15 + 0x080, 41)] (fbIn 15 0 0 d)).setFld (fbP 15) FB.EDGE.MIN_EDGE 0).dev
def counted : State := ⟨fbTurn 15 (some 4) countBase, []⟩

set_option maxRecDepth 20000 in
theorem wit_FeedbackCommands : awake mayNot.dev = true ∧ stalled mayNot.dev (.hewer 0) = none ∧
    mayNot.dev.hears (.hewer 0) ∧ bits (1 : Word) 0 3 = 1 ∧ bits (0xFFFFFFFA : Word) 0 3 = 2 ∧
    bits (4 : Word) 0 3 = 4 ∧ mayNot.dev.turns = [] ∧ countBase.turns = [] ∧ counted.dev = fbTurn 15 (some 4) countBase ∧
    fbOn countBase 15 = true ∧ fbMode countBase 15 = 0 ∧
    quad 4 = (quad (BitVec.ofNat 3 (countBase.fld (fbP 15) FB.FSTAT.LINES)) + 1) % 4 ∧ awake counted.dev = true ∧
    stalled counted.dev (.hewer 0) = none ∧ counted.dev.hears (.hewer 0) ∧ fbMode mayNot.dev 15 = 0 ∧ fbMode (gates 2 4).dev 15 ≠ 0 ∧ (gates 2 4).dev.hears (.hewer 0) := by
  unfold Dev.hears; decide

/-! ### Converters -/

/-- Converter 15 is enabled in a role and a state, with the Hewer holding and its record ring in MRAM. -/
def convIn (role st : Nat) (l : List (Nat × Nat)) (d : Dev) : Dev :=
  regs ([(convP 15 + 0x040, 2 ^ 31 + role * 2 ^ 28), (convP 15 + 0x084, st * 2 ^ 28), (convP 15 + 0x078, 0x20000000)] ++ l) (held d)
def convAt (role st : Nat) : State := inRun (convIn role st [])
def fastTrips : State := inRun fun d => (convIn 1 3 [(convP 15 + 0x064, 1)] d).setConv 15 { d.conv 15 with trips := 1, tripAt := 40000 }
def pauses (role n : Nat) : State := inRun fun d => (convIn role 7 [(convP 15 + 0x084, 0x72000000), (convP 15 + 0x060, 0x300)] d).setConv 15
  { d.conv 15 with pause := n }
/-- On a multiple of 0.1 ms, with OL_I 1 and OL_TIME 8. -/
def overload (il cnt : Nat) : State := inRun fun d => { (convIn 1 4 [(convP 15 + 0x050, 1), (convP 15 + 0x054, 8),
  (convP 15 + 0x084, 0x40000100), (convP 15 + 0x088, cnt)] d).setConv 15
  { d.conv 15 with stepAt := 60000, taps := [0, 0, BitVec.ofNat 32 il] } with now := 120000 }
def precharges : State := inRun fun d => (convIn 4 3 [(convP 15 + 0x06C, 0x00010001)] d).setConv 15
  { d.conv 15 with ctcAt := some 40000, startAt := 40000 }
/-- Converter 15 has taken its cause of this tick. -/
def causeGone : State := inRun fun d => let d := convIn 1 3 [] d; d.setConv 15 { d.conv 15 with cause := some 100000 }
def causeGonePause : State := let s := pauses 1 3; { s with dev := s.dev.setConv 15 { s.dev.conv 15 with cause := some 100000 } }
/-- Converter 15 has ended its precharge on this tick, an own transition that a STOP of the tick undoes. -/
def ownGone : State := match Machine.exec (.contactorDelayEnd 15) precharges with
  | .next t => t
  | _ => precharges
/-- A last-fault record waits to be written, its ring at this address of MRAM; the first two image slots are protected in RUN. -/
def records (at_ : Nat) : State := inRun fun d => (convIn 1 4 [(convP 15 + 0x078, at_), (convP 15 + 0x07C, 4)] d).setConv 15
  { d.conv 15 with lf := [(65535, (List.range 32).map (BitVec.ofNat 8))] }
def recordMasked : State := let s := records 0x20600000; { s with dev := { s.dev with arb := { s.dev.arb with mask := 32 } } }

theorem wit_ConverterProgress : awake (convAt 3 0).dev = true ∧ stalled (convAt 3 0).dev (.hewer 0) = none ∧
    (convAt 3 0).dev.hears (.hewer 0) ∧ convFree (convAt 3 0).dev 15 = true ∧ ((convAt 3 0).dev.conv 15).late = [] ∧
    convFree causeGone.dev 15 = false ∧ causeGone.dev.hears (.hewer 0) ∧ convMay causeGone.dev 15 3 = false ∧
    convMay ownGone.dev 15 3 = true ∧ convFree ownGone.dev 15 = false ∧ (ownGone.dev.conv 15).late = [] ∧
    convState ownGone.dev 15 = 4 ∧ convOn (convBack 15 ownGone.dev) 15 = true ∧ convState (convBack 15 ownGone.dev) 15 = 3 ∧ convFree (pauses 1 3).dev 15 = true ∧
    convFree causeGonePause.dev 15 = false ∧ convState causeGonePause.dev 15 = 7 ∧
    causeGonePause.dev.on (convP 15) CONV.CSTAT.PAUSE = true ∧ (causeGonePause.dev.conv 15).pause = 3 ∧
    convFree precharges.dev 15 = true ∧
    convOn (convAt 3 0).dev 15 = true ∧ convState (convAt 3 0).dev 15 = 0 ∧ (convAt 3 0).dev.mode = .run ∧
    convSupply (convAt 3 0).dev 15 = true ∧ convSupply (convAt 1 0).dev 15 = true ∧ convRole (convAt 4 0).dev 15 = 4 ∧
    convRole (convAt 5 0).dev 15 = 5 ∧ convState (convAt 1 1).dev 15 ≠ 0 ∧ convState (convAt 1 3).dev 15 = 3 := by
  unfold Dev.hears; decide

theorem wit_ConverterProgress_timed : convState (convAt 1 4).dev 15 = 4 ∧ convState (convAt 5 7).dev 15 = 7 ∧ (fastTrips.dev.conv 15).trips ≠ 0 ∧
    (fastTrips.dev.conv 15).tripAt + 60000 * fastTrips.dev.fld (convP 15) CONV.FASTW.FAST_WIN = fastTrips.dev.now ∧
    convState (pauses 1 3).dev 15 = 7 ∧ (pauses 1 3).dev.on (convP 15) CONV.CSTAT.PAUSE = true ∧
    max 1 ((pauses 1 3).dev.fld (convP 15) CONV.FASTL.FAST_OFF) = ((pauses 1 3).dev.conv 15).pause ∧
    ((pauses 1 2).dev.conv 15).pause < (pauses 1 2).dev.fld (convP 15) CONV.FASTL.FAST_OFF ∧
    120000 = ((overload 0x10400000 7).dev.conv 15).stepAt / 60000 * 60000 + 60000 ∧ (overload 0x10400000 7).dev.now = 120000 ∧
    convRunning (overload 0x10400000 7).dev 15 = true ∧ (overload 0x10400000 7).dev.fld (convP 15) CONV.VSTAT.OLCNT + 1 =
      (overload 0x10400000 7).dev.fld (convP 15) CONV.OLT.OL_TIME ∧
    (scaledLimit (overload 0x10400000 7).dev 15 CONV.ILIM.OL_I).lt (tapIl (overload 0x10400000 7).dev 15).abs = true ∧
    (scaledLimit (overload 0 0).dev 15 CONV.ILIM.OL_I).lt (tapIl (overload 0 0).dev 15).abs = false ∧
    (precharges.dev.conv 15).ctcAt = some 40000 ∧ convRole precharges.dev 15 = 4 ∧ convState precharges.dev 15 = 3 ∧
    40000 + 60000 * precharges.dev.fld (convP 15) CONV.PCHG2.CT_DLY = precharges.dev.now ∧
    precharges.dev.fld (convP 15) CONV.PCHG2.PC_TMAX ≠ 0 ∧
    (precharges.dev.conv 15).startAt + 60000 * precharges.dev.fld (convP 15) CONV.PCHG2.PC_TMAX = precharges.dev.now ∧
    (precharges.dev.conv 15).pcSent = false ∧
    ((records 0x20000000).dev.conv 15).lf = [(65535, (List.range 32).map (BitVec.ofNat 8))] ∧
    recordShut (records 0x20000000).dev = false ∧ recordShut recordMasked.dev = true ∧
    (∀ i, i < 8 → slotIgnored (records 0x20000000).dev (0x20000060 + 4 * i) = true) ∧
    (∀ i, i < 8 → slotIgnored (records 0x20600000).dev (0x20600060 + 4 * i) = false) := by
  decide

/-! ### The night shift -/

def damps : State := inRun (regs [(bgP + 0x06C, 0x83020001)])
def aDamp (avg : Bool) (since : Nat) : Damp := ⟨avg, since, 0, 0x83020001, 0, 0⟩
def settles : State := inRun fun d => (regs [(bgP + 0x070, 1)] { d with now := 700000 }).setNight fun r =>
  { r with damp := some (aDamp false 100000) }
/-- All 128 conversions of a step have come, each with code 1; the threshold is met from KB = 1,398,102 / 64 codes on. -/
def averages (step kb n : Nat) : State := inRun fun d => ((regs [(bgP + 0x084, step * 2 ^ 28 + 2 ^ 27), (bgP + 0x078, 2 ^ 16 + kb)] d).setNight
  fun r => { r with damp := some (aDamp true 90000) }).setSamp fun r => { r with bg := (List.range n).map fun i => (i, 8192, 0) }
def abandons : State := inRun fun d => { d with now := 60090000 }.setNight fun r => { r with damp := some (aDamp true 90000) }
def teleOn : State := inRun (regs [(bgP + 0x054, 0x80810001), (bgP + 0x058, 0x3F000000)])
def aTelem : Telem := ⟨40000, 60000, 0x81, 0⟩
def teleEnds : State := inRun fun d => (regs [(bgP + 0x060, 0x20000000), (bgP + 0x064, 2), (bgP + 0x068, 65535)] d).setNight fun r =>
  { r with telem := some aTelem }
def skims (m pos : Nat) : State := inRun (regs [(bgP + 0x040, 0xC0000000), (nvP + 0x040, 0x80000000),
  ((skimRow m).page + (skimRow m).posOff, pos)])
/-- Hart 1 has reserved the granule of the skim position's beat, hart 0 another one. -/
def skimResv : State := let s := skims 0 0x10000008
  { s with dev := { s.dev with sys := { s.dev.sys with resv := [some (0x10000040, 99999), some (0x10000000, 99999), none, none] } } }
/-- A skim grant that FREEZE ends at its next beat boundary. -/
def skimCut (m pos : Nat) : State := let s := skims m pos
  { s with dev := regs [(arbP + 0x058, 0x061F0000)] { s.dev with arb := { s.dev.arb with cut := true } } }

theorem wit_NightShiftWork : damps.dev.on bgP BG.DCFG.EN = true ∧ dampModes damps.dev = true ∧ damps.dev.night.damp = none ∧
    damps.dev.night.dampAt = none ∧ settles.dev.night.damp = some (aDamp false 100000) ∧
    100000 + 600000 * settles.dev.fld bgP BG.DSETTLE.DSETTLE = settles.dev.now ∧
    abandons.dev.night.damp = some (aDamp true 90000) ∧ 90000 + 60000000 = abandons.dev.now ∧
    teleOn.dev.on bgP BG.TCFG.EN = true ∧ nightRuns teleOn.dev = true ∧ nightRuns teleEnds.dev = true ∧ nightShut teleEnds.dev = false ∧ teleOn.dev.night.telem = none ∧
    teleEnds.dev.night.telem = some aTelem ∧ aTelem.start + aTelem.len = teleEnds.dev.now ∧
    skimFree (skims 0 0x10000000).dev 0 = true ∧ skimFree (skims 1 0x207FFFF8).dev 1 = true ∧
    skimFree (skims 2 0x1807FFFC).dev 2 = true ∧ skimFree skimResv.dev 0 = true ∧ nightCut skimResv.dev = false ∧
    skimResv.dev.sys.resv.getD 1 none = some (0x10000000, 99999) ∧ injArmed skimResv.dev = false ∧ nightCut (skims 0 0x10000000).dev = false ∧
    skimFree (skimCut 0 0x10000000).dev 0 = true ∧ skimFree (skimCut 1 0x207FFFF8).dev 1 = true ∧
    nightCut (skimCut 0 0x10000000).dev = true ∧ injArmed (skimCut 0 0x10000000).dev = false ∧ injArmed (skims 2 0x1807FFFC).dev = false := by decide

set_option maxRecDepth 20000 in
theorem wit_NightShiftWork_averages : bgSum (averages 1 171 128).dev 0 = some 524288 ∧
    bgSum (averages 1 171 128).dev 64 = some 524288 ∧ (averages 1 171 128).dev.on adcP ADC.CFG.VREF_EXT = false ∧
    89478486 ≤ (averages 1 171 128).dev.fld bgP BG.DK.KB * 524288 ∧ (averages 1 170 128).dev.fld bgP BG.DK.KB * 524288 < 89478486 ∧
    (averages 1 171 128).dev.fld bgP BG.DSTAT.STEP = 1 ∧ (averages 2 171 128).dev.fld bgP BG.DSTAT.STEP = 2 := by decide

/-! ### Authority -/

/-- The claim bits and the phase, with a request of identifier 9 recorded. -/
def authAt (h p st : Nat) (d : Dev) : Dev :=
  regs [(authP + 0x040, st * 2 ^ 28 + (if h = 1 then 2 ^ 16 else if h = 2 then 2 ^ 17 else 0)), (AUTH_REQ, p * 2 ^ 31 + 9)] d
def authS (h p st : Nat) : State := inRun (authAt h p st)
def asked : State := inRun fun d => { authAt 2 1 1 d with now := 600000 }
def beats (n : Nat) : State := inRun fun d => { (authAt 1 0 0 d).setFld authP AUTH.STATE.ARMED 1 with now := n }
def dueSwitch (c : Nat) : Dev := (inRun fun d => { authAt 1 0 0 ((d.setWet (gangP 5 + 0x040) (some 1)).setWet
  (engP + 0x100) (some 2)) with auth := { d.auth with due := some (c, 2) } }).dev

/-- A conflict came on this cycle; a request's timeout came on it. -/
def clashes : State := let s := authS 2 1 1; { s with dev := { s.dev with auth := { s.dev.auth with conflict := some 50000 } } }
def expires : State := let s := authS 2 0 0; { s with dev := { s.dev with auth := { s.dev.auth with expired := some (50000, 0x80000009) } } }
/-- The heartbeat went stale on this cycle. -/
def stalesNow : State := { (beats 30000) with dev := staleLand (beats 30000).dev }

set_option maxRecDepth 20000 in
theorem wit_DrawOfAuthority_stale : awake stalesNow.dev = true ∧ stalled stalesNow.dev (.hewer 3) = none ∧
    stalesNow.dev = staleLand (beats 30000).dev ∧ (beats 30000).dev.on authP AUTH.STATE.ARMED = true ∧
    stamp (beats 30000).dev = 1 ∧ faultOf authP 45 2 ∉ (beats 30000).dev.flt.inflight ∧
    (beats 30000).dev.auth.stale = none ∧ stamp (authS 0 0 0).dev ≠ 2 := by
  and_intros <;> first | rfl | decide

theorem wit_DrawOfAuthority : awake (authS 2 0 0).dev = true ∧ stalled (authS 2 0 0).dev (.hewer 0) = none ∧
    (authS 2 0 0).dev.auth.conflict ≠ some ((authS 2 0 0).dev.now / 2) ∧
    clashes.dev.auth.conflict = some (clashes.dev.now / 2) ∧ expires.dev.auth.expired = some (expires.dev.now / 2, 0x80000009) ∧
    bits (0x80000009 : Word) 0 16 = bits (0x00090001 : Word) 16 16 ∧ authPhase expires.dev = 0 ∧ stamp expires.dev = 2 ∧
    expires.dev.auth.due = none ∧ expiredNow 10 expires.dev = none ∧
    (dueSwitch 50000).on authP AUTH.STATE.HCLAIM ≠ (dueSwitch 50000).on authP AUTH.STATE.DCLAIM ∧ stamp (authS 2 0 0).dev = 2 ∧ authPhase (authS 2 0 0).dev = 0 ∧ (authS 2 0 0).dev.auth.due = none ∧
    (authS 2 0 0).dev.flt.l4 = false ∧ bits (0x00090001 : Word) 0 2 = 1 ∧ stamp (authS 1 0 0).dev = 1 ∧
    authPhase (authS 2 1 1).dev = 1 ∧ bits ((authS 2 1 1).dev.reg AUTH_REQ) 0 16 = bits (0x00090001 : Word) 16 16 ∧
    asked.dev.auth.reqAt + 600000 = asked.dev.now ∧ authPhase asked.dev = 1 ∧
    (beats 24000).dev.on authP AUTH.STATE.ARMED = true ∧ (beats 24000).dev.auth.lastBeat + 24000 = (beats 24000).dev.now ∧
    (beats 24000).dev.auth.late = false ∧ (beats 30000).dev.auth.lastBeat + 30000 = (beats 30000).dev.now ∧
    (beats 30000).dev.mode ≠ .powerUp ∧ (dueSwitch 50000).auth.due = some (50000, 2) ∧ (dueSwitch 50000).now / 2 = 50000 ∧
    49999 < (dueSwitch 49999).now / 2 ∧ (dueSwitch 49999).domBusy ((dueSwitch 49999).domAt (gangP 5 + 0x040)) = false ∧
    64 ≤ (dueSwitch 49999).domAt (engP + 0x100) := by decide

/-! ### Cores and the Banksman -/

/-- Core 3 and core 0 hold reservations of the last granule of Hewer SRAM, taken at a tick. -/
def reserves (t : Nat) : State := inRun fun d => (memPutAll 0x101FFFFC [4, 3, 2, 1] d).setSys fun r =>
  { r with resv := [some (0x101FFFE0, t), none, none, some (0x101FFFE0, t)] }

theorem wit_AtomicsAndReservations : awake (reserves 99745).dev = true ∧ stalled (reserves 99745).dev (.hewer 0) = none ∧
    atomicAt 0x101FFFFC = true ∧ injArmed (reserves 99745).dev = false ∧
    reserved (reserves 99745).dev 3 0x101FFFFC = true ∧ reserved (reserves 99744).dev 3 0x101FFFFC = false ∧
    atomicAt 0x10200000 = false ∧ atomicAt 0x10000002 = false ∧ resvOf (reserves 99744).dev 3 = some (0x101FFFE0, 99744) ∧
    99744 + 256 = (reserves 99744).dev.now ∧ access .spi (wordAddr 0x50000000) true = none ∧
    access (.hewer 3) (wordAddr 0x18000000) false = none ∧
    permitted (.hewer 3) (wordAddr 0x101FFFFC) .amo = true ∧ regionAt (wordAddr 0x20000000) ≠ some .sram ∧
    (regionAt (wordAddr 0x40000000)).any Region.executes = false := by decide

/-- Triggers 0 and 3 of hart 4 and 1 fire in machine mode on execution; harts 1 and 4 are halted; LOCK is set or not. -/
def debugged (lock : Nat) : State := inRun fun d => { regs [(authP + 0x078, lock)] d with
  sys := { d.sys with halted := [1, 4], triggers := (List.range 20).map fun i => if i = 16 ∨ i = 7 then (0x20001044, 0) else (0, 0) } }

theorem wit_CoresAndDebug : awake mayNot.dev = true ∧ stalled mayNot.dev (.hewer 0) = none ∧
    mayNot.dev.mode ≠ .powerUp ∧ bitOf (1 : Word) 0 = true ∧ Requester.spi ≠ .deputy ∧ awake (debugged 0).dev = true ∧
    stalled (debugged 0).dev (.hewer 0) = none ∧ (debugged 0).dev.mode ≠ .powerUp ∧
    triggerSet (debugged 0).dev 4 0 = true ∧ triggerSet (debugged 0).dev 1 3 = true ∧ triggerSet (debugged 0).dev 4 3 = false ∧
    dmiLocked (debugged 0).dev = false ∧ dmiLocked (debugged 1).dev = true ∧ awake (debugged 1).dev = true ∧
    (4 : Fin 5).val ∈ (debugged 0).dev.sys.halted := by decide

/-- Core 3's watchdog and the Deputy's, with a window from 100 µs to 200 µs, kicked so many ticks ago. -/
def watched (ago : Nat) (sent : Bool) : State := inRun fun d => ({ regs [(hwdtA 3, 0x80C80064), (dwdtA, 0x80C80064)]
  { d with now := 200000 } with auth := { d.auth with kickAt := 200000 - ago } }).setSys fun r =>
  { r with kicks := [0, 0, 0, 200000 - ago], depSent := sent }

theorem wit_Watchdogs : awake mayNot.dev = true ∧ stalled mayNot.dev (.hewer 0) = none ∧
    bitOf (0x80020001 : Word) 31 = true ∧ bits (0x80020001 : Word) 0 12 < bits (0x80020001 : Word) 16 12 ∧
    bits (0x80010001 : Word) 16 12 ≤ bits (0x80010001 : Word) 0 12 ∧ bitOf (mayNot.dev.reg dwdtA) 31 = false ∧
    bitOf (mayNot.dev.reg (hwdtA 3)) 31 = false ∧ bitOf ((watched 60000 false).dev.reg dwdtA) 31 = true ∧
    bits (0xA5 : Word) 0 8 = 0xA5 ∧
    600 * bits (0x80C80064 : Word) 0 12 = (watched 60000 false).dev.now - (watched 60000 false).dev.auth.kickAt ∧
    (watched 120000 false).dev.now - (watched 120000 false).dev.auth.kickAt = 600 * bits (0x80C80064 : Word) 16 12 ∧
    (watched 59999 false).dev.now - (watched 59999 false).dev.auth.kickAt < 600 * bits (0x80C80064 : Word) 0 12 ∧
    (watched 60000 false).dev.now - hKickAt (watched 60000 false).dev 3 = 60000 ∧ (watched 120000 true).dev.sys.depSent = true ∧
    (watched 120000 true).dev.sys.wdtSent.getD 3 false = false := by decide

/-- The port is free; requester 4 has waited so long, STARVE_LIM is 5, and requester 16 has the highest priority. -/
def portFree (age : Nat) : State := inRun fun d => { regs [(arbP + 0x040, 0), (arbP + 0x044, 5), (arbP + 0x048, 0), (arbP + 0x04C, 0x33333333),
  (arbP + 0x050, 0x33333333), (arbP + 0x054, 0x00000007), (arbP + 0x058, 0x1F1F0000)] d with arb := ⟨[(4, age)], 0, none, false, [], 0, []⟩ }
def portHeld (h : Nat) (fz : Nat) (cut : Bool := false) : State := inRun fun d => { regs [(arbP + 0x040, fz * 2 ^ 31), (arbP + 0x058, h * 2 ^ 24 + 0x1F0000)] d with
  arb := ⟨[], 2, none, cut, [], 0, []⟩ }
/-- Requester 16 is reserved, with the port free or its own. -/
def portReserved (h : Nat) : State := inRun fun d => { regs [(arbP + 0x040, 0), (arbP + 0x044, 5), (arbP + 0x058, h * 2 ^ 24 + 0x100000)] d with
  arb := ⟨[], 0, none, false, [], 0, []⟩ }
/-- Core 3 was masked at the latest phase. -/
def coreMasked : State := let s := portFree 3; { s with dev := { s.dev with arb := { s.dev.arb with mask := 8 } } }

/-- The phase of this cycle is over. -/
def phaseOver : State := let s := portFree 3; { s with dev := { s.dev with arb := { s.dev.arb with phaseAt := some 50000 } } }

theorem wit_PortAges : awake (portHeld 3 1).dev = true ∧ phaseNow (portHeld 3 1).dev = true ∧ phaseNow phaseOver.dev = false ∧
    awake phaseOver.dev = true ∧ arbHolder (portHeld 3 1).dev = 3 ∧ 0x054 % 4 = 0 ∧ 0x054 < 0x058 := by decide

theorem wit_ArbitrationPhase : phaseNow (portFree 3).dev = true ∧ phaseNow (portFree 4).dev = true ∧ phaseNow (portHeld 16 0).dev = true ∧
    phaseNow (portHeld 3 1).dev = true ∧ (portFree 4).dev.arb.flagged.contains 4 = false ∧ (portHeld 3 1).dev.arb.cut = false ∧
    (portHeld 3 1 true).dev.arb.cut = true ∧ frozen (portHeld 3 1 true).dev = true ∧ arbHolder (portHeld 3 1 true).dev = 3 ∧
    arbHolder (portFree 3).dev = 31 ∧ arbReserved (portFree 3).dev = 31 ∧
    (portFree 3).dev.fld arbP ARB.CTL.RES_AGE = 0 ∧ (0x10010 : BitVec 17).getLsbD 16 = true ∧ eligible (portFree 3).dev 16 = true ∧
    arbPrio (portFree 3).dev 4 < arbPrio (portFree 3).dev 16 ∧
    arbAge (portFree 3).dev 4 + 1 < max 1 ((portFree 3).dev.fld arbP ARB.STARVE.STARVE_LIM) ∧
    (0x10010 : BitVec 17).getLsbD 4 = true ∧ eligible (portFree 4).dev 4 = true ∧ privileged 4 = true ∧
    max 1 ((portFree 4).dev.fld arbP ARB.STARVE.STARVE_LIM) = arbAge (portFree 4).dev 4 + 1 ∧ arbHolder (portHeld 16 0).dev ≠ 31 ∧
    frozen (portHeld 16 0).dev = false ∧ frozen (portHeld 3 1).dev = true ∧ arbHolder (portHeld 3 1).dev < 4 ∧
    bitOf (0x80000000 : Word) 31 = true ∧ phaseNow (portReserved 31).dev = true ∧ arbHolder (portReserved 31).dev = 31 ∧
    arbReserved (portReserved 31).dev = 16 ∧ eligible (portReserved 31).dev 16 = true ∧
    (∀ q, q < 17 → privileged q = true → (0x10010 : BitVec 17).getLsbD q = true →
      arbAge (portReserved 31).dev q + 1 < max 1 ((portReserved 31).dev.fld arbP ARB.STARVE.STARVE_LIM)) ∧
    arbHolder (portReserved 16).dev = 16 ∧ arbReserved (portReserved 16).dev = 16 ∧
    (portReserved 16).dev.fld arbP ARB.CTL.RES_AGE = 0 ∧ masked coreMasked.dev 3 = true ∧ awake coreMasked.dev = true ∧
    masked (portHeld 16 0).dev 3 = false := by decide

/-- Channel 7 runs a descriptor at the start of Hewer SRAM that copies two words up to its last word. -/
def dmaRuns (w3 : Nat) : State := inRun fun d =>
  let ws := [0x10000020, 0x101FFFF8, 8, w3, 0, 0, 0, 0, 0x11223344, 0x55667788]
  regs [(dmaA 7 + 8, 0x10000000), (dmaA 7 + 0xC, 0x10000000)]
    (memPutAll 0x10000000 (ws.flatMap fun w => wordBytes (BitVec.ofNat 32 w)) d)
def dmaIdle (desc : Nat) : State := inRun (regs [(dmaA 7, desc)])

/-- Every requester is masked. -/
def dmaMasked : State := let s := dmaRuns 3; { s with dev := { s.dev with arb := { s.dev.arb with mask := 0xFFFFFFFF } } }

theorem wit_DmaChannel : awake (dmaRuns 3).dev = true ∧ stalled (dmaRuns 3).dev (.hewer 0) = none ∧
    (dmaRuns 3).dev.dmaFrom 7 0x10000000 0x10000020 0x101FFFF8 2 3 ∧
    (dmaRuns 0x10000040).dev.dmaFrom 7 0x10000000 0x10000020 0x101FFFF8 2 0x10000040 ∧
    (dmaRuns 0x10200000).dev.dmaFrom 7 0x10000000 0x10000020 0x101FFFF8 2 0x10200000 ∧ dmaState (dmaIdle 0x101FFFF0).dev 7 ≠ 1 ∧
    inSram ((dmaIdle 0x101FFFF0).dev.reg (dmaA 7)).toNat = true ∧ inSram ((dmaIdle 0x10200000).dev.reg (dmaA 7)).toNat = false ∧
    isDma .spi = false ∧ dmaPaused (dmaRuns 3).dev 7 = false ∧ dmaPaused dmaMasked.dev 7 = true := by
  unfold Dev.dmaFrom; decide

/-! ### Clocks, supplies, modes, boot -/

/-- A state in a mode, with some registers and a byte in MRAM and one in Hewer SRAM. -/
def modeAt (m : Mode) (l : List (Nat × Nat)) : State :=
  inRun fun d => { regs l (memPutAll 0x207FFFFF [7] (memPutAll 0x10000000 [8] d)) with mode := m }
/-- Rail 1 lies below its limits; the core die is held in reset by it. -/
def railLow (m : Mode) : State := ⟨(modeAt m [(clkP + 0x044, 0x80000000)]).dev.setSys fun r => { r with railUv := [1], coreLow := [1] }, []⟩
def railUnder : State := ⟨(railLow .powerUp).dev.setSys fun r => { r with coreLow := [] }, []⟩
def lockedClk : State := modeAt .run [(clkP + 0x044, 0x80000000), (gangP 5 + 0x040, 0x80300000)]
def stopped (m : Mode) : State := ⟨(modeAt m [(frameP 15 + 0x040, 0x80000000)]).dev.setSys fun r => { r with stopped := true }, []⟩
/-- A new spreading of 3 % waits while CAN controller 1 is NORMAL. -/
def spreads (w : Nat) : State := ⟨(modeAt .run [(canP 1 + 0x040, 0x10000000)]).dev.setSys fun r =>
  { r with spread := some (BitVec.ofNat 32 w) }, []⟩
def warm : State := modeAt .run [(pwrP + 0x040, 7)]

/-- The setting was accepted after the latest bottom. -/
def spreadsLater : State := ⟨(spreads 0x80000003).dev.setSys fun r => { r with spreadFrom := 99000 }, []⟩

theorem tempShut_le : Config.tempShut ≤ 224 := by unfold Config.tempShut; split <;> decide

theorem wit_ClocksSuppliesTemperature : spreadBottom (spreads 0x80000003).dev (spreads 0x80000003).dev.sys.spreadFrom <
      spreadBottom (spreads 0x80000003).dev (spreads 0x80000003).dev.now ∧
    spreadBottom spreadsLater.dev spreadsLater.dev.now = spreadBottom spreadsLater.dev spreadsLater.dev.sys.spreadFrom ∧
    asleep lockedClk.dev = false ∧ awake lockedClk.dev = true ∧ stalled lockedClk.dev (.hewer 0) = none ∧
    (∀ f < 16, lockedClk.dev.on (frameP f) FRAME.CFG.RUN = false ∧ syncMode lockedClk.dev f ≠ 2) ∧
    (modeAt .run [(frameP 15 + 0x040, 0x80000000)]).dev.on (frameP 15) FRAME.CFG.RUN = true ∧
    (spreads 0x80000003).dev.sys.spread = some 0x80000003 ∧ canMode (spreads 0x80000003).dev 1 ≠ 0 ∧
    canLimit 0x80000003 ((spreads 0x80000003).dev.on (canP 1) CAN.MODE.RATE_SW) = true ∧
    canLimit 0x80000002 ((spreads 0x80000002).dev.on (canP 1) CAN.MODE.RATE_SW) = false ∧
    lockedClk.dev.on clkP CLK.STAT.LOCKED = true ∧ (stopped .run).dev.sys.stopped = true ∧ (stopped .halt).dev.sys.stopped = true ∧
    Mode.run.faultsToSafe = true ∧ Mode.halt.faultsToSafe = false ∧ lockedClk.dev.sys.stopped = false ∧
    warm.dev.on pwrP (railIn 2) = true ∧ lockedClk.dev.on pwrP (railIn 2) = false ∧ lockedClk.dev.on pwrP (railOver 2) = false ∧
    (warm.dev.die 3).link = true ∧ 1 ∉ lockedClk.dev.sys.railUv ∧ 1 ∈ (railLow .run).dev.sys.coreLow ∧
    asleep (railLow .run).dev = false := by decide

theorem wit_ClocksSuppliesTemperature_warn : tempWarnAt State.reset.dev < (200 : BitVec 8).toNat := by
  have h : Config.tempWarnReset = 199 ∨ Config.tempWarnReset = 174 := by unfold Config.tempWarnReset; split <;> simp
  have e : tempWarnAt State.reset.dev = bits Config.tempWarnReset 0 8 := rfl
  rcases h with h | h <;> rw [e, h] <;> decide

theorem wit_ClocksSuppliesTemperature_shut : Config.tempShut < (225 : BitVec 8).toNat := by
  have h := tempShut_le
  have : (225 : BitVec 8).toNat = 225 := by decide
  omega

def cycle (m r : Option Nat) : State := ⟨(modeAt .standby []).dev.setSys fun y => { y with modeCycle := m, reqCycle := r }, []⟩
def entering (ev first : Nat) : State := modeAt .sleep [(pwrP + 0x054, 0x101FF), (gpioP + 0x204, 8), (pwrP + 0x058, first * 2 ^ 24), (pwrP + 0x064, ev),
  (pwrP + 0x06C, 8), (pwrP + 0x070, 0)]
def sleeping (ev first : Nat) : State := ⟨(entering ev first).dev.setSys fun r => { r with pwren := false }, []⟩

theorem wit_ModesAndResets : awake (modeAt .standby []).dev = true ∧ stalled (modeAt .standby []).dev (.hewer 0) = none ∧ (modeAt .standby []).dev.sys.reqCycle = none ∧
    (modeAt .standby []).dev.sys.modeCycle = none ∧ Mode.ofCode 4 = some .run ∧
    modeRow (modeAt .standby []).dev .run = some (true, 0) ∧ asHolder (modeAt .standby []).dev .deputy = true ∧
    asHolder (modeAt .standby []).dev .spi = false ∧ modeRow (modeAt .standby [(gangP 5 + 0x040, 0x80300000)]).dev .run = some (true, 4) ∧
    modeRow (modeAt .configure []).dev .run = none ∧ Mode.ofCode 15 = none ∧
    (cycle none (some 50000)).dev.sys.reqCycle = some ((cycle none (some 50000)).dev.now / 2) ∧
    (cycle (some 50000) none).dev.sys.modeCycle = some ((cycle (some 50000) none).dev.now / 2) ∧
    (modeAt .powerUp [(clkP + 0x044, 0x80000000)]).dev.on clkP CLK.STAT.LOCKED = true ∧
    (modeAt .powerUp []).dev.on clkP CLK.STAT.LOCKED = false ∧ (sleeping 8 15).dev.mode = .sleep ∧
    asleep (sleeping 8 15).dev = true ∧ asleep (entering 8 15).dev = false ∧ (entering 8 15).dev.mode = .sleep ∧
    (entering 8 15).dev.sys.pwren = true ∧ (entering 8 15).dev.sys.reqCycle = none ∧ (entering 8 15).dev.sys.wakes = [] ∧
    railBad railUnder.dev = true ∧ awake railUnder.dev = true ∧ railBad (modeAt .powerUp [(clkP + 0x044, 0x80000000)]).dev = false ∧
    wakeMet (sleeping 8 15).dev 0 true 10 [] = true ∧ wakeMet (sleeping 8 15).dev 0 true 9 [] = false ∧
    wakeMet (sleeping 8 15).dev 1 false 10 [] = true ∧ wakeMet (sleeping 8 15).dev 5 false 0 [] = true ∧
    wakeMet (sleeping 8 15).dev 6 false 255 [] = true ∧ wakeMet (sleeping 8 15).dev 6 false 0 [] = false ∧
    wakeMet (sleeping 8 15).dev 7 false 0 [0, 65535, 0, 100, 80, 120, 0, 100] = true ∧ wakeMet (sleeping 8 15).dev 7 false 0 [0, 100, 81, 100, 0, 100, 0, 99] = false ∧
    wakeMet (sleeping 8 15).dev 8 false 0 [] = true ∧ wakeMet (sleeping 7 15).dev 8 false 0 [] = false ∧
    bitOf ((sleeping 8 15).dev.reg (pwrP + 0x054)) 8 = true ∧ alarmCount (sleeping 8 15).dev = rtcCount (sleeping 8 15).dev ∧ rtcCount (sleeping 7 15).dev < alarmCount (sleeping 7 15).dev ∧
    (sleeping 8 15).dev.fld pwrP PWR.WAKE_CAUSE.FIRST = 15 ∧ (sleeping 8 3).dev.fld pwrP PWR.WAKE_CAUSE.FIRST = 3 ∧
    bits (0xB7000001 : Word) 24 8 = 0xB7 ∧ bitOf (0xB7000001 : Word) 0 = true ∧ (modeAt .update []).dev.mode = .update ∧
    bitOf (0xB7000002 : Word) 1 = true ∧ okMoved [1, 2, 3, 4, 5, 6, 7, 8] = true ∧
    stamp (authS 1 0 0).dev = 1 ∧ (0xF : Word) &&& 0xF &&& ~~~((modeAt .run []).dev.reg (topP + 0x058)) ≠ 0 := by decide

/-- An image of 64 bytes in a slot, whose four bytes of data go to Deputy SRAM. -/
def image (v len ent crc : Nat) : List Byte :=
  ([0x4D49584B, v, 64, 0, len, 0, ent] ++ List.replicate 8 0 ++ [crc]).flatMap fun w => wordBytes (BitVec.ofNat 32 w)
def boots : State := ⟨memPutAll 0x20300000 (image 2 4 0x2030003C 0x785FDE4E) (memPutAll 0x20000000 (image 1 4 0x20000000 0x9556980B)
  (modeAt .boot [(nvP + NV.JSTAT.READY.off, 2 ^ NV.JSTAT.READY.lo)]).dev), []⟩
def bootsNot : State := modeAt .boot [(nvP + NV.JSTAT.READY.off, 2 ^ NV.JSTAT.READY.lo)]
def updates (op booted : Nat) : State := ⟨(modeAt .update [(nvP + 0x104, booted * 2 ^ 28)]).dev.setSys fun r => { r with upd := op }, []⟩

set_option maxRecDepth 40000 in
theorem wit_BootAndUpdate_image : imageValid boots.dev 0 = true ∧ imageValid boots.dev 1 = true ∧
    bootSlot boots.dev true true = some 1 ∧ injArmed boots.dev = false ∧ journalReady boots.dev = true ∧ boots.dev.mode = .boot := by decide

theorem wit_BootAndUpdate : awake (updates 0 0).dev = true ∧ stalled (updates 0 0).dev (.hewer 0) = none ∧
    imageValid bootsNot.dev 0 = false ∧ imageValid bootsNot.dev 1 = false ∧ injArmed bootsNot.dev = false ∧ journalReady bootsNot.dev = true ∧ bootsNot.dev.mode = .boot ∧
    (updates 0 0).dev.sys.upd = 0 ∧ (updates 0 0).dev.mode = .update ∧ (updates 1 0).dev.sys.upd = 1 ∧
    (updates 2 1).dev.sys.upd = 2 ∧ slotAt 0x205FFFFC = some 1 ∧ slotAt 0x20000000 = some 0 ∧
    (updates 0 0).dev.on nvP NV.UPD_STAT.BOOTED = false ∧ (updates 0 1).dev.fld nvP NV.UPD_STAT.ACTIVE ≠ 1 ∧
    (modeAt .run []).dev.mode ≠ .update := by decide

/-! ### Host interfaces -/

/-- The Deputy has authority, and Hewer SRAM holds a word. -/
def spiAt (busy : Option SpiReq) : State := ⟨{ memPutAll 0x10000000 [1, 2, 3, 4] (authS 1 0 0).dev with
  spi := { (authS 1 0 0).dev.spi with busy := busy } }, []⟩
def spiIdle : State := spiAt none
def spiBusy : State := spiAt (some (spiReq 32 0x101FFFFC [5]))

theorem wit_SpiRequests : awake spiIdle.dev = true ∧ spiIdle.dev.spi.busy = none ∧ injArmed spiIdle.dev = false ∧
    access .spi (wordAddr 0x10000003) false = some .sram ∧ access .spi (wordAddr 0xFFFFFFFC) false = none ∧
    access .spi (wordAddr 0x101FFFFC) true = some .sram ∧ access .spi (wordAddr 0xFFFFFFFC) true = none ∧
    blocked spiIdle.dev .spi (gangP 5 + 0x040) = false ∧ blocked (authS 2 0 0).dev .spi (gangP 5 + 0x040) = true ∧
    access .spi (wordAddr (BitVec.ofNat 32 (gangP 5 + 0x040))) true = some (.page .gang 5) ∧
    inSram (wordAddr 0x101FFF80) = true ∧ wordAddr 0x101FFF80 + 4 * 32 ≤ 0x10200000 ∧
    regionAt (wordAddr (BitVec.ofNat 32 (gangP 5 + 0x040))) = some (.page .gang 5) ∧
    blocked spiIdle.dev .spi (pageBase (gangP 5 + 0x040) + 0x01C) = false ∧
    access .spi (pageBase (gangP 5 + 0x040) + 0x01C) true ≠ none ∧ okSpi (spiReq 32 0x101FFFFC [5]) = true ∧
    spiBad (spiReq 32 0x101FFFFC [5]) = false ∧ awake spiBusy.dev = true ∧
    spiBusy.dev.spi.busy = some (spiReq 32 0x101FFFFC [5]) := by decide

/-- CAN controller 1 in a mode and state; mailboxes 3 and 12 of identifier 7 and mailbox 5 of identifier 8 wait, one on the bus. -/
def canAt (m st : Nat) (bus : Option Nat) (f : CanRec → CanRec) : State := inRun fun d =>
  let d := (d.setFld (canP 1) CAN.MODE.OPMODE m).setFld (canP 1) CAN.STAT.STATE st
  let d := (setQueued 1 0x1028 d).setCan 1 (f { d.can 1 with bus := bus })
  regs [(mboxA 1 3 + 4, 7), (mboxA 1 5 + 4, 8), (mboxA 1 12 + 4, 7)] d
def rejoins (st : Nat) (f : CanRec → CanRec) : State := ⟨(canAt 1 st none f).dev.setFld (canP 1) CAN.MODE.AUTO_REJOIN 1, []⟩
/-- Acceptance entry 31 alone is enabled and takes standard identifier 5. -/
def accepts31 (n : Nat) : State := ⟨regs [(canP 1 + 0x1F8, 0x80000005), (canP 1 + 0x1FC, 0x1FFFFFFF)]
  (canAt 1 1 none fun c => { c with fifo := List.replicate n ([0, 5], 9) }).dev, []⟩
/-- Mailbox 3 holds a CAN FD frame, with this FD_EN. -/
def canFd (en : Nat) : State := ⟨(regs [(mboxA 1 3, 0x20000000)] (canAt 1 1 none id).dev).setFld (canP 1) CAN.MODE.FD_EN en, []⟩
/-- Mailbox 12 is on the bus of the internal loopback with extended identifier 5, and the FIFO holds so many elements. -/
def canLoop (n : Nat) : State := ⟨regs [(mboxA 1 12, 0x48000000), (mboxA 1 12 + 4, 0x40000005), (canP 1 + 0x1F8, 0xC0000005), (canP 1 + 0x1FC, 0x1FFFFFFF)]
  (canAt 3 1 (some 12) fun c => { c with fifo := List.replicate n ([0, 5], 9) }).dev, []⟩

theorem wit_CanController_bus : awake (canAt 1 1 (some 12) id).dev = true ∧ canMode (canAt 1 1 (some 12) id).dev 1 ≠ 0 ∧
    ((canAt 1 1 (some 12) fun c => { c with abort := true }).dev.can 1).abort = true ∧
    ((canAt 1 1 (some 12) id).dev.can 1).abort = false ∧ canMode (rejoins 3 id).dev 1 ≠ 0 ∧ canState (rejoins 3 id).dev 1 = 3 ∧
    canWinner (canFd 0).dev 1 = some 12 ∧ canWinner (canFd 1).dev 1 = some 3 ∧ bitOf (canQueued (canFd 0).dev 1) 3 = true ∧ (canFd 0).dev.on (canP 1) CAN.MODE.FD_EN = false ∧
    bitOf (([0x20000000, 5] : List Word).getD 0 0) 29 = true ∧ canMode (canLoop 31).dev 1 = 3 ∧ canLive (canLoop 31).dev 1 = true ∧
    ((canLoop 31).dev.can 1).bus = some 12 ∧ bitOf (canQueued (canLoop 31).dev 1) 12 = true ∧
    canAccept (canLoop 31).dev 1 (0x48000000 &&& ~~~0x10000000) 0x40000005 = some 31 ∧
    ((canLoop 31).dev.can 1).fifo.length = 31 ∧ ((canLoop 32).dev.can 1).fifo.length = 32 := by decide

theorem wit_CanController : awake (canAt 0 0 none id).dev = true ∧ stalled (canAt 0 0 none id).dev (.hewer 0) = none ∧ canMode (canAt 0 0 none id).dev 1 = 0 ∧
    bits (0x30000000 : Word) 28 4 = 3 ∧ canLimit (canAt 0 0 none id).dev.sys.spreadNow (bitOf (0x30000000 : Word) 9) = false ∧
    canMode (canAt 1 1 none id).dev 1 = 1 ∧ canState (canAt 1 1 none id).dev 1 = 1 ∧ ((canAt 1 1 none id).dev.can 1).bus = none ∧
    canLimit 0x80000003 (bitOf (0x10000000 : Word) 9) = true ∧ bitOf (canQueued (canAt 1 1 (some 12) id).dev 1) 12 = true ∧
    ((canAt 1 1 (some 12) id).dev.can 1).bus = some 12 ∧ canLive (canAt 1 1 (some 12) id).dev 1 = true ∧
    canWinner (canAt 1 1 none id).dev 1 = some 3 ∧ okElement [0, 5] = true ∧ okElement (List.replicate 18 5) = true ∧
    canAccept (canAt 1 1 none id).dev 1 0 5 = some 0 ∧ canAccept (accepts31 31).dev 1 0 5 = some 31 ∧
    canAccept (accepts31 31).dev 1 0 6 = none ∧ ((accepts31 31).dev.can 1).fifo.length = 31 ∧
    ((accepts31 32).dev.can 1).fifo.length = 32 ∧ ((canAt 1 2 none fun c => { c with tec := 256 }).dev.can 1).tec = 256 ∧
    canLive (canAt 1 2 none id).dev 1 = true ∧ (rejoins 2 id).dev.on (canP 1) CAN.MODE.AUTO_REJOIN = true ∧
    canState (rejoins 3 id).dev 1 = 3 ∧ canMode (canAt 2 1 none id).dev 1 = 2 ∧ canMode (canAt 3 1 none id).dev 1 = 3 := by decide

theorem wit_CanController_spread : (spreads 0x80000003).dev.sys.spreadNow = 0 ∧
    canLimit (⟨(canAt 0 0 none id).dev.setSys fun r => { r with spreadNow := 0x80000003 }, []⟩ : State).dev.sys.spreadNow
      (bitOf (0x10000000 : Word) 9) = true := by decide

/-- UART 1 enabled with numbers of bytes in its FIFOs; I²C in a state. -/
def uartAt (tx rx : Nat) (i2c : Nat) : State := inRun fun d =>
  regs [(uartP 1 + 0x040, 0x80000000), (i2cP + 0x040, 0x80000000), (i2cP + 0x044, 0x8000A520), (i2cP + 0x048, i2c * 2 ^ 30)]
    (d.setUart 1 ⟨List.replicate tx 7, List.replicate rx 0x80000041, 0, 0⟩)
/-- UART 1 with odd parity. -/
def uartParity : State := ⟨regs [(uartP 1 + 0x040, 0x90000000)] (uartAt 0 31 0).dev, []⟩
/-- The I²C controller runs a read of 32 bytes, with PEC. -/
def i2cPec : State := ⟨(regs [(i2cP + 0x040, 0x80000000 + 2 ^ I2C.CFG.PEC.lo)] (uartAt 0 0 1).dev).setSys fun r => { r with i2cWire := [1, 2] }, []⟩
/-- The byte in the FIFO came on this cycle. -/
def uartNew : State := ⟨(uartAt 0 1 0).dev.setUart 1 ⟨[], [0x80000041], 50000, 1⟩, []⟩

theorem wit_UartAndI2c : awake (uartAt 31 31 0).dev = true ∧ stalled (uartAt 31 31 0).dev (.hewer 0) = none ∧ ((uartAt 31 31 0).dev.uart 1).tx.length = 31 ∧
    ((uartAt 32 32 0).dev.uart 1).tx.length = 32 ∧ (uartAt 31 31 0).dev.on (uartP 1) UART.CFG.EN = true ∧
    ((uartAt 31 31 0).dev.uart 1).rx.length = 31 ∧ ((uartAt 32 32 0).dev.uart 1).rx.length = 32 ∧
    ((uartAt 1 1 0).dev.uart 1).rx = [0x80000041] ∧ ((uartAt 1 1 0).dev.uart 1).rxCycle ≠ (uartAt 1 1 0).dev.now / 2 ∧
    rxBefore uartNew.dev 1 = [] ∧ rxBefore (uartAt 0 0 0).dev 1 = [] ∧ ((uartAt 1 1 0).dev.uart 1).tx = [7] ∧
    bitOf (0x80002020 : Word) 31 = true ∧ (uartAt 1 1 3).dev.fld i2cP I2C.STAT.STATE ≠ 1 ∧
    (uartAt 1 1 3).dev.on i2cP I2C.CFG.EN = true ∧ bits (0x80002020 : Word) 8 6 = 32 ∧ bits (0x80002020 : Word) 0 6 = 32 ∧
    (uartAt 1 1 1).dev.fld i2cP I2C.STAT.STATE = 1 ∧ bits (uartParity.dev.reg (uartP 1 + 0x040)) 28 2 = 1 ∧
    (uartParity.dev.uart 1).rx.length = 31 ∧ i2cPec.dev.fld i2cP I2C.STAT.STATE = 1 ∧ i2cPec.dev.on i2cP I2C.CFG.PEC = true ∧
    bits (i2cPec.dev.reg (i2cP + 0x044)) 0 6 = 32 ∧ bits (i2cPec.dev.reg (i2cP + 0x044)) 8 6 = 37 ∧
    i2cPec.dev.sys.i2cWire = [1, 2] ∧ i2cCanEnd 1 0 [] 0 i2cPec.dev = true := by decide

/-- Lines 15 and 47 with both edges selected, timer 7 past its period, tamper input 3 with WIPE and no event. -/
def pinsAt (loop : Bool) (mis : Nat) : State := ⟨(inRun fun d => regs [(gpioP + 0x068, 0xC0000000), (gpioP + 0x070, 0x80000000),
  (gpioP + 0x054, 0x8000), (tmrA 7, 0xF0000000), (tmrA 7 + 4, 16665), (TAMPCFG, b2n loop * 2 ^ 31 + 0x00A00020), (pwrP + 0x064, 8), (pwrP + 0x080, 9)] d).dev.setSys
    fun r => { r with misreads := mis }, []⟩
/-- In SLEEP, tamper inputs 1 and 3 as wake events, the entry complete or not. -/
def pinsAsleep (loop pwren : Bool) : State := ⟨(regs [(pwrP + 0x054, 0x28)] { (pinsAt loop 1).dev with mode := .sleep }).setSys
  fun r => { r with pwren := pwren }, []⟩
def tampered : State := inRun fun d => regs [(TAMPSTAT, 0x00030018), (TAMPCFG, 0x00A00000)] d

theorem wit_PinsTimersTamper : awake (pinsAt false 0).dev = true ∧ stalled (pinsAt false 0).dev (.hewer 0) = none ∧ (pinsAt true 0).dev.sys.loopAt + 8 = rtcCount (pinsAt true 0).dev ∧
    rtcCount tampered.dev < tampered.dev.sys.loopAt + 8 ∧ 4 * (bits ((pinsAt false 1).dev.reg TAMPCFG) (6 * 3) 3 + 1) = 4 ∧
    bitOf ((pinsAt false 0).dev.reg (tmrA 6)) 28 = false ∧ lineOut (pinsAt false 0).dev 15 = none ∧
    lineOut (pinsAt false 0).dev 47 = none ∧ bitOf ((pinsAt false 0).dev.reg (gpioP + 0x050 + 15 / 32 * 4)) (15 % 32) = !true ∧
    bitOf ((pinsAt false 0).dev.reg (gpioP + 0x050 + 47 / 32 * 4)) (47 % 32) = !false ∧ edgeSel (pinsAt false 0).dev 15 = 3 ∧
    edgeSel (pinsAt false 0).dev 47 = 2 ∧ edgeSel (pinsAt false 0).dev 14 = 0 ∧ bitOf ((pinsAt false 0).dev.reg (tmrA 7)) 31 = true ∧
    ((pinsAt false 0).dev.reg (tmrA 7 + 4)).toNat < tmrCount (pinsAt false 0).dev 7 ∧
    bitOf ((pinsAt false 0).dev.reg (tmrA 7)) 30 = true ∧ bits ((pinsAt false 0).dev.reg (tmrA 7)) 28 2 ≠ 0 ∧
    bitOf ((pinsAt true 1).dev.reg TAMPCFG) (6 * 3 + 5) = true ∧ bitOf ((pinsAt true 1).dev.reg TAMPCFG) 31 = true ∧
    bitOf ((pinsAt false 1).dev.reg TAMPCFG) 31 = false ∧ bitOf ((pinsAt false 1).dev.reg TAMPCFG) (6 * 0 + 5) = true ∧
    bits ((pinsAt false 1).dev.reg TAMPSTAT) 0 4 = 0 ∧ tampWipe (pinsAt false 1).dev 3 = true ∧
    tampWipe (pinsAt false 1).dev 0 = false ∧ 1 ≤ (pinsAt true 1).dev.sys.misreads ∧ (pinsAt true 0).dev.sys.misreads = 0 ∧
    asleep (pinsAsleep true false).dev = true ∧ asleep (pinsAsleep false true).dev = false ∧
    (pinsAsleep false true).dev.mode = .sleep ∧ bitOf ((pinsAsleep true false).dev.reg (pwrP + 0x054)) (2 + 1) = true ∧
    bitOf ((pinsAsleep true false).dev.reg (pwrP + 0x054)) (2 + 3) = true ∧
    bitOf ((pinsAsleep true false).dev.reg (pwrP + 0x054)) (2 + 2) = false ∧
    bitOf ((pinsAt false 1).dev.reg TAMPCFG) (6 * 1 + 5) = false ∧ bitOf (0xF : Word) 3 = true ∧
    (tampered.dev.eventAt TAMPSTAT) = none ∧ bits (tampered.dev.reg TAMPSTAT) 0 4 = 8 := by decide

/-! ### The Roentol link -/

/-- The ports are enabled, those of PSTAT `st` are UP, the device is node 5, nodes 100 to 200 lie behind DNA and 201 to 300
behind DNB; ROOT_ACT as in `st`. -/
def linkAt (st : Nat) (f : LinkRec → LinkRec) : State := ⟨(inRun fun d => regs [(linkP + 0x040, 0xE0000005),
  (linkP + 0x044, 0x00C80064), (linkP + 0x048, 0x012C00C9), (linkP + 0x050, st)] d).dev.setLink f, []⟩
def frameTo (dst type ttl : Nat) (payload : List Byte) : LinkFrame := ⟨9, dst, false, 16383, type, ttl, false, payload⟩
/-- Address 0x101FFF80. -/
def wrHead : List Byte := [0x80, 0xFF, 0x1F, 0x10, 0, 0, 0, 0]
def rd32 : LinkFrame := frameTo 5 1 15 [0x80, 0xFF, 0x1F, 0x10, 31, 0, 0, 0]
def wr32 : LinkFrame := frameTo 5 2 15 (wrHead ++ List.replicate 128 7)
def eight : List Byte := List.replicate 8 1
def sentOut (n : Nat) (mine : Bool) : State := linkAt 0x222 fun r => { r with
  out := [[], [⟨frameTo 200 0 1 eight, n, 97600, mine⟩, ⟨frameTo 100 0 1 eight, n, 97601, mine⟩], []] }
/-- The frame that TXCTL sent waits second. -/
def sentMine : State := ⟨regs [(linkP + 0x078, 0x40000000)] (linkAt 0x222 fun r => { r with
  out := [[], [⟨frameTo 200 0 1 eight, 0, 97600, false⟩, ⟨frameTo 100 0 1 eight, 0, 97601, true⟩], []] }).dev, []⟩
/-- Five frames wait on port 1, and the next on its hop has sequence number 255. -/
def fiveOut : State := linkAt 0x222 fun r => { r with
  seqs := [0, 255, 255]
  out := [[], List.replicate 5 ⟨frameTo 200 0 1 eight, 0, 97600, false⟩, []] }
def full (n : Nat) : State := linkAt 0x222 fun r => { r with rx := List.replicate n (frameTo 5 0 1 eight) }

set_option maxRecDepth 20000 in
theorem wit_LinkFrames : awake (linkAt 0x122 id).dev = true ∧ okFrame (frameTo 300 7 15 (List.replicate 256 9)) = true ∧
    portEn (linkAt 0x122 id).dev 0 = true ∧ portIsUp (linkAt 0x122 id).dev 0 = false ∧ portIsUp (linkAt 0x222 id).dev 0 = true ∧
    portIsUp (linkAt 0x222 id).dev 2 = true ∧ (frameTo 300 7 15 eight).bcast = false ∧ okFrame (frameTo 300 0 1 eight) = true ∧
    (frameTo 300 0 1 eight).dst ≠ ownId (linkAt 0x222 id).dev ∧ routeOf (linkAt 0x222 id).dev 300 = some 2 ∧
    routeOf (linkAt 0x222 id).dev 100 = some 1 ∧ routeOf (linkAt 0x222 id).dev 301 = some 0 ∧
    (frameTo 300 0 0 eight).ttl = 0 ∧ routeOf (linkAt 0x40000022 id).dev 301 = none ∧ ownId (linkAt 0x222 id).dev = 5 ∧
    (full 7).dev.link.rx.length = 7 ∧ (full 8).dev.link.rx.length = 8 ∧ (0 : Word) ≠ frameCrc (frameTo 300 0 1 eight) ∧
    (frameTo 300 4 1 eight).type = 4 ∧ okFrame (frameTo 300 6 1 eight) = true ∧ (outOf fiveOut.dev 1).length = 5 ∧
    txBusy sentMine.dev = true ∧ mineOut (outErase 1 1 sentMine.dev) = false ∧ ((outOf sentMine.dev 1)[1]?).map (·.mine) = some true ∧ okFrame rd32 = true ∧ rd32.dst = 5 ∧ rd32.type = 1 ∧
    routeOf (linkAt 0x222 id).dev rd32.src = some 0 ∧ (rd32.payload.getD 4 0).toNat + 1 = 32 ∧ inSram (frameAddr rd32) = true ∧
    frameAddr rd32 + 4 * 32 ≤ 0x10200000 ∧ injArmed (linkAt 0x222 id).dev = false ∧
    ((outOf (sentOut 3 false).dev 1)[1]?).map (·.resends) = some 3 ∧ ((outOf (sentOut 2 true).dev 1)[1]?).map (·.mine) = some true ∧
    ((outOf (sentOut 2 false).dev 1)[1]?).map (fun o => decide ((sentOut 2 false).dev.now < o.at_ + 2400)) = some true ∧
    ((outOf (sentOut 2 false).dev 1)[0]?).map (fun o => decide ((sentOut 2 false).dev.now < o.at_ + 2400)) = some false := by decide

set_option maxRecDepth 20000 in
theorem wit_LinkFrames_wr : okFrame wr32 = true ∧ wr32.dst = 5 ∧ wr32.type = 2 ∧ wr32.payload.length % 4 = 0 ∧
    12 ≤ wr32.payload.length ∧ inSram (frameAddr wr32) = true ∧ frameAddr wr32 + (wr32.payload.length - 8) ≤ 0x10200000 ∧
    (frameTo 5 2 15 (wrHead ++ [1, 2, 3, 4])).payload.length = 12 := by decide

/-- SYNC of tick 0 by its parent has come, DREQ has left, an offset of `o` was found. -/
def synced (o : Int) (near at_ : Nat) : State := linkAt 0x222 fun r => { r with
  t1 := some 5000, t2 := 9000, t3 := some 9500, offset := some o, near := near, syncAt := some at_, dreqDue := true }
/-- Frame 15 runs in SYNC MODE 2 and the link is locked. -/
def lockedS : State := ⟨(synced 0 8 0).dev.setFld linkP LINK.PSTAT.LOCKED 1 |> fun d =>
  regs [(frameP 15 + FRAME.SYNC.MODE.off, 2 * 2 ^ FRAME.SYNC.MODE.lo)] (d.setFld (frameP 15) FRAME.STAT.RUN 1), []⟩
def txWaits : State := ⟨regs [(linkP + 0x078, 0x40000000)] (full 1).dev, []⟩

theorem wit_LinkTimeAndRegisters : awake (synced 0 6 100000).dev = true ∧ stalled (synced 0 6 100000).dev (.hewer 0) = none ∧ portIsUp (synced 0 6 100000).dev 0 = true ∧
    linkRoot (synced 0 6 100000).dev = false ∧ (synced 0 6 100000).dev.link.near = 6 ∧
    (∀ o, (synced 131073 8 0).dev.link.offset = some o → 2 * 65536 < o.natAbs) ∧ portIsUp (synced 0 6 100000).dev 2 = true ∧
    (synced 0 6 100000).dev.link.t1 = some 5000 ∧ (synced 0 6 100000).dev.link.t3 = some 9500 ∧
    anyMode2 lockedS.dev = true ∧ anyMode2 (synced 0 6 100000).dev = false ∧ (synced 0 6 100000).dev.link.dreqDue = true ∧
    portIsUp (linkAt 0x200 id).dev 1 = false ∧ portIsUp (linkAt 0x200 id).dev 2 = false := by decide

theorem wit_LinkTimeAndRegisters_loss : (⟨{ lockedS.dev with now := 4 * syncInt lockedS.dev }, []⟩ : State).dev.link.syncAt = some 0 ∧
    0 + 4 * syncInt lockedS.dev ≤ 4 * syncInt lockedS.dev ∧ 4 * syncInt lockedS.dev - 1 < 0 + 4 * syncInt lockedS.dev ∧
    lockedS.dev.on linkP LINK.PSTAT.LOCKED = true ∧ syncMode lockedS.dev 15 = 2 ∧ frameRun lockedS.dev 15 = true := by decide

theorem wit_LinkTimeAndRegisters_send : txBusy (full 1).dev = false ∧ bitOf (0x812C0007 : Word) 31 = true ∧
    7 ≤ bits (0x812C0007 : Word) 0 8 ∧ bits (0x812C0007 : Word) 12 3 ≤ 2 ∧ bitOf (0x812C0007 : Word) 15 = false ∧
    bits (0x812C0007 : Word) 16 14 ≠ ownId (full 1).dev ∧ routeOf (full 1).dev (bits (0x812C0007 : Word) 16 14) = some 2 ∧
    txBusy txWaits.dev = true ∧ bits (0x80050007 : Word) 16 14 = ownId (full 8).dev ∧ bits (0x80050007 : Word) 12 3 = 0 ∧
    bitOf (0x80050007 : Word) 15 = false ∧ txBusy (full 8).dev = false ∧ (full 1).dev.link.sendAt + syncInt (full 1).dev = 600000 := by decide

/-! ### The block as a whole -/

theorem wit_CommandsAnswer : (Instr.burstRd 0 32 0).wf = true ∧ (Instr.burstRd 0 33 0).wf = false := by decide

/-- Commands at the edges of their operands' ranges wait. -/
def waitingRun : State := ⟨State.reset.dev, [.pllLock, .commitSet 66 [], .sample 15 16383, .burstRd 0 32 0]⟩

theorem wit_RunsGoOn : waitingRun.wellQueued := by unfold State.wellQueued; decide

theorem wit_StoppedClocksHoldCommands : awake (sleeping 8 15).dev = false ∧ awake (railLow .powerUp).dev = false ∧ awake (stopped .run).dev = false ∧
    (Instr.spiRead 0 0 0).wf = true ∧ needsClocks (.spiRead 0 0 0) = true ∧ needsClocks (.hardSafeAssert 3) = false := by decide

theorem wit_MemoryKeepsItsForm : spiIdle.memWf ∧ spiIdle.dev.mem ≠ [] ∧ State.reset.memWf := by unfold State.memWf; decide

theorem wit_NoShootThrough : State.reset.dev.noShootThrough := fun _ => rfl

/-! ### Terms that WellFormed refuses -/

theorem test_ill_okDomain : (Instr.commitSet 67 []).wf = false := rfl
theorem test_ill_okEntry : [Instr.sample 0 16384, .job 0 16384, .commitPoint 0 16384, .refresh 0 16384, .rotate 0 16384,
    .castPoint 0 16384, .mark 0 16384].all (fun c => c.wf == false) = true := rfl
def msgOf (src kind addr : Nat) : FaultMsg := ⟨src, kind, addr, 0, false, false, 0⟩
theorem test_ill_okMsgs : okMsgs [msgOf 4095 56 16383] = true ∧ okMsgs [msgOf 4096 1 0] = false ∧ okMsgs [msgOf 0 0 0] = false ∧
    okMsgs [msgOf 0 57 0] = false ∧ okMsgs [msgOf 0 1 16384] = false := by decide
theorem test_ill_okResults : (Instr.initCalibrationEnd []).wf = false := rfl
theorem test_ill_okMoved : (Instr.hewerReset .deputy 0 (List.replicate 9 0)).wf = false := by decide
theorem test_ill_okReadCmd : (Instr.spiRead 0x20 0 0).wf = false := rfl
theorem test_ill_okWords : (Instr.burstRd 0 0 0).wf = false ∧ (Instr.burstWr 0 [] 0).wf = false := by decide
theorem test_ill_okSpi : (Instr.spiTimeout (spiReq 32 0 []) 0).wf = false ∧ (Instr.spiFrameAbort (spiReq 0 0 [1]) none).wf = false := by
  decide
theorem test_ill_okElement : (Instr.canRx 0 [0] 0).wf = false ∧ (Instr.canRx 0 (List.replicate 19 0) 0).wf = false := by decide
theorem test_ill_okCanError : (Instr.canError 0 0 true).wf = false ∧ (Instr.canError 0 7 true).wf = false := by decide
theorem test_ill_okI2c : (Instr.i2cDone 6 0 [] 0).wf = false ∧ (Instr.i2cDone 0 0 (List.replicate 33 0) 0).wf = false := by decide
theorem test_ill_okFrame : okFrame (frameTo 16384 0 15 eight) = false ∧ okFrame (frameTo 0 255 15 eight) = true ∧ okFrame (frameTo 0 256 15 eight) = false ∧
    okFrame (frameTo 0 0 16 eight) = false ∧ okFrame (frameTo 0 0 15 []) = false := by decide

/-! ### Results worked out in the spec or by hand -/

/-- The table gives no row any bits. -/
theorem test_decode_none : decodeTableWord 32 0 = none := rfl

/-- R10's and R11's examples, and LEG[17] of the Vuyth example. -/
theorem test_addresses : gangP 5 = 0x41105000 ∧ legP 130 = 0x41082000 ∧ legP 17 + 0x014 = 0x41011014 := by decide

/-- The example of R543: DELAY reads 240, OFS becomes +1,234.5 ticks, OFS_LO 0x04D2_8000 and OFS_HI 0. -/
def asksTime : State := linkAt 0x222 fun r => { r with
  t1 := some (5000000 * 65536), t2 := 49987805 * 65536 / 10, t3 := some (49997805 * 65536 / 10) }
theorem test_link_offset : (linkDrespLand (5001030 * 65536) asksTime.dev).reg (linkP + 0x058) = 240 ∧
    (linkDrespLand (5001030 * 65536) asksTime.dev).reg (linkP + 0x05C) = 0x04D28000 ∧
    (linkDrespLand (5001030 * 65536) asksTime.dev).reg (linkP + 0x060) = 0 := by decide

/-- The dry vehicle of R404's example: 10 MΩ. -/
theorem test_riso_dry : riso 400 4800 3150 4800 500 1000 0 = some 10000 := by decide

/-- The q-axis PI of the example chain: the slot's fields, and 20.0 A against 18.5 A with an integrator of 10.4 V gives 12.68 V. -/
def piWords : List Word := [0x00060100, 0x3D3CFF0F, 0x0C608312, 0x00009A6B, 0x00376666, 0x00C8999A, 0, 0]
def piEnv : StageEnv :=
  { src := fun c => ⟨6, if c = 0x3D then 2621440 else 2424832⟩, live := 0, fr := fun _ => 0,
    word := fun k => if k = wSTATE + 12 then wideLo (104 * 2 ^ 41 / 10) else if k = wSTATE + 13 then wideHi (104 * 2 ^ 41 / 10) else 0 }
theorem test_pi_slot : (stageOf piWords).type = 0 ∧ (stageOf piWords).exp = 6 ∧ (stageOf piWords).cexp = 1 ∧
    (stageOf piWords).dst = 15 ∧ (stageOf piWords).stb = 12 := by decide
set_option maxRecDepth 100000 in
theorem test_pi_value : ((runPi (stageOf piWords) piEnv false).outs.map fun w => ((sigOf w).m * 100 + 65536) / 131072) = [1268] := by
  decide

/-- R134: GL turns on where the opposite gate reads low and nothing holds the leg, and waits where it does not read low. -/
theorem test_turn_on : ((edgeCommand 194 .gl true true true false [] mayTurnOn.dev).leg 194).gl = true ∧
    ((edgeCommand 194 .gl true true false false [] mayTurnOn.dev).leg 194).gl = false ∧
    ((edgeCommand 194 .gl true true false false [] mayTurnOn.dev).leg 194).wait = some (.gl, 100000) := by decide

/-- Before the clocks run and asleep, an empty queue lets an RTC cycle pass (log 14). -/
theorem test_idle : rtcCount (tick Dev.reset) = 1 ∧ rtcCount (tick (sleeping 8 15).dev) = 9 ∧ (tick Dev.reset).now = 0 := by decide

end Sys2Proof.Tests
end

section
/-!
PROOFS. Registers: bits that are raised, cleared and read, and tables of words.
-/

namespace Sys2Proof.Machine

/-! ### Bits of a word -/

theorem bits_ofNat {v : Nat} (lo n : Nat) (h : v < 2 ^ 32) : bits (BitVec.ofNat 32 v) lo n = v / 2 ^ lo % 2 ^ n := by
  rw [bits, BitVec.toNat_ofNat, Nat.mod_eq_of_lt h, Nat.shiftRight_eq_div_pow]

theorem bitOf_zero (i : Nat) : bitOf 0 i = false := by simp [bitOf]

/-- A one-bit field is its bit of the word. -/
theorem Dev.on_eq_bitOf (d : Dev) (p : Nat) {f : Fld} (h : f.n = 1) : d.on p f = bitOf (d.reg (p + f.off)) f.lo := by
  have one : d.fld p f = ((d.reg (p + f.off)).getLsbD f.lo).toNat := by
    rw [Dev.fld, bits, h, Nat.pow_one, BitVec.getLsbD, Nat.testBit_eq_decide_div_mod_eq, Nat.shiftRight_eq_div_pow]
    rcases Nat.mod_two_eq_zero_or_one ((d.reg (p + f.off)).toNat / 2 ^ f.lo) with e | e <;> simp [e]
  rw [Dev.on, one, bitOf]
  cases (d.reg (p + f.off)).getLsbD f.lo <;> rfl

/-! ### Raising event bits -/

theorem Dev.on_raise (d : Dev) {p : Nat} {f : Fld} (h : f.lo + f.n ≤ 32) (hn : 0 < f.n) : (d.raise p f).on p f = true := by
  simp [Dev.on, Dev.fld_raise d p f h hn]

theorem Dev.on_raise_ne (d : Dev) {p q : Nat} {f g : Fld}
    (h : q + g.off ≠ p + f.off ∨ g.lo + g.n ≤ f.lo ∨ f.lo + f.n ≤ g.lo) : (d.raise p f).on q g = d.on q g := by
  simp [Dev.on, Dev.fld_raise_ne d p q f g h]

/-- Raise an event bit where `c` holds. -/
def Dev.raiseIf (d : Dev) (c : Bool) (p : Nat) (f : Fld) : Dev := if c then d.raise p f else d

theorem Dev.raiseIf_on (d : Dev) {c : Bool} {p : Nat} {f : Fld} (h : f.lo + f.n ≤ 32) (hn : 0 < f.n) :
    (d.raiseIf c p f).on p f = (d.on p f || c) := by
  cases c
  · simp [Dev.raiseIf]
  · simp [Dev.raiseIf, Dev.on_raise d h hn]

theorem Dev.raiseIf_on_ne (d : Dev) {c : Bool} {p q : Nat} {f g : Fld}
    (h : q + g.off ≠ p + f.off ∨ g.lo + g.n ≤ f.lo ∨ f.lo + f.n ≤ g.lo) : (d.raiseIf c p f).on q g = d.on q g := by
  cases c
  · rfl
  · exact d.on_raise_ne h

theorem Dev.reg_raiseIf_ne (d : Dev) {c : Bool} {p b : Nat} {f : Fld} (h : b ≠ p + f.off) :
    (d.raiseIf c p f).reg b = d.reg b := by
  cases c
  · rfl
  · simp [Dev.raiseIf, h]

theorem Dev.raiseIf_eq (d : Dev) (c : Bool) (p : Nat) (f : Fld) :
    ∃ rs es, d.raiseIf c p f = { d with regs := rs, events := es } := by
  cases c <;> exact ⟨_, _, rfl⟩

@[simp] theorem Dev.raiseIf_uart (d : Dev) (c : Bool) (p : Nat) (f : Fld) (m : Nat) :
    (d.raiseIf c p f).uart m = d.uart m := by
  cases c <;> rfl

theorem Dev.setReg_raise_eq (d : Dev) (a : Nat) (w : Word) (p : Nat) (f : Fld) :
    ∃ rs es, (d.setReg a w).raise p f = { d with regs := rs, events := es } := ⟨_, _, rfl⟩

/-! ### Clearing bits of a register (R13) -/

/-- The bits that hardware has set in a register on this cycle. -/
def Dev.setNow (d : Dev) (a : Nat) : Word := ((d.eventAt a).getD (0, 0)).2

theorem Dev.setNow_of_none {d : Dev} {a : Nat} (h : d.eventAt a = none) : d.setNow a = 0 := by simp [Dev.setNow, h]

theorem Dev.setNow_of_some {d : Dev} {a : Nat} {x : Word × Word} (h : d.eventAt a = some x) : d.setNow a = x.2 := by
  simp [Dev.setNow, h]

@[simp] theorem Dev.setNow_wipe (d : Dev) (a b : Nat) (w : Word) : (d.wipe a w).setNow b = d.setNow b := (rfl)

theorem Dev.reg_wipe (d : Dev) (a b : Nat) (w : Word) :
    (d.wipe a w).reg b = if b = a then d.reg a &&& ~~~(w &&& ~~~(d.setNow a)) else d.reg b := by
  simp [Dev.wipe, Dev.setNow]

theorem Dev.reg_wipe_of_none {d : Dev} {a : Nat} (w : Word) (h : d.eventAt a = none) :
    (d.wipe a w).reg a = d.reg a &&& ~~~w := by
  have all : w &&& ~~~0 = w := (congrArg (w &&& ·) BitVec.not_zero).trans BitVec.and_allOnes
  rw [Dev.reg_wipe, if_pos rfl, Dev.setNow_of_none h, all]

theorem Dev.reg_wipe_ne (d : Dev) {a b : Nat} (w : Word) (h : b ≠ a) : (d.wipe a w).reg b = d.reg b := by
  simp [Dev.reg_wipe, h]

/-- R13: a bit that a write clears and that hardware has not set on this cycle goes, any other stays. -/
theorem Dev.wipe_bit (d : Dev) (a i : Nat) (w : Word) :
    bitOf ((d.wipe a w).reg a) i = (bitOf (d.reg a) i && !(bitOf w i && !bitOf (d.setNow a) i)) := by
  by_cases hi : i < 32
  · simp [Dev.reg_wipe, bitOf, hi]
  · simp [Dev.reg_wipe, bitOf, BitVec.getLsbD_of_ge _ i (Nat.not_lt.mp hi)]

theorem wipe_eq (d : Dev) (a : Nat) (w : Word) : d.wipe a w = { d with dies := d.dies, regs := (d.wipe a w).regs } := (rfl)

theorem wipe_setDie_eq (d : Dev) (a : Nat) (w : Word) (k : Nat) (r : DieRec) :
    (d.wipe a w).setDie k r = { d with dies := sput dieReset d.dies k r, regs := (d.wipe a w).regs } := (rfl)

/-! ### Words written to a table -/

/-- A loop that writes the registers of a table, one word each. -/
def putWords (base : Nat) (g : Nat → Word) (l : List Nat) (d : Dev) : Dev :=
  each l (fun i d => d.setReg (base + 4 * i) (g i)) d

theorem putWords_eq (base : Nat) (g : Nat → Word) (l : List Nat) (d : Dev) :
    ∃ rs, putWords base g l d = { d with regs := rs } := by
  induction l generalizing d with
  | nil => exact ⟨d.regs, rfl⟩
  | cons a l ih =>
    obtain ⟨rs, h⟩ := ih (d.setReg (base + 4 * a) (g a))
    exact ⟨rs, h⟩

theorem reg_putWords_ne {base r : Nat} (g : Nat → Word) {l : List Nat} (d : Dev) (h : ∀ i ∈ l, r ≠ base + 4 * i) :
    (putWords base g l d).reg r = d.reg r := by
  induction l generalizing d with
  | nil => rfl
  | cons a l ih =>
    have hl : ∀ i ∈ l, r ≠ base + 4 * i := fun i hi => h i (List.mem_cons_of_mem a hi)
    exact (ih (d.setReg (base + 4 * a) (g a)) hl).trans (Dev.reg_setReg_ne d _ (h a List.mem_cons_self))

theorem reg_putWords_mem {base i : Nat} (g : Nat → Word) {l : List Nat} (d : Dev) (h : i ∈ l) :
    (putWords base g l d).reg (base + 4 * i) = g i := by
  induction l generalizing d with
  | nil => cases h
  | cons a l ih =>
    by_cases hl : i ∈ l
    · exact ih (d.setReg (base + 4 * a) (g a)) hl
    · obtain rfl : i = a := (List.mem_cons.mp h).resolve_right hl
      have later : ∀ j ∈ l, base + 4 * i ≠ base + 4 * j := by
        intro j hj e
        exact hl (by rwa [show i = j by omega])
      exact (reg_putWords_ne g _ later).trans (Dev.reg_setReg_same d _ _)

/-! ### What an answer leaves alone -/

@[simp] theorem answer_uart (who : Requester) (w : Word) (bad : Bool) (d : Dev) (n : Nat) :
    (answer who w bad d).uart n = d.uart n := (rfl)

@[simp] theorem answer_on (who : Requester) (w : Word) (bad : Bool) (d : Dev) (p : Nat) (f : Fld) :
    (answer who w bad d).on p f = d.on p f := (rfl)

@[simp] theorem answer_die (who : Requester) (w : Word) (bad : Bool) (d : Dev) (k : Nat) :
    (answer who w bad d).die k = d.die k := (rfl)

@[simp] theorem answer_leg (who : Requester) (w : Word) (bad : Bool) (d : Dev) (n : Nat) :
    (answer who w bad d).leg n = d.leg n := (rfl)

theorem answer_dies_frame {d e : Dev} {ds : SMap DieRec} (h : e = { d with dies := ds }) (who : Requester) (w : Word)
    (bad : Bool) : answer who w bad e =
      { d with dies := (answer who w bad e).dies, resp := (answer who w bad e).resp, afault := (answer who w bad e).afault } := by
  rw [h]
  rfl

end Sys2Proof.Machine
end

section
/-!
PROOFS. A write to a plain register (R12, R13).
-/

namespace Sys2Proof.Machine

/-- R12: a write to a register whose page gives it no meaning beside its code. -/
theorem busWrite_plain {d : Dev} {who : Requester} {a : Nat} {val : Word} {acc : Acc} (h : d.plainAt who a val acc)
    (hs : stalled d who = none) : busWrite who (at_ a) val d = answer who 0 false (codeWrite a acc val d) := by
  obtain ⟨hlo, hhi, h4, h40, hb, r, i, hp, hacc, hsp⟩ := h
  rw [busWrite_body who a val d r i hlo hhi h4 h40 hp hb hs, bodyWrite_code hsp hacc]

theorem exec_registerWrite_plain {s : State} {who : Requester} {a : Nat} {val : Word} {acc : Acc} (hs : s.dev.serves who)
    (h : s.dev.plainAt who a val acc) :
    exec (.registerWrite who (at_ a) val) s = .next (s.put (answer who 0 false (codeWrite a acc val s.dev))) := by
  rw [← busWrite_plain h hs.2]
  exact act_awake hs.1

/-- R12: the codes that software does not write. -/
theorem codeWrite_readOnly {acc : Acc} (h : acc = .ro ∨ acc = .roc ∨ acc = .rc) (a : Nat) (val : Word) (d : Dev) :
    codeWrite a acc val d = d := by
  rcases h with rfl | rfl | rfl <;> rfl

/-- Settles O13: each access code gives its one update of the register, and the answer follows. -/
theorem writeByAccessCode : Obligations.WriteByAccessCode := by
  intro s who a val hs
  refine ⟨fun h => ?rw, fun h => ?w1c, fun h => ?readOnly⟩
  case rw =>
    refine ⟨_, exec_registerWrite_plain hs h, ?_, fun b hb => ?_, rfl⟩
    · simp [codeWrite]
    · simp [codeWrite, hb]
  case w1c =>
    refine ⟨_, exec_registerWrite_plain hs h, fun he => ?_, fun old since he => ?_, fun b hb => ?_, rfl⟩
    · simp [codeWrite, Dev.reg_wipe_of_none _ he]
    · simp [codeWrite, Dev.reg_wipe, Dev.setNow_of_some he]
    · simp [codeWrite, Dev.reg_wipe_ne _ _ hb]
  case readOnly =>
    have ⟨acc, hacc, hp⟩ : ∃ acc, (acc = .ro ∨ acc = .roc ∨ acc = .rc) ∧ s.dev.plainAt who a val acc := by
      rcases h with h | h | h
      · exact ⟨_, .inl rfl, h⟩
      · exact ⟨_, .inr (.inl rfl), h⟩
      · exact ⟨_, .inr (.inr rfl), h⟩
    refine ⟨_, exec_registerWrite_plain hs hp, ?_⟩
    rw [codeWrite_readOnly hacc]
    rfl

end Sys2Proof.Machine
end

section
/-!
PROOFS. The UARTs and the I²C controller (R529, R530, R550).
-/

namespace Sys2Proof.Machine

/-! ### Registers outside a page -/

theorem pageBase_uart (n off : Nat) (h : off < 0x1000) : pageBase (uartP n + off) = uartP n := by
  unfold pageBase uartP; omega

theorem pageBase_i2c (off : Nat) (h : off < 0x1000) : pageBase (i2cP + off) = i2cP := by
  unfold pageBase i2cP; omega

theorem ne_of_offUart {n r off : Nat} (hr : pageBase r ≠ uartP n) (h : off < 0x1000) : r ≠ uartP n + off := by
  rintro rfl
  exact hr (pageBase_uart n off h)

theorem ne_of_offI2c {r off : Nat} (hr : pageBase r ≠ i2cP) (h : off < 0x1000) : r ≠ i2cP + off := by
  rintro rfl
  exact hr (pageBase_i2c off h)

/-! ### What a UART's operations do -/

@[simp] theorem uartShow_uart (n m : Nat) (d : Dev) : (uartShow n d).uart m = d.uart m := by
  simp [uartShow]

theorem uartShow_reg (n r : Nat) (d : Dev) (h : r ≠ uartP n + 0x048) : (uartShow n d).reg r = d.reg r := by
  simp [uartShow, h]

theorem uartShow_on (n : Nat) (f : Fld) (d : Dev) (h : f.off ≠ 0x048) : (uartShow n d).on (uartP n) f = d.on (uartP n) f := by
  simp only [Dev.on, Dev.fld, uartShow_reg n _ d (fun e => h (Nat.add_left_cancel e))]

theorem uartTxLand_room {n : Nat} (val : Word) {d : Dev} (h : (d.uart n).tx.length < 32) :
    uartTxLand n val d = uartShow n (d.setUart n { d.uart n with tx := (d.uart n).tx ++ [val.setWidth 8] }) :=
  if_neg (Nat.not_le.mpr h)

theorem uartTxLand_full {n : Nat} (val : Word) {d : Dev} (h : 32 ≤ (d.uart n).tx.length) : uartTxLand n val d = d :=
  if_pos h

/-- A parity error counts where parity is checked. -/
def parityError (d : Dev) (n : Nat) (bad : Bool) : Bool :=
  bad && (bits (d.reg (uartP n + 0x040)) 28 2 == 1 || bits (d.reg (uartP n + 0x040)) 28 2 == 2)

/-- The UART with a received word behind its RX FIFO. -/
def UartRec.received (u : UartRec) (cycle : Nat) (w : Word) : UartRec :=
  { u with rx := u.rx ++ [w], rxCycle := cycle, rxNew := (if u.rxCycle = cycle then u.rxNew else 0) + 1 }

/-- The word that DATA gives for a byte. -/
def rxWord (b : Byte) (perr ferr : Bool) : Word := BitVec.ofNat 32 (2 ^ 31 + b2n perr * 2 ^ 10 + b2n ferr * 2 ^ 9 + b.toNat)

/-- R529: a byte that finds room. -/
theorem uartRxLand_room {n : Nat} (b : Byte) (bad ferr brk : Bool) {d : Dev} (hen : d.on (uartP n) UART.CFG.EN = true)
    (h : (d.uart n).rx.length < 32) :
    uartRxLand n b bad ferr brk d =
      ((uartShow n ((d.raiseIf brk (uartP n) UART.EVT.BREAK).setUart n
        ((d.uart n).received (d.now / 2) (rxWord b (parityError d n bad) ferr)))).raise (uartP n) UART.EVT.RX).raiseIf
        (parityError d n bad || ferr) (uartP n) UART.EVT.ERR := by
  have h' : ¬ 32 ≤ (d.uart n).rx.length := Nat.not_le.mpr h
  cases brk <;> simp only [uartRxLand, hen, h', Dev.raiseIf, Bool.not_true, Bool.false_eq_true, if_false, if_true] <;> rfl

/-- The bits of EVT after a byte has come (R529): RX, ERR where parity or the frame fails, BREAK. -/
theorem uartRxLand_events {n : Nat} (b : Byte) (bad ferr brk : Bool) {d : Dev} (hen : d.on (uartP n) UART.CFG.EN = true)
    (h : (d.uart n).rx.length < 32) :
    (uartRxLand n b bad ferr brk d).on (uartP n) UART.EVT.RX = true ∧
      (uartRxLand n b bad ferr brk d).on (uartP n) UART.EVT.ERR =
        (d.on (uartP n) UART.EVT.ERR || parityError d n bad || ferr) ∧
      (brk = true → (uartRxLand n b bad ferr brk d).on (uartP n) UART.EVT.BREAK = true) := by
  rw [uartRxLand_room b bad ferr brk hen h]
  refine ⟨?_, ?_, fun hb => ?_⟩
  · rw [Dev.raiseIf_on_ne _ (.inr (by decide)), Dev.on_raise _ (by decide) (by decide)]
  · rw [Dev.raiseIf_on _ (by decide) (by decide), Dev.on_raise_ne _ (.inr (by decide)),
      uartShow_on _ _ _ (by decide), Dev.setUart_on, Dev.raiseIf_on_ne _ (.inr (by decide)), Bool.or_assoc]
  · rw [Dev.raiseIf_on_ne _ (.inr (by decide)), Dev.on_raise_ne _ (.inr (by decide)), uartShow_on _ _ _ (by decide),
      Dev.setUart_on, Dev.raiseIf_on _ (by decide) (by decide), hb, Bool.or_true]

/-- R529: a byte that finds the RX FIFO full is lost. -/
theorem uartRxLand_full {n : Nat} (b : Byte) (bad ferr brk : Bool) {d : Dev} (hen : d.on (uartP n) UART.CFG.EN = true)
    (h : 32 ≤ (d.uart n).rx.length) :
    uartRxLand n b bad ferr brk d =
      (d.raiseIf brk (uartP n) UART.EVT.BREAK).raise (uartP n) UART.EVT.OVF := by
  simp [uartRxLand, hen, h, Dev.raiseIf]

theorem uartTake_cons {n : Nat} {w : Word} {rest : List Word} {d : Dev} (h : (d.uart n).rx = w :: rest)
    (hc : (d.uart n).rxCycle ≠ d.now / 2) :
    uartTake n d = (w, uartShow n (d.setUart n { d.uart n with rx := rest })) := by
  have hb : rxBefore d n = w :: rest := by simp [rxBefore, hc, h]
  simp [uartTake, hb, h]

theorem uartTake_nil {n : Nat} {d : Dev} (h : rxBefore d n = []) : uartTake n d = (0, d) := by
  simp [uartTake, h]

theorem uartTxByteLand_cons {n : Nat} {x : Byte} {rest : List Byte} {d : Dev} (hen : d.on (uartP n) UART.CFG.EN = true)
    (h : (d.uart n).tx = x :: rest) :
    uartTxByteLand n d = (uartShow n (d.setUart n { d.uart n with tx := rest })).raiseIf rest.isEmpty (uartP n) UART.EVT.TX_EMPTY := by
  cases rest <;> simp [uartTxByteLand, hen, h, Dev.raiseIf]

/-! ### What a UART's operations leave -/

/-- From `d` to `e` only UART `n` has changed, beside the answer to its requester. -/
def Dev.uartFrame (d : Dev) (n : Nat) (e : Dev) : Prop :=
  (∀ m, m ≠ n → e.uart m = d.uart m) ∧ (∀ r, pageBase r ≠ uartP n → e.reg r = d.reg r) ∧
    e = { d with regs := e.regs, events := e.events, uarts := e.uarts, resp := e.resp, afault := e.afault }

theorem Dev.uartFrame.refl (d : Dev) (n : Nat) : d.uartFrame n d := ⟨fun _ _ => rfl, fun _ _ => rfl, rfl⟩

theorem Dev.uartFrame.trans {d e g : Dev} {n : Nat} (h : d.uartFrame n e) (h' : e.uartFrame n g) : d.uartFrame n g := by
  obtain ⟨hu, hr, he⟩ := h
  obtain ⟨hu', hr', he'⟩ := h'
  refine ⟨fun m hm => (hu' m hm).trans (hu m hm), fun r hp => (hr' r hp).trans (hr r hp), he'.trans ?_⟩
  exact congrArg (fun x : Dev => { x with regs := g.regs, events := g.events, uarts := g.uarts, resp := g.resp,
                                          afault := g.afault }) he

theorem Dev.uartFrame.setUart {d e : Dev} {n : Nat} (h : d.uartFrame n e) (u : UartRec) : d.uartFrame n (e.setUart n u) :=
  h.trans ⟨fun m hm => by simp [hm], fun _ _ => rfl, rfl⟩

theorem Dev.uartFrame.setReg {d e : Dev} {n : Nat} (h : d.uartFrame n e) {a : Nat} (ha : pageBase a = uartP n) (w : Word) :
    d.uartFrame n (e.setReg a w) := by
  refine h.trans ⟨fun _ _ => rfl, fun r hr => Dev.reg_setReg_ne e w ?_, rfl⟩
  rintro rfl
  exact hr ha

theorem Dev.uartFrame.show {d e : Dev} {n : Nat} (h : d.uartFrame n e) : d.uartFrame n (uartShow n e) :=
  h.setReg (pageBase_uart n 0x048 (by omega)) _

theorem Dev.uartFrame.raise {d e : Dev} {n : Nat} (h : d.uartFrame n e) {f : Fld} (hf : f.off < 0x1000) :
    d.uartFrame n (e.raise (uartP n) f) :=
  h.trans ⟨fun _ _ => rfl, fun r hr => by simp [ne_of_offUart hr hf], rfl⟩

theorem Dev.uartFrame.raiseIf {d e : Dev} {n : Nat} (h : d.uartFrame n e) (c : Bool) {f : Fld} (hf : f.off < 0x1000) :
    d.uartFrame n (e.raiseIf c (uartP n) f) := by
  cases c
  · exact h
  · exact h.raise hf

theorem Dev.uartFrame.answer {d e : Dev} {n : Nat} (h : d.uartFrame n e) (who : Requester) (w : Word) (bad : Bool) :
    d.uartFrame n (answer who w bad e) :=
  h.trans ⟨fun _ _ => rfl, fun _ _ => rfl, rfl⟩

/-! ### Accesses to DATA -/

theorem exec_uartTxWrite {s : State} {who : Requester} (n : Fin 2) (val : Word) (hs : s.dev.serves who) :
    exec (.uartTxWrite who n val) s = .next (s.put (answer who 0 false (uartTxLand n val s.dev))) := by
  have hsp : specialWrite who .uart n ((uartP n + 0x044) % 0x1000) val s.dev = some (uartTxLand n val s.dev) := by
    rw [uartP_mod _ _ (by omega)]
    rfl
  rw [← bodyWrite_special hsp, ← write_uart who n 0x044 val s.dev n.isLt (by omega) (by omega) (by omega) hs.2]
  exact act_awake hs.1

/-- DATA is no half of a register pair (R64). -/
theorem isPair_uartData (n : Nat) (hn : n < 2) :
    isPairLow (uartP n + 0x044) = false ∧ isPairHigh (uartP n + 0x044) = false := by
  have low : ∀ off, off = 0x040 ∨ off = 0x044 → isPairLow (uartP n + off) = false := by
    intro off h
    have outside : ¬ (0x31000000 ≤ uartP n + off ∧ uartP n + off < 0x31040000) := by unfold uartP; omega
    rw [isPairLow, if_neg outside, pageAt_uart n off hn (by omega)]
    rcases h with rfl | rfl <;> simp [pairLows, uartP_mod]
  refine ⟨low _ (.inr rfl), ?_⟩
  have prev : uartP n + 0x044 - 4 = uartP n + 0x040 := by omega
  simp [isPairHigh, prev, low _ (.inl rfl)]

theorem pageRead_uartData (who : Requester) (n : Nat) (hn : n < 2) (d : Dev) :
    pageRead who .uart n (uartP n + 0x044) d = uartTake n d := by
  obtain ⟨hl, hh⟩ := isPair_uartData n hn
  simp [pageRead, readEffect, hl, hh, uartP_mod n 0x044]

theorem exec_uartDataRead {s : State} {who : Requester} (n : Fin 2) (hs : s.dev.serves who) :
    exec (.uartDataRead who n) s =
      .next (s.put (answer who (uartTake n s.dev).1 false (uartTake n s.dev).2)) := by
  have e : readOnly who (at_ (uartP n + 0x044)) s.dev = answer who (uartTake n s.dev).1 false (uartTake n s.dev).2 := by
    rw [readOnly, at_, busRead_page who _ s.dev _ n (by unfold uartP; omega) (by unfold uartP; omega) (by unfold uartP; omega)
      (pageAt_uart n 0x044 n.isLt (by omega)) hs.2, pageRead_uartData who n n.isLt]
  rw [← e]
  exact act_awake hs.1

/-! ### A transaction of the I²C controller -/

theorem exec_i2cCmd {s : State} {who : Requester} (val : Word) (hs : s.dev.serves who) :
    exec (.i2cCmd who val) s = .next (s.put (answer who 0 false (i2cCmdLand val s.dev))) := by
  have hsp : specialWrite who .i2c 0 ((i2cP + 0x044) % 0x1000) val s.dev = some (i2cCmdLand val s.dev) := rfl
  rw [← bodyWrite_special hsp, ← write_i2c who 0x044 val s.dev (by omega) (by omega) (by omega) hs.2]
  exact act_awake hs.1

/-- R530: CMD.GO while nothing runs. -/
theorem i2cCmdLand_starts {val : Word} {d : Dev} (hgo : bitOf val 31 = true) (hidle : d.fld i2cP I2C.STAT.STATE ≠ 1)
    (hen : d.on i2cP I2C.CFG.EN = true) (hw : bits val 8 6 ≤ 32) (hr : bits val 0 6 ≤ 32) :
    i2cCmdLand val d = ((d.setSys fun x => { x with i2cWire := i2cSends d val }).setReg (i2cP + 0x048)
      (BitVec.ofNat 32 (2 ^ 30))).setReg (i2cP + 0x044) val := by
  have hw' : ¬ 32 < bits val 8 6 := by omega
  have hr' : ¬ 32 < bits val 0 6 := by omega
  simp [i2cCmdLand, hgo, hidle, hen, hw', hr']

/-- R530: CMD is ignored while a transaction runs. -/
theorem i2cCmdLand_busy (val : Word) {d : Dev} (h : d.fld i2cP I2C.STAT.STATE = 1) :
    i2cCmdLand val d = d.raise i2cP I2C.EVT.CFG_IGN := by
  cases hgo : bitOf val 31 <;> simp [i2cCmdLand, hgo, h]

/-- STAT at the end of a transaction (R550). -/
def i2cEndWord (cause : Nat) (done : BitVec 6) : Word :=
  BitVec.ofNat 32 ((if cause = 0 then 2 else 3) * 2 ^ 30 + cause * 2 ^ 24 + done.toNat)

theorem i2cEndWord_fields {cause : Nat} (done : BitVec 6) (h : cause ≤ 5) :
    bits (i2cEndWord cause done) 30 2 = (if cause = 0 then 2 else 3) ∧ bits (i2cEndWord cause done) 24 4 = cause ∧
      bits (i2cEndWord cause done) 0 6 = done.toNat := by
  have hd := done.isLt
  have hlt : (if cause = 0 then 2 else 3) * 2 ^ 30 + cause * 2 ^ 24 + done.toNat < 2 ^ 32 := by split <;> omega
  rw [i2cEndWord, bits_ofNat _ _ hlt, bits_ofNat _ _ hlt, bits_ofNat _ _ hlt]
  refine ⟨?_, ?_, ?_⟩ <;> split <;> omega

/-- The event of the end of a transaction. -/
def i2cEndEvt (cause : Nat) : Fld := if cause = 0 then I2C.EVT.DONE else I2C.EVT.ERROR

theorem i2cEndEvt_shape (cause : Nat) : (i2cEndEvt cause).off = 0x04C ∧ (i2cEndEvt cause).lo + (i2cEndEvt cause).n ≤ 32 ∧
    0 < (i2cEndEvt cause).n := by
  unfold i2cEndEvt
  split <;> decide

/-- The device with the bytes read in RBUF, STAT written and the event raised. -/
def i2cEnded (cause : Nat) (done : BitVec 6) (data : List Byte) (d : Dev) : Dev :=
  ((putWords (i2cP + 0x0A0) (fun i => bytesWord ((data.drop (4 * i)).take 4)) (List.range ((data.length + 3) / 4)) d).setReg
    (i2cP + 0x048) (i2cEndWord cause done)).raise i2cP (i2cEndEvt cause)

/-- The end writes RBUF, STAT and EVT, and the words of RBUF are those of the bytes read. -/
theorem i2cEnded_reg (cause : Nat) (done : BitVec 6) {data : List Byte} (d : Dev) (hd : data.length ≤ 32) :
    (i2cEnded cause done data d).reg (i2cP + 0x048) = i2cEndWord cause done ∧
      (∀ i, 4 * i < data.length →
        (i2cEnded cause done data d).reg (i2cP + 0x0A0 + 4 * i) = bytesWord ((data.drop (4 * i)).take 4)) ∧
      ∀ r, pageBase r ≠ i2cP → (i2cEnded cause done data d).reg r = d.reg r := by
  obtain ⟨hoff, -, -⟩ := i2cEndEvt_shape cause
  refine ⟨?_, fun i hi => ?_, fun r hr => ?_⟩
  · simp [i2cEnded, hoff]
  · have h1 : i2cP + 0x0A0 + 4 * i ≠ i2cP + 0x04C := by omega
    have h2 : i2cP + 0x0A0 + 4 * i ≠ i2cP + 0x048 := by omega
    have hm : i ∈ List.range ((data.length + 3) / 4) := List.mem_range.mpr (by omega)
    simp only [i2cEnded, Dev.reg_raise, hoff, h1, if_false, Dev.reg_setReg, h2]
    exact reg_putWords_mem _ d hm
  · have h3 : ∀ i ∈ List.range ((data.length + 3) / 4), r ≠ i2cP + 0x0A0 + 4 * i := by
      intro i hi
      rw [List.mem_range] at hi
      rw [Nat.add_assoc]
      exact ne_of_offI2c hr (by omega)
    simp only [i2cEnded, Dev.reg_raise, hoff, ne_of_offI2c hr (show 0x04C < 0x1000 by omega), if_false, Dev.reg_setReg,
      ne_of_offI2c hr (show 0x048 < 0x1000 by omega)]
    exact reg_putWords_ne _ d h3

theorem i2cEnded_eq (cause : Nat) (done : BitVec 6) (data : List Byte) (d : Dev) :
    ∃ rs es, i2cEnded cause done data d = { d with regs := rs, events := es } := by
  obtain ⟨rs, h⟩ := putWords_eq (i2cP + 0x0A0) (fun i => bytesWord ((data.drop (4 * i)).take 4))
    (List.range ((data.length + 3) / 4)) d
  rw [i2cEnded, h]
  exact Dev.setReg_raise_eq { d with regs := rs } _ _ _ _

theorem exec_i2cDone {s : State} {cause : Nat} {done : BitVec 6} {data : List Byte} {pec : Byte} (ha : awake s.dev = true)
    (hc : cause ≤ 5) (hd : data.length ≤ 32) :
    exec (.i2cDone cause done data pec) s = .next (s.put (i2cDoneLand cause done data pec s.dev)) := by
  have ok : okI2c cause data = true := by simp [okI2c, hc, hd]
  rw [← act_awake (f := i2cDoneLand cause done data pec) ha]
  show checked (okI2c cause data) _ = _
  rw [ok, checked_true]

theorem i2cDoneLand_ends {cause : Nat} {done : BitVec 6} {data : List Byte} {pec : Byte} {d : Dev}
    (hrun : d.fld i2cP I2C.STAT.STATE = 1) (h : i2cCanEnd cause done.toNat data pec d = true) :
    i2cDoneLand cause done data pec d = i2cEnded cause done data d := by
  simp only [i2cDoneLand, hrun, h, ne_eq, not_true_eq_false, decide_false, Bool.not_true, Bool.or_false, Bool.false_eq_true, if_false]
  rfl

theorem i2cDoneLand_refused {cause : Nat} {done : BitVec 6} {data : List Byte} {pec : Byte} {d : Dev}
    (h : i2cCanEnd cause done.toNat data pec d = false) : i2cDoneLand cause done data pec d = d := by
  simp [i2cDoneLand, h]

/-- R530: a transaction ends in DONE after all its bytes, where its packet error code, if one is checked, fits. -/
theorem i2cCanEnd_done {done : BitVec 6} {data : List Byte} {pec : Byte} {d : Dev}
    (hl : data.length = bits (d.reg (i2cP + 0x044)) 0 6) (hn : done.toNat = bits (d.reg (i2cP + 0x044)) 8 6 + data.length)
    (hp : d.on i2cP I2C.CFG.PEC = false ∨ pec = crc8 0 (d.sys.i2cWire ++ data)) :
    i2cCanEnd 0 done.toNat data pec d = true := by
  rcases hp with hp | hp
  · simp [i2cCanEnd, hn, ← hl, hp]
  · simp [i2cCanEnd, hn, ← hl, hp]

theorem i2cCanEnd_short {done : Nat} {data : List Byte} {pec : Byte} {d : Dev}
    (hl : data.length ≠ bits (d.reg (i2cP + 0x044)) 0 6) : i2cCanEnd 0 done data pec d = false := by
  simp [i2cCanEnd, hl]

/-! ### The statement -/

/-- Settles O50, an operation at a time: what it writes by its equation, what it leaves by the shape of that equation. -/
theorem uartAndI2c : Obligations.UartAndI2c := by
  intro s who n val b hs frame iframe
  have keep : s.dev.uartFrame n s.dev := .refl s.dev n
  refine ⟨fun h => ?send, fun h => ?sendFull, fun bad ferr brk hen => ⟨fun h => ?receive, fun h => ?receiveFull⟩,
    fun w rest h hc => ?take, fun h => ?takeEmpty, fun x rest hen h => ?sent, fun hgo hidle hen hw hr => ?starts,
    fun hrun => ⟨?busy, fun done data pec => i2cCanEnd_done, fun done data pec => i2cCanEnd_short,
      fun cause done data pec hc hd h => ?cannotEnd, fun cause done data pec hc hd h => ?ends⟩⟩
  case send =>
    refine ⟨_, exec_uartTxWrite n val hs, ?_⟩
    rw [uartTxLand_room val h]
    exact ⟨by simp, (keep.setUart _).show.answer who 0 false⟩
  case sendFull =>
    refine ⟨_, exec_uartTxWrite n val hs, ?_⟩
    rw [uartTxLand_full val h]
    exact ⟨rfl, rfl, keep.answer who 0 false⟩
  case receive =>
    obtain ⟨hrx, herr, hbrk⟩ := uartRxLand_events b bad ferr brk hen h
    refine ⟨_, act_awake hs.1, ?_, hrx, herr, hbrk, ?_⟩ <;> rw [uartRxLand_room b bad ferr brk hen h]
    · simp [UartRec.received, rxWord, parityError]
    · exact (((keep.raiseIf brk (by decide)).setUart _).show.raise (by decide)).raiseIf _ (by decide)
  case receiveFull =>
    refine ⟨_, act_awake hs.1, ?_⟩
    rw [uartRxLand_full b bad ferr brk hen h]
    refine ⟨?_, Dev.on_raise _ (by decide) (by decide), (keep.raiseIf brk (by decide)).raise (by decide)⟩
    cases brk <;> rfl
  case take =>
    refine ⟨_, exec_uartDataRead n hs, ?_⟩
    rw [uartTake_cons h hc]
    exact ⟨(answer_resp _ _ _ _).1, by simp, (keep.setUart _).show.answer who w false⟩
  case takeEmpty =>
    refine ⟨_, exec_uartDataRead n hs, ?_⟩
    rw [uartTake_nil h]
    exact ⟨(answer_resp _ _ _ _).1, rfl, keep.answer who 0 false⟩
  case sent =>
    refine ⟨_, act_awake hs.1, ?_⟩
    rw [uartTxByteLand_cons hen h]
    refine ⟨by simp, fun hr => ?_, (keep.setUart _).show.raiseIf _ (by decide)⟩
    rw [Dev.raiseIf_on _ (by decide) (by decide), hr, List.isEmpty_nil, Bool.or_true]
  case starts =>
    refine ⟨_, exec_i2cCmd val hs, ?_⟩
    rw [i2cCmdLand_starts hgo hidle hen hw hr]
    refine ⟨?_, by simp, rfl, fun r hcmd hstat => by simp [hcmd, hstat], fun r hp => ?_, rfl⟩
    · show bits (Dev.reg _ (i2cP + 0x048)) 30 2 = 1
      rw [answer_reg, Dev.reg_setReg_ne _ _ (by decide), Dev.reg_setReg_same]
      decide
    · simp [ne_of_offI2c hp (show 0x044 < 0x1000 by omega), ne_of_offI2c hp (show 0x048 < 0x1000 by omega)]
  case busy =>
    refine ⟨_, exec_i2cCmd val hs, ?_⟩
    rw [i2cCmdLand_busy val hrun]
    have rest : ∀ r, r ≠ i2cP + 0x04C → (s.dev.raise i2cP I2C.EVT.CFG_IGN).reg r = s.dev.reg r := by
      intro r hr
      rw [Dev.reg_raise]
      exact if_neg hr
    exact ⟨Dev.on_raise _ (by decide) (by decide), rest, rfl, fun r hp => rest r (ne_of_offI2c hp (by omega)), rfl⟩
  case cannotEnd =>
    rw [exec_i2cDone hs.1 hc hd, i2cDoneLand_refused h]
    rfl
  case ends =>
    refine ⟨_, exec_i2cDone hs.1 hc hd, ?_⟩
    rw [i2cDoneLand_ends hrun h]
    obtain ⟨hstat, hbuf, hout⟩ := i2cEnded_reg cause done s.dev hd
    obtain ⟨hstate, hcause, hdone⟩ := i2cEndWord_fields done hc
    obtain ⟨-, hfits, hn⟩ := i2cEndEvt_shape cause
    obtain ⟨rs, es, heq⟩ := i2cEnded_eq cause done data s.dev
    refine ⟨?_, ?_, ?_, Dev.on_raise _ hfits hn, hbuf, ?_, hout, ?_⟩
    · exact (congrArg (bits · 30 2) hstat).trans hstate
    · exact (congrArg (bits · 24 4) hstat).trans hcause
    · exact (congrArg (bits · 0 6) hstat).trans hdone
    · rw [heq]
    · rw [heq]

end Sys2Proof.Machine
end

section
/-!
PROOFS. The trip latches and the settings of a drive die (R121, R124, R126, R148, R149).
-/

namespace Sys2Proof.Machine

/-! ### Writes and commands that travel to a die -/

theorem dieWrite_hears {d : Dev} {who : Requester} {a i : Nat} {r : PageRow} (val : Word) (f : Dev → Dev)
    (hp : pageAt a = some (r, i)) (h : d.hears who) (hs : stalled d who = none) :
    dieWrite who a val f d = answer who 0 false (f d) := by
  simp [dieWrite, hs, allowed, blocked_hears hp h]

/-- R162: a command that fails its check moves only its die's record. -/
theorem carried_unchecked (k : Nat) (f : Dev → Dev) (d : Dev) : ∃ r, carried k false d f = d.setDie k r := by
  simp only [carried, carry, Bool.not_false, if_true]
  split <;> exact ⟨_, rfl⟩

/-- R162: a command that a die would accept, but that fails its check, is counted. -/
theorem carried_checkFails {d : Dev} {k : Nat} (f : Dev → Dev) (h : d.accepts k) :
    (carried k false d f).die k = { d.die k with lastSent := d.now, checkFail := (d.die k).checkFail + 1 } ∧
      (∀ j, j ≠ k → (carried k false d f).die j = d.die j) ∧ ∃ ds, carried k false d f = { d with dies := ds } := by
  obtain ⟨hlink, hcmd, -, -⟩ := h
  have counted : carried k false d f = d.setDie k { d.die k with lastSent := d.now, checkFail := (d.die k).checkFail + 1 } := by
    simp [carried, carry, hlink, hcmd]
  rw [counted]
  exact ⟨by simp, fun j hj => by simp [hj], _, rfl⟩

@[simp] theorem taken_setNow (k b : Nat) (d : Dev) : (taken k d).setNow b = d.setNow b := (rfl)

@[simp] theorem taken_turns (k : Nat) (d : Dev) : (taken k d).turns = d.turns := (rfl)

theorem softFilter_taken (k : Nat) (d : Dev) : softFilter (taken k d) k = softFilter d k := by
  simp [softFilter]

/-- An event of a die is set, and the other dies and the other settings stay. -/
theorem dieEvt_taken (k i : Nat) (hi : i < 32) (d : Dev) :
    ((dieEvt k i (taken k d)).die k).cfg = (d.die k).cfg ∧ ((dieEvt k i (taken k d)).die k).uvTh = (d.die k).uvTh ∧
      bitOf ((dieEvt k i (taken k d)).die k).evt i = true ∧ (∀ j, j ≠ k → (dieEvt k i (taken k d)).die j = d.die j) ∧
      ∃ ds, dieEvt k i (taken k d) = { d with dies := ds } := by
  have hbit : (BitVec.ofNat 32 (2 ^ i)).getLsbD i = true := by
    rw [BitVec.getLsbD_ofNat, Nat.testBit_two_pow_self, decide_eq_true hi, Bool.and_true]
  refine ⟨by simp, by simp, ?_, fun j hj => by simp [hj], _, rfl⟩
  rw [dieEvt_die, if_pos rfl, bitOf, BitVec.getLsbD_or, hbit, Bool.or_true]

theorem exec_tripLatchClear {s : State} {who : Requester} (n : Fin 256) (val : Word) (chk : Bool) (hard soft : CompRead)
    (hs : s.dev.serves who) (hh : s.dev.hears who) :
    exec (.tripLatchClear who n val chk hard soft) s =
      .next (s.put (answer who 0 false (tripWrite n val chk hard soft s.dev))) := by
  rw [← dieWrite_hears val (tripWrite n val chk hard soft) (pageAt_leg n 0x05C n.isLt (by omega)) hh hs.2]
  exact act_awake hs.1

theorem exec_ddieCfgWrite {s : State} {who : Requester} (k : Fin 4) (val : Word) (chk : Bool) (hs : s.dev.serves who)
    (hh : s.dev.hears who) :
    exec (.ddieCfgWrite who k val chk) s = .next (s.put (answer who 0 false (cfgCommand k val chk s.dev))) := by
  rw [← dieWrite_hears val (cfgCommand k val chk) (pageAt_ddie k 0x040 k.isLt (by omega)) hh hs.2]
  exact act_awake hs.1

theorem exec_ddieVdrvUvWrite {s : State} {who : Requester} (k : Fin 4) (val : Word) (chk : Bool) (hs : s.dev.serves who)
    (hh : s.dev.hears who) :
    exec (.ddieVdrvUvWrite who k val chk) s = .next (s.put (answer who 0 false (uvCommand k val chk s.dev))) := by
  rw [← dieWrite_hears val (uvCommand k val chk) (pageAt_ddie k 0x044 k.isLt (by omega)) hh hs.2]
  exact act_awake hs.1

/-! ### Clears of the trip latches -/

theorem clearOk_hard (c : CompRead) : clearOk c 12 = (!c.above && decide (44 ≤ c.belowFor)) := (rfl)

theorem clearOk_soft (c : CompRead) (d : Dev) (k : Nat) :
    clearOk c (softFilter d k) = (!c.above && decide (12 + 4 * bits (d.die k).cfg 8 4 + 32 ≤ c.belowFor)) := (rfl)

theorem clearOk_eq_false (c : CompRead) (filter : Nat) : clearOk c filter = false ↔ c.above = true ∨ c.belowFor < filter + 32 := by
  cases h : c.above <;> simp [clearOk, h]

/-- The bits of the TRIP latches that a clear takes. -/
def latchWord (hard soft : Bool) : Word := BitVec.ofNat 32 (b2n hard * 4 + b2n soft * 2)

theorem latchWord_bits (hard soft : Bool) :
    bitOf (latchWord hard soft) 1 = soft ∧ bitOf (latchWord hard soft) 2 = hard ∧ bitOf (latchWord hard soft) 3 = false ∧
      bitOf (latchWord hard soft) 4 = false := by
  cases hard <;> cases soft <;> decide

/-- R13: a bit of TRIP after a clear of some bits. -/
theorem wipeTrip_on (f : Fld) {i : Nat} (hf : f = ⟨0x05C, i, 1⟩) (d : Dev) (n : Nat) (w : Word) :
    (d.wipe (legP n + 0x05C) w).on (legP n) f =
      (d.on (legP n) f && !(bitOf w i && !bitOf (d.setNow (legP n + 0x05C)) i)) := by
  subst hf
  rw [Dev.on_eq_bitOf _ _ rfl, Dev.on_eq_bitOf _ _ rfl, Dev.wipe_bit]

/-- R148, R149: the latches whose clear the die refuses, HARD or SOFT. -/
def refuses (d : Dev) (n : Nat) (hard soft : Bool) (hr sr : CompRead) : Bool :=
  (hard && d.on (legP n) LEG.TRIP.HARD_LAT && !clearOk hr 12) ||
    (soft && d.on (legP n) LEG.TRIP.SOFT_LAT && !clearOk sr (softFilter d (n / 64)))

theorem clearLatches_dev (n : Nat) (hard soft : Bool) (hr sr : CompRead) (d : Dev) :
    (clearLatches n hard soft hr sr d).1 =
      (d.wipe (legP n + 0x05C) (latchWord (hard && d.on (legP n) LEG.TRIP.HARD_LAT && clearOk hr 12)
        (soft && d.on (legP n) LEG.TRIP.SOFT_LAT && clearOk sr (softFilter d (n / 64))))).raiseIf
        (refuses d n hard soft hr sr) (legP n) LEG.TRIP.CLR_REFUSED := (rfl)

/-- R13, R148: what a clear leaves of TRIP. -/
theorem clearLatches_trip (n : Nat) (hard soft : Bool) (hr sr : CompRead) (d : Dev) :
    (clearLatches n hard soft hr sr d).1.on (legP n) LEG.TRIP.HARD_LAT = (d.on (legP n) LEG.TRIP.HARD_LAT &&
        !(hard && clearOk hr 12 && !bitOf (d.setNow (legP n + 0x05C)) 2)) ∧
      (clearLatches n hard soft hr sr d).1.on (legP n) LEG.TRIP.SOFT_LAT = (d.on (legP n) LEG.TRIP.SOFT_LAT &&
        !(soft && clearOk sr (softFilter d (n / 64)) && !bitOf (d.setNow (legP n + 0x05C)) 1)) ∧
      (clearLatches n hard soft hr sr d).1.on (legP n) LEG.TRIP.BST_UV = d.on (legP n) LEG.TRIP.BST_UV ∧
      (clearLatches n hard soft hr sr d).1.on (legP n) LEG.TRIP.PRES_MISS = d.on (legP n) LEG.TRIP.PRES_MISS ∧
      (refuses d n hard soft hr sr = true → (clearLatches n hard soft hr sr d).1.on (legP n) LEG.TRIP.CLR_REFUSED = true) := by
  obtain ⟨h1, h2, h3, h4⟩ := latchWord_bits (hard && d.on (legP n) LEG.TRIP.HARD_LAT && clearOk hr 12)
    (soft && d.on (legP n) LEG.TRIP.SOFT_LAT && clearOk sr (softFilter d (n / 64)))
  rw [clearLatches_dev]
  refine ⟨?_, ?_, ?_, ?_, fun hr => ?_⟩
  · rw [Dev.raiseIf_on_ne _ (.inr (by decide)), wipeTrip_on LEG.TRIP.HARD_LAT rfl, h2]
    cases d.on (legP n) LEG.TRIP.HARD_LAT <;> simp
  · rw [Dev.raiseIf_on_ne _ (.inr (by decide)), wipeTrip_on LEG.TRIP.SOFT_LAT rfl, h1]
    cases d.on (legP n) LEG.TRIP.SOFT_LAT <;> simp
  · rw [Dev.raiseIf_on_ne _ (.inr (by decide)), wipeTrip_on LEG.TRIP.BST_UV rfl, h4]
    simp
  · rw [Dev.raiseIf_on_ne _ (.inr (by decide)), wipeTrip_on LEG.TRIP.PRES_MISS rfl, h3]
    simp
  · rw [Dev.raiseIf_on _ (by decide) (by decide), hr, Bool.or_true]

theorem clearLatches_keeps (n : Nat) (hard soft : Bool) (hr sr : CompRead) (d : Dev) :
    (∀ a, a ≠ legP n + 0x05C → (clearLatches n hard soft hr sr d).1.reg a = d.reg a) ∧
      ∃ rs es, (clearLatches n hard soft hr sr d).1 = { d with regs := rs, events := es } := by
  rw [clearLatches_dev]
  refine ⟨fun a ha => ?_, ?_⟩
  · rw [Dev.reg_raiseIf_ne _ (by exact ha), Dev.reg_wipe_ne _ _ ha]
  · exact Dev.raiseIf_eq (d.wipe _ _) _ _ _

/-! ### A write to TRIP -/

/-- A write to TRIP does not reach the claim latches. -/
theorem accepts_wipe {d : Dev} {k n : Nat} (w : Word) (h : d.accepts k) : (d.wipe (legP n + 0x05C) w).accepts k := by
  have claims : ∀ f, authP + f.off ≠ legP n + 0x05C → (d.wipe (legP n + 0x05C) w).on authP f = d.on authP f := by
    intro f hf
    simp only [Dev.on, Dev.fld, Dev.reg_wipe_ne d w hf]
  have hst : stamp (d.wipe (legP n + 0x05C) w) = stamp d := by
    simp only [stamp]
    rw [claims AUTH.STATE.HCLAIM (by simp only [authP, legP, AUTH.STATE.HCLAIM]; omega),
      claims AUTH.STATE.DCLAIM (by simp only [authP, legP, AUTH.STATE.DCLAIM]; omega)]
  unfold Dev.accepts
  rw [hst]
  exact h

theorem softFilter_wipe (k a : Nat) (w : Word) (d : Dev) : softFilter (d.wipe a w) k = softFilter d k := (rfl)

/-- A write to TRIP clears the bits other than the latches at once. -/
theorem wipeTrip_others (d : Dev) (n : Nat) (val : Word) :
    (d.wipe (legP n + 0x05C) (val &&& 0x38)).on (legP n) LEG.TRIP.HARD_LAT = d.on (legP n) LEG.TRIP.HARD_LAT ∧
      (d.wipe (legP n + 0x05C) (val &&& 0x38)).on (legP n) LEG.TRIP.SOFT_LAT = d.on (legP n) LEG.TRIP.SOFT_LAT ∧
      (d.wipe (legP n + 0x05C) (val &&& 0x38)).on (legP n) LEG.TRIP.BST_UV = (d.on (legP n) LEG.TRIP.BST_UV &&
        !(bitOf val 4 && !bitOf (d.setNow (legP n + 0x05C)) 4)) ∧
      (d.wipe (legP n + 0x05C) (val &&& 0x38)).on (legP n) LEG.TRIP.PRES_MISS = (d.on (legP n) LEG.TRIP.PRES_MISS &&
        !(bitOf val 3 && !bitOf (d.setNow (legP n + 0x05C)) 3)) := by
  refine ⟨?_, ?_, ?_, ?_⟩
  · simp [wipeTrip_on LEG.TRIP.HARD_LAT rfl, bitOf]
  · simp [wipeTrip_on LEG.TRIP.SOFT_LAT rfl, bitOf]
  · simp [wipeTrip_on LEG.TRIP.BST_UV rfl, bitOf]
  · simp [wipeTrip_on LEG.TRIP.PRES_MISS rfl, bitOf]

/-- R138, R148: a write to TRIP whose command, if it asks for a latch, its die takes. -/
theorem tripWrite_taken {d : Dev} {n : Nat} (val : Word) (hr sr : CompRead) (h : d.accepts (n / 64))
    (hp : (d.die (n / 64)).wdPend = false) :
    tripWrite n val true hr sr d =
      if bitOf val 2 || bitOf val 1 then
        (clearLatches n (bitOf val 2) (bitOf val 1) hr sr (taken (n / 64) (d.wipe (legP n + 0x05C) (val &&& 0x38)))).1
      else d.wipe (legP n + 0x05C) (val &&& 0x38) := by
  rw [← carried_accepts (fun e => (clearLatches n (bitOf val 2) (bitOf val 1) hr sr e).1) (accepts_wipe _ h) hp]
  rfl

/-- R13, R148, R149: the bits of TRIP after a write that its die takes. -/
theorem tripWrite_trip {d : Dev} {n : Nat} (val : Word) (hr sr : CompRead) (h : d.accepts (n / 64))
    (hp : (d.die (n / 64)).wdPend = false) :
    (tripWrite n val true hr sr d).on (legP n) LEG.TRIP.HARD_LAT = (d.on (legP n) LEG.TRIP.HARD_LAT &&
        !(bitOf val 2 && clearOk hr 12 && !bitOf (d.setNow (legP n + 0x05C)) 2)) ∧
      (tripWrite n val true hr sr d).on (legP n) LEG.TRIP.SOFT_LAT = (d.on (legP n) LEG.TRIP.SOFT_LAT &&
        !(bitOf val 1 && clearOk sr (softFilter d (n / 64)) && !bitOf (d.setNow (legP n + 0x05C)) 1)) ∧
      (tripWrite n val true hr sr d).on (legP n) LEG.TRIP.BST_UV = (d.on (legP n) LEG.TRIP.BST_UV &&
        !(bitOf val 4 && !bitOf (d.setNow (legP n + 0x05C)) 4)) ∧
      (tripWrite n val true hr sr d).on (legP n) LEG.TRIP.PRES_MISS = (d.on (legP n) LEG.TRIP.PRES_MISS &&
        !(bitOf val 3 && !bitOf (d.setNow (legP n + 0x05C)) 3)) ∧
      (refuses d n (bitOf val 2) (bitOf val 1) hr sr = true →
        (tripWrite n val true hr sr d).on (legP n) LEG.TRIP.CLR_REFUSED = true) := by
  rw [tripWrite_taken val hr sr h hp]
  obtain ⟨o2, o1, o4, o3⟩ := wipeTrip_others d n val
  obtain ⟨c2, c1, c4, c3, c5⟩ := clearLatches_trip n (bitOf val 2) (bitOf val 1) hr sr
    (taken (n / 64) (d.wipe (legP n + 0x05C) (val &&& 0x38)))
  simp only [refuses, taken_on, taken_setNow, Dev.setNow_wipe, softFilter_taken, softFilter_wipe, o1, o2, o3, o4] at c1 c2 c3 c4 c5
  split
  · exact ⟨c2, c1, c4, c3, c5⟩
  · rename_i hask
    obtain ⟨h2, h1⟩ : bitOf val 2 = false ∧ bitOf val 1 = false := by simpa using hask
    exact ⟨by rw [o2, h2]; simp, by rw [o1, h1]; simp, o4, o3, fun href => by simp [refuses, h1, h2] at href⟩

theorem taken_wipe_eq (d : Dev) (k a : Nat) (w : Word) (rs : SMap Word) (es : List (Nat × Nat × Word × Word)) :
    { taken k (d.wipe a w) with regs := rs, events := es } =
      { d with dies := (taken k (d.wipe a w)).dies, regs := rs, events := es } := (rfl)

/-- What a clear that its die takes leaves as it was. -/
theorem tripWrite_keeps {d : Dev} {n : Nat} (val : Word) (hr sr : CompRead) (h : d.accepts (n / 64))
    (hp : (d.die (n / 64)).wdPend = false) :
    (∀ a, a ≠ legP n + 0x05C → (tripWrite n val true hr sr d).reg a = d.reg a) ∧
      (∀ j, j ≠ n / 64 → (tripWrite n val true hr sr d).die j = d.die j) ∧
      ∃ ds rs es, tripWrite n val true hr sr d = { d with dies := ds, regs := rs, events := es } := by
  rw [tripWrite_taken val hr sr h hp]
  split
  · obtain ⟨hreg, rs, es, heq⟩ := clearLatches_keeps n (bitOf val 2) (bitOf val 1) hr sr
      (taken (n / 64) (d.wipe (legP n + 0x05C) (val &&& 0x38)))
    refine ⟨fun a ha => ?_, fun j hj => ?_, _, rs, es, heq.trans (taken_wipe_eq _ _ _ _ rs es)⟩
    · rw [hreg a ha, taken_reg, Dev.reg_wipe_ne _ _ ha]
    · rw [heq]
      exact (taken_die (n / 64) j _).trans (if_neg hj)
  · exact ⟨fun a ha => Dev.reg_wipe_ne _ _ ha, fun _ _ => rfl, _, _, _, rfl⟩

/-- R162: a write to TRIP whose command fails its check clears no latch. -/
theorem tripWrite_unchecked (d : Dev) (n : Nat) (val : Word) (hr sr : CompRead) :
    (tripWrite n val false hr sr d).on (legP n) LEG.TRIP.HARD_LAT = d.on (legP n) LEG.TRIP.HARD_LAT ∧
      (tripWrite n val false hr sr d).on (legP n) LEG.TRIP.SOFT_LAT = d.on (legP n) LEG.TRIP.SOFT_LAT ∧
      (∀ a, a ≠ legP n + 0x05C → (tripWrite n val false hr sr d).reg a = d.reg a) ∧
      (∀ j, j ≠ n / 64 → (tripWrite n val false hr sr d).die j = d.die j) ∧
      ∃ ds rs, tripWrite n val false hr sr d = { d with dies := ds, regs := rs } := by
  obtain ⟨r, hc⟩ := carried_unchecked (n / 64) (fun e => (clearLatches n (bitOf val 2) (bitOf val 1) hr sr e).1)
    (d.wipe (legP n + 0x05C) (val &&& 0x38))
  obtain ⟨htwo, hone, -, -⟩ := wipeTrip_others d n val
  have hreg : ∀ a, a ≠ legP n + 0x05C → (d.wipe (legP n + 0x05C) (val &&& 0x38)).reg a = d.reg a :=
    fun a ha => Dev.reg_wipe_ne _ _ ha
  simp only [tripWrite, hc]
  split
  · exact ⟨by rw [Dev.setDie_on, htwo], by rw [Dev.setDie_on, hone], fun a ha => by rw [Dev.setDie_reg, hreg a ha],
      fun j hj => by simp [hj], _, _, wipe_setDie_eq _ _ _ _ _⟩
  · exact ⟨htwo, hone, hreg, fun _ _ => rfl, _, _, wipe_eq _ _ _⟩

/-! ### CFG and VDRV_UV -/

/-- What a command that its die takes changes of the die holds no leg. -/
theorem heldApart_taken (k n : Nat) (d : Dev) : heldApart (taken k d) n = heldApart d n := by
  have lines : ((taken k d).die (n / 64)).hardsafe = (d.die (n / 64)).hardsafe ∧
      ((taken k d).die (n / 64)).wdSafe = (d.die (n / 64)).wdSafe := by
    rw [taken_die]
    split
    · simp [*]
    · exact ⟨rfl, rfl⟩
  obtain ⟨hline, hwd⟩ := lines
  unfold heldApart
  rw [hline, hwd]
  rfl

theorem legState_taken (k n : Nat) (d : Dev) : legState (taken k d) n = legState d n := by
  unfold legState heldSafe
  rw [heldApart_taken]
  rfl

/-- R124: a leg of the die is assigned: LSTAT shows it playing, shed or spare. -/
def legsAssigned (d : Dev) (k : Nat) : Bool :=
  (List.range 64).any fun i => legState d (64 * k + i) == 1 || legState d (64 * k + i) == 2 || legState d (64 * k + i) == 3

theorem legsAssigned_taken (k : Nat) (d : Dev) : legsAssigned (taken k d) k = legsAssigned d k := by
  simp only [legsAssigned, legState_taken]

theorem legsAssigned_iff (d : Dev) (k : Nat) : legsAssigned d k = true ↔
    ∃ i, i < 64 ∧ (legState d (64 * k + i) = 1 ∨ legState d (64 * k + i) = 2 ∨ legState d (64 * k + i) = 3) := by
  simp [legsAssigned, or_assoc]

/-- The die has taken a new CFG. -/
def cfgTaken (k : Nat) (val : Word) (d : Dev) : Dev :=
  (taken k d).setDie k { (taken k d).die k with
    cfg := val &&& 0xFFFF0F03, filts := (d.now, bits val 8 4) :: ((taken k d).die k).filts.take 79 }

theorem cfgTaken_eq (k : Nat) (val : Word) (d : Dev) (ls : SMap LegRec) :
    { cfgTaken k val d with legs := ls } = { d with legs := ls, dies := (cfgTaken k val d).dies } := by
  simp [cfgTaken]

theorem cfgCommand_taken {d : Dev} {k : Nat} (val : Word) (h : d.accepts k) (hp : (d.die k).wdPend = false) :
    cfgCommand k val true d =
      if bits val 0 2 ≠ bits (d.die k).cfg 0 2 ∧ legsAssigned d k = true then dieEvt k 7 (taken k d)
      else if bits val 0 2 = 0 then dieOff k (cfgTaken k val d) else cfgTaken k val d := by
  have hcfg : ((taken k d).die k).cfg = (d.die k).cfg := by simp
  rw [cfgCommand, carried_accepts _ h hp, ← legsAssigned_taken, ← hcfg]
  simp only [Bool.and_eq_true, decide_eq_true_eq]
  rfl

/-- R121, R124: CFG is taken, and MODE 0 turns the gates of the die off. -/
theorem cfgCommand_sets {d : Dev} {k : Nat} (val : Word) (h : d.accepts k) (hp : (d.die k).wdPend = false)
    (hok : ¬ (bits val 0 2 ≠ bits (d.die k).cfg 0 2 ∧ legsAssigned d k = true)) :
    ((cfgCommand k val true d).die k).cfg = val &&& 0xFFFF0F03 ∧
      (bits val 0 2 ≠ 0 → (cfgCommand k val true d).legs = d.legs) ∧
      (bits val 0 2 = 0 → (cfgCommand k val true d).dieLow k) ∧
      (∀ m, m / 64 ≠ k → (cfgCommand k val true d).leg m = d.leg m) ∧
      (∀ j, j ≠ k → (cfgCommand k val true d).die j = d.die j) ∧
      ∃ ls ds, cfgCommand k val true d = { d with legs := ls, dies := ds } := by
  rw [cfgCommand_taken val h hp, if_neg hok]
  have others : ∀ j, j ≠ k → (cfgTaken k val d).die j = d.die j := fun j hj => by simp [cfgTaken, hj]
  split
  · rename_i hmode
    obtain ⟨⟨ls, heq⟩, hlow, hrest⟩ := dieOff_spec k (cfgTaken k val d)
    exact ⟨by simp [cfgTaken], fun hm => absurd hmode hm, fun _ => hlow, hrest, fun j hj => by rw [dieOff_die, others j hj],
      ls, _, heq.trans (cfgTaken_eq k val d ls)⟩
  · rename_i hmode
    exact ⟨by simp [cfgTaken], fun _ => by simp [cfgTaken], fun hm => absurd hm hmode, fun m _ => by simp [cfgTaken], others, _, _,
      cfgTaken_eq k val d d.legs⟩

/-- R126: a threshold in range is taken. -/
theorem uvCommand_sets {d : Dev} {k : Nat} (val : Word) (h : d.accepts k) (hp : (d.die k).wdPend = false)
    (hlow : 30 ≤ bits val 0 8) (hhigh : bits val 0 8 ≤ 110)
    (hov : ∀ l, ovLimit (bits (d.die k).cfg 0 2) = some l → bits val 0 8 + 3 < l) :
    ((uvCommand k val true d).die k).uvTh = val &&& 0x000000FF ∧
      (∀ j, j ≠ k → (uvCommand k val true d).die j = d.die j) ∧ ∃ ds, uvCommand k val true d = { d with dies := ds } := by
  have hcfg : ((taken k d).die k).cfg = (d.die k).cfg := by simp
  have h1 : ¬ bits val 0 8 < 30 := Nat.not_lt.mpr hlow
  have h2 : ¬ 110 < bits val 0 8 := Nat.not_lt.mpr hhigh
  have sets : uvCommand k val true d = (taken k d).setDie k { (taken k d).die k with uvTh := val &&& 0x000000FF } := by
    rw [uvCommand, carried_accepts _ h hp]
    cases ho : ovLimit (bits (d.die k).cfg 0 2) with
    | none => simp only [hcfg, ho, h1, h2, decide_false, Bool.or_self, Bool.false_eq_true, if_false]
    | some l =>
      have h3 : ¬ l ≤ bits val 0 8 + 3 := Nat.not_le.mpr (hov l ho)
      simp only [hcfg, ho, h1, h2, h3, decide_false, Bool.or_self, Bool.false_eq_true, if_false]
  rw [sets]
  exact ⟨by simp, fun j hj => by simp [hj], _, rfl⟩

/-- R126: any other threshold is refused. -/
theorem uvCommand_refuses {d : Dev} {k : Nat} (val : Word) (h : d.accepts k) (hp : (d.die k).wdPend = false)
    (hbad : bits val 0 8 < 30 ∨ 110 < bits val 0 8 ∨
      ∃ l, ovLimit (bits (d.die k).cfg 0 2) = some l ∧ l ≤ bits val 0 8 + 3) :
    uvCommand k val true d = dieEvt k 8 (taken k d) := by
  have hcfg : ((taken k d).die k).cfg = (d.die k).cfg := by simp
  rw [uvCommand, carried_accepts _ h hp]
  rcases hbad with h1 | h2 | ⟨l, ho, h3⟩
  · simp only [h1, decide_true, Bool.true_or, if_true]
  · simp only [h2, decide_true, Bool.or_true, Bool.true_or, if_true]
  · simp only [hcfg, ho, h3, decide_true, Bool.or_true, if_true]

/-! ### The statement -/

/-- Settles O6: a write to TRIP bit by bit, then CFG and VDRV_UV by whether the die takes, refuses or never accepts them. -/
theorem latchesAndDieSettings : Obligations.LatchesAndDieSettings := by
  refine ⟨fun s n who val hard soft hs hh => ⟨fun h hp => ?clear, ?clearFails⟩, fun s k who val hs hh h hp => ?settings⟩
  case clear =>
    obtain ⟨htwo, hone, hfour, hthree, href⟩ := tripWrite_trip val hard soft h hp
    obtain ⟨hreg, hdie, ds, rs, es, heq⟩ := tripWrite_keeps val hard soft h hp
    refine ⟨_, exec_tripLatchClear n val true hard soft hs hh, fun hev => ?_, fun x hev => ⟨fun hx => ?_, fun hx => ?_⟩,
      fun hv hset hno => href ?_, fun hv hset hno => href ?_, hreg, hdie, ?_⟩
    · simp only [answer_on, htwo, hone, hfour, hthree, Dev.setNow_of_none hev, bitOf_zero, Bool.not_false, Bool.and_true,
        clearOk_hard, clearOk_soft, Bool.and_assoc, and_self]
    · simp [htwo, Dev.setNow_of_some hev, hx]
    · simp [hone, Dev.setNow_of_some hev, hx]
    · simp [refuses, hv, hset, (clearOk_eq_false hard 12).mpr hno]
    · simp [refuses, hv, hset, (clearOk_eq_false soft (softFilter s.dev (n / 64))).mpr hno]
    · rw [heq]
      rfl
  case clearFails =>
    obtain ⟨htwo, hone, hreg, hdie, ds, rs, heq⟩ := tripWrite_unchecked s.dev n val hard soft
    refine ⟨_, exec_tripLatchClear n val false hard soft hs hh, htwo, hone, hreg, hdie, ?_⟩
    rw [heq]
    rfl
  case settings =>
    intro failed
    refine ⟨fun hok => ?cfg, fun hne hbusy => ?cfgRefused, fun hlow hhigh hov => ?uv, fun hbad => ?uvRefused, ?cfgFails, ?uvFails⟩
    case cfg =>
      have hsets : ¬ (bits val 0 2 ≠ bits (s.dev.die k).cfg 0 2 ∧ legsAssigned s.dev k = true) := by
        rintro ⟨hne, hbusy⟩
        obtain ⟨i, hi, hst⟩ := (legsAssigned_iff s.dev k).mp hbusy
        obtain ⟨h1, h2, h3⟩ := hok.resolve_left hne i hi
        exact hst.elim h1 (Or.elim · h2 h3)
      obtain ⟨hcfg, hlegs, hoff, hleg, hdie, ls, ds, heq⟩ := cfgCommand_sets val h hp hsets
      refine ⟨_, exec_ddieCfgWrite k val true hs hh, hcfg, hlegs, hoff, hleg, hdie, ?_⟩
      rw [heq]
      rfl
    case cfgRefused =>
      obtain ⟨hcfg, -, hevt, hdie, ds, heq⟩ := dieEvt_taken k 7 (by decide) s.dev
      refine ⟨_, exec_ddieCfgWrite k val true hs hh, ?_⟩
      rw [cfgCommand_taken val h hp, if_pos ⟨hne, (legsAssigned_iff s.dev k).mpr hbusy⟩]
      exact ⟨hcfg, hevt, hdie, answer_dies_frame heq who 0 false⟩
    case uv =>
      obtain ⟨huv, hdie, ds, heq⟩ := uvCommand_sets val h hp hlow hhigh hov
      exact ⟨_, exec_ddieVdrvUvWrite k val true hs hh, huv, hdie, answer_dies_frame heq who 0 false⟩
    case uvRefused =>
      obtain ⟨-, huv, hevt, hdie, ds, heq⟩ := dieEvt_taken k 8 (by decide) s.dev
      refine ⟨_, exec_ddieVdrvUvWrite k val true hs hh, ?_⟩
      rw [uvCommand_refuses val h hp hbad]
      exact ⟨huv, hevt, hdie, answer_dies_frame heq who 0 false⟩
    case cfgFails =>
      obtain ⟨hcount, hdie, ds, heq⟩ : _ ∧ _ ∧ ∃ ds, cfgCommand k val false s.dev = _ := carried_checkFails _ h
      exact ⟨_, exec_ddieCfgWrite k val false hs hh, hcount, hdie, answer_dies_frame heq who 0 false⟩
    case uvFails =>
      obtain ⟨hcount, hdie, ds, heq⟩ : _ ∧ _ ∧ ∃ ds, uvCommand k val false s.dev = _ := carried_checkFails _ h
      exact ⟨_, exec_ddieVdrvUvWrite k val false hs hh, hcount, hdie, answer_dies_frame heq who 0 false⟩

end Sys2Proof.Machine
end

section
/-!
PROOFS. A step of the block, and the gates of a drive die that something forces low (R17, R19, R122, R125).
-/

namespace Sys2Proof.Machine

/-! ### The step -/

/-- Settles O54: `step` reads the front of the queue alone. -/
theorem stepRunsFrontCommand : Obligations.StepRunsFrontCommand := step_cons

/-! ### A die forced low -/

/-- Whether a die is low is in the records of the legs. -/
theorem Dev.dieLow_of_legs {d e : Dev} {k : Nat} (h : e.legs = d.legs) (hlow : d.dieLow k) : e.dieLow k := by
  have same : ∀ n, e.leg n = d.leg n := fun n => by rw [Dev.leg, Dev.leg, h]
  intro n hn
  rw [Dev.legOff, same]
  exact hlow n hn

/-- What forces a die low leaves: its 64 legs are off, its record is the new one with an event, and the other dies and their legs
are as they were. -/
theorem dieEvt_dieOff_spec (k i : Nat) (r : DieRec) (d : Dev) :
    (dieEvt k i (dieOff k (d.setDie k r))).dieLow k ∧
      (dieEvt k i (dieOff k (d.setDie k r))).die k = { r with evt := r.evt ||| BitVec.ofNat 32 (2 ^ i) } ∧
      (∀ m, m / 64 ≠ k → (dieEvt k i (dieOff k (d.setDie k r))).leg m = d.leg m) ∧
      (∀ j, j ≠ k → (dieEvt k i (dieOff k (d.setDie k r))).die j = d.die j) ∧
      ∃ ls ds, dieEvt k i (dieOff k (d.setDie k r)) = { d with legs := ls, dies := ds } := by
  obtain ⟨⟨ls, heq⟩, hlow, hrest⟩ := dieOff_spec k (d.setDie k r)
  refine ⟨Dev.dieLow_of_legs (dieEvt_legs k i _) hlow, by simp, fun m hm => ?_, fun j hj => by simp [hj], ls, _,
    by rw [heq]; rfl⟩
  rw [dieEvt_leg, hrest m hm, Dev.setDie_leg]

theorem hardSafeAssert_spec (k : Nat) (d : Dev) :
    (hardSafeAssert k d).dieLow k ∧ ((hardSafeAssert k d).die k).hardsafe = true ∧
      (∀ m, m / 64 ≠ k → (hardSafeAssert k d).leg m = d.leg m) ∧ (∀ j, j ≠ k → (hardSafeAssert k d).die j = d.die j) ∧
      ∃ ls ds, hardSafeAssert k d = { d with legs := ls, dies := ds } := by
  obtain ⟨hlow, hdie, hleg, hothers, heq⟩ := dieEvt_dieOff_spec k 2 { d.die k with hardsafe := true } d
  exact ⟨hlow, congrArg DieRec.hardsafe hdie, hleg, hothers, heq⟩

/-- R19: 1,200 ticks after the latest valid command, or where the core die no longer counts them, the watchdog acts. -/
theorem watchdogExpiry_due {d : Dev} {k : Nat}
    (h : (d.die k).lastValid + 1200 ≤ d.now ∨ d.mode = .powerUp ∨ awake d = false) :
    watchdogExpiry k d = dieEvt k 1 (dieOff k (d.setDie k { d.die k with wdSafe := true, wdPend := true })) := by
  refine if_neg ?_
  rcases h with h | h | h <;> simp [h]

theorem watchdogExpiry_notDue {d : Dev} {k : Nat} (hm : d.mode ≠ .powerUp) (ha : awake d = true)
    (h : d.now < (d.die k).lastValid + 1200) : watchdogExpiry k d = d :=
  if_pos (by simp [hm, ha, h])

/-- R125: a die forced low by a supply condition, with its event and its message on a working link. -/
def supplyLow (k i kind : Nat) (r : DieRec) (d : Dev) : Dev :=
  (dieEvt k i (dieOff k (d.setDie k { r with supHold := true }))).send (faultOf (ddieP k) kind 0)

theorem supplyLow_spec (k i kind : Nat) (r : DieRec) (d : Dev) :
    (supplyLow k i kind r d).dieLow k ∧
      (supplyLow k i kind r d).die k = { r with supHold := true, evt := r.evt ||| BitVec.ofNat 32 (2 ^ i) } ∧
      dieFree (supplyLow k i kind r d) k = false ∧
      (supplyLow k i kind r d).flt = { d.flt with inflight := d.flt.inflight ++ [faultOf (ddieP k) kind 0] } ∧
      (∀ m, m / 64 ≠ k → (supplyLow k i kind r d).leg m = d.leg m) ∧
      (∀ j, j ≠ k → (supplyLow k i kind r d).die j = d.die j) ∧
      ∃ ls ds fs, supplyLow k i kind r d = { d with legs := ls, dies := ds, flt := fs } := by
  obtain ⟨hlow, hdie, hleg, hothers, ls, ds, heq⟩ := dieEvt_dieOff_spec k i { r with supHold := true } d
  have held : (supplyLow k i kind r d).die k = { r with supHold := true, evt := r.evt ||| BitVec.ofNat 32 (2 ^ i) } := by
    rw [supplyLow, Dev.send_die, hdie]
  refine ⟨Dev.dieLow_of_legs (Dev.send_legs _ _) hlow, held, by simp [dieFree, held], by simp [supplyLow],
    fun m hm => ?_, fun j hj => ?_, ls, ds, _, by rw [supplyLow, heq]; rfl⟩
  · rw [supplyLow, Dev.send_leg, hleg m hm]
  · rw [supplyLow, Dev.send_die, hothers j hj]

theorem vdrvUv_up {d : Dev} {k : Nat} (h : (d.die k).link = true) :
    vdrvUv k d = supplyLow k 0 9 { d.die k with vdrvUv := true } d :=
  sendDie_up _ _ _ (by simp [h])

theorem ovLimit_isSome {m : Nat} (h : m ≠ 0) (h4 : m < 4) : ∃ l, ovLimit m = some l := by
  obtain rfl | rfl | rfl : m = 1 ∨ m = 2 ∨ m = 3 := by omega
  all_goals exact ⟨_, rfl⟩

/-- R123, R125: every mode but NONE has an overvoltage limit. -/
theorem vdrvOv_up {d : Dev} {k : Nat} (h : (d.die k).link = true) (hm : bits (d.die k).cfg 0 2 ≠ 0) :
    vdrvOv k d = supplyLow k 3 10 { d.die k with vdrvOv := true } d := by
  obtain ⟨l, hl⟩ := ovLimit_isSome hm (bits_lt _ 0 2)
  unfold vdrvOv
  rw [hl]
  exact sendDie_up _ _ _ (by simp [h])

theorem vdrvRecover_spec (k : Nat) (ov : Bool) (d : Dev) :
    ((vdrvRecover k ov d).die k).vdrvOv = (!ov && (d.die k).vdrvOv) ∧
      ((vdrvRecover k ov d).die k).vdrvUv = (ov && (d.die k).vdrvUv) ∧
      ((vdrvRecover k ov d).die k).supHold = (d.die k).supHold ∧
      (∀ j, j ≠ k → (vdrvRecover k ov d).die j = d.die j) ∧ ∃ ds, vdrvRecover k ov d = { d with dies := ds } := by
  cases ov <;>
  exact ⟨by simp [vdrvRecover], by simp [vdrvRecover], by simp [vdrvRecover], fun j hj => by simp [vdrvRecover, hj], _, rfl⟩

/-! ### The statement -/

/-- Settles O1: each cause forces its die low by the same operation, and its conditions decide whether it acts. -/
theorem dieForcedLow : Obligations.DieForcedLow := by
  refine ⟨fun s k hs => ⟨?hardSafe, fun hm ha hd => ?notDue, fun hdue => ?due⟩,
    fun s k hs => ⟨fun hlink => ?uv, fun hlink hmode => ?ov, fun ov => ?recover⟩⟩
  case hardSafe =>
    obtain ⟨hlow, hset, hleg, hdie, ls, ds, heq⟩ := hardSafeAssert_spec k s.dev
    exact ⟨_, onDie_awake hs, hlow, hset, hleg, hdie, by rw [heq]⟩
  case notDue =>
    have kept := watchdogExpiry_notDue hm ha hd
    exact (onDie_awake hs).trans (by rw [kept]; rfl)
  case due =>
    obtain ⟨hlow, hset, hleg, hdie, ls, ds, heq⟩ :=
      dieEvt_dieOff_spec k 1 { s.dev.die k with wdSafe := true, wdPend := true } s.dev
    rw [← watchdogExpiry_due hdue] at hlow hset hleg hdie heq
    exact ⟨_, onDie_awake hs, hlow, congrArg DieRec.wdSafe hset, congrArg DieRec.wdPend hset, hleg, hdie, by rw [heq]⟩
  case uv =>
    obtain ⟨hlow, hset, hfree, hflt, hleg, hdie, ls, ds, fs, heq⟩ :=
      supplyLow_spec k 0 9 { s.dev.die k with vdrvUv := true } s.dev
    rw [← vdrvUv_up hlink] at hlow hset hfree hflt hleg hdie heq
    exact ⟨_, onDie_awake hs, hlow, congrArg DieRec.vdrvUv hset, hfree, hflt, hleg, hdie, by rw [heq]⟩
  case ov =>
    obtain ⟨hlow, hset, hfree, hflt, hleg, hdie, ls, ds, fs, heq⟩ :=
      supplyLow_spec k 3 10 { s.dev.die k with vdrvOv := true } s.dev
    rw [← vdrvOv_up hlink hmode] at hlow hset hfree hflt hleg hdie heq
    exact ⟨_, onDie_awake hs, hlow, congrArg DieRec.vdrvOv hset, hfree, hflt, hleg, hdie, by rw [heq]⟩
  case recover =>
    obtain ⟨hov, huv, hhold, hdie, ds, heq⟩ := vdrvRecover_spec k ov s.dev
    exact ⟨_, onDie_awake hs, hov, huv, hhold, hdie, by rw [heq]⟩

end Sys2Proof.Machine
end

section
/-!
PROOFS. Safe and retire commands (R28, R102, R121, R122, R134).
-/

namespace Sys2Proof.Machine

/-! ### What of a leg a moving gate leaves alone -/

/-- A leg without its gates, its wait, its kept edges and its blanking window. -/
def LegRec.apart (r : LegRec) : LegRec := { r with gh := false, gl := false, wait := none, outs := [], blankEnd := 0 }

theorem LegRec.eq_of_apart {r q : LegRec} (h : q.apart = r.apart) :
    q = { r with gh := q.gh, gl := q.gl, wait := q.wait, outs := q.outs, blankEnd := q.blankEnd } := by
  cases r
  cases q
  simp_all [LegRec.apart]

theorem drive_apart (n : Nat) (g : Gate) (v : Bool) (d : Dev) : ((drive n g v d).leg n).apart = (d.leg n).apart := by
  rw [drive_leg]
  rfl

theorem drive_wait (n : Nat) (g : Gate) (v : Bool) (d : Dev) : ((drive n g v d).leg n).wait = (d.leg n).wait := by
  rw [drive_leg]

/-! ### What lets a leg's gates move, before and after a command is taken -/

theorem dieFree_taken (k j : Nat) (d : Dev) : dieFree (taken k d) j = dieFree d j := by
  simp only [dieFree, dieReady, taken_die]
  split <;> simp [*]

theorem latched_taken (k n : Nat) (d : Dev) : latched (taken k d) n = latched d n := by simp [latched]

/-! ### SHORT on a leg that nothing stronger holds -/

/-- R28, R134: GH goes off; GL stays on, goes on, or waits for the interlock. -/
def holdLow (n : Nat) (ghLow : Bool) (d : Dev) : Dev :=
  if (d.leg n).gl then drive n .gh false d
  else if (d.leg n).gh || !ghLow then
    (drive n .gh false d).setLeg n { (drive n .gh false d).leg n with wait := some (.gl, d.now) }
  else drive n .gl true (drive n .gh false d)

theorem holdLow_frame (n : Nat) (ghLow : Bool) (d : Dev) :
    ((holdLow n ghLow d).leg n).apart = (d.leg n).apart ∧ ((holdLow n ghLow d).leg n).gh = false ∧
      (∀ m, m ≠ n → (holdLow n ghLow d).leg m = d.leg m) ∧ ∃ ls, holdLow n ghLow d = { d with legs := ls } := by
  obtain ⟨hgh, -⟩ := drive_gates n .gh false d
  have hapart := drive_apart n .gh false d
  unfold holdLow
  split
  · exact ⟨hapart, hgh, fun m hm => drive_ne n m .gh false d hm, _, drive_eq n .gh false d⟩
  · split
    · refine ⟨?_, ?_, fun m hm => ?_, _, rfl⟩
      · rw [Dev.leg_setLeg, if_pos rfl]
        exact hapart
      · rw [Dev.leg_setLeg, if_pos rfl]
        exact hgh
      · rw [Dev.leg_setLeg, if_neg hm, drive_ne n m .gh false d hm]
    · obtain ⟨hgh2, -⟩ := drive_gates n .gl true (drive n .gh false d)
      exact ⟨(drive_apart n .gl true _).trans hapart, hgh2.trans hgh,
        fun m hm => (drive_ne n m .gl true _ hm).trans (drive_ne n m .gh false d hm), _, rfl⟩

/-- R28, R134: a GL that is on, or that the interlock lets through, is on. -/
theorem holdLow_on {n : Nat} {ghLow : Bool} {d : Dev} (hw : (d.leg n).wait = none)
    (h : (d.leg n).gl = true ∨ ((d.leg n).gh = false ∧ ghLow = true)) :
    ((holdLow n ghLow d).leg n).gl = true ∧ ((holdLow n ghLow d).leg n).wait = none := by
  unfold holdLow
  split
  · rename_i hgl
    obtain ⟨-, hkeep⟩ := drive_gates n .gh false d
    exact ⟨hkeep.trans hgl, (drive_wait n .gh false d).trans hw⟩
  · rename_i hgl
    obtain ⟨hgh, hlow⟩ := h.resolve_left hgl
    obtain ⟨-, hon⟩ := drive_gates n .gl true (drive n .gh false d)
    rw [if_neg (by simp [hgh, hlow])]
    exact ⟨hon, (drive_wait n .gl true _).trans ((drive_wait n .gh false d).trans hw)⟩

/-- R134: a GL that the interlock stops waits. -/
theorem holdLow_waits {n : Nat} {ghLow : Bool} {d : Dev} (hgl : (d.leg n).gl = false)
    (h : (d.leg n).gh = true ∨ ghLow = false) :
    ((holdLow n ghLow d).leg n).gl = false ∧ ((holdLow n ghLow d).leg n).wait = some (.gl, d.now) := by
  obtain ⟨-, hkeep⟩ := drive_gates n .gh false d
  have wait : (d.leg n).gh || !ghLow := by simpa using h
  rw [holdLow, if_neg (by simp [hgl]), if_pos wait, Dev.leg_setLeg, if_pos rfl]
  exact ⟨hkeep.trans hgl, rfl⟩

/-! ### The commands -/

/-- A command that a die takes and that acts on a leg changes the dies and the legs alone. -/
theorem taken_setLeg_eq (k n : Nat) (r : LegRec) (d : Dev) (ls : SMap LegRec) :
    { (taken k d).setLeg n r with legs := ls } = { d with legs := ls, dies := (taken k d).dies } := by
  simp

/-- The die has latched the hold of a safe command (R28). -/
def holdTaken (n : Nat) (h : Hold) (d : Dev) : Dev :=
  (taken (n / 64) d).setLeg n { d.leg n with dieHold := h, wait := none }

@[simp] theorem holdTaken_leg (n m : Nat) (h : Hold) (d : Dev) :
    (holdTaken n h d).leg m = if m = n then { d.leg n with dieHold := h, wait := none } else d.leg m := by
  simp [holdTaken]

theorem safeCommand_off {d : Dev} {n : Nat} (low : Bool) (ha : d.accepts (n / 64)) (hp : (d.die (n / 64)).wdPend = false) :
    safeCommand n .off true low d = gatesOff n (holdTaken n .off d) := by
  rw [safeCommand, carried_accepts _ ha hp, taken_leg]
  rfl

/-- R28, R121, R122: SHORT holds GL on only where nothing stronger holds the leg. -/
theorem safeCommand_short {d : Dev} {n : Nat} (low : Bool) (ha : d.accepts (n / 64)) (hp : (d.die (n / 64)).wdPend = false) :
    safeCommand n .short true low d =
      if dieFree d (n / 64) && !latched d n then holdLow n low (holdTaken n .short d) else gatesOff n (holdTaken n .short d) := by
  have hgl : ((drive n .gh false (holdTaken n .short d)).leg n).gl = ((holdTaken n .short d).leg n).gl :=
    (drive_gates n .gh false (holdTaken n .short d)).2
  rw [← dieFree_taken (n / 64) (n / 64) d, ← latched_taken (n / 64) n d, safeCommand, carried_accepts _ ha hp, taken_leg, holdLow,
    ← hgl]
  rfl

theorem retireCommand_taken {d : Dev} {n : Nat} (ha : d.accepts (n / 64)) (hp : (d.die (n / 64)).wdPend = false) :
    retireCommand n true d = gatesOff n ((taken (n / 64) d).setLeg n { d.leg n with dieRetired := true }) := by
  rw [retireCommand, carried_accepts _ ha hp, taken_leg]

/-- A leg forced off after its die has taken a command. -/
theorem gatesOff_taken_keeps (n : Nat) (r : LegRec) (d : Dev) :
    (∀ m, m ≠ n → (gatesOff n ((taken (n / 64) d).setLeg n r)).leg m = d.leg m) ∧
      ∃ ls ds, gatesOff n ((taken (n / 64) d).setLeg n r) = { d with legs := ls, dies := ds } := by
  obtain ⟨ls, heq⟩ : ∃ ls, gatesOff n ((taken (n / 64) d).setLeg n r) = { (taken (n / 64) d).setLeg n r with legs := ls } :=
    ⟨_, gatesOff_eq n _⟩
  exact ⟨fun m hm => by rw [gatesOff_ne n m _ hm, Dev.leg_setLeg, if_neg hm, taken_leg], ls, _,
    heq.trans (taken_setLeg_eq _ n r d ls)⟩

/-! ### The statement -/

/-- Settles O4: a command that its die takes forces the leg off or holds it low; one that fails its check moves a record alone. -/
theorem holdCommands : Obligations.HoldCommands := by
  refine fun s n hs => ⟨fun ha hp => ⟨fun low => ?off, fun low hfree hlat => ?short, fun low hheld => ?shortOff, ?retire⟩,
    fun h low => ?safeFails, ?retireFails⟩
  case off =>
    obtain ⟨hothers, ls, ds, heq⟩ := gatesOff_taken_keeps n { s.dev.leg n with dieHold := .off, wait := none } s.dev
    have hleg := gatesOff_leg n (holdTaken n .off s.dev)
    refine ⟨_, act_awake hs, ?_⟩
    rw [safeCommand_off low ha hp]
    exact ⟨by simpa using hleg, hothers, by rw [holdTaken, heq]⟩
  case short =>
    obtain ⟨hapart, hgh, hothers, ls, heq⟩ := holdLow_frame n low (holdTaken n .short s.dev)
    refine ⟨_, act_awake hs, ?_⟩
    rw [safeCommand_short low ha hp, if_pos (by simp [hfree, hlat])]
    refine ⟨?_, fun hon => ?_, fun hgl hwait => ?_, fun m hm => ?_, ?_⟩
    · have hleg := LegRec.eq_of_apart hapart
      rw [hgh] at hleg
      simpa using hleg
    · exact holdLow_on (by simp) (by simpa using hon)
    · exact holdLow_waits (by simpa using hgl) (by simpa using hwait)
    · rw [hothers m hm, holdTaken_leg, if_neg hm]
    · rw [heq, holdTaken, taken_setLeg_eq]
  case shortOff =>
    obtain ⟨hothers, ls, ds, heq⟩ := gatesOff_taken_keeps n { s.dev.leg n with dieHold := .short, wait := none } s.dev
    have hleg := gatesOff_leg n (holdTaken n .short s.dev)
    refine ⟨_, act_awake hs, ?_⟩
    rw [safeCommand_short low ha hp, if_neg (by rcases hheld with h | h <;> simp [h])]
    exact ⟨gatesOff_off n _, by rw [hleg]; simp, hothers, by rw [holdTaken, heq]⟩
  case retire =>
    obtain ⟨hothers, ls, ds, heq⟩ := gatesOff_taken_keeps n { s.dev.leg n with dieRetired := true } s.dev
    have hleg := gatesOff_leg n ((taken (n / 64) s.dev).setLeg n { s.dev.leg n with dieRetired := true })
    refine ⟨_, act_awake hs, ?_⟩
    rw [retireCommand_taken ha hp]
    exact ⟨by simpa using hleg, hothers, by rw [heq]⟩
  case safeFails =>
    obtain ⟨r, hr⟩ : ∃ r, safeCommand n h false low s.dev = s.dev.setDie (n / 64) r := carried_unchecked _ _ _
    exact ⟨_, act_awake hs, by rw [hr]; rfl⟩
  case retireFails =>
    obtain ⟨r, hr⟩ : ∃ r, retireCommand n false s.dev = s.dev.setDie (n / 64) r := carried_unchecked _ _ _
    exact ⟨_, act_awake hs, by rw [hr]; rfl⟩

end Sys2Proof.Machine
end

section
/-!
PROOFS. Commands on a drive link, and the link's loss, return and refresh (R18, R19, R151, R161, R163, R457).
-/

namespace Sys2Proof.Machine

/-! ### Commands that carry nothing but themselves -/

/-- The message that brings out a WD_SAFE that waits (R19). -/
def wdMessages (r : DieRec) (k : Nat) : List FaultMsg := if r.wdPend then [faultOf (ddieP k) 11 0] else []

/-- R18, R19, R454: a command that a die takes latches its stamp, restarts the watchdog time and brings out a WD_SAFE that
waits. -/
theorem carried_taken {d : Dev} {k : Nat} (h : d.accepts k) :
    (carried k true d fun e => e).die k =
        { d.die k with holder := stamp d, lastSent := d.now, lastValid := d.now, wdPend := false } ∧
      (carried k true d fun e => e).flt = { d.flt with inflight := d.flt.inflight ++ wdMessages (d.die k) k } ∧
      (∀ j, j ≠ k → (carried k true d fun e => e).die j = d.die j) ∧
      ∃ ds fs, carried k true d (fun e => e) = { d with dies := ds, flt := fs } := by
  obtain ⟨hlink, hcmd, hst, hhold⟩ := h
  have mine : ¬ ((d.die k).holder ≠ 0 ∧ stamp d ≠ (d.die k).holder) := by
    rintro ⟨h0, hne⟩
    exact hhold.elim h0 hne
  have acts : carried k true d (fun e => e) =
      if (d.die k).wdPend then (taken k d).send (faultOf (ddieP k) 11 0) else taken k d := by
    rw [← sendDie_up k _ (taken k d) (by simp [hlink])]
    simp [carried, carry, hlink, hcmd, hst, mine, taken]
  rw [acts, wdMessages]
  split
  · exact ⟨by simp, by simp, fun j hj => by simp [hj], _, _, rfl⟩
  · exact ⟨by simp, by simp, fun j hj => by simp [hj], _, _, rfl⟩

/-- R162: on a working link, a command that fails its check is counted. -/
theorem carried_checkFails_up {d : Dev} {k : Nat} (f : Dev → Dev) (hlink : (d.die k).link = true)
    (hcmd : (d.die k).holderCmd = none) : carried k false d f =
      d.setDie k { d.die k with lastSent := d.now, checkFail := (d.die k).checkFail + 1 } := by
  simp [carried, carry, hlink, hcmd]

/-- R161: a command whose stamp is not the holder's is counted, with its event, and does nothing. -/
theorem carried_discarded {d : Dev} {k : Nat} (f : Dev → Dev) (hlink : (d.die k).link = true)
    (hcmd : (d.die k).holderCmd = none) (hhold : (d.die k).holder ≠ 0) (hst : stamp d ≠ (d.die k).holder) :
    carried k true d f =
      dieEvt k 6 (d.setDie k { d.die k with lastSent := d.now, authDisc := (d.die k).authDisc + 1 }) := by
  simp [carried, carry, hlink, hcmd, hhold, hst]

theorem keptAlive_notDue {d : Dev} {k : Nat} (chk : Bool) (h : d.now < (d.die k).lastSent + 256) : keptAlive k chk d = d :=
  if_pos h

theorem keptAlive_due {d : Dev} {k : Nat} (chk : Bool) (h : (d.die k).lastSent + 256 ≤ d.now) :
    keptAlive k chk d = carried k chk d fun e => e :=
  if_neg (Nat.not_lt.mpr h)

theorem bitOf_or_two_pow (w : Word) {i : Nat} (hi : i < 32) : bitOf (w ||| BitVec.ofNat 32 (2 ^ i)) i = true := by
  rw [bitOf, BitVec.getLsbD_or, BitVec.getLsbD_ofNat, Nat.testBit_two_pow_self, decide_eq_true hi, Bool.and_true, Bool.or_true]

/-! ### Holder commands -/

/-- The die has latched the new holder (R457). -/
def holderTaken (k new : Nat) (d : Dev) : Dev :=
  d.setDie k { d.die k with holder := new, holderCmd := none, lastSent := d.now, lastValid := d.now, wdPend := false }

/-- No holder command is on its way to a die other than `k` (R457). -/
def switchEnds (k : Nat) (d : Dev) : Prop := ∀ j < 4, j ≠ k → (d.die j).holderCmd = none

theorem holderTaken_all (k new : Nat) (d : Dev) :
    (List.range 4).all (fun i => ((holderTaken k new d).die i).holderCmd.isNone) = true ↔ switchEnds k d := by
  rw [List.all_eq_true]
  constructor
  · intro h j hj hne
    simpa [holderTaken, hne] using h j (List.mem_range.mpr hj)
  · intro h j hj
    by_cases hk : j = k
    · simp [holderTaken, hk]
    · simp [holderTaken, hk, h j (List.mem_range.mp hj) hk]

/-- R454, R457: the die latches the new holder, and the last die ends the switch. -/
theorem holderCommand_taken {d : Dev} {k old new : Nat} (hlink : (d.die k).link = true)
    (hcmd : (d.die k).holderCmd = some (old, new)) (hhold : (d.die k).holder = 0 ∨ (d.die k).holder = old)
    (hp : (d.die k).wdPend = false) :
    (switchEnds k d → holderCommand k true d = (holderTaken k new d).setFld authP AUTH.STATE.PHASE 0) ∧
      (¬ switchEnds k d → holderCommand k true d = holderTaken k new d) := by
  have mine : ¬ ((d.die k).holder ≠ 0 ∧ old ≠ (d.die k).holder) := by
    rintro ⟨h0, hne⟩
    exact hhold.elim h0 fun h => hne h.symm
  have acts : holderCommand k true d =
      if (List.range 4).all (fun i => ((holderTaken k new d).die i).holderCmd.isNone) then
        (holderTaken k new d).setFld authP AUTH.STATE.PHASE 0 else holderTaken k new d := by
    simp [holderCommand, hcmd, hlink, hp, mine, holderTaken]
  rw [acts, ← holderTaken_all k new d]
  exact ⟨fun h => if_pos h, fun h => if_neg h⟩

theorem holderCommand_checkFails {d : Dev} {k : Nat} (hlink : (d.die k).link = true) (hcmd : (d.die k).holderCmd ≠ none) :
    holderCommand k false d = d.setDie k { d.die k with lastSent := d.now, checkFail := (d.die k).checkFail + 1 } := by
  obtain ⟨c, hc⟩ := Option.ne_none_iff_exists'.mp hcmd
  simp [holderCommand, hc, hlink]

/-! ### Return of a link -/

/-- R151: a held message, as it goes out on tick `now`. -/
def heldOut (now : Nat) (x : Nat × FaultMsg) : FaultMsg := { x.2 with held := decide (32 < now - x.1) }

theorem sendHeld_eq (l : List (Nat × FaultMsg)) (d : Dev) :
    l.foldl (fun d x => d.send (heldOut d.now x)) d =
      { d with flt := { d.flt with inflight := d.flt.inflight ++ l.map (heldOut d.now) } } := by
  induction l generalizing d with
  | nil => simp
  | cons x l ih =>
    rw [List.foldl_cons, ih]
    simp [Dev.send]

theorem linkReturn_eq (k : Nat) (d : Dev) : linkReturn k d =
    { d.setDie k { d.die k with link := true, held := [] } with
      flt := { d.flt with inflight := d.flt.inflight ++ (d.die k).held.map (heldOut d.now) } } :=
  sendHeld_eq (d.die k).held (d.setDie k { d.die k with link := true, held := [] })

/-! ### Refresh of the core-die page -/

theorem Dev.reg_bumpBy (d : Dev) (p : Nat) (f : Fld) (v b : Nat) : (d.bumpBy p f v).reg b =
    if b = p + f.off then setBits (d.reg (p + f.off)) f.lo f.n (min (2 ^ f.n - 1) (d.fld p f + v)) else d.reg b :=
  Dev.reg_event d (p + f.off) b _

theorem b2n_le (b : Bool) : b2n b ≤ 1 := by cases b <;> decide

/-- R163: the codes of VDRV and TEMP in DSTAT. -/
theorem dstatWord_codes (d : Dev) (k : Nat) :
    bits (dstatWord d k) 24 8 = (d.die k).vdrv % 256 ∧ bits (dstatWord d k) 16 8 = (d.die k).temp % 256 := by
  have h1 := b2n_le (d.die k).vdrvOv
  have h2 := b2n_le (d.die k).wdSafe
  have h3 := b2n_le (d.die k).vdrvUv
  have h4 := b2n_le (d.die k).hardsafe
  have h5 := b2n_le (dieReady d k)
  unfold dstatWord
  constructor
  · rw [bits_ofNat _ _ (by omega)]
    omega
  · rw [bits_ofNat _ _ (by omega)]
    omega

/-- R163: the registers of the core-die page after a refresh. -/
theorem ddieRefresh_regs {d : Dev} {k : Nat} (vdrv temp : Nat) (h : (d.die k).link = true) :
    (ddieRefresh k vdrv temp d).reg (ddieP k + 0x048) =
        dstatWord (d.setDie k { d.die k with vdrv := vdrv, temp := temp }) k ∧
      (ddieRefresh k vdrv temp d).reg (ddieP k + 0x040) = (d.die k).cfg ∧
      (ddieRefresh k vdrv temp d).reg (ddieP k + 0x044) = (d.die k).uvTh ∧
      (ddieRefresh k vdrv temp d).reg (ddieP k + 0x04C) = (d.reg (ddieP k + 0x04C) ||| (d.die k).evt) := by
  simp [ddieRefresh, h, Dev.reg_bumpBy, Dev.reg_event, DDIE.LINKCNT.CHECK_FAIL, DDIE.LINKCNT.AUTH_DISC, DDIE.LEGCNT.INTLK_TO,
    DDIE.LEGCNT.BLANK_HITS, DDIE.STRCNT.STR_LIMIT]

/-- Of a device, only registers and what hardware does to them on this cycle differ. -/
def Dev.registersMove (d e : Dev) : Prop := ∃ rs es, e = { d with regs := rs, events := es }

theorem Dev.registersMove.refl (d : Dev) : d.registersMove d := ⟨_, _, rfl⟩

theorem Dev.registersMove.setReg {d e : Dev} (h : d.registersMove e) (a : Nat) (w : Word) : d.registersMove (e.setReg a w) := by
  obtain ⟨rs, es, rfl⟩ := h
  exact ⟨_, _, rfl⟩

theorem Dev.registersMove.event {d e : Dev} (h : d.registersMove e) (a : Nat) (f : Word → Word) :
    d.registersMove (e.event a f) := by
  obtain ⟨rs, es, rfl⟩ := h
  exact ⟨_, _, rfl⟩

theorem Dev.registersMove.bumpBy {d e : Dev} (h : d.registersMove e) (p : Nat) (f : Fld) (v : Nat) :
    d.registersMove (e.bumpBy p f v) :=
  h.event _ _

theorem Dev.registersMove.setDie {d e : Dev} {k : Nat} {r : DieRec} (h : (d.setDie k r).registersMove e) (q : DieRec) :
    ∃ ds rs es, e.setDie k q = { d with dies := ds, regs := rs, events := es } := by
  obtain ⟨rs, es, rfl⟩ := h
  exact ⟨_, rs, es, rfl⟩

/-- R163: the die's events and counts start anew, and nothing but its page changes. -/
theorem ddieRefresh_frame {d : Dev} {k : Nat} (vdrv temp : Nat) (h : (d.die k).link = true) :
    (ddieRefresh k vdrv temp d).die k = { d.die k with
        vdrv := vdrv, temp := temp, evt := 0, checkFail := 0, authDisc := 0, intlkTo := 0, blankHits := 0, strLimit := 0 } ∧
      (∀ j, j ≠ k → (ddieRefresh k vdrv temp d).die j = d.die j) ∧
      ∃ ds rs es, ddieRefresh k vdrv temp d = { d with dies := ds, regs := rs, events := es } := by
  refine ⟨by simp [ddieRefresh, h], fun j hj => by simp [ddieRefresh, h, hj], ?_⟩
  rw [ddieRefresh, if_neg (by simp [h])]
  refine Dev.registersMove.setDie (r := { d.die k with vdrv := vdrv, temp := temp }) ?_ _
  iterate 5 refine Dev.registersMove.bumpBy ?_ _ _ _
  refine Dev.registersMove.event ?_ _ _
  iterate 10 refine Dev.registersMove.setReg ?_ _ _
  exact Dev.registersMove.refl _

/-! ### The statement -/

/-- Settles O5: what a die does with each command on its link, by whether it takes, fails or discards it. -/
theorem driveLink : Obligations.DriveLink := by
  refine ⟨fun s k hs hlink => ⟨fun chk hsent => ?notDue,
      fun hsent => ⟨fun ha => ?kept, fun hcmd => ?fails, fun hcmd hhold hst => ?discarded⟩,
      fun old new hcmd hhold hp => ?holder, fun hcmd => ?holderFails⟩,
    fun s k => ⟨fun hs => ?loss, fun hs => ?back, fun vdrv temp hs hlink => ?refresh⟩⟩
  case notDue =>
    have rests := keptAlive_notDue chk hsent
    exact (act_awake hs).trans (by rw [rests]; rfl)
  case kept =>
    obtain ⟨hdie, hflt, hothers, ds, fs, heq⟩ := carried_taken ha
    rw [← keptAlive_due true hsent] at hdie hflt hothers heq
    exact ⟨_, act_awake hs, hdie, hflt, hothers, by rw [heq]⟩
  case fails =>
    have counted := (keptAlive_due false hsent).trans (carried_checkFails_up _ hlink hcmd)
    refine ⟨_, act_awake hs, ?_⟩
    rw [counted]
    exact ⟨by simp, fun j hj => by simp [hj], rfl⟩
  case discarded =>
    have counted := (keptAlive_due true hsent).trans (carried_discarded _ hlink hcmd hhold hst)
    refine ⟨_, act_awake hs, ?_⟩
    rw [counted]
    refine ⟨by simp, by simp, by simp, ?_, fun j hj => by simp [hj], rfl⟩
    rw [dieEvt_die, if_pos rfl]
    exact bitOf_or_two_pow _ (by omega)
  case holder =>
    obtain ⟨hends, hgoes⟩ := holderCommand_taken hlink hcmd hhold hp
    refine ⟨_, act_awake hs, ?_⟩
    by_cases hall : switchEnds k s.dev
    · rw [hends hall]
      refine ⟨by simp [holderTaken, hp], fun _ => ?_, fun ⟨j, hj, hne, hc⟩ => absurd (hall j hj hne) hc,
        fun j hj => by simp [holderTaken, hj], rfl⟩
      exact Dev.fld_setFld _ _ _ _ (by unfold Fld.fits; decide)
    · rw [hgoes hall]
      exact ⟨by simp [holderTaken, hp], fun h => absurd h hall, fun _ => rfl, fun j hj => by simp [holderTaken, hj], rfl⟩
  case holderFails =>
    refine ⟨_, act_awake hs, ?_⟩
    rw [holderCommand_checkFails hlink hcmd]
    exact ⟨by simp, fun j hj => by simp [hj], rfl⟩
  case loss =>
    exact ⟨_, onDie_awake hs, by simp [linkLoss], fun j hj => by simp [linkLoss, hj], rfl⟩
  case back =>
    refine ⟨_, onDie_awake hs, ?_⟩
    rw [linkReturn_eq]
    exact ⟨by simp [Dev.die, Dev.setDie], rfl, rfl, fun j hj => by simp [Dev.die, Dev.setDie, hj], rfl⟩
  case refresh =>
    obtain ⟨hdstat, hcfg, huv, hevt⟩ := ddieRefresh_regs vdrv.toNat temp.toNat hlink
    obtain ⟨hdie, hothers, ds, rs, es, heq⟩ := ddieRefresh_frame vdrv.toNat temp.toNat hlink
    obtain ⟨hv, ht⟩ := dstatWord_codes (s.dev.setDie k { s.dev.die k with vdrv := vdrv.toNat, temp := temp.toNat }) k
    refine ⟨_, act_awake hs, ?_, ?_, hcfg, huv, hevt, congrArg DieRec.evt hdie, congrArg DieRec.checkFail hdie,
      congrArg DieRec.authDisc hdie, hothers, by rw [heq]⟩
    · refine (congrArg (bits · 24 8) hdstat).trans (hv.trans ?_)
      simpa using Nat.mod_eq_of_lt vdrv.isLt
    · refine (congrArg (bits · 16 8) hdstat).trans (ht.trans ?_)
      simpa using Nat.mod_eq_of_lt temp.isLt

end Sys2Proof.Machine
end

section
/-!
PROOFS. Edge commands and the interlock (R21, R121, R134 to R136, R150).
-/

namespace Sys2Proof.Machine

/-! ### What an edge command does before its gate moves -/

/-- The gates of leg `n`, its wait, the other legs and every record but those of legs, dies, registers and messages are as they
were. -/
def Dev.gatesKept (n : Nat) (d e : Dev) : Prop :=
  (e.leg n).gh = (d.leg n).gh ∧ (e.leg n).gl = (d.leg n).gl ∧ (e.leg n).wait = (d.leg n).wait ∧
    (∀ m, m ≠ n → e.leg m = d.leg m) ∧
    ∃ ls ds rs es fs, e = { d with legs := ls, dies := ds, regs := rs, events := es, flt := fs }

theorem Dev.gatesKept.refl (n : Nat) (d : Dev) : d.gatesKept n d :=
  ⟨rfl, rfl, rfl, fun _ _ => rfl, _, _, _, _, _, rfl⟩

theorem Dev.gatesKept.trans {n : Nat} {d e f : Dev} (h : d.gatesKept n e) (g : e.gatesKept n f) : d.gatesKept n f := by
  obtain ⟨hgh, hgl, hwait, hothers, ls, ds, rs, es, fs, rfl⟩ := h
  obtain ⟨ggh, ggl, gwait, gothers, ls2, ds2, rs2, es2, fs2, rfl⟩ := g
  exact ⟨ggh.trans hgh, ggl.trans hgl, gwait.trans hwait, fun m hm => (gothers m hm).trans (hothers m hm), _, _, _, _, _, rfl⟩

/-- A change of a leg's record beside its gates. -/
theorem gatesKept_setLeg {n : Nat} {r : LegRec} {d : Dev} (hgh : r.gh = (d.leg n).gh) (hgl : r.gl = (d.leg n).gl)
    (hwait : r.wait = (d.leg n).wait) : d.gatesKept n (d.setLeg n r) :=
  ⟨by simp [hgh], by simp [hgl], by simp [hwait], fun m hm => by simp [hm], _, _, _, _, _, rfl⟩

theorem gatesKept_setFld (n p v : Nat) (f : Fld) (d : Dev) : d.gatesKept n (d.setFld p f v) :=
  ⟨rfl, rfl, rfl, fun _ _ => rfl, _, _, _, _, _, rfl⟩

theorem gatesKept_setDie (n k : Nat) (r : DieRec) (d : Dev) : d.gatesKept n (d.setDie k r) :=
  ⟨rfl, rfl, rfl, fun _ _ => rfl, _, _, _, _, _, rfl⟩

theorem gatesKept_raise (n p : Nat) (f : Fld) (d : Dev) : d.gatesKept n (d.raise p f) :=
  ⟨rfl, rfl, rfl, fun _ _ => rfl, _, _, _, _, _, rfl⟩

theorem gatesKept_bump (n p : Nat) (f : Fld) (d : Dev) : d.gatesKept n (d.bump p f) :=
  ⟨rfl, rfl, rfl, fun _ _ => rfl, _, _, _, _, _, rfl⟩

theorem gatesKept_sendDie (n k : Nat) (m : FaultMsg) (d : Dev) : d.gatesKept n (sendDie k m d) := by
  unfold sendDie
  dsimp only
  split
  · exact ⟨rfl, rfl, rfl, fun _ _ => rfl, _, _, _, _, _, rfl⟩
  · exact gatesKept_setDie n k _ d

/-- What a conditional gives is one of its branches. -/
theorem ite_eq_left_or_right {α : Type} (c : Prop) [Decidable c] (x y : α) : ite c x y = x ∨ ite c x y = y := by
  by_cases h : c
  · exact .inl (if_pos h)
  · exact .inr (if_neg h)

/-- R146: the first edge of a period begins the die's period. -/
def periodBegun (n : Nat) (d : Dev) : Dev :=
  d.setLeg n { d.leg n with firstEdge := none, presQual := (d.leg n).presMark, presMark := false, presSeen := false }

theorem presenceCheck_cases (n : Nat) (d : Dev) : presenceCheck n d = d ∨ presenceCheck n d = periodBegun n d ∨
    presenceCheck n d = sendDie (n / 64) (faultOf (legP n) 4 n)
      (((periodBegun n d).raise (legP n) LEG.TRIP.PRES_MISS).bump (legP n) LEG.COUNT.PRES_MISSES) :=
  (ite_eq_left_or_right _ _ _).imp id fun h => (ite_eq_left_or_right _ _ _).symm.imp h.trans h.trans

/-- R146: the presence check of the period before moves no gate. -/
theorem gatesKept_presenceCheck (n : Nat) (d : Dev) : d.gatesKept n (presenceCheck n d) := by
  have begun : d.gatesKept n (periodBegun n d) := gatesKept_setLeg rfl rfl rfl
  rcases presenceCheck_cases n d with h | h | h <;> rw [h]
  · exact .refl n d
  · exact begun
  · exact ((begun.trans (gatesKept_raise n _ _ _)).trans (gatesKept_bump n _ _ _)).trans (gatesKept_sendDie n _ _ _)

/-- R130, R131: measured transitions move no gate. -/
theorem gatesKept_measured (n : Nat) (ms : List Transition) (d : Dev) : d.gatesKept n (measured n ms d) := by
  unfold measured
  induction ms.filter Transition.qualified generalizing d with
  | nil => exact .refl n d
  | cons m ms ih =>
    refine Dev.gatesKept.trans ?_ (ih _)
    refine Dev.gatesKept.trans (gatesKept_setLeg ?_ ?_ ?_) (gatesKept_setFld n _ _ _ _) <;> split <;> rfl

/-- R131: the steps of a leg at the end of an adaptive cycle, and its counts of cycles at a limit. -/
def stepsMoved (n src srcLim snk snkLim : Nat) (d : Dev) : Dev :=
  ((d.setLeg n { d.leg n with srcMeas := none, snkMeas := none, srcLim := srcLim, snkLim := snkLim }).setFld
    (legP n) LEG.STRENGTH.SRC src).setFld (legP n) LEG.STRENGTH.SNK snk

/-- R132: STRENGTH_LIMIT is counted, flagged and sent. -/
def limitSent (n : Nat) (d : Dev) : Dev :=
  sendDie (n / 64) (faultOf (legP n) 6 n)
    (dieEvt (n / 64) 5 (d.setDie (n / 64) { d.die (n / 64) with strLimit := (d.die (n / 64)).strLimit + 1 }))

theorem cycleEnd_cases (n : Nat) (d : Dev) : ∃ src srcLim snk snkLim,
    cycleEnd n d = stepsMoved n src srcLim snk snkLim d ∨ cycleEnd n d = limitSent n (stepsMoved n src srcLim snk snkLim d) := by
  unfold cycleEnd
  dsimp only
  rcases moveStep (d.fld (legP n) LEG.STRENGTH.SRC) (d.own n LEG.GATE.TTRAN) (d.leg n).srcLim (d.leg n).srcMeas with
    ⟨src, srcLim, srcHit⟩
  rcases moveStep (d.fld (legP n) LEG.STRENGTH.SNK) (d.own n LEG.GATE.TTRAN) (d.leg n).snkLim (d.leg n).snkMeas with
    ⟨snk, snkLim, snkHit⟩
  exact ⟨src, srcLim, snk, snkLim, (ite_eq_left_or_right _ _ _).symm⟩

/-- R131, R132: the end of an adaptive cycle moves no gate. -/
theorem gatesKept_cycleEnd (n : Nat) (d : Dev) : d.gatesKept n (cycleEnd n d) := by
  obtain ⟨src, srcLim, snk, snkLim, h⟩ := cycleEnd_cases n d
  have laid : d.gatesKept n (d.setLeg n
      { d.leg n with srcMeas := none, snkMeas := none, srcLim := srcLim, snkLim := snkLim }) := gatesKept_setLeg rfl rfl rfl
  have moved : d.gatesKept n (stepsMoved n src srcLim snk snkLim d) :=
    (laid.trans (gatesKept_setFld n _ _ _ _)).trans (gatesKept_setFld n _ _ _ _)
  rcases h with h | h <;> rw [h]
  · exact moved
  · exact ((moved.trans (gatesKept_setDie n _ _ _)).trans (gatesKept_setDie n _ _ _)).trans (gatesKept_sendDie n _ _ _)

/-- R130: the measured transitions of a leg outside strong drive are taken. -/
def observed (n : Nat) (ms : List Transition) (d : Dev) : Dev := if strong d n then d else measured n ms d

theorem gatesKept_observed (n : Nat) (ms : List Transition) (d : Dev) : d.gatesKept n (observed n ms d) := by
  unfold observed
  split
  · exact .refl n d
  · exact gatesKept_measured n ms d

/-- What an edge command that its leg may follow does before its gate moves (R130, R131, R146). -/
def beforeEdge (n : Nat) (g : Gate) (on : Bool) (ms : List Transition) (d : Dev) : Dev :=
  let d := observed n ms (presenceCheck n d)
  if g = .gh && on && !strong d n then cycleEnd n d else d

theorem gatesKept_beforeEdge (n : Nat) (g : Gate) (on : Bool) (ms : List Transition) (d : Dev) :
    d.gatesKept n (beforeEdge n g on ms d) := by
  have looked := (gatesKept_presenceCheck n d).trans (gatesKept_observed n ms _)
  unfold beforeEdge
  dsimp only
  split
  · exact looked.trans (gatesKept_cycleEnd n _)
  · exact looked

/-! ### Turning on and off -/

/-- Whether the gate opposite to `g` is on. -/
def LegRec.opposite (r : LegRec) : Gate → Bool
  | .gh => r.gl
  | .gl => r.gh

theorem LegRec.opposite_off {r : LegRec} {g : Gate} (hgh : g = .gh → r.gl = false) (hgl : g = .gl → r.gh = false) :
    r.opposite g = false := by
  cases g
  · exact hgh rfl
  · exact hgl rfl

/-- R134: a gate turns on, and no turn-on of its leg waits any longer. -/
def turnedOn (n : Nat) (g : Gate) (d : Dev) : Dev := drive n g true (d.setLeg n { d.leg n with wait := none })

/-- R134: the gate that turns on is the only one on. -/
theorem turnedOn_spec {n : Nat} {g : Gate} {d : Dev} (h : (d.leg n).opposite g = false) :
    ((turnedOn n g d).leg n).gh = (g == .gh) ∧ ((turnedOn n g d).leg n).gl = (g == .gl) ∧
      ((turnedOn n g d).leg n).wait = none ∧ (∀ m, m ≠ n → (turnedOn n g d).leg m = d.leg m) ∧
      ∃ ls, turnedOn n g d = { d with legs := ls } := by
  obtain ⟨hgh, hgl⟩ := drive_gates n g true (d.setLeg n { d.leg n with wait := none })
  have hwait := drive_wait n g true (d.setLeg n { d.leg n with wait := none })
  rw [Dev.leg_setLeg, if_pos rfl] at hgh hgl hwait
  refine ⟨?_, ?_, hwait, fun m hm => by rw [turnedOn, drive_ne n m g true _ hm, Dev.leg_setLeg, if_neg hm], _, rfl⟩
  · cases g
    · exact hgh
    · exact hgh.trans h
  · cases g
    · exact hgl.trans h
    · exact hgl

theorem turnOn_acts {n : Nat} {g : Gate} {bst : Bool} {d : Dev} (hbst : g = .gh → bst = false)
    (hopp : (d.leg n).opposite g = false) :
    turnOn n g true bst d = turnedOn n g d := by
  cases g
  · have hgl : (d.leg n).gl = false := hopp
    simp [turnOn, turnedOn, hgl, hbst rfl]
  · have hgh : (d.leg n).gh = false := hopp
    simp [turnOn, turnedOn, hgh]

theorem turnOn_waits {n : Nat} {g : Gate} {bst : Bool} {d : Dev} (hgh : g = .gh → bst = false) :
    turnOn n g false bst d = d.setLeg n { d.leg n with wait := some (g, d.now) } := by
  cases g
  · simp [turnOn, hgh rfl]
  · simp [turnOn]

theorem turnOn_dropped (n : Nat) (low : Bool) (d : Dev) : turnOn n .gh low true d = d := by simp [turnOn]

/-- R135: a turn-off moves its gate alone. -/
theorem turnOff_spec (n : Nat) (g : Gate) (d : Dev) :
    ((turnOff n g d).leg n).gh = ((d.leg n).gh && g != .gh) ∧ ((turnOff n g d).leg n).gl = ((d.leg n).gl && g != .gl) ∧
      (∀ m, m ≠ n → (turnOff n g d).leg m = d.leg m) ∧ ∃ ls, turnOff n g d = { d with legs := ls } := by
  have gates : ((drive n g false d).leg n).gh = ((d.leg n).gh && g != .gh) ∧
      ((drive n g false d).leg n).gl = ((d.leg n).gl && g != .gl) := by
    obtain ⟨h1, h2⟩ := drive_gates n g false d
    cases g
    · exact ⟨by simp [h1], by simp [h2]⟩
    · exact ⟨by simp [h1], by simp [h2]⟩
  obtain ⟨hgh, hgl⟩ := gates
  unfold turnOff
  dsimp only
  split
  · exact ⟨by simp [hgh], by simp [hgl], fun m hm => by rw [Dev.leg_setLeg, if_neg hm, drive_ne n m g false d hm], _, rfl⟩
  · exact ⟨hgh, hgl, fun m hm => drive_ne n m g false d hm, _, drive_eq n g false d⟩

/-! ### Edge commands -/

/-- The edge has left the link, and its die has taken the command. -/
def edgeTaken (n : Nat) (g : Gate) (on : Bool) (d : Dev) : Dev := taken (n / 64) (edgeGone n g on d)

theorem edgeTaken_leg (n m : Nat) (g : Gate) (on : Bool) (d : Dev) : (edgeTaken n g on d).leg m = d.leg m := by
  simp [edgeTaken, edgeGone]

theorem edgeTaken_plan_ne {n m : Nat} (g : Gate) (on : Bool) (d : Dev) (h : m ≠ n) : (edgeTaken n g on d).plan m = d.plan m := by
  simp [edgeTaken, edgeGone, h]

theorem edgeTaken_plan (n : Nat) (g : Gate) (on : Bool) (d : Dev) :
    ((edgeTaken n g on d).plan n).since = (d.plan n).since ∧ ((edgeTaken n g on d).plan n).stop = (d.plan n).stop := by
  simp [edgeTaken, edgeGone]

theorem edgeTaken_eq (n : Nat) (g : Gate) (on : Bool) (d : Dev) :
    ∃ ps ds, edgeTaken n g on d = { d with plans := ps, dies := ds } := ⟨_, _, rfl⟩

theorem gatesFree_edgeTaken (n : Nat) (g : Gate) (on : Bool) (d : Dev) : gatesFree (edgeTaken n g on d) n = gatesFree d n := by
  have free : dieFree (edgeTaken n g on d) (n / 64) = dieFree d (n / 64) := dieFree_taken _ _ _
  obtain ⟨-, hstop⟩ := edgeTaken_plan n g on d
  unfold gatesFree
  rw [free, hstop, edgeTaken_leg]
  rfl

theorem edgeCommand_notDue {n : Nat} {g : Gate} {on : Bool} {d : Dev} (chk low bst : Bool) (ms : List Transition)
    (h : edgeDue d n g on = false) : edgeCommand n g on chk low bst ms d = d :=
  if_pos (by simp [h])

/-- R121, R134, R150: an edge command that its die takes, and whose leg no SHORT holds, turns the leg off or moves its gate. -/
theorem edgeCommand_taken {n : Nat} {g : Gate} {on : Bool} {d : Dev} (low bst : Bool) (ms : List Transition)
    (ha : d.accepts (n / 64)) (hp : (d.die (n / 64)).wdPend = false) (hshort : (d.leg n).dieHold ≠ .short)
    (hdue : edgeDue d n g on = true) : edgeCommand n g on true low bst ms d =
      if gatesFree d n = false ∨ d.now < (d.plan n).since + 24 then gatesOff n (edgeTaken n g on d)
      else if on then turnOn n g low bst (beforeEdge n g on ms (edgeTaken n g on d))
      else turnOff n g (beforeEdge n g on ms (edgeTaken n g on d)) := by
  have ha' : (edgeGone n g on d).accepts (n / 64) := ha
  have hp' : ((edgeGone n g on d).die (n / 64)).wdPend = false := hp
  have hshort' : ¬ ((edgeTaken n g on d).leg n).dieHold == .short := by simpa [edgeTaken_leg] using hshort
  obtain ⟨hsince, -⟩ := edgeTaken_plan n g on d
  rw [edgeCommand, if_neg (by simp [hdue]), carried_accepts _ ha' hp', ← edgeTaken, if_neg hshort', gatesFree_edgeTaken, hsince]
  simp only [Bool.or_eq_true, Bool.not_eq_true', decide_eq_true_eq]
  rfl

theorem Dev.eq_with_legs (d : Dev) : ∃ ls, d = { d with legs := ls } := ⟨d.legs, rfl⟩

section
variable {n : Nat} {g : Gate} {on : Bool} {d : Dev} (ms : List Transition)

/-- What an edge command leaves that its leg may follow, where only the leg moves after what `beforeEdge` does. -/
theorem edge_frame {e : Dev} (hothers : ∀ m, m ≠ n → e.leg m = (beforeEdge n g on ms (edgeTaken n g on d)).leg m)
    (heq : ∃ ls, e = { beforeEdge n g on ms (edgeTaken n g on d) with legs := ls }) :
    (∀ m, m ≠ n → e.leg m = d.leg m ∧ e.plan m = d.plan m) ∧
      e = { d with legs := e.legs, plans := e.plans, dies := e.dies, regs := e.regs, events := e.events, flt := e.flt } := by
  obtain ⟨-, -, -, hb, ls, ds, rs, es, fs, hbeq⟩ := gatesKept_beforeEdge n g on ms (edgeTaken n g on d)
  obtain ⟨ps, ds2, hteq⟩ := edgeTaken_eq n g on d
  obtain ⟨ls2, heq⟩ := heq
  refine ⟨fun m hm => ⟨?_, ?_⟩, ?_⟩
  · rw [hothers m hm, hb m hm, edgeTaken_leg]
  · rw [← edgeTaken_plan_ne g on d hm, heq, hbeq]
    rfl
  · rw [heq, hbeq, hteq]

theorem beforeEdge_gates : ((beforeEdge n g on ms (edgeTaken n g on d)).leg n).gh = (d.leg n).gh ∧
    ((beforeEdge n g on ms (edgeTaken n g on d)).leg n).gl = (d.leg n).gl ∧
    ((beforeEdge n g on ms (edgeTaken n g on d)).leg n).wait = (d.leg n).wait := by
  obtain ⟨hgh, hgl, hwait, -⟩ := gatesKept_beforeEdge n g on ms (edgeTaken n g on d)
  rw [edgeTaken_leg] at hgh hgl hwait
  exact ⟨hgh, hgl, hwait⟩

theorem beforeEdge_now : (beforeEdge n g on ms (edgeTaken n g on d)).now = d.now := by
  obtain ⟨-, -, -, -, ls, ds, rs, es, fs, hbeq⟩ := gatesKept_beforeEdge n g on ms (edgeTaken n g on d)
  rw [hbeq]
  rfl

end

/-! ### The interlock -/

theorem gatesFree_setWait (n : Nat) (w : Option (Gate × Nat)) (d : Dev) :
    gatesFree (d.setLeg n { d.leg n with wait := w }) n = gatesFree d n := by
  unfold gatesFree
  rw [Dev.leg_setLeg, if_pos rfl]
  rfl

/-- R134, R135: the end of a wait that is not too late; what turns the gate on beside free gates is a SHORT. -/
theorem interlockTurnOn_inTime {n t : Nat} {g : Gate} {d : Dev} (bst : Bool) (hw : (d.leg n).wait = some (g, t))
    (hopp : (d.leg n).opposite g = false) (ht : d.now < t + intlkTo d (n / 64)) : interlockTurnOn n bst d =
      if (gatesFree d n && !(g == .gh && bst)) ||
          ((d.leg n).dieHold == .short && g == .gl && dieFree d (n / 64) && !latched d n) then
        turnedOn n g d
      else d.setLeg n { d.leg n with wait := none } := by
  have late : ¬ t + intlkTo d (n / 64) ≤ d.now := Nat.not_le.mpr ht
  rw [← gatesFree_setWait n none d]
  cases g
  · have hgl : (d.leg n).gl = false := hopp
    simp only [interlockTurnOn, hw]
    rw [if_neg (by simp [hgl, late])]
    rfl
  · have hgh : (d.leg n).gh = false := hopp
    simp only [interlockTurnOn, hw]
    rw [if_neg (by simp [hgh, late])]
    rfl

theorem interlockTurnOn_late {n t : Nat} {g : Gate} {d : Dev} (bst : Bool) (hw : (d.leg n).wait = some (g, t))
    (ht : t + intlkTo d (n / 64) ≤ d.now) : interlockTurnOn n bst d = d := by
  cases g <;> simp [interlockTurnOn, hw, ht]

/-- R135: the wait of a turn-on ends with a fault that is counted, flagged and sent. -/
def waitTimedOut (n : Nat) (d : Dev) : Dev :=
  (dieEvt (n / 64) 4 ((d.setLeg n { d.leg n with wait := none }).setDie (n / 64)
    { d.die (n / 64) with intlkTo := (d.die (n / 64)).intlkTo + 1 })).send (faultOf (legP n) 5 n)

theorem waitTimedOut_eq (n : Nat) (d : Dev) :
    ∃ ls ds fs, waitTimedOut n d = { d with legs := ls, dies := ds, flt := fs } :=
  ⟨(waitTimedOut n d).legs, (waitTimedOut n d).dies, (waitTimedOut n d).flt,
    by simp [waitTimedOut, dieEvt, Dev.setDie, Dev.setLeg, Dev.send]⟩

theorem waitTimedOut_die (n j : Nat) (d : Dev) : (waitTimedOut n d).die j =
    if j = n / 64 then
      { d.die (n / 64) with intlkTo := (d.die (n / 64)).intlkTo + 1, evt := (d.die (n / 64)).evt ||| BitVec.ofNat 32 (2 ^ 4) }
    else d.die j := by
  by_cases hj : j = n / 64 <;> simp [waitTimedOut, hj]

theorem waitTimedOut_leg (n m : Nat) (d : Dev) :
    (waitTimedOut n d).leg m = if m = n then { d.leg n with wait := none } else d.leg m := by
  simp [waitTimedOut]

theorem intlkTimeout_due {n t : Nat} {g : Gate} {d : Dev} (hw : (d.leg n).wait = some (g, t))
    (ht : t + intlkTo d (n / 64) ≤ d.now) (hlink : (d.die (n / 64)).link = true) : intlkTimeout n d = waitTimedOut n d := by
  have late : ¬ d.now < t + intlkTo d (n / 64) := Nat.not_lt.mpr ht
  simp [intlkTimeout, waitTimedOut, hw, late, sendDie, hlink]

/-! ### The statement -/

/-- Settles O3: an edge command by whether it is due, its leg free, and its gate's turn-on past the interlock; and the ends of a
wait. -/
theorem edgesAndInterlock : Obligations.EdgesAndInterlock := by
  refine ⟨fun s n g bst ms hs => ⟨fun on chk low hdue => ?notDue, fun ha hp hshort =>
      ⟨fun hdue hfree hsince hgh hgl => ?acts, fun hdue hfree hsince hgh => ?waits, fun low hdue hfree hsince => ?dropped,
        fun low hdue hfree hsince => ?off, fun on low hdue hheld => ?held⟩⟩,
    fun s n g t hs hw => ⟨fun bst hfree hgh hgl ht => ?ends, fun hg hgl ht => ?endsLow, fun bst ht => ?late,
      fun ht hlink => ?timeout⟩⟩
  case notDue =>
    have rests := edgeCommand_notDue chk low bst ms hdue
    exact (act_awake hs).trans (by rw [rests]; rfl)
  case acts =>
    obtain ⟨bgh, bgl, -⟩ := beforeEdge_gates (n := n) (g := g) (on := true) (d := s.dev) ms
    have hopp : ((beforeEdge n g true ms (edgeTaken n g true s.dev)).leg n).opposite g = false :=
      LegRec.opposite_off (fun h => bgl.trans (hgh h).1) fun h => bgh.trans (hgl h)
    obtain ⟨hon, hoff, hwait, hothers, heq⟩ := turnedOn_spec hopp
    refine ⟨_, act_awake hs, ?_⟩
    rw [edgeCommand_taken true bst ms ha hp hshort hdue, if_neg (by simp [hfree, hsince]), if_pos rfl,
      turnOn_acts (fun h => (hgh h).2) hopp]
    exact ⟨hon, hoff, hwait, edge_frame ms hothers heq⟩
  case waits =>
    obtain ⟨bgh, bgl, -⟩ := beforeEdge_gates (n := n) (g := g) (on := true) (d := s.dev) ms
    refine ⟨_, act_awake hs, ?_⟩
    rw [edgeCommand_taken false bst ms ha hp hshort hdue, if_neg (by simp [hfree, hsince]), if_pos rfl, turnOn_waits hgh,
      beforeEdge_now]
    refine ⟨by simp [bgh], by simp [bgl], by simp, ?_⟩
    exact edge_frame ms (fun m hm => by rw [Dev.leg_setLeg, if_neg hm]) ⟨_, rfl⟩
  case dropped =>
    obtain ⟨bgh, bgl, bwait⟩ := beforeEdge_gates (n := n) (g := .gh) (on := true) (d := s.dev) ms
    refine ⟨_, act_awake hs, ?_⟩
    rw [edgeCommand_taken low true ms ha hp hshort hdue, if_neg (by simp [hfree, hsince]), if_pos rfl, turnOn_dropped]
    exact ⟨bgh, bgl, bwait, edge_frame ms (fun _ _ => rfl) (Dev.eq_with_legs _)⟩
  case off =>
    obtain ⟨bgh, bgl, -⟩ := beforeEdge_gates (n := n) (g := g) (on := false) (d := s.dev) ms
    obtain ⟨hgh, hgl, hothers, heq⟩ := turnOff_spec n g (beforeEdge n g false ms (edgeTaken n g false s.dev))
    refine ⟨_, act_awake hs, ?_⟩
    rw [edgeCommand_taken low bst ms ha hp hshort hdue, if_neg (by simp [hfree, hsince]), if_neg (by decide)]
    exact ⟨by rw [hgh, bgh], by rw [hgl, bgl], edge_frame ms hothers heq⟩
  case held =>
    obtain ⟨ps, ds, hteq⟩ := edgeTaken_eq n g on s.dev
    refine ⟨_, act_awake hs, ?_⟩
    rw [edgeCommand_taken low bst ms ha hp hshort hdue, if_pos hheld]
    refine ⟨gatesOff_off n _, fun m hm => ⟨?_, ?_⟩, ?_⟩
    · rw [gatesOff_ne n m _ hm, edgeTaken_leg]
    · rw [gatesOff_plan, edgeTaken_plan_ne g on _ hm]
    · rw [gatesOff_eq, hteq]
  case ends =>
    have hopp : (s.dev.leg n).opposite g = false := LegRec.opposite_off (fun h => (hgh h).1) hgl
    have hbst : (g == .gh && bst) = false := by
      cases g
      · simp [(hgh rfl).2]
      · rfl
    obtain ⟨hon, hoff, hwait, hothers, ls, heq⟩ := turnedOn_spec hopp
    refine ⟨_, onDie_awake hs, ?_⟩
    rw [interlockTurnOn_inTime bst hw hopp ht, if_pos (by simp [hfree, hbst])]
    exact ⟨hon, hoff, hwait, hothers, by rw [heq]⟩
  case endsLow =>
    subst hg
    refine ⟨_, onDie_awake hs, ?_⟩
    rw [interlockTurnOn_inTime true hw hgl ht, if_neg (by simp)]
    exact ⟨by simp, fun m hm => by simp [hm], rfl⟩
  case late =>
    have rests := interlockTurnOn_late bst hw ht
    exact (onDie_awake hs).trans (by rw [rests]; rfl)
  case timeout =>
    obtain ⟨ls, ds, fs, heq⟩ := waitTimedOut_eq n s.dev
    have hdie := (waitTimedOut_die n (n / 64) s.dev).trans (if_pos rfl)
    refine ⟨_, onDie_awake hs, ?_⟩
    rw [intlkTimeout_due hw ht hlink]
    refine ⟨(waitTimedOut_leg n n s.dev).trans (if_pos rfl), congrArg DieRec.intlkTo hdie, ?_, by simp [waitTimedOut],
      fun m hm => (waitTimedOut_leg n m s.dev).trans (if_neg hm), fun j hj => (waitTimedOut_die n j s.dev).trans (if_neg hj),
      by rw [heq]⟩
    rw [hdie]
    exact bitOf_or_two_pow _ (by omega)

end Sys2Proof.Machine
end

section
/-!
PROOFS. The levels of the gates, and what leaves all of them as they are: the registers, the legs, the commits, the test DAC and the drive dies.
-/

namespace Sys2Proof.Machine

/-! ### Levels, and what a loop keeps -/

/-- The levels of the gates that a map of legs holds. -/
def gatesOf (ls : SMap LegRec) (n : Nat) : Bool × Bool := ((sget legReset ls n).gh, (sget legReset ls n).gl)

@[simp] theorem gatesOf_legs (d : Dev) : gatesOf d.legs = d.gates := (rfl)

@[simp] theorem gates_mk (now free mode regs events wet coat2 cast mem pairs lows newer resp afault commit legs plans dies gangs
    frames axes convs auth flt fbs rost samp eng night sys arb spi cans uarts link timers turns) :
    (Dev.mk now free mode regs events wet coat2 cast mem pairs lows newer resp afault commit legs plans dies gangs
    frames axes convs auth flt fbs rost samp eng night sys arb spi cans uarts link timers turns).gates = gatesOf legs := (rfl)

@[simp] theorem gates_ite (c : Prop) [Decidable c] (d e : Dev) :
    (if c then d else e).gates = if c then d.gates else e.gates := apply_ite _ _ _ _

@[simp] theorem gates_each {f : Nat → Dev → Dev} (h : ∀ n x, (f n x).gates = x.gates) (l : List Nat) (d : Dev) :
    (each l f d).gates = d.gates := each_keep Dev.gates l d h

theorem foldl_keep {σ α β : Type} (π : σ → α) {f : σ → β → σ} (h : ∀ s b, π (f s b) = π s) (l : List β) (s : σ) :
    π (l.foldl f s) = π s := by
  induction l generalizing s with
  | nil => rfl
  | cons b l ih => exact (ih (f s b)).trans (h s b)

@[simp] theorem gates_foldl {β : Type} {f : Dev → β → Dev} (h : ∀ d b, (f d b).gates = d.gates) (l : List β) (d : Dev) :
    (l.foldl f d).gates = d.gates := foldl_keep Dev.gates h l d

@[simp] theorem gates_fst_foldl {α β : Type} {f : Dev × α → β → Dev × α} (h : ∀ s b, (f s b).1.gates = s.1.gates) (l : List β)
    (s : Dev × α) : (l.foldl f s).1.gates = s.1.gates := foldl_keep (fun s => s.1.gates) h l s

@[simp] theorem gates_snd_foldl {α β : Type} {f : α × Dev → β → α × Dev} (h : ∀ s b, (f s b).2.gates = s.2.gates) (l : List β)
    (s : α × Dev) : (l.foldl f s).2.gates = s.2.gates := foldl_keep (fun s => s.2.gates) h l s

/-- A write to a leg's record that keeps the levels in it keeps those of every leg. -/
@[simp] theorem gates_setLeg {n : Nat} {r : LegRec} {d : Dev} (hgh : r.gh = (d.leg n).gh) (hgl : r.gl = (d.leg n).gl) :
    (d.setLeg n r).gates = d.gates := by
  funext m
  by_cases hm : m = n
  · subst hm; simp [Dev.gates, hgh, hgl]
  · simp [Dev.gates, hm]

theorem leg_gh (d : Dev) (n : Nat) : (d.leg n).gh = (d.gates n).1 := (rfl)
theorem leg_gl (d : Dev) (n : Nat) : (d.leg n).gl = (d.gates n).2 := (rfl)

@[simp] theorem stopLeg_leg (n m : Nat) (d : Dev) : (stopLeg n d).leg m = d.leg m := (rfl)

@[simp] theorem gates_foldr {β : Type} {f : β → Dev → Dev} (h : ∀ b d, (f b d).gates = d.gates) (l : List β) (d : Dev) :
    (l.foldr f d).gates = d.gates := by
  induction l with
  | nil => rfl
  | cons b l ih => exact (h b _).trans ih



end Sys2Proof.Machine
end

section
/-!
PROOFS. What leaves the gates of every leg as they are: casts, owners, the modulator and the engine.
-/

namespace Sys2Proof.Machine



end Sys2Proof.Machine
end

section
/-!
PROOFS. What leaves the gates of every leg as they are: axes, memory, converters and feedback.
-/

namespace Sys2Proof.Machine



end Sys2Proof.Machine
end

section
/-!
PROOFS. What leaves the gates of every leg as they are: sampling, the roster, frames, authority and the collector.
-/

namespace Sys2Proof.Machine



end Sys2Proof.Machine
end

section
/-!
PROOFS. What leaves the gates of every leg as they are: the night shift, the system, the interfaces and the bus.
-/

namespace Sys2Proof.Machine

/-! ### Registers and records -/

@[simp] theorem gates_setReg (d : Dev) (a : Nat) (w : Word) : (d.setReg a w).gates = d.gates := (rfl)
@[simp] theorem gates_setFld (d : Dev) (p : Nat) (f : Fld) (v : Nat) : (d.setFld p f v).gates = d.gates := by
  simp [Dev.setFld]
@[simp] theorem gates_event (d : Dev) (a : Nat) (f : Word → Word) : (d.event a f).gates = d.gates := by simp [Dev.event]
@[simp] theorem gates_wipe (d : Dev) (a : Nat) (w : Word) : (d.wipe a w).gates = d.gates := by simp [Dev.wipe]

@[simp] theorem gates_readClear (d : Dev) (a : Nat) : (d.readClear a).gates = d.gates := by
  unfold Dev.readClear
  split <;> simp

@[simp] theorem gates_raise (d : Dev) (p : Nat) (f : Fld) : (d.raise p f).gates = d.gates := by simp [Dev.raise]
@[simp] theorem gates_lower (d : Dev) (p : Nat) (f : Fld) : (d.lower p f).gates = d.gates := by simp [Dev.lower]
@[simp] theorem gates_bump (d : Dev) (p : Nat) (f : Fld) : (d.bump p f).gates = d.gates := by simp [Dev.bump]
@[simp] theorem gates_wrapBump (d : Dev) (p : Nat) (f : Fld) : (d.wrapBump p f).gates = d.gates := by simp [Dev.wrapBump]
@[simp] theorem gates_bumpBy (d : Dev) (p : Nat) (f : Fld) (k : Nat) : (d.bumpBy p f k).gates = d.gates := by
  simp [Dev.bumpBy]
@[simp] theorem gates_raiseBit (d : Dev) (a i : Nat) : (d.raiseBit a i).gates = d.gates := by simp [Dev.raiseBit]
@[simp] theorem gates_progStart (d : Dev) (p : Nat) (pos : Bool) (total : Nat) : (d.progStart p pos total).gates = d.gates := by
  simp [Dev.progStart]
@[simp] theorem gates_progValue (d : Dev) (p v : Nat) : (d.progValue p v).gates = d.gates := by simp [Dev.progValue]
@[simp] theorem gates_progEnd (d : Dev) (p : Nat) (ok : Bool) : (d.progEnd p ok).gates = d.gates := by simp [Dev.progEnd]
@[simp] theorem gates_setDom (d : Dev) (n : Nat) (r : DomRec) : (d.setDom n r).gates = d.gates := (rfl)
@[simp] theorem gates_setWet (d : Dev) (a : Nat) (w : Option Word) : (d.setWet a w).gates = d.gates := (rfl)
@[simp] theorem gates_setCoat (d : Dev) (a : Nat) (w : Option Word) : (d.setCoat a w).gates = d.gates := (rfl)
@[simp] theorem gates_setPlan (d : Dev) (n : Nat) (r : LegPlan) : (d.setPlan n r).gates = d.gates := (rfl)
@[simp] theorem gates_setDie (d : Dev) (n : Nat) (r : DieRec) : (d.setDie n r).gates = d.gates := (rfl)
@[simp] theorem gates_setGang (d : Dev) (g : Nat) (r : GangRec) : (d.setGang g r).gates = d.gates := (rfl)
@[simp] theorem gates_setFrame (d : Dev) (f : Nat) (r : FrameRec) : (d.setFrame f r).gates = d.gates := (rfl)
@[simp] theorem gates_setAxis (d : Dev) (a : Nat) (r : AxisRec) : (d.setAxis a r).gates = d.gates := (rfl)
@[simp] theorem gates_setConv (d : Dev) (c : Nat) (r : ConvRec) : (d.setConv c r).gates = d.gates := (rfl)
@[simp] theorem gates_setFb (d : Dev) (k : Nat) (r : FbRec) : (d.setFb k r).gates = d.gates := (rfl)
@[simp] theorem gates_setRost (d : Dev) (f : RostRec → RostRec) : (d.setRost f).gates = d.gates := (rfl)
@[simp] theorem gates_setSamp (d : Dev) (f : SampRec → SampRec) : (d.setSamp f).gates = d.gates := (rfl)
@[simp] theorem gates_setEng (d : Dev) (f : EngRec → EngRec) : (d.setEng f).gates = d.gates := (rfl)
@[simp] theorem gates_setPhases (d : Dev) (a k : Nat) (s : SetRec) : (d.setPhases a k s).gates = d.gates := by
  simp [Dev.setPhases]
@[simp] theorem gates_setAuth (d : Dev) (r : AuthRec) : (d.setAuth r).gates = d.gates := (rfl)
@[simp] theorem gates_setNight (d : Dev) (f : NightRec → NightRec) : (d.setNight f).gates = d.gates := (rfl)
@[simp] theorem gates_setSys (d : Dev) (f : SysRec → SysRec) : (d.setSys f).gates = d.gates := (rfl)
@[simp] theorem gates_setLink (d : Dev) (f : LinkRec → LinkRec) : (d.setLink f).gates = d.gates := (rfl)
@[simp] theorem gates_setCan (d : Dev) (n : Nat) (r : CanRec) : (d.setCan n r).gates = d.gates := (rfl)
@[simp] theorem gates_setUart (d : Dev) (n : Nat) (r : UartRec) : (d.setUart n r).gates = d.gates := (rfl)
@[simp] theorem gates_send (d : Dev) (m : FaultMsg) : (d.send m).gates = d.gates := (rfl)
@[simp] theorem gates_injSend (m : FaultMsg) (d : Dev) : (injSend m d).gates = d.gates := by simp [injSend]
@[simp] theorem gates_setCtxWord (c w : Nat) (v : Word) (d : Dev) : (setCtxWord c w v d).gates = d.gates := by simp [setCtxWord]
@[simp] theorem gates_putSlot (s i : Nat) (v : Word) (d : Dev) : (putSlot s i v d).gates = d.gates := by simp [putSlot]
@[simp] theorem gates_draw (d : Dev) : d.draw.2.gates = d.gates := by simp [Dev.draw]

/-! ### Modes, legs and gangs -/

@[simp] theorem gates_enter (d : Dev) (m : Mode) : (d.enter m).gates = d.gates := by simp [Dev.enter]
@[simp] theorem gates_modeRefuse (target reason : Nat) (d : Dev) : (modeRefuse target reason d).gates = d.gates := by
  simp [modeRefuse]
@[simp] theorem gates_noteMode (target : Option Nat) (d : Dev) : (noteMode target d).gates = d.gates := by simp [noteMode]

@[simp] theorem gates_displaceMode (d : Dev) : (displaceMode d).gates = d.gates := by
  simp only [displaceMode]
  split
  · rfl
  · split
    · rfl
    · split <;> simp

@[simp] theorem gates_showLive (d : Dev) (g l a : Nat) : (showLive d g l a).gates = d.gates := by simp [showLive]
@[simp] theorem gates_showGang (d : Dev) (g l a : Nat) : (showGang d g l a).gates = d.gates := by simp [showGang]
@[simp] theorem gates_stopLeg (n : Nat) (d : Dev) : (stopLeg n d).gates = d.gates := by simp [stopLeg]
@[simp] theorem gates_holdLeg (h : Hold) (n : Nat) (d : Dev) : (holdLeg h n d).gates = d.gates := by simp [holdLeg]
@[simp] theorem gates_shutGang (d : Dev) (g : Nat) : (shutGang d g).gates = d.gates := by simp [shutGang]
@[simp] theorem gates_understrength (d : Dev) (g : Nat) : (understrength d g).gates = d.gates := by simp [understrength]

@[simp] theorem gates_fillSlot (g : Nat) (d : Dev) (i : Nat) : (fillSlot g d i).gates = d.gates := by
  simp only [fillSlot]
  split
  · rfl
  · split
    · rfl
    · split <;> simp

@[simp] theorem gates_regang (d : Dev) (g : Nat) : (regang d g).gates = d.gates := by simp [regang]
@[simp] theorem gates_formGang (d : Dev) (g : Nat) : (formGang d g).gates = d.gates := by simp [formGang]

@[simp] theorem gates_retireLeg (d : Dev) (fw : Bool) (n : Nat) : (retireLeg d fw n).gates = d.gates := by
  simp only [retireLeg]
  split
  · simp
  · split <;> simp

@[simp] theorem gates_autoFirst (d : Dev) : (autoFirst d).gates = d.gates := by
  simp only [autoFirst]
  split
  · split <;> simp
  · simp

@[simp] theorem gates_reLimp (d : Dev) : d.reLimp.gates = d.gates := by simp [Dev.reLimp]

/-! ### Commits -/

@[simp] theorem gates_wetLand (a : Nat) (w : Word) (d : Dev) : (wetLand a w d).gates = d.gates := by simp [wetLand]

@[simp] theorem gates_domainLand (base : Nat) (val : Word) (d : Dev) : (domainLand base val d).gates = d.gates := by
  unfold domainLand
  split <;> simp

@[simp] theorem gates_dropWet (n : Nat) (d : Dev) : (dropWet n d).gates = d.gates := by simp [dropWet]
@[simp] theorem gates_setFlags (n flags : Nat) (d : Dev) : (setFlags n flags d).gates = d.gates := by simp [setFlags]
@[simp] theorem gates_goLand (dom tag mask : Nat) (d : Dev) : (goLand dom tag mask d).gates = d.gates := by simp [goLand]
@[simp] theorem gates_discardLand (dom : Nat) (d : Dev) : (discardLand dom d).gates = d.gates := by simp [discardLand]

@[simp] theorem gates_commitWrite (base : Nat) (val : Word) (d : Dev) : (commitWrite base val d).gates = d.gates := by
  unfold commitWrite
  split <;> simp

@[simp] theorem gates_refuse (c : Commit) (err errAt : Word) (d : Dev) : (refuse c err errAt d).gates = d.gates := by
  simp [refuse]
@[simp] theorem gates_arm (c : Commit) (slip : Bool) (d : Dev) : (arm c slip d).gates = d.gates := by simp [arm]
@[simp] theorem gates_setWord (a : Nat) (w : Word) (d : Dev) : (setWord a w d).gates = d.gates := by simp [setWord]

@[simp] theorem gates_applyWet (union : List Nat) (d : Dev) : (applyWet union d).gates = d.gates := by
  unfold applyWet
  rw [gates_foldl (fun d e => by simp), gates_foldl (fun d e => by split <;> simp)]
  rfl

@[simp] theorem gates_reportSet (c : Commit) (d : Dev) : (reportSet c d).gates = d.gates := by simp [reportSet]
@[simp] theorem gates_commitStatWrite (base : Nat) (val : Word) (d : Dev) : (commitStatWrite base val d).gates = d.gates := by
  simp [commitStatWrite]

/-! ### The test DAC -/

@[simp] theorem gates_dacRelease (d : Dev) : (dacRelease d).gates = d.gates := by simp [dacRelease]
@[simp] theorem gates_dacRequest (u : DacUser) (d : Dev) : (dacRequest u d).gates = d.gates := by simp [dacRequest]
@[simp] theorem gates_dacDropComp (k : Nat) (d : Dev) : (dacDropComp k d).gates = d.gates := by simp [dacDropComp]
@[simp] theorem gates_diagEnd (d : Dev) : (diagEnd d).gates = d.gates := by simp [diagEnd]

@[simp] theorem gates_plumbAdvance (d : Dev) : (plumbAdvance d).gates = d.gates := by
  unfold plumbAdvance
  split <;> simp

@[simp] theorem gates_grantPlumb (d : Dev) : (grantPlumb d).gates = d.gates := by simp [grantPlumb]

@[simp] theorem gates_grantUser (d : Dev) : (grantUser d).gates = d.gates := by
  unfold grantUser
  split <;> simp

@[simp] theorem gates_dacGrant (d : Dev) : (dacGrant d).gates = d.gates := by simp [dacGrant]
@[simp] theorem gates_tdGo (val : Word) (d : Dev) : (tdGo val d).gates = d.gates := by simp [tdGo]
@[simp] theorem gates_tdTimeoutLand (d : Dev) : (tdTimeoutLand d).gates = d.gates := by simp [tdTimeoutLand]

/-! ### Drive dies -/

@[simp] theorem gates_sendDie (k : Nat) (m : FaultMsg) (d : Dev) : (sendDie k m d).gates = d.gates := by simp [sendDie]
@[simp] theorem gates_dieEvt (k i : Nat) (d : Dev) : (dieEvt k i d).gates = d.gates := by simp [dieEvt]

@[simp] theorem gates_carry (k : Nat) (chk : Bool) (d : Dev) : (carry k chk d).1.gates = d.gates := by
  simp only [carry]
  split
  · rfl
  · split
    · rfl
    · split <;> simp

@[simp] theorem gates_carried (k : Nat) (chk : Bool) (d : Dev) (f : Dev → Dev) (h : ∀ e, (f e).gates = e.gates) : (carried k chk
    d f).gates = d.gates := by
  simp [carried, h]

@[simp] theorem gates_cycleEnd (n : Nat) (d : Dev) : (cycleEnd n d).gates = d.gates := by simp [cycleEnd]

@[simp] theorem gates_measured (n : Nat) (ms : List Transition) (d : Dev) : (measured n ms d).gates = d.gates := by
  unfold measured
  refine gates_foldl (fun d m => ?_) _ d
  simp only [gates_setFld]
  exact gates_setLeg (by split <;> rfl) (by split <;> rfl)

@[simp] theorem gates_startAdaptive (n : Nat) (d : Dev) : (startAdaptive n d).gates = d.gates := by simp [startAdaptive]
@[simp] theorem gates_presenceCheck (n : Nat) (d : Dev) : (presenceCheck n d).gates = d.gates := by simp [presenceCheck]
@[simp] theorem gates_edgeGone (n : Nat) (g : Gate) (on : Bool) (d : Dev) : (edgeGone n g on d).gates = d.gates := by
  simp [edgeGone]

@[simp] theorem gates_intlkTimeout (n : Nat) (d : Dev) : (intlkTimeout n d).gates = d.gates := by
  simp only [intlkTimeout]
  split <;> simp

@[simp] theorem gates_holderCommand (k : Nat) (chk : Bool) (d : Dev) : (holderCommand k chk d).gates = d.gates := by
  simp only [holderCommand]
  split <;> simp

@[simp] theorem gates_presenceSeen (n above : Nat) (d : Dev) : (presenceSeen n above d).gates = d.gates := by simp [presenceSeen]
@[simp] theorem gates_vdrvRecover (k : Nat) (ov : Bool) (d : Dev) : (vdrvRecover k ov d).gates = d.gates := by simp [vdrvRecover]

@[simp] theorem gates_clearLatches (n : Nat) (hard soft : Bool) (hr sr : CompRead) (d : Dev) : (clearLatches n hard soft hr sr
    d).1.gates = d.gates := by
  simp [clearLatches]

@[simp] theorem gates_tripWrite (n : Nat) (val : Word) (chk : Bool) (hr sr : CompRead) (d : Dev) : (tripWrite n val chk hr sr
    d).gates = d.gates := by
  simp [tripWrite]

@[simp] theorem gates_uvCommand (k : Nat) (val : Word) (chk : Bool) (d : Dev) : (uvCommand k val chk d).gates = d.gates := by
  simp [uvCommand]

@[simp] theorem gates_maskCommand (k : Nat) (lo hi : Word) (chk : Bool) (d : Dev) :
    (maskCommand k lo hi chk d).gates = d.gates := by
  simp [maskCommand]

@[simp] theorem gates_showProg (k : Nat) (d : Dev) : (showProg k d).gates = d.gates := by simp [showProg]
@[simp] theorem gates_stEnd (k : Nat) (aborted : Bool) (d : Dev) : (stEnd k aborted d).gates = d.gates := by simp [stEnd]
@[simp] theorem gates_stLeave (k l : Nat) (rest : List Nat) (d : Dev) : (stLeave k l rest d).gates = d.gates := by simp [stLeave]

@[simp] theorem gates_stSkipping (k : Nat) (ls : List Nat) (d : Dev) : (stSkipping k ls d).gates = d.gates := by
  induction ls generalizing d with
  | nil => rfl
  | cons l rest ih => simp [stSkipping, ih]

@[simp] theorem gates_stCommand (k : Nat) (val : Word) (chk : Bool) (d : Dev) : (stCommand k val chk d).gates = d.gates := by
  simp [stCommand]

@[simp] theorem gates_stBegin (k : Nat) (d : Dev) : (stBegin k d).gates = d.gates := by
  simp only [stBegin]
  split <;> simp

@[simp] theorem gates_dacGranted (d : Dev) : (dacGranted d).gates = d.gates := by
  simp only [dacGranted]
  split <;> simp

@[simp] theorem gates_stWatch (k : Nat) (d : Dev) : (stWatch k d).gates = d.gates := by
  simp only [stWatch]
  split
  · simp
  · split <;> simp

@[simp] theorem gates_stStep (k : Nat) (after : Option Nat) (d : Dev) : (stStep k after d).gates = d.gates := by
  simp only [stStep]
  split
  · simp
  · split <;> simp

@[simp] theorem gates_ddieRefresh (k vdrv temp : Nat) (d : Dev) : (ddieRefresh k vdrv temp d).gates = d.gates := by
  simp [ddieRefresh]
@[simp] theorem gates_linkLoss (k : Nat) (d : Dev) : (linkLoss k d).gates = d.gates := by simp [linkLoss]
@[simp] theorem gates_linkReturn (k : Nat) (d : Dev) : (linkReturn k d).gates = d.gates := by simp [linkReturn]
@[simp] theorem gates_strongDriveEnd (n : Nat) (chk : Bool) (d : Dev) : (strongDriveEnd n chk d).gates = d.gates := by
  simp [strongDriveEnd]
@[simp] theorem gates_adaptiveAgain (n : Nat) (d : Dev) : (adaptiveAgain n d).gates = d.gates := by simp [adaptiveAgain]
@[simp] theorem gates_settingCommand (n : Nat) (chk : Bool) (d : Dev) : (settingCommand n chk d).gates = d.gates := by
  simp [settingCommand]

/-! ### Casts and 64-bit values -/

@[simp] theorem gates_castPage (base : Nat) (d : Dev) : (castPage base d).gates = d.gates := by
  unfold castPage
  split <;> simp

@[simp] theorem gates_castLand (base : Nat) (domain : Bool) (d : Dev) : (castLand base domain d).gates = d.gates := by
  simp [castLand]
@[simp] theorem gates_pairPut (rid a : Nat) (w : Word) (d : Dev) : (pairPut rid a w d).gates = d.gates := by simp [pairPut]
@[simp] theorem gates_newerRead (rid r : Nat) (d : Dev) : (newerRead rid r d).2.gates = d.gates := by simp [newerRead]
@[simp] theorem gates_newerWrite (r : Nat) (d : Dev) : (newerWrite r d).gates = d.gates := by simp [newerWrite]
@[simp] theorem gates_lowPut (rid a : Nat) (w : Word) (d : Dev) : (lowPut rid a w d).gates = d.gates := by simp [lowPut]
@[simp] theorem gates_lowTake (rid a : Nat) (d : Dev) : (lowTake rid a d).2.gates = d.gates := by simp [lowTake]

/-! ### Owners -/

@[simp] theorem gates_gangsHeld (h : Hold) (gs : List Nat) (d : Dev) : (gangsHeld h gs d).gates = d.gates := by
  refine gates_each (fun g d => gates_each (fun n d => ?_) _ d) gs d
  cases h <;> simp

@[simp] theorem gates_setAxisHold (a : Nat) (h : Hold) (d : Dev) : (setAxisHold a h d).gates = d.gates := by simp [setAxisHold]
@[simp] theorem gates_setSetHold (a k : Nat) (h : Hold) (d : Dev) : (setSetHold a k h d).gates = d.gates := by simp [setSetHold]
@[simp] theorem gates_setConvHold (c : Nat) (h : Hold) (d : Dev) : (setConvHold c h d).gates = d.gates := by simp [setConvHold]
@[simp] theorem gates_lossEnd (a : Nat) (d : Dev) : (lossEnd a d).gates = d.gates := by simp [lossEnd]
@[simp] theorem gates_noteTurn (t : Turn) (d : Dev) : (noteTurn t d).gates = d.gates := by simp [noteTurn]
@[simp] theorem gates_undoRegs (l : List (Nat × Word × Word × Word × Word)) (d : Dev) : (undoRegs l d).gates = d.gates := by
  simp [undoRegs]
@[simp] theorem gates_unsend (ms : List FaultMsg) (d : Dev) : (unsend ms d).gates = d.gates := by simp [unsend]
@[simp] theorem gates_undoTurn (t : Turn) (d : Dev) : (undoTurn t d).gates = d.gates := by simp [undoTurn]
@[simp] theorem gates_tookCause (a : Nat) (d : Dev) : (tookCause a d).gates = d.gates := by simp [tookCause]

@[simp] theorem gates_axisBack (a : Nat) (d : Dev) : (axisBack a d).gates = d.gates := by
  simp only [axisBack]
  split
  · rfl
  · split
    · rfl
    · split <;> simp

@[simp] theorem gates_axisTake (a rank : Nat) (cmd : Option Word) (f : Dev → Dev) (d : Dev) (h : ∀ e, (f e).gates = e.gates) :
    (axisTake a rank cmd f d).gates = d.gates := by
  simp [axisTake, h]

@[simp] theorem gates_dropPolicy (a : Nat) (d : Dev) : (dropPolicy a d).gates = d.gates := by simp [dropPolicy]

@[simp] theorem gates_axisEnter (a st : Nat) (h : Hold) (select : Bool) (d : Dev) :
    (axisEnter a st h select d).gates = d.gates := by
  simp [axisEnter]

@[simp] theorem gates_enterFaulted (a : Nat) (d : Dev) : (enterFaulted a d).gates = d.gates := by simp [enterFaulted]
@[simp] theorem gates_axisFault (a : Nat) (d : Dev) : (axisFault a d).gates = d.gates := by simp [axisFault]
@[simp] theorem gates_convTook (c rank : Nat) (d : Dev) : (convTook c rank d).gates = d.gates := by simp [convTook]

@[simp] theorem gates_convUndo (c : Nat) (t : Turn) (d : Dev) : (convUndo c t d).gates = d.gates := by
  unfold convUndo
  split <;> simp

@[simp] theorem gates_convBack (c : Nat) (d : Dev) : (convBack c d).gates = d.gates := by
  simp only [convBack]
  split
  · simp
  · split <;> simp

@[simp] theorem gates_convTake (c rank : Nat) (cmd : Option Word) (f : Dev → Dev) (d : Dev) (h : ∀ e, (f e).gates = e.gates) :
    (convTake c rank cmd f d).gates = d.gates := by
  simp [convTake, h]

@[simp] theorem gates_lfQueue (c prev msg : Nat) (d : Dev) : (lfQueue c prev msg d).gates = d.gates := by simp [lfQueue]
@[simp] theorem gates_convEnter (c st : Nat) (h : Hold) (d : Dev) : (convEnter c st h d).gates = d.gates := by simp [convEnter]

@[simp] theorem gates_convFault (c msg : Nat) (keep : Bool) (d : Dev) : (convFault c msg keep d).gates = d.gates := by
  simp only [convFault]
  split
  · simp
  · split <;> simp

/-! ### The modulator -/

@[simp] theorem gates_logDuty (f g tag : Nat) (ahead : Bool) (d : Dev) : (logDuty f g tag ahead d).gates = d.gates := by
  simp [logDuty]

@[simp] theorem gates_landDuty (g tag duty : Nat) (d : Dev) : (landDuty g tag duty d).1.gates = d.gates := by
  simp only [landDuty]
  repeat' split
  all_goals simp_all

@[simp] theorem gates_reloadDuty (f g : Nat) (d : Dev) : (reloadDuty f g d).gates = d.gates := by
  simp only [reloadDuty]
  split
  · simp
  · split <;> simp

@[simp] theorem gates_planLeg (t p : Nat) (turn : LegTurn) (n : Nat) (d : Dev) : (planLeg t p turn n d).gates = d.gates := by
  unfold planLeg
  split <;> simp

@[simp] theorem gates_ffArrive (g : Nat) (d : Dev) : (ffArrive g d).gates = d.gates := by
  simp only [ffArrive]
  split
  · rfl
  · split
    · rfl
    · split <;> simp

@[simp] theorem gates_ffTrigger (src idx : Nat) (d : Dev) : (ffTrigger src idx d).gates = d.gates := by simp [ffTrigger]
@[simp] theorem gates_staleAt (g age : Nat) (d : Dev) : (staleAt g age d).gates = d.gates := by simp [staleAt]
@[simp] theorem gates_loadStale (g : Nat) (d : Dev) : (loadStale g d).gates = d.gates := by simp [loadStale]
@[simp] theorem gates_setLoad (g v : Nat) (d : Dev) : (setLoad g v d).gates = d.gates := by simp [setLoad]
@[simp] theorem gates_shedDecide (g a l : Nat) (d : Dev) : (shedDecide g a l d).gates = d.gates := by simp [shedDecide]

@[simp] theorem gates_activeCount (g t l : Nat) (d : Dev) : (activeCount g t l d).1.gates = d.gates := by
  simp only [activeCount]
  repeat' split
  all_goals simp_all

@[simp] theorem gates_noteLeg (n first : Nat) (mark sw : Bool) (d : Dev) : (noteLeg n first mark sw d).gates = d.gates := by
  simp only [noteLeg]
  split
  · split <;> simp
  · simp

@[simp] theorem gates_layGang (f g t p j rot a : Nat) (ff : Bool) (ranks : List Nat) (d : Dev) : (layGang f g t p j rot a ff
    ranks d).gates = d.gates := by
  simp [layGang]

@[simp] theorem gates_reloadGang (f t p j : Nat) (hasCp : Bool) (g : Nat) (d : Dev) : (reloadGang f t p j hasCp g d).gates =
    d.gates := by
  simp [reloadGang]; split <;> simp

/-! ### The engine -/

@[simp] theorem gates_setCstat (c lo n v : Nat) (d : Dev) : (setCstat c lo n v d).gates = d.gates := by simp [setCstat]
@[simp] theorem gates_engEvt (kind ctx detail : Nat) (d : Dev) : (engEvt kind ctx detail d).gates = d.gates := by simp [engEvt]
@[simp] theorem gates_showEng (c : Nat) (d : Dev) : (showEng c d).gates = d.gates := by simp [showEng]
@[simp] theorem gates_putWork (w : Work) (d : Dev) : (putWork w d).gates = d.gates := by simp [putWork]
@[simp] theorem gates_swapWork (w w1 : Work) (d : Dev) : (swapWork w w1 d).gates = d.gates := by simp [swapWork]
@[simp] theorem gates_addWork (w : Work) (d : Dev) : (addWork w d).gates = d.gates := by simp [addWork]
@[simp] theorem gates_resetBegin (c : Nat) (d : Dev) : (resetBegin c d).gates = d.gates := by simp [resetBegin]
@[simp] theorem gates_dropWork (w : Work) (d : Dev) : (dropWork w d).gates = d.gates := by simp [dropWork]
@[simp] theorem gates_addCycles (n : Nat) (d : Dev) : (addCycles n d).gates = d.gates := by simp [addCycles]
@[simp] theorem gates_dropSpec (waiting : Bool) (c : Nat) (d : Dev) : (dropSpec waiting c d).gates = d.gates := by simp [dropSpec]
@[simp] theorem gates_squashSpec (c : Nat) (d : Dev) : (squashSpec c d).gates = d.gates := by simp [squashSpec]
@[simp] theorem gates_missWork (w : Work) (d : Dev) : (missWork w d).gates = d.gates := by simp [missWork]

@[simp] theorem gates_jobStarts (c frame key tag : Nat) (inputs : List Nat) (nowait : Bool) (d : Dev) : (jobStarts c frame key
    tag inputs nowait d).gates = d.gates := by
  simp [jobStarts]

@[simp] theorem gates_latchCheck (w : Work) (d : Dev) : (latchCheck w d).gates = d.gates := by simp [latchCheck]

@[simp] theorem gates_workStart (d : Dev) : (workStart d).gates = d.gates := by
  unfold workStart
  split <;> simp

@[simp] theorem gates_pulseEvent (c ev : Nat) (irq : Bool) (d : Dev) : (pulseEvent c ev irq d).gates = d.gates := by
  simp [pulseEvent]

@[simp] theorem gates_stageEffect (w : Work) (e : Effect) (d : Dev) : (stageEffect w e d).2.gates = d.gates := by
  simp only [stageEffect]
  repeat' split
  all_goals simp_all

@[simp] theorem gates_handOn (w : Work) (d : Dev) : (handOn w d).2.gates = d.gates := by
  unfold handOn
  refine foldl_keep (fun p => p.2.gates) (fun p h => ?_) _ ({ w with held := [] }, d)
  cases h <;> simp

@[simp] theorem gates_stageNext (w : Work) (d : Dev) : (stageNext w d).gates = d.gates := by
  simp only [stageNext]
  split
  · split <;> simp
  · simp

@[simp] theorem gates_workRun (lane : Nat) (ecc : Ecc) (inSlot : Bool) (d : Dev) : (workRun lane ecc inSlot d).gates = d.gates := by
  simp only [workRun]
  repeat' split
  all_goals simp_all

@[simp] theorem gates_dutiesLand (d : Dev) : (dutiesLand d).gates = d.gates := by
  simp only [dutiesLand]
  split <;> simp

@[simp] theorem gates_refreshPre (w : Work) (d : Dev) : (refreshPre w d).gates = d.gates := by simp [refreshPre]

@[simp] theorem gates_specReady (w : Work) (d : Dev) : (specReady w d).gates = d.gates := by
  simp only [specReady]
  split <;> simp

@[simp] theorem gates_commitWork (w : Work) (d : Dev) : (commitWork w d).gates = d.gates := by
  simp only [commitWork]
  split
  · split <;> simp
  · split <;> simp

@[simp] theorem gates_verify (c : Nat) (d : Dev) : (verify c d).gates = d.gates := by
  simp only [verify]
  repeat' split
  all_goals simp_all

@[simp] theorem gates_addReset (c : Nat) (axis : Option Nat) (d : Dev) : (addReset c axis d).gates = d.gates := by simp [addReset]
@[simp] theorem gates_ctxcmdLand (val : Word) (d : Dev) : (ctxcmdLand val d).gates = d.gates := by simp [ctxcmdLand]
@[simp] theorem gates_zeroCtx (c : Nat) (d : Dev) : (zeroCtx c d).gates = d.gates := by simp [zeroCtx]
@[simp] theorem gates_ctxWrite (c off : Nat) (val : Word) (d : Dev) : (ctxWrite c off val d).gates = d.gates := by simp [ctxWrite]

@[simp] theorem gates_stageWrite (s i : Nat) (val : Word) (d : Dev) : (stageWrite s i val d).gates = d.gates := by
  unfold stageWrite
  split <;> simp

/-! ### Axes: sensing -/

@[simp] theorem gates_writeRefs (a : Nat) (d : Dev) : (writeRefs a d).gates = d.gates := by simp [writeRefs]
@[simp] theorem gates_axisLimits (a : Nat) (d : Dev) : (axisLimits a d).gates = d.gates := by simp [axisLimits]
@[simp] theorem gates_putParam (s i : Nat) (m : Int) (d : Dev) : (putParam s i m d).gates = d.gates := by simp [putParam]

@[simp] theorem gates_putLimit (a s type : Nat) (ws : List (Nat × Bool)) (lim : Dy) (d : Dev) : (putLimit a s type ws lim
    d).gates = d.gates := by
  simp [putLimit]

@[simp] theorem gates_voltageLimit (a : Nat) (d : Dev) : (voltageLimit a d).gates = d.gates := by simp [voltageLimit]

@[simp] theorem gates_fillOn (hs ns : List Nat) (d : Dev) : (fillOn hs ns d).1.gates = d.gates := by
  induction hs generalizing ns d with
  | nil => simp [fillOn]
  | cons h hs ih =>
    cases ns with
    | nil => rfl
    | cons n ns =>
      simp only [fillOn, ih]
      split <;> simp

@[simp] theorem gates_shuntNote (a k code : Nat) (on act : List Nat) (d : Dev) : (shuntNote a k code on act d).gates = d.gates := by
  simp [shuntNote]

@[simp] theorem gates_reconPair (a k : Nat) (d : Dev) : (reconPair a k d).1.gates = d.gates := by
  simp only [reconPair]
  repeat' split
  all_goals simp_all

@[simp] theorem gates_recon (a k : Nat) (d : Dev) : (recon a k d).1.gates = d.gates := by
  simp only [recon]
  split <;> simp

@[simp] theorem gates_reconCode (a x : Nat) (r : Int × Int × Int) (d : Dev) : (reconCode a x r d).1.gates = d.gates := by
  simp only [reconCode]
  split <;> simp

@[simp] theorem gates_replaced (a x : Nat) (r : Option (Int × Int × Int)) (code : Nat) (d : Dev) : (replaced a x r code
    d).1.gates = d.gates := by
  unfold replaced
  split <;> simp

@[simp] theorem gates_writeIn (c i code : Nat) (pred : Bool) (d : Dev) : (writeIn c i code pred d).1.gates = d.gates := by
  simp only [writeIn]
  split
  · simp
  · split <;> simp

@[simp] theorem gates_sensLost (a k : Nat) (d : Dev) : (sensLost a k d).gates = d.gates := by simp [sensLost]
@[simp] theorem gates_replaceRaws (a k : Nat) (d : Dev) : (replaceRaws a k d).gates = d.gates := by simp [replaceRaws]
@[simp] theorem gates_noteRaw (a k x code : Nat) (d : Dev) : (noteRaw a k x code d).gates = d.gates := by simp [noteRaw]
@[simp] theorem gates_failOver (a k : Nat) (d : Dev) : (failOver a k d).gates = d.gates := by simp [failOver]
@[simp] theorem gates_foReturn (a : Nat) (d : Dev) : (foReturn a d).gates = d.gates := by simp [foReturn]
@[simp] theorem gates_periodSync (a k : Nat) (d : Dev) : (periodSync a k d).gates = d.gates := by simp [periodSync]
@[simp] theorem gates_sumCheck (a k x code : Nat) (d : Dev) : (sumCheck a k x code d).gates = d.gates := by simp [sumCheck]
@[simp] theorem gates_rangeFail (a k x : Nat) (d : Dev) : (rangeFail a k x d).gates = d.gates := by simp [rangeFail]

@[simp] theorem gates_axisDelivery (a k x code : Nat) (pred clip : Bool) (d : Dev) : (axisDelivery a k x code pred clip
    d).1.gates = d.gates := by
  simp [axisDelivery]; repeat' split
  all_goals simp_all

@[simp] theorem gates_periodEnd (a k : Nat) (d : Dev) : (periodEnd a k d).gates = d.gates := by simp [periodEnd]
@[simp] theorem gates_pathFailed (input : Nat) (d : Dev) : (pathFailed input d).gates = d.gates := by simp [pathFailed]

@[simp] theorem gates_commutated (a : Nat) (d : Dev) : (commutated a d).gates = d.gates := by
  simp only [commutated]
  split <;> simp

@[simp] theorem gates_lockedSync (a t : Nat) (d : Dev) : (lockedSync a t d).gates = d.gates := by simp [lockedSync]
@[simp] theorem gates_lockedCommit (a : Nat) (d : Dev) : (lockedCommit a d).gates = d.gates := by simp [lockedCommit]

@[simp] theorem gates_lockedLand (a : Nat) (d : Dev) : (lockedLand a d).gates = d.gates := by
  simp only [lockedLand]
  split <;> simp

/-! ### Axes: running -/

@[simp] theorem gates_windowStart (a t : Nat) (d : Dev) : (windowStart a t d).gates = d.gates := by
  simp only [windowStart]
  split <;> simp

@[simp] theorem gates_windowNow (a : Nat) (d : Dev) : (windowNow a d).gates = d.gates := by simp [windowNow]
@[simp] theorem gates_openWindow (a : Nat) (d : Dev) : (openWindow a d).gates = d.gates := by simp [openWindow]
@[simp] theorem gates_coast (a : Nat) (forced : Bool) (d : Dev) : (coast a forced d).gates = d.gates := by simp [coast]
@[simp] theorem gates_enterDecel (a : Nat) (d : Dev) : (enterDecel a d).gates = d.gates := by simp [enterDecel]
@[simp] theorem gates_enterHolding (a : Nat) (d : Dev) : (enterHolding a d).gates = d.gates := by simp [enterHolding]
@[simp] theorem gates_enterCatching (a : Nat) (w : Window) (fe : Int) (d : Dev) : (enterCatching a w fe d).gates = d.gates := by
  simp [enterCatching]

@[simp] theorem gates_speedCheck (a : Nat) (d : Dev) : (speedCheck a d).gates = d.gates := by
  simp only [speedCheck]
  repeat' split
  all_goals simp_all

@[simp] theorem gates_catchFail (a : Nat) (d : Dev) : (catchFail a d).gates = d.gates := by simp [catchFail]
@[simp] theorem gates_oweOwn (a : Nat) (d : Dev) : (oweOwn a d).gates = d.gates := by simp [oweOwn]
@[simp] theorem gates_catchDone (a : Nat) (d : Dev) : (catchDone a d).gates = d.gates := by simp [catchDone]

@[simp] theorem gates_catchEndLand (a : Nat) (d : Dev) : (catchEndLand a d).gates = d.gates := by
  simp only [catchEndLand]
  split <;> simp

@[simp] theorem gates_observerLost (a : Nat) (d : Dev) : (observerLost a d).gates = d.gates := by simp [observerLost]
@[simp] theorem gates_lossRampEnd (a : Nat) (d : Dev) : (lossRampEnd a d).gates = d.gates := by simp [lossRampEnd]
@[simp] theorem gates_dropSet (a k : Nat) (d : Dev) : (dropSet a k d).gates = d.gates := by simp [dropSet]
@[simp] theorem gates_lostPhase (a k x : Nat) (d : Dev) : (lostPhase a k x d).gates = d.gates := by simp [lostPhase]
@[simp] theorem gates_gangsLost (a : Nat) (d : Dev) : (gangsLost a d).gates = d.gates := by simp [gangsLost]
@[simp] theorem gates_openCount (a : Nat) (d : Dev) : (openCount a d).gates = d.gates := by simp [openCount]
@[simp] theorem gates_openAct (a : Nat) (d : Dev) : (openAct a d).gates = d.gates := by simp [openAct]
@[simp] theorem gates_busOver (a : Nat) (d : Dev) : (busOver a d).gates = d.gates := by simp [busOver]
@[simp] theorem gates_busGone (a : Nat) (d : Dev) : (busGone a d).gates = d.gates := by simp [busGone]
@[simp] theorem gates_busAct (a : Nat) (d : Dev) : (busAct a d).gates = d.gates := by simp [busAct]
@[simp] theorem gates_residAct (a : Nat) (d : Dev) : (residAct a d).gates = d.gates := by simp [residAct]
@[simp] theorem gates_commitFirst (a : Nat) (d : Dev) : (commitFirst a d).gates = d.gates := by simp [commitFirst]
@[simp] theorem gates_commitLast (a : Nat) (d : Dev) : (commitLast a d).gates = d.gates := by simp [commitLast]
@[simp] theorem gates_oweTests (a : Nat) (d : Dev) : (oweTests a d).gates = d.gates := by simp [oweTests]
@[simp] theorem gates_commitActs (a : Nat) (d : Dev) : (commitActs a d).gates = d.gates := by simp [commitActs]
@[simp] theorem gates_windowGuard (a : Nat) (d : Dev) : (windowGuard a d).gates = d.gates := by simp [windowGuard]
@[simp] theorem gates_axisCommit1 (a : Nat) (d : Dev) : (axisCommit1 a d).gates = d.gates := by simp [axisCommit1]
@[simp] theorem gates_axisCommit (c : Nat) (d : Dev) : (axisCommit c d).gates = d.gates := by simp [axisCommit]
@[simp] theorem gates_cmdAct (a : Nat) (val : Word) (d : Dev) : (cmdAct a val d).gates = d.gates := by simp [cmdAct]

@[simp] theorem gates_axisCmd (a : Nat) (val : Word) (d : Dev) : (axisCmd a val d).gates = d.gates := by
  unfold axisCmd
  split <;> simp

@[simp] theorem gates_rollCheck (a : Nat) (f : Dy) (d : Dev) : (rollCheck a f d).gates = d.gates := by simp [rollCheck]
@[simp] theorem gates_showWindow (a : Nat) (w : Window) (d : Dev) : (showWindow a w d).gates = d.gates := by simp [showWindow]
@[simp] theorem gates_windowDone (a : Nat) (w : Window) (d : Dev) : (windowDone a w d).gates = d.gates := by simp [windowDone]

@[simp] theorem gates_windowEnd (a : Nat) (d : Dev) : (windowEnd a d).gates = d.gates := by
  unfold windowEnd
  split <;> simp

@[simp] theorem gates_resoundLand (a : Nat) (d : Dev) : (resoundLand a d).gates = d.gates := by simp [resoundLand]

@[simp] theorem gates_voltNote (reg : Nat) (d : Dev) : (voltNote reg d).gates = d.gates := by
  unfold voltNote
  refine gates_each (fun a d => ?_) _ d
  rw [gates_ite, gates_each (fun k e => ?_), ite_self]
  simp only [gates_ite, gates_setAxis, gates_setPhases]
  split
  · rfl
  · split <;> simp

@[simp] theorem gates_axisSeed (a : Nat) (d : Dev) : (axisSeed a d).gates = d.gates := by
  simp only [axisSeed]
  split
  · simp
  · split <;> simp

@[simp] theorem gates_trackSet (a k : Nat) (d : Dev) : (trackSet a k d).gates = d.gates := by simp [trackSet]
@[simp] theorem gates_speedSelect (a : Nat) (d : Dev) : (speedSelect a d).gates = d.gates := by simp [speedSelect]
@[simp] theorem gates_axisReload (a t : Nat) (d : Dev) : (axisReload a t d).gates = d.gates := by simp [axisReload]
@[simp] theorem gates_axesReload (f t : Nat) (d : Dev) : (axesReload f t d).gates = d.gates := by simp [axesReload]
@[simp] theorem gates_axisSettle (a : Nat) (d : Dev) : (axisSettle a d).gates = d.gates := by simp [axisSettle]
@[simp] theorem gates_axesSettle (d : Dev) : (axesSettle d).gates = d.gates := by simp [axesSettle]

@[simp] theorem gates_parkMode (a : Nat) (d : Dev) : (parkMode a d).gates = d.gates := by
  simp only [parkMode]
  split
  · rfl
  · split
    · rfl
    · split <;> simp

@[simp] theorem gates_axisTick (a : Nat) (d : Dev) : (axisTick a d).gates = d.gates := by
  simp [axisTick]; split <;> simp

@[simp] theorem gates_axisMode (old : Mode) (a : Nat) (d : Dev) : (axisMode old a d).gates = d.gates := by
  simp only [axisMode]
  split
  · simp
  · split <;> simp

@[simp] theorem gates_policySet (a : Nat) (d : Dev) : (policySet a d).gates = d.gates := by simp [policySet]
@[simp] theorem gates_axisSet (a : Nat) (d : Dev) : (axisSet a d).gates = d.gates := by simp [axisSet]

/-! ### Memory -/

@[simp] theorem gates_memPut (a : Nat) (v : Byte) (d : Dev) : (memPut a v d).gates = d.gates := by simp [memPut]

@[simp] theorem gates_memPutAll (a : Nat) (bs : List Byte) (d : Dev) : (memPutAll a bs d).gates = d.gates := by
  induction bs generalizing a d with
  | nil => rfl
  | cons b bs ih => simp [memPutAll, ih]

@[simp] theorem gates_breakResv (own : Option Nat) (a n : Nat) (d : Dev) : (breakResv own a n d).gates = d.gates := by
  simp [breakResv]
@[simp] theorem gates_updIgn (d : Dev) : (updIgn d).gates = d.gates := by simp [updIgn]
@[simp] theorem gates_mramPut (a : Nat) (bs : List Byte) (d : Dev) : (mramPut a bs d).gates = d.gates := by simp [mramPut]

/-! ### Converters -/

@[simp] theorem gates_convTaps (c : Nat) (d : Dev) : (convTaps c d).gates = d.gates := by simp [convTaps]

@[simp] theorem gates_convWriteRef (c : Nat) (d : Dev) : (convWriteRef c d).gates = d.gates := by
  unfold convWriteRef
  split <;> simp

@[simp] theorem gates_convLatch (ctx : Nat) (d : Dev) : (convLatch ctx d).gates = d.gates := by simp [convLatch]
@[simp] theorem gates_setVss (c v : Nat) (d : Dev) : (setVss c v d).gates = d.gates := by simp [setVss]
@[simp] theorem gates_convStarting (c : Nat) (d : Dev) : (convStarting c d).gates = d.gates := by simp [convStarting]
@[simp] theorem gates_convSsDone (c : Nat) (d : Dev) : (convSsDone c d).gates = d.gates := by simp [convSsDone]
@[simp] theorem gates_convReload1 (c : Nat) (d : Dev) : (convReload1 c d).gates = d.gates := by simp [convReload1]
@[simp] theorem gates_convReload (f : Nat) (d : Dev) : (convReload f d).gates = d.gates := by simp [convReload]
@[simp] theorem gates_fastPauseEndLand (c : Nat) (d : Dev) : (fastPauseEndLand c d).gates = d.gates := by simp [fastPauseEndLand]
@[simp] theorem gates_fastTrip (c : Nat) (d : Dev) : (fastTrip c d).gates = d.gates := by simp [fastTrip]
@[simp] theorem gates_convsFast (reg code : Nat) (d : Dev) : (convsFast reg code d).gates = d.gates := by simp [convsFast]
@[simp] theorem gates_fastWinLand (c : Nat) (d : Dev) : (fastWinLand c d).gates = d.gates := by simp [fastWinLand]
@[simp] theorem gates_overloadLand (c : Nat) (d : Dev) : (overloadLand c d).gates = d.gates := by simp [overloadLand]
@[simp] theorem gates_convOvCheck (c : Nat) (d : Dev) : (convOvCheck c d).gates = d.gates := by simp [convOvCheck]
@[simp] theorem gates_prechargeAct (c : Nat) (d : Dev) : (prechargeAct c d).gates = d.gates := by simp [prechargeAct]
@[simp] theorem gates_packTurn (c : Nat) (d : Dev) : (packTurn c d).gates = d.gates := by simp [packTurn]
@[simp] theorem gates_packAct (c : Nat) (d : Dev) : (packAct c d).gates = d.gates := by simp [packAct]
@[simp] theorem gates_dumpAct (c : Nat) (d : Dev) : (dumpAct c d).gates = d.gates := by simp [dumpAct]
@[simp] theorem gates_convCommit1 (c : Nat) (d : Dev) : (convCommit1 c d).gates = d.gates := by simp [convCommit1]
@[simp] theorem gates_convCommit (ctx : Nat) (d : Dev) : (convCommit ctx d).gates = d.gates := by simp [convCommit]

@[simp] theorem gates_contactorLand (c : Nat) (d : Dev) : (contactorLand c d).gates = d.gates := by
  unfold contactorLand
  split <;> simp

@[simp] theorem gates_pcTimeoutLand (c : Nat) (d : Dev) : (pcTimeoutLand c d).gates = d.gates := by simp [pcTimeoutLand]
@[simp] theorem gates_convIgn (c : Nat) (d : Dev) : (convIgn c d).gates = d.gates := by simp [convIgn]

@[simp] theorem gates_convCmdAct (c : Nat) (val : Word) (d : Dev) : (convCmdAct c val d).gates = d.gates := by
  unfold convCmdAct
  split <;> simp

@[simp] theorem gates_convCmd (c : Nat) (val : Word) (d : Dev) : (convCmd c val d).gates = d.gates := by simp [convCmd]
@[simp] theorem gates_convLeave (c : Nat) (d : Dev) : (convLeave c d).gates = d.gates := by simp [convLeave]

@[simp] theorem gates_convTick (c : Nat) (d : Dev) : (convTick c d).gates = d.gates := by
  simp only [convTick]
  repeat' split
  all_goals simp_all

@[simp] theorem gates_convMode (old : Mode) (c : Nat) (d : Dev) : (convMode old c d).gates = d.gates := by
  simp only [convMode]
  split
  · simp
  · split <;> simp

@[simp] theorem gates_convSet (c : Nat) (d : Dev) : (convSet c d).gates = d.gates := by simp [convSet]

@[simp] theorem gates_lfWrittenLand (c : Nat) (ok : Bool) (d : Dev) : (lfWrittenLand c ok d).gates = d.gates := by
  simp only [lfWrittenLand]
  split
  · rfl
  · split
    · rfl
    · split <;> simp

/-! ### Feedback -/

@[simp] theorem gates_fbFault (k cause : Nat) (d : Dev) : (fbFault k cause d).gates = d.gates := by simp [fbFault]
@[simp] theorem gates_edgeError (k cause : Nat) (d : Dev) : (edgeError k cause d).gates = d.gates := by simp [edgeError]

@[simp] theorem gates_emuTarget (k : Nat) (d : Dev) : (emuTarget k d).2.gates = d.gates := by
  simp only [emuTarget]
  split <;> simp

@[simp] theorem gates_emuCheck (k : Nat) (d : Dev) : (emuCheck k d).gates = d.gates := by simp [emuCheck]
@[simp] theorem gates_emuLoad (k : Nat) (d : Dev) : (emuLoad k d).gates = d.gates := by simp [emuLoad]
@[simp] theorem gates_emuStepLand (k : Nat) (d : Dev) : (emuStepLand k d).gates = d.gates := by simp [emuStepLand]

@[simp] theorem gates_setSector (k s : Nat) (d : Dev) : (setSector k s d).gates = d.gates := by
  simp only [setSector]
  split
  · rfl
  · split
    · rfl
    · split <;> simp

@[simp] theorem gates_fbSector (k : Nat) (d : Dev) : (fbSector k d).gates = d.gates := by simp [fbSector]
@[simp] theorem gates_posCapture (k : Nat) (d : Dev) : (posCapture k d).gates = d.gates := by simp [posCapture]
@[simp] theorem gates_setPosTo (k : Nat) (x : Int) (d : Dev) : (setPosTo k x d).gates = d.gates := by simp [setPosTo]
@[simp] theorem gates_missNote (k : Nat) (d : Dev) : (missNote k d).gates = d.gates := by simp [missNote]
@[simp] theorem gates_runNote (k : Nat) (rev : Bool) (d : Dev) : (runNote k rev d).gates = d.gates := by simp [runNote]

@[simp] theorem gates_putDev (k : Nat) (x : Int) (d : Dev) : (putDev k x d).gates = d.gates := by
  simp only [putDev]
  split <;> simp

@[simp] theorem gates_indexLand (k : Nat) (d : Dev) : (indexLand k d).gates = d.gates := by
  simp only [indexLand]
  repeat' split
  all_goals simp_all

@[simp] theorem gates_dirNote (k : Nat) (rev : Bool) (d : Dev) : (dirNote k rev d).gates = d.gates := by
  simp only [dirNote]
  split
  · split <;> simp
  · split <;> simp

@[simp] theorem gates_count (k : Nat) (rev : Bool) (d : Dev) : (count k rev d).gates = d.gates := by simp [count]
@[simp] theorem gates_nearEdges (k : Nat) (old l : BitVec 3) (d : Dev) : (nearEdges k old l d).gates = d.gates := by
  simp [nearEdges]
@[simp] theorem gates_dataNote (k : Nat) (old l : BitVec 3) (d : Dev) : (dataNote k old l d).gates = d.gates := by simp [dataNote]

@[simp] theorem gates_hallStep (k : Nat) (l : BitVec 3) (d : Dev) : (hallStep k l d).gates = d.gates := by
  simp only [hallStep]
  split
  · simp
  · split <;> simp

@[simp] theorem gates_indexNote (k : Nat) (l : BitVec 3) (d : Dev) : (indexNote k l d).gates = d.gates := by simp [indexNote]
@[simp] theorem gates_incStep (k : Nat) (old l : BitVec 3) (d : Dev) : (incStep k old l d).gates = d.gates := by simp [incStep]
@[simp] theorem gates_fbAccept (k : Nat) (l : BitVec 3) (d : Dev) : (fbAccept k l d).gates = d.gates := by simp [fbAccept]

@[simp] theorem gates_fbTurn (k : Nat) (l : Option (BitVec 3)) (d : Dev) : (fbTurn k l d).gates = d.gates := by
  unfold fbTurn
  split <;> simp

@[simp] theorem gates_fbLevels (k : Nat) (l : BitVec 3) (ago : Nat) (d : Dev) : (fbLevels k l ago d).gates = d.gates := by
  simp [fbLevels]
@[simp] theorem gates_gateErrors (k : Nat) (d : Dev) : (gateErrors k d).gates = d.gates := by simp [gateErrors]

@[simp] theorem gates_showSpeed (k : Nat) (v : Int) (d : Dev) : (showSpeed k v d).gates = d.gates := by
  simp only [showSpeed]
  split <;> simp

@[simp] theorem gates_gateLand (k : Nat) (d : Dev) : (gateLand k d).gates = d.gates := by simp [gateLand]
@[simp] theorem gates_absGood (k w t : Nat) (d : Dev) : (absGood k w t d).gates = d.gates := by simp [absGood]
@[simp] theorem gates_absBad (k cause : Nat) (d : Dev) : (absBad k cause d).gates = d.gates := by simp [absBad]

@[simp] theorem gates_absEndLand (k : Nat) (d : Dev) : (absEndLand k d).gates = d.gates := by
  unfold absEndLand
  split <;> simp

@[simp] theorem gates_fbBack (k : Nat) (t : Turn) (d : Dev) : (fbBack k t d).gates = d.gates := by
  unfold fbBack
  split <;> simp

@[simp] theorem gates_setPosLand (k : Nat) (d : Dev) : (setPosLand k d).gates = d.gates := by
  simp only [setPosLand]
  rw [gates_foldr (fun t e => by simp)]
  simp

@[simp] theorem gates_fbCmd (k : Nat) (val : Word) (d : Dev) : (fbCmd k val d).gates = d.gates := by
  unfold fbCmd
  split <;> simp

@[simp] theorem gates_fbReload (f : Nat) (d : Dev) : (fbReload f d).gates = d.gates := by simp [fbReload]
@[simp] theorem gates_fbEnable (k : Nat) (d : Dev) : (fbEnable k d).gates = d.gates := by simp [fbEnable]
@[simp] theorem gates_fbSet (old : Dev) (k : Nat) (d : Dev) : (fbSet old k d).gates = d.gates := by simp [fbSet]

/-! ### Sampling -/

@[simp] theorem gates_showSlices (d : Dev) : (showSlices d).gates = d.gates := by simp [showSlices]
@[simp] theorem gates_setSlice (s st : Nat) (d : Dev) : (setSlice s st d).gates = d.gates := by simp [setSlice]
@[simp] theorem gates_dropReq (q : Req) (d : Dev) : (dropReq q d).gates = d.gates := by simp [dropReq]
@[simp] theorem gates_addDel (x : Del) (d : Dev) : (addDel x d).gates = d.gates := by simp [addDel]

@[simp] theorem gates_startConv (q : Req) (slice : Option Nat) (d : Dev) : (startConv q slice d).gates = d.gates := by
  unfold startConv
  split <;> simp

@[simp] theorem gates_sliceAssignLand (d : Dev) : (sliceAssignLand d).gates = d.gates := by
  simp only [sliceAssignLand]
  split
  · rfl
  · split
    · rfl
    · split <;> simp

@[simp] theorem gates_windowTest (r code : Nat) (d : Dev) : (windowTest r code d).gates = d.gates := by simp [windowTest]

@[simp] theorem gates_writeResult (q : Req) (x : Del) (code : Nat) (skip clip : Bool) (d : Dev) : (writeResult q x code skip
    clip d).gates = d.gates := by
  simp [writeResult]

@[simp] theorem gates_writeCtx (q : Req) (code : Nat) (skip clip : Bool) (d : Dev) : (writeCtx q code skip clip d).1.gates =
    d.gates := by
  simp only [writeCtx]
  split
  · simp
  · split <;> simp

@[simp] theorem gates_diagResult (q : Req) (dac tol code : Nat) (clip : Bool) (d : Dev) : (diagResult q dac tol code clip
    d).gates = d.gates := by
  simp [diagResult]

@[simp] theorem gates_countSample (q : Req) (d : Dev) : (countSample q d).gates = d.gates := by
  unfold countSample
  split <;> simp

@[simp] theorem gates_countConv (s : Nat) (d : Dev) : (countConv s d).gates = d.gates := by simp [countConv]

@[simp] theorem gates_deliver (x : Del) (raw : Nat) (pgaClip : Bool) (d : Dev) : (deliver x raw pgaClip d).gates = d.gates := by
  unfold deliver
  split <;> simp

@[simp] theorem gates_takeDel (x : Del) (raw : Nat) (pgaClip : Bool) (d : Dev) : (takeDel x raw pgaClip d).gates = d.gates := by
  simp [takeDel]
@[simp] theorem gates_abandon (q : Req) (d : Dev) : (abandon q d).gates = d.gates := by simp [abandon]

@[simp] theorem gates_deliverAbandoned (d : Dev) : (deliverAbandoned d).gates = d.gates := by
  unfold deliverAbandoned
  refine gates_foldl (fun d i => ?_) _ d
  split <;> simp

@[simp] theorem gates_staleLandReq (d : Dev) : (staleLandReq d).gates = d.gates := by
  unfold staleLandReq
  split <;> simp

@[simp] theorem gates_deliveryLand (raw : Nat) (pgaClip : Bool) (d : Dev) : (deliveryLand raw pgaClip d).gates = d.gates := by
  simp only [deliveryLand]
  split <;> simp

@[simp] theorem gates_manLand (val : Word) (d : Dev) : (manLand val d).gates = d.gates := by simp [manLand]
@[simp] theorem gates_tdAbort (d : Dev) : (tdAbort d).gates = d.gates := by simp [tdAbort]
@[simp] theorem gates_wincfgLand (a : Nat) (val : Word) (d : Dev) : (wincfgLand a val d).gates = d.gates := by simp [wincfgLand]
@[simp] theorem gates_plumbPass (s : Nat) (r : PlumbResult) (d : Dev) : (plumbPass s r d).gates = d.gates := by simp [plumbPass]

@[simp] theorem gates_plumbFail (s cause : Nat) (d : Dev) : (plumbFail s cause d).1.gates = d.gates := by
  simp only [plumbFail]
  split <;> simp

@[simp] theorem gates_plumbBegin (s : Nat) (d : Dev) : (plumbBegin s d).gates = d.gates := by simp [plumbBegin]
@[simp] theorem gates_plumbStop (d : Dev) : (plumbStop d).gates = d.gates := by simp [plumbStop]
@[simp] theorem gates_drain (s : Nat) (d : Dev) : (drain s d).gates = d.gates := by simp [drain]
@[simp] theorem gates_plumbStartLand (s : Nat) (d : Dev) : (plumbStartLand s d).gates = d.gates := by simp [plumbStartLand]

@[simp] theorem gates_plumbEndLand (r : PlumbResult) (d : Dev) : (plumbEndLand r d).gates = d.gates := by
  simp only [plumbEndLand]
  repeat' split
  all_goals simp_all

@[simp] theorem gates_calibrated (d : Dev) : (calibrated d).gates = d.gates := by
  simp only [calibrated]
  split <;> simp

@[simp] theorem gates_initEndLand (rs : List PlumbResult) (d : Dev) : (initEndLand rs d).gates = d.gates := by
  simp only [initEndLand]
  split
  · rw [gates_ite, gates_calibrated, gates_plumbBegin, ite_self, gates_setSamp, gates_progEnd, gates_fst_foldl]
    · simp
    · intro s p
      split <;> simp
  · simp

@[simp] theorem gates_vrefChanged (d : Dev) : (vrefChanged d).gates = d.gates := by simp [vrefChanged]

/-! ### The roster -/

@[simp] theorem gates_countDispatch (late : Bool) (d : Dev) : (countDispatch late d).gates = d.gates := by simp [countDispatch]

@[simp] theorem gates_dispatch (f i action : Nat) {act : Acting → Dev → Dev} (d : Dev) (h : ∀ x e, (act x e).gates = e.gates) :
    (dispatch f i action act d).gates = d.gates := by
  simp only [dispatch]
  repeat' split
  all_goals simp [h]

@[simp] theorem gates_sampleAct (x : Acting) (d : Dev) : (sampleAct x d).gates = d.gates := by simp [sampleAct]
@[simp] theorem gates_jobGone (j : JobWait) (d : Dev) : (jobGone j d).gates = d.gates := by simp [jobGone]
@[simp] theorem gates_jobDrop (kind : Nat) (j : JobWait) (d : Dev) : (jobDrop kind j d).gates = d.gates := by simp [jobDrop]
@[simp] theorem gates_jobReady (j : JobWait) (d : Dev) : (jobReady j d).gates = d.gates := by simp [jobReady]
@[simp] theorem gates_jobOver (j : JobWait) (d : Dev) : (jobOver j d).gates = d.gates := by simp [jobOver]
@[simp] theorem gates_jobAct (x : Acting) (d : Dev) : (jobAct x d).gates = d.gates := by simp [jobAct]

@[simp] theorem gates_jobReadyLand (c : Nat) (d : Dev) : (jobReadyLand c d).gates = d.gates := by
  unfold jobReadyLand
  split <;> simp

@[simp] theorem gates_jobsAtReload (f : Nat) (d : Dev) : (jobsAtReload f d).gates = d.gates := by simp [jobsAtReload]
@[simp] theorem gates_jobsAtStop (f : Nat) (d : Dev) : (jobsAtStop f d).gates = d.gates := by simp [jobsAtStop]
@[simp] theorem gates_commitPointAct (x : Acting) (d : Dev) : (commitPointAct x d).gates = d.gates := by simp [commitPointAct]
@[simp] theorem gates_latePoints (f : Nat) (d : Dev) : (latePoints f d).gates = d.gates := by simp [latePoints]
@[simp] theorem gates_onGang (f g : Nat) {act : Dev → Dev} (d : Dev) (h : (act d).gates = d.gates) :
    (onGang f g act d).gates = d.gates := by simp [onGang, h]
@[simp] theorem gates_refreshAct (x : Acting) (d : Dev) : (refreshAct x d).gates = d.gates := by simp [refreshAct]
@[simp] theorem gates_rotateAct (x : Acting) (d : Dev) : (rotateAct x d).gates = d.gates := by simp [rotateAct]

@[simp] theorem gates_castPointAct (x : Acting) (d : Dev) : (castPointAct x d).gates = d.gates := by
  simp only [castPointAct]
  split <;> simp

@[simp] theorem gates_castsDue (d : Dev) : (castsDue d).gates = d.gates := by simp [castsDue]
@[simp] theorem gates_markAct (x : Acting) (d : Dev) : (markAct x d).gates = d.gates := by simp [markAct]
@[simp] theorem gates_liveWrite (bank : Bool) (kind i : Nat) (d : Dev) : (liveWrite bank kind i d).gates = d.gates := by
  simp [liveWrite]

@[simp] theorem gates_entryLand (bank : Bool) (i : Nat) (low : Option Word) (hi : Word) (d : Dev) : (entryLand bank i low hi
    d).gates = d.gates := by
  simp [entryLand]

@[simp] theorem gates_entryWrite (who : Requester) (a : Nat) (val : Word) (d : Dev) : (entryWrite who a val d).gates = d.gates := by
  unfold entryWrite
  split <;> simp

@[simp] theorem gates_rostCmd (val : Word) (d : Dev) : (rostCmd val d).gates = d.gates := by simp [rostCmd]
@[simp] theorem gates_rostCmdDone (d : Dev) : (rostCmdDone d).gates = d.gates := by simp [rostCmdDone]

/-! ### Frames -/

@[simp] theorem gates_firmwareDuty (g : Nat) (d : Dev) : (firmwareDuty g d).gates = d.gates := by simp [firmwareDuty]
@[simp] theorem gates_reform (g : Nat) (d : Dev) : (reform g d).gates = d.gates := by simp [reform]
@[simp] theorem gates_dissolve (old : Dev) (g : Nat) (d : Dev) : (dissolve old g d).gates = d.gates := by simp [dissolve]
@[simp] theorem gates_keepHold (old : Dev) (g : Nat) (d : Dev) : (keepHold old g d).gates = d.gates := by simp [keepHold]

@[simp] theorem gates_framesLow (f : Nat) (d : Dev) : (framesLow f d).gates = d.gates := by
  unfold framesLow
  refine gates_each (fun g d => (gates_each (fun n e => ?_) _ _).trans (by simp)) _ d
  rw [gates_setLeg] <;> simp [leg_gh, leg_gl]

@[simp] theorem gates_stopOne (f : Nat) (waits : Bool) (d : Dev) : (stopOne f waits d).gates = d.gates := by simp [stopOne]
@[simp] theorem gates_stopFrame (f : Nat) (waits : Bool) (d : Dev) : (stopFrame f waits d).gates = d.gates := by simp [stopFrame]

@[simp] theorem gates_swapFrame (f : Nat) (d : Dev) : (swapFrame f d).gates = d.gates := by
  unfold swapFrame
  split <;> simp

@[simp] theorem gates_rosterSet (d : Dev) : (rosterSet d).gates = d.gates := by
  unfold rosterSet
  split <;> simp

@[simp] theorem gates_idleBanks (d : Dev) : (idleBanks d).gates = d.gates := by simp [idleBanks]
@[simp] theorem gates_swapAt (f : Nat) (d : Dev) : (swapAt f d).gates = d.gates := by simp [swapAt]
@[simp] theorem gates_beyond (f t : Nat) (d : Dev) : (beyond f t d).gates = d.gates := by simp [beyond]
@[simp] theorem gates_beginPeriod (f t : Nat) (d : Dev) : (beginPeriod f t d).gates = d.gates := by simp [beginPeriod]
@[simp] theorem gates_tellLocked (f : Nat) (d : Dev) : (tellLocked f d).gates = d.gates := by simp [tellLocked]
@[simp] theorem gates_afterReload (f t : Nat) (hasCp : Bool) (d : Dev) : (afterReload f t hasCp d).gates = d.gates := by
  simp [afterReload]
@[simp] theorem gates_firstReload (f t : Nat) (d : Dev) : (firstReload f t d).gates = d.gates := by simp [firstReload]

@[simp] theorem gates_frameStart (f : Nat) (d : Dev) : (frameStart f d).gates = d.gates := by
  simp only [frameStart]
  split <;> simp

@[simp] theorem gates_setOne (c : Commit) (d : Dev) : (setOne c d).gates = d.gates := by simp [setOne]
@[simp] theorem gates_engineSet (old d : Dev) : (engineSet old d).gates = d.gates := by simp [engineSet]
@[simp] theorem gates_samplingSet (old d : Dev) : (samplingSet old d).gates = d.gates := by simp [samplingSet]
@[simp] theorem gates_slipArmed (f t : Nat) (hasCp : Bool) (d : Dev) : (slipArmed f t hasCp d).gates = d.gates := by
  simp [slipArmed]
@[simp] theorem gates_gangsEmptied (d : Dev) : (gangsEmptied d).gates = d.gates := by simp [gangsEmptied]
@[simp] theorem gates_regangsDue (d : Dev) : (regangsDue d).gates = d.gates := by simp [regangsDue]

/-! ### Authority -/

@[simp] theorem gates_switchTo (new : Nat) (d : Dev) : (switchTo new d).gates = d.gates := by simp [switchTo]
@[simp] theorem gates_clearReq (d : Dev) : (clearReq d).gates = d.gates := by simp [clearReq]

@[simp] theorem gates_switchDue (new : Nat) (d : Dev) : (switchDue new d).gates = d.gates := by
  unfold switchDue
  split <;> simp

@[simp] theorem gates_takeLand (d : Dev) : (takeLand d).gates = d.gates := by simp [takeLand]
@[simp] theorem gates_authIgn (d : Dev) : (authIgn d).gates = d.gates := by simp [authIgn]
@[simp] theorem gates_requestLand (core nonce : Nat) (d : Dev) : (requestLand core nonce d).gates = d.gates := by
  simp [requestLand]
@[simp] theorem gates_releaseLand (d : Dev) : (releaseLand d).gates = d.gates := by simp [releaseLand]
@[simp] theorem gates_evtUndo (mask : Word) (d : Dev) : (evtUndo mask d).gates = d.gates := by simp [evtUndo]

@[simp] theorem gates_grantLand (nonce : Nat) (d : Dev) : (grantLand nonce d).gates = d.gates := by
  simp only [grantLand]
  split
  · simp
  · split <;> simp

@[simp] theorem gates_denyLand (d : Dev) : (denyLand d).gates = d.gates := by simp [denyLand]

@[simp] theorem gates_authCmd (some_ : Bool) (f : Dev → Dev) (d : Dev) (h : ∀ e, (f e).gates = e.gates) : (authCmd some_ f
    d).gates = d.gates := by
  simp [authCmd, h]

@[simp] theorem gates_hcmdAct (who : Requester) (val : Word) (d : Dev) : (hcmdWrite.hcmdAct who val d).gates = d.gates := by
  unfold hcmdWrite.hcmdAct
  split
  · split <;> simp
  · simp

@[simp] theorem gates_hcmdWrite (who : Requester) (val : Word) (d : Dev) : (hcmdWrite who val d).gates = d.gates := by
  simp [hcmdWrite]

@[simp] theorem gates_dcmdAct (who : Requester) (val : Word) (d : Dev) : (dcmdWrite.dcmdAct who val d).gates = d.gates := by
  unfold dcmdWrite.dcmdAct
  split
  · simp
  · split <;> simp

@[simp] theorem gates_dcmdWrite (who : Requester) (val : Word) (d : Dev) : (dcmdWrite who val d).gates = d.gates := by
  simp [dcmdWrite]
@[simp] theorem gates_reqTimeoutLand (d : Dev) : (reqTimeoutLand d).gates = d.gates := by simp [reqTimeoutLand]
@[simp] theorem gates_staleUndo (x : Stale) (d : Dev) : (staleUndo x d).gates = d.gates := by simp [staleUndo]

@[simp] theorem gates_beatFirst (side : Nat) (d : Dev) : (beatFirst side d).gates = d.gates := by
  unfold beatFirst
  split <;> simp

@[simp] theorem gates_beatLand (who : Requester) (dbeat : Bool) (d : Dev) : (beatLand who dbeat d).gates = d.gates := by
  simp [beatLand]
@[simp] theorem gates_beatLateLand (d : Dev) : (beatLateLand d).gates = d.gates := by simp [beatLateLand]

@[simp] theorem gates_authUndo (d : Dev) : (authUndo d).gates = d.gates := by
  unfold authUndo
  split <;> simp

@[simp] theorem gates_conflictLand (cause : Nat) (d : Dev) : (conflictLand cause d).gates = d.gates := by simp [conflictLand]
@[simp] theorem gates_staleLand (d : Dev) : (staleLand d).gates = d.gates := by simp [staleLand]

@[simp] theorem gates_authTick (d : Dev) : (authTick d).gates = d.gates := by
  unfold authTick
  split <;> simp

@[simp] theorem gates_logBlocked (who : Requester) (a : Nat) (d : Dev) : (logBlocked who a d).gates = d.gates := by
  simp [logBlocked]

@[simp] theorem gates_allowed (who : Requester) (a : Nat) (d : Dev) (f : Dev → Dev) (h : ∀ e, (f e).gates = e.gates) : (allowed
    who a d f).gates = d.gates := by
  simp [allowed, h]

/-! ### The collector -/

@[simp] theorem gates_setFlt (d : Dev) (f : FltRec → FltRec) : (d.setFlt f).gates = d.gates := by simp [Dev.setFlt]
@[simp] theorem gates_noteFault (s : Scope) (d : Dev) : (noteFault s d).gates = d.gates := by simp [noteFault]
@[simp] theorem gates_openFault (s : Scope) (lvl : Nat) (d : Dev) : (openFault s lvl d).gates = d.gates := by simp [openFault]
@[simp] theorem gates_closeFaults (ss : List Scope) (d : Dev) : (closeFaults ss d).gates = d.gates := by simp [closeFaults]

@[simp] theorem gates_recEnd (reason : Nat) (d : Dev) : (recEnd reason d).gates = d.gates := by
  unfold recEnd
  split <;> simp

@[simp] theorem gates_supersede (lvl : Nat) (dies : List Nat) (d : Dev) : (supersede lvl dies d).gates = d.gates := by
  simp only [supersede]
  split
  · simp
  · split <;> simp

@[simp] theorem gates_journal (leg kind : Nat) (ret : Bool) (d : Dev) : (journal leg kind ret d).gates = d.gates := by
  simp [journal]
@[simp] theorem gates_collectorRetire (n kind : Nat) (d : Dev) : (collectorRetire n kind d).gates = d.gates := by
  simp [collectorRetire]

@[simp] theorem gates_occur (n cls kind at_ det : Nat) (trip : Bool) (d : Dev) : (occur n cls kind at_ det trip d).1.gates =
    d.gates := by
  simp only [occur]
  split <;> simp

@[simp] theorem gates_attributeTrip (g n det : Nat) (d : Dev) : (attributeTrip g n det d).gates = d.gates := by
  simp [attributeTrip]

@[simp] theorem gates_noteTrip (m : FaultMsg) (d : Dev) : (noteTrip m d).gates = d.gates := by
  simp only [noteTrip]
  split
  · simp
  · split <;> simp

@[simp] theorem gates_retryRules (m : FaultMsg) (at_ lvl : Nat) (d : Dev) : (retryRules m at_ lvl d).gates = d.gates := by
  simp only [retryRules]
  split
  · simp
  · split <;> simp

@[simp] theorem gates_reactOwner (o : Scope) (msg : Word) (d : Dev) : (reactOwner o msg d).gates = d.gates := by
  unfold reactOwner
  split <;> simp

@[simp] theorem gates_reactDie (msg : Word) (k : Nat) (d : Dev) : (reactDie msg k d).gates = d.gates := by simp [reactDie]
@[simp] theorem gates_enterSafe (msg : Word) (d : Dev) : (enterSafe msg d).gates = d.gates := by simp [enterSafe]

@[simp] theorem gates_react (m : FaultMsg) (lvl : Nat) (d : Dev) : (react m lvl d).gates = d.gates := by
  unfold react
  repeat' split
  all_goals simp

@[simp] theorem gates_tallyPut (lo hi : Word) (d : Dev) : (tallyPut lo hi d).gates = d.gates := by simp [tallyPut]

@[simp] theorem gates_tallyTake (d : Dev) : (tallyTake d).2.gates = d.gates := by
  unfold tallyTake
  split <;> simp

@[simp] theorem gates_clearTally (d : Dev) : (clearTally d).gates = d.gates := by simp [clearTally]
@[simp] theorem gates_clearFirst (d : Dev) : (clearFirst d).gates = d.gates := by simp [clearFirst]
@[simp] theorem gates_firstPut (lo hi : Word) (arrival : Nat) (d : Dev) : (firstPut lo hi arrival d).gates = d.gates := by
  simp [firstPut]
@[simp] theorem gates_injEnd (st kind syn : Nat) (d : Dev) : (injEnd st kind syn d).gates = d.gates := by simp [injEnd]
@[simp] theorem gates_decideInjected (m : FaultMsg) (arrival : Nat) (d : Dev) : (decideInjected m arrival d).gates = d.gates := by
  simp [decideInjected]

@[simp] theorem gates_refusal (n : Nat) (soft : Bool) (d : Dev) : (refusal n soft d).1.gates = d.gates := by
  unfold refusal
  split <;> simp

@[simp] theorem gates_retryRefused (n : Nat) (soft : Bool) (refused : List Retry) (d : Dev) : (retryRefused n soft refused
    d).gates = d.gates := by
  simp [retryRefused]

@[simp] theorem gates_retryClear (n : Nat) (chk : Bool) (hr sr : CompRead) (d : Dev) : (retryClear n chk hr sr d).gates =
    d.gates := by
  simp [retryClear]

@[simp] theorem gates_occExpire (n cls : Nat) (d : Dev) : (occExpire n cls d).gates = d.gates := by simp [occExpire]

@[simp] theorem gates_recoverLand (who : Requester) (scope idx : Nat) (d : Dev) :
    (recoverLand who scope idx d).gates = d.gates := by
  simp only [recoverLand]
  split
  · simp
  · split <;> simp

@[simp] theorem gates_cancelLand (d : Dev) : (cancelLand d).gates = d.gates := by simp [cancelLand]

@[simp] theorem gates_sendClears (lost ns : List Nat) (d : Dev) : (sendClears lost ns d).1.gates = d.gates := by
  induction ns generalizing d with
  | nil => rfl
  | cons n ns ih => simp [sendClears, ih]

@[simp] theorem gates_releaseOwner (s : Scope) (d : Dev) : (releaseOwner s d).gates = d.gates := by
  unfold releaseOwner
  split <;> simp

@[simp] theorem gates_showStopped (d : Dev) : (showStopped d).gates = d.gates := by simp [showStopped]
@[simp] theorem gates_injWrite (val : Word) (d : Dev) : (injWrite val d).gates = d.gates := by simp [injWrite]
@[simp] theorem gates_injTimeoutLand (d : Dev) : (injTimeoutLand d).gates = d.gates := by simp [injTimeoutLand]

/-! ### The night shift -/

@[simp] theorem gates_writeBack (m a : Nat) (d : Dev) : (writeBack m a d).gates = d.gates := by simp [writeBack]
@[simp] theorem gates_skimNext (m a : Nat) (d : Dev) : (skimNext m a d).gates = d.gates := by simp [skimNext]

@[simp] theorem gates_skimLand (m : Nat) (ecc : Ecc) (d : Dev) : (skimLand m ecc d).gates = d.gates := by
  simp only [skimLand]
  repeat' split
  all_goals simp_all

@[simp] theorem gates_nvRead (a n : Nat) (d : Dev) : (nvRead a n d).2.gates = d.gates := by
  unfold nvRead
  split <;> simp

@[simp] theorem gates_journalRead (s n : Nat) (d : Dev) : (journalRead s n d).2.gates = d.gates := by simp [journalRead]
@[simp] theorem gates_setJmap (leg : Nat) (v : Bool) (d : Dev) : (setJmap leg v d).gates = d.gates := by simp [setJmap]
@[simp] theorem gates_putAtHead (bs : List Byte) (d : Dev) : (putAtHead bs d).gates = d.gates := by simp [putAtHead]
@[simp] theorem gates_showReclaim (d : Dev) : (showReclaim d).gates = d.gates := by simp [showReclaim]

@[simp] theorem gates_appendLand (ok : Bool) (d : Dev) : (appendLand ok d).gates = d.gates := by
  unfold appendLand
  split <;> simp

@[simp] theorem gates_reclaimLand (d : Dev) : (reclaimLand d).gates = d.gates := by
  unfold reclaimLand
  split <;> simp

@[simp] theorem gates_scanLand (d : Dev) : (scanLand d).gates = d.gates := by simp [scanLand]
@[simp] theorem gates_jcmdLand (who : Requester) (val : Word) (d : Dev) : (jcmdLand who val d).gates = d.gates := by
  simp [jcmdLand]
@[simp] theorem gates_formatLand (d : Dev) : (formatLand d).gates = d.gates := by simp [formatLand]
@[simp] theorem gates_bgRequest (tag input : Nat) (d : Dev) : (bgRequest tag input d).gates = d.gates := by simp [bgRequest]
@[simp] theorem gates_bgDrop (lo n : Nat) (d : Dev) : (bgDrop lo n d).gates = d.gates := by simp [bgDrop]
@[simp] theorem gates_telemStart (d : Dev) : (telemStart d).gates = d.gates := by simp [telemStart]

@[simp] theorem gates_telemRecord (d : Dev) : (telemRecord d).gates = d.gates := by
  unfold telemRecord
  split <;> simp

@[simp] theorem gates_dampOver (d : Dev) : (dampOver d).gates = d.gates := by
  unfold dampOver
  split <;> simp

@[simp] theorem gates_dampAbandon (d : Dev) : (dampAbandon d).gates = d.gates := by simp [dampAbandon]
@[simp] theorem gates_dampStart (d : Dev) : (dampStart d).gates = d.gates := by simp [dampStart]

@[simp] theorem gates_dampSettle (d : Dev) : (dampSettle d).gates = d.gates := by
  unfold dampSettle
  split <;> simp

@[simp] theorem gates_dampLevel (kind r lvl : Nat) (sent : Bool) (d : Dev) : (dampLevel kind r lvl sent d).2.gates = d.gates := by
  simp only [dampLevel]
  split
  · simp
  · split <;> simp

@[simp] theorem gates_dampReport (r : Nat) (d : Dev) : (dampReport r d).gates = d.gates := by simp [dampReport]

@[simp] theorem gates_dampAverage (d : Dev) : (dampAverage d).gates = d.gates := by
  simp only [dampAverage]
  repeat' split
  all_goals simp_all

@[simp] theorem gates_dampAbandonLand (d : Dev) : (dampAbandonLand d).gates = d.gates := by
  unfold dampAbandonLand
  split <;> simp

@[simp] theorem gates_dampMode (d : Dev) : (dampMode d).gates = d.gates := by simp [dampMode]
@[simp] theorem gates_bgWrite (who : Requester) (off : Nat) (val : Word) (d : Dev) : (bgWrite who off val d).gates = d.gates := by
  simp [bgWrite]
@[simp] theorem gates_nvskWrite (who : Requester) (val : Word) (d : Dev) : (nvskWrite who val d).gates = d.gates := by
  simp [nvskWrite]

/-! ### The system -/

@[simp] theorem gates_modeHooks (old : Mode) (d : Dev) : (modeHooks old d).gates = d.gates := by simp [modeHooks]
@[simp] theorem gates_changeMode (m : Mode) (d : Dev) : (changeMode m d).gates = d.gates := by simp [changeMode]
@[simp] theorem gates_enterHalt (d : Dev) : (enterHalt d).gates = d.gates := by simp [enterHalt]
@[simp] theorem gates_dmi (f : Dev → Dev) (d : Dev) (h : ∀ e, (f e).gates = e.gates) : (dmi f d).gates = d.gates := by
  simp [dmi, h]

@[simp] theorem gates_accessRegister (h no : Nat) (write : Bool) (d : Dev) : (accessRegister h no write d).gates = d.gates := by
  simp only [accessRegister]
  split
  · simp
  · split <;> simp

@[simp] theorem gates_jtagOp (op : JtagOp) (d : Dev) : (jtagOp op d).gates = d.gates := by
  unfold jtagOp
  split <;> simp

@[simp] theorem gates_hartHalt (h : Nat) (d : Dev) : (hartHalt h d).gates = d.gates := by simp [hartHalt]

@[simp] theorem gates_debugHaltLand (h : Nat) (req : HaltReq) (jtag : List JtagOp) (d : Dev) : (debugHaltLand h req jtag
    d).gates = d.gates := by
  simp only [debugHaltLand]
  split
  · simp
  · split <;> simp

@[simp] theorem gates_debugResumeLand (h : Nat) (jtag : List JtagOp) (d : Dev) : (debugResumeLand h jtag d).gates = d.gates := by
  simp [debugResumeLand]
@[simp] theorem gates_drainRecords (d : Dev) : (drainRecords d).gates = d.gates := by simp [drainRecords]

@[simp] theorem gates_modeReqLand (who : Requester) (val : Word) (d : Dev) : (modeReqLand who val d).gates = d.gates := by
  simp only [modeReqLand]
  split
  · simp
  · split
    · simp
    · split <;> simp

@[simp] theorem gates_hctlLand (who : Requester) (val : Word) (d : Dev) : (hctlLand who val d).gates = d.gates := by
  simp [hctlLand]
@[simp] theorem gates_pllLockLand (d : Dev) : (pllLockLand d).gates = d.gates := by simp [pllLockLand]
@[simp] theorem gates_clkCfgLand (val : Word) (d : Dev) : (clkCfgLand val d).gates = d.gates := by simp [clkCfgLand]
@[simp] theorem gates_setQueued (n : Nat) (w : Word) (d : Dev) : (setQueued n w d).gates = d.gates := by simp [setQueued]
@[simp] theorem gates_unqueue (n b : Nat) (d : Dev) : (unqueue n b d).gates = d.gates := by simp [unqueue]
@[simp] theorem gates_canWithdraw (n b : Nat) (d : Dev) : (canWithdraw n b d).gates = d.gates := by simp [canWithdraw]
@[simp] theorem gates_canBusFree (n : Nat) (d : Dev) : (canBusFree n d).gates = d.gates := by simp [canBusFree]

@[simp] theorem gates_canFrameError (n : Nat) (d : Dev) : (canFrameError n d).gates = d.gates := by
  simp only [canFrameError]
  split <;> simp

@[simp] theorem gates_canOffline (n : Nat) (rx : Bool) (d : Dev) : (canOffline n rx d).gates = d.gates := by simp [canOffline]

@[simp] theorem gates_spreadChangeLand (rx : BitVec 2) (d : Dev) : (spreadChangeLand rx d).gates = d.gates := by
  unfold spreadChangeLand
  split <;> simp

@[simp] theorem gates_relockLand (d : Dev) : (relockLand d).gates = d.gates := by simp [relockLand]
@[simp] theorem gates_coreSupplyLand (r : Nat) (high : Bool) (d : Dev) : (coreSupplyLand r high d).gates = d.gates := by
  simp [coreSupplyLand]
@[simp] theorem gates_coreSupplyReturnLand (r : Nat) (d : Dev) : (coreSupplyReturnLand r d).gates = d.gates := by
  simp [coreSupplyReturnLand]
@[simp] theorem gates_setTemp (k t : Nat) (d : Dev) : (setTemp k t d).gates = d.gates := by simp [setTemp]
@[simp] theorem gates_sendTemp (k kind t : Nat) (evt : Fld) (d : Dev) : (sendTemp k kind t evt d).gates = d.gates := by
  simp [sendTemp]
@[simp] theorem gates_tempWarnLand (k t : Nat) (d : Dev) : (tempWarnLand k t d).gates = d.gates := by simp [tempWarnLand]
@[simp] theorem gates_tempShutLand (k t : Nat) (d : Dev) : (tempShutLand k t d).gates = d.gates := by simp [tempShutLand]
@[simp] theorem gates_tempFallLand (k t : Nat) (d : Dev) : (tempFallLand k t d).gates = d.gates := by simp [tempFallLand]
@[simp] theorem gates_powerUpDoneLand (d : Dev) : (powerUpDoneLand d).gates = d.gates := by simp [powerUpDoneLand]
@[simp] theorem gates_setRtc (n : Nat) (d : Dev) : (setRtc n d).gates = d.gates := by simp [setRtc]
@[simp] theorem gates_wakeCauseWrite (val : Word) (d : Dev) : (wakeCauseWrite val d).gates = d.gates := by simp [wakeCauseWrite]

@[simp] theorem gates_bootDoneLand (d : Dev) : (bootDoneLand d).gates = d.gates := by
  simp only [bootDoneLand]
  split
  · simp
  · split <;> simp

@[simp] theorem gates_updStart (op : Nat) (d : Dev) : (updCtlLand.start op d).gates = d.gates := by simp [updCtlLand.start]

@[simp] theorem gates_updCtlLand (val : Word) (d : Dev) : (updCtlLand val d).gates = d.gates := by
  simp only [updCtlLand]
  split
  · rfl
  · split <;> simp

@[simp] theorem gates_updDoneLand (d : Dev) : (updDoneLand d).gates = d.gates := by
  simp only [updDoneLand]
  split
  · simp
  · split <;> simp

@[simp] theorem gates_hewerWdtSend (h : Nat) (d : Dev) : (hewerWdtSend h d).gates = d.gates := by simp [hewerWdtSend]
@[simp] theorem gates_hwdtLand (who : Requester) (h : Nat) (val : Word) (d : Dev) : (hwdtLand who h val d).gates = d.gates := by
  simp [hwdtLand]
@[simp] theorem gates_hkickLand (who : Requester) (h : Nat) (val : Word) (d : Dev) : (hkickLand who h val d).gates = d.gates := by
  simp [hkickLand]
@[simp] theorem gates_hewerWdtLand (h : Nat) (d : Dev) : (hewerWdtLand h d).gates = d.gates := by simp [hewerWdtLand]
@[simp] theorem gates_depWdtSend (d : Dev) : (depWdtSend d).gates = d.gates := by simp [depWdtSend]
@[simp] theorem gates_dwdtLand (who : Requester) (val : Word) (d : Dev) : (dwdtLand who val d).gates = d.gates := by
  simp [dwdtLand]
@[simp] theorem gates_dkickLand (who : Requester) (val : Word) (d : Dev) : (dkickLand who val d).gates = d.gates := by
  simp [dkickLand]
@[simp] theorem gates_depWdtLand (d : Dev) : (depWdtLand d).gates = d.gates := by simp [depWdtLand]
@[simp] theorem gates_dbgLand (who : Requester) (val : Word) (d : Dev) : (dbgLand who val d).gates = d.gates := by simp [dbgLand]
@[simp] theorem gates_lockstepLand (d : Dev) : (lockstepLand d).gates = d.gates := by simp [lockstepLand]

/-! ### CAN, UART, I²C, pins and timers -/

@[simp] theorem gates_canStart (n : Nat) (starts : Bool) (d : Dev) : (canStart n starts d).gates = d.gates := by simp [canStart]
@[simp] theorem gates_canModeLand (n : Nat) (val : Word) (d : Dev) : (canModeLand n val d).gates = d.gates := by
  simp [canModeLand]
@[simp] theorem gates_canSendLand (n : Nat) (val : Word) (d : Dev) : (canSendLand n val d).gates = d.gates := by
  simp [canSendLand]
@[simp] theorem gates_canAbortLand (n : Nat) (val : Word) (d : Dev) : (canAbortLand n val d).gates = d.gates := by
  simp [canAbortLand]
@[simp] theorem gates_canCounters (n tec rec : Nat) (d : Dev) : (canCounters n tec rec d).gates = d.gates := by simp [canCounters]
@[simp] theorem gates_canShow (n : Nat) (d : Dev) : (canShow n d).gates = d.gates := by simp [canShow]

@[simp] theorem gates_canKeep (n : Nat) (ws : List Word) (sof : Nat) (d : Dev) : (canKeep n ws sof d).gates = d.gates := by
  simp only [canKeep]
  split <;> simp

@[simp] theorem gates_canRxLand (n : Nat) (ws : List Word) (sof : Nat) (d : Dev) : (canRxLand n ws sof d).gates = d.gates := by
  simp [canRxLand]
@[simp] theorem gates_canLoop (n b sof : Nat) (d : Dev) : (canLoop n b sof d).gates = d.gates := by simp [canLoop]
@[simp] theorem gates_txDoneLand (n b sof : Nat) (d : Dev) : (txDoneLand n b sof d).gates = d.gates := by simp [txDoneLand]
@[simp] theorem gates_rxnextLand (n : Nat) (val : Word) (d : Dev) : (rxnextLand n val d).gates = d.gates := by simp [rxnextLand]
@[simp] theorem gates_busoffLand (n : Nat) (d : Dev) : (busoffLand n d).gates = d.gates := by simp [busoffLand]
@[simp] theorem gates_canRejoinLand (n : Nat) (d : Dev) : (canRejoinLand n d).gates = d.gates := by simp [canRejoinLand]
@[simp] theorem gates_canErrorLand (n kind : Nat) (tx : Bool) (d : Dev) : (canErrorLand n kind tx d).gates = d.gates := by
  simp [canErrorLand]
@[simp] theorem gates_canWrite (n off : Nat) (val : Word) (d : Dev) : (canWrite n off val d).gates = d.gates := by simp [canWrite]
@[simp] theorem gates_uartShow (n : Nat) (d : Dev) : (uartShow n d).gates = d.gates := by simp [uartShow]
@[simp] theorem gates_uartTxLand (n : Nat) (val : Word) (d : Dev) : (uartTxLand n val d).gates = d.gates := by simp [uartTxLand]

@[simp] theorem gates_uartRxLand (n : Nat) (b : Byte) (perr ferr brk : Bool) (d : Dev) : (uartRxLand n b perr ferr brk d).gates
    = d.gates := by
  simp [uartRxLand]

@[simp] theorem gates_uartTake (n : Nat) (d : Dev) : (uartTake n d).2.gates = d.gates := by
  unfold uartTake
  split <;> simp

@[simp] theorem gates_uartTxByteLand (n : Nat) (d : Dev) : (uartTxByteLand n d).gates = d.gates := by simp [uartTxByteLand]
@[simp] theorem gates_i2cCmdLand (val : Word) (d : Dev) : (i2cCmdLand val d).gates = d.gates := by simp [i2cCmdLand]

@[simp] theorem gates_i2cDoneLand (cause : Nat) (done : BitVec 6) (data : List Byte) (pec : Byte) (d : Dev) : (i2cDoneLand cause
    done data pec d).gates = d.gates := by
  simp [i2cDoneLand]

@[simp] theorem gates_gpioOutWrite (off : Nat) (val : Word) (d : Dev) : (gpioOutWrite off val d).gates = d.gates := by
  simp [gpioOutWrite]
@[simp] theorem gates_gpioEdgeLand (n : Nat) (rising : Bool) (d : Dev) : (gpioEdgeLand n rising d).gates = d.gates := by
  simp [gpioEdgeLand]
@[simp] theorem gates_setTimer (k t : Nat) (d : Dev) : (setTimer k t d).gates = d.gates := by simp [setTimer]
@[simp] theorem gates_tmrCfgWrite (k : Nat) (val : Word) (d : Dev) : (tmrCfgWrite k val d).gates = d.gates := by
  simp [tmrCfgWrite]
@[simp] theorem gates_timerWrapLand (k : Nat) (d : Dev) : (timerWrapLand k d).gates = d.gates := by simp [timerWrapLand]
@[simp] theorem gates_timerCaptureLand (k : Nat) (rising : Bool) (d : Dev) : (timerCaptureLand k rising d).gates = d.gates := by
  simp [timerCaptureLand]
@[simp] theorem gates_tampcfgWrite (who : Requester) (val : Word) (d : Dev) : (tampcfgWrite who val d).gates = d.gates := by
  simp [tampcfgWrite]
@[simp] theorem gates_tampstatLand (who : Requester) (val : Word) (d : Dev) : (tampstatLand who val d).gates = d.gates := by
  simp [tampstatLand]

/-! ### The link -/

@[simp] theorem gates_setOfs (x : Int) (d : Dev) : (setOfs x d).gates = d.gates := by simp [setOfs]
@[simp] theorem gates_linkUnlock (d : Dev) : (linkUnlock d).gates = d.gates := by simp [linkUnlock]
@[simp] theorem gates_linkCfgWrite (val : Word) (d : Dev) : (linkCfgWrite val d).gates = d.gates := by simp [linkCfgWrite]
@[simp] theorem gates_linkSyncWrite (val : Word) (d : Dev) : (linkSyncWrite val d).gates = d.gates := by simp [linkSyncWrite]
@[simp] theorem gates_portUpLand (p : Nat) (d : Dev) : (portUpLand p d).gates = d.gates := by simp [portUpLand]
@[simp] theorem gates_linkLostLand (p : Nat) (d : Dev) : (linkLostLand p d).gates = d.gates := by simp [linkLostLand]
@[simp] theorem gates_linkErr (port cause src : Nat) (d : Dev) : (linkErr port cause src d).gates = d.gates := by simp [linkErr]
@[simp] theorem gates_linkDrop (port cause src : Nat) (msg : Bool) (d : Dev) : (linkDrop port cause src msg d).gates = d.gates := by
  simp [linkDrop]
@[simp] theorem gates_setOut (p : Nat) (l : List LinkOut) (d : Dev) : (setOut p l d).gates = d.gates := by simp [setOut]
@[simp] theorem gates_linkPut (p : Nat) (f : LinkFrame) (mine : Bool) (d : Dev) : (linkPut p f mine d).gates = d.gates := by
  simp [linkPut]
@[simp] theorem gates_outErase (p i : Nat) (d : Dev) : (outErase p i d).gates = d.gates := by simp [outErase]
@[simp] theorem gates_linkReply (p : Nat) (f : LinkFrame) (ok : Bool) (d : Dev) : (linkReply p f ok d).gates = d.gates := by
  simp [linkReply]

@[simp] theorem gates_rxShow (d : Dev) : (rxShow d).gates = d.gates := by
  unfold rxShow
  split <;> simp

@[simp] theorem gates_rxKeep (f : LinkFrame) (d : Dev) : (rxKeep f d).gates = d.gates := by simp [rxKeep]

@[simp] theorem gates_rxDeliver (p : Nat) (f : LinkFrame) (g : Dev → Dev) (d : Dev) (h : ∀ e, (g e).gates = e.gates) :
    (rxDeliver p f g d).gates = d.gates := by
  simp [rxDeliver, h]

@[simp] theorem gates_linkForward (p : Nat) (f : LinkFrame) (d : Dev) : (linkForward p f d).gates = d.gates := by
  simp only [linkForward]
  split
  · simp
  · split <;> simp

@[simp] theorem gates_linkCopies (ps : List Nat) (p : Nat) (f : LinkFrame) (d : Dev) : (linkCopies ps p f d).gates = d.gates := by
  simp [linkCopies]
@[simp] theorem gates_linkBroadcast (p : Nat) (f : LinkFrame) (d : Dev) : (linkBroadcast p f d).gates = d.gates := by
  simp [linkBroadcast]

@[simp] theorem gates_linkArrives (p : Nat) (crc : Word) (f : LinkFrame) (d : Dev) (g : Dev → Dev) (h : ∀ e, (g e).gates =
    e.gates) : (linkArrives p crc f d g).gates = d.gates := by
  simp [linkArrives, h]

@[simp] theorem gates_linkForwardLand (p : Nat) (crc : Word) (f : LinkFrame) (d : Dev) : (linkForwardLand p crc f d).gates =
    d.gates := by
  simp [linkForwardLand]

@[simp] theorem gates_linkDeliverLand (type p : Nat) (crc : Word) (f : LinkFrame) (d : Dev) : (linkDeliverLand type p crc f
    d).gates = d.gates := by
  simp [linkDeliverLand]

@[simp] theorem gates_rxctlLand (val : Word) (d : Dev) : (rxctlLand val d).gates = d.gates := by simp [rxctlLand]
@[simp] theorem gates_setTx (st : Nat) (d : Dev) : (setTx st d).gates = d.gates := by simp [setTx]
@[simp] theorem gates_txDone (d : Dev) : (txDone d).gates = d.gates := by simp [txDone]
@[simp] theorem gates_txRefused (f : LinkFrame) (d : Dev) : (txRefused f d).gates = d.gates := by simp [txRefused]

@[simp] theorem gates_txctlLand (val : Word) (d : Dev) : (txctlLand val d).gates = d.gates := by
  simp only [txctlLand]
  repeat' split
  all_goals simp_all

@[simp] theorem gates_linkAckLand (p i : Nat) (d : Dev) : (linkAckLand p i d).gates = d.gates := by
  unfold linkAckLand
  split <;> simp

@[simp] theorem gates_linkResendLand (p i : Nat) (refused : Bool) (d : Dev) : (linkResendLand p i refused d).gates = d.gates := by
  unfold linkResendLand
  split <;> simp

@[simp] theorem gates_linkLock (d : Dev) : (linkLock d).gates = d.gates := by simp [linkLock]
@[simp] theorem gates_linkSyncLand (t1 frac hops : Nat) (d : Dev) : (linkSyncLand t1 frac hops d).gates = d.gates := by
  simp [linkSyncLand]
@[simp] theorem gates_syncSendLand (frac : Nat) (d : Dev) : (syncSendLand frac d).gates = d.gates := by simp [syncSendLand]
@[simp] theorem gates_linkDreqLand (p frac : Nat) (d : Dev) : (linkDreqLand p frac d).gates = d.gates := by simp [linkDreqLand]

@[simp] theorem gates_linkDrespLand (t4 : Nat) (d : Dev) : (linkDrespLand t4 d).gates = d.gates := by
  unfold linkDrespLand
  split <;> simp

@[simp] theorem gates_syncLossLand (d : Dev) : (syncLossLand d).gates = d.gates := by
  unfold syncLossLand
  split <;> simp

/-! ### The Banksman's port -/

@[simp] theorem gates_setDma (ch st : Nat) (d : Dev) : (setDma ch st d).gates = d.gates := by simp [setDma]
@[simp] theorem gates_dmaErr (ch : Nat) (d : Dev) : (dmaErr ch d).gates = d.gates := by simp [dmaErr]
@[simp] theorem gates_dmaCtl (ch : Nat) (val : Word) (d : Dev) : (dmaCtl ch val d).gates = d.gates := by simp [dmaCtl]
@[simp] theorem gates_setAge (r a : Nat) (d : Dev) : (setAge r a d).gates = d.gates := by simp [setAge]
@[simp] theorem gates_endGrant (d : Dev) : (endGrant d).gates = d.gates := by simp [endGrant]
@[simp] theorem gates_ageOne (r : Nat) (d : Dev) : (ageOne r d).gates = d.gates := by simp [ageOne]

@[simp] theorem gates_revise (waits : List Nat) (d : Dev) : (revise waits d).gates = d.gates := by
  simp only [revise]
  repeat' split
  all_goals simp_all

@[simp] theorem gates_maskPhase (d : Dev) : (maskPhase d).gates = d.gates := by simp [maskPhase]
@[simp] theorem gates_grantPhase (ended : Bool) (beats : Nat) (d : Dev) : (grantPhase ended beats d).gates = d.gates := by
  simp [grantPhase]

@[simp] theorem gates_phaseLand (waits : BitVec 17) (ended : Bool) (beats : Nat) (d : Dev) : (phaseLand waits ended beats
    d).gates = d.gates := by
  simp only [phaseLand]
  split
  · simp
  · split
    · simp
    · split <;> simp

@[simp] theorem gates_arbIgn (d : Dev) : (arbIgn d).gates = d.gates := by simp [arbIgn]
@[simp] theorem gates_arbWrite (who : Requester) (off : Nat) (val : Word) (d : Dev) : (arbWrite who off val d).gates = d.gates := by
  simp [arbWrite]

@[simp] theorem gates_dmaRegWrite (who : Requester) (off : Nat) (val : Word) (d : Dev) : (dmaRegWrite who off val d).gates =
    d.gates := by
  simp [dmaRegWrite]

@[simp] theorem gates_hewerResetLand (d : Dev) : (hewerResetLand d).gates = d.gates := by simp [hewerResetLand]

/-! ### Interrupts -/

@[simp] theorem gates_plicRead (c : Plic) (a : Nat) (d : Dev) : (plicRead c a d).2.gates = d.gates := by
  simp only [plicRead]
  repeat' split
  all_goals simp_all

@[simp] theorem gates_plicWrite (c : Plic) (a : Nat) (val : Word) (d : Dev) : (plicWrite c a val d).gates = d.gates := by
  simp [plicWrite]
@[simp] theorem gates_timerLand (h : Nat) (d : Dev) : (timerLand h d).gates = d.gates := by simp [timerLand]

@[simp] theorem gates_mtimeWrite (who : Requester) (off : Nat) (val : Word) (d : Dev) : (mtimeWrite who off val d).gates =
    d.gates := by
  simp only [mtimeWrite]
  repeat' split
  all_goals simp_all

/-! ### Validation -/

@[simp] theorem gates_armRoster (d : Dev) : (armRoster d).gates = d.gates := by simp [armRoster]

@[simp] theorem gates_validateLand (d : Dev) : (validateLand d).gates = d.gates := by
  simp only [validateLand]
  repeat' split
  all_goals simp_all

/-! ### Registers as the bus sees them -/

@[simp] theorem gates_readEffect (p : Page) (inst a : Nat) (d : Dev) : (readEffect p inst a d).gates = d.gates := by
  simp only [readEffect]
  split <;> simp

@[simp] theorem gates_pageRead (who : Requester) (p : Page) (inst a : Nat) (d : Dev) : (pageRead who p inst a d).2.gates =
    d.gates := by
  simp only [pageRead]
  split
  · split <;> simp
  · split <;> simp

@[simp] theorem gates_legCmd (n : Nat) (val : Word) (d : Dev) : (legCmd n val d).gates = d.gates := by simp [legCmd]
@[simp] theorem gates_freeComp (d : Dev) : (freeComp d).2.gates = d.gates := by simp [freeComp]
@[simp] theorem gates_freeCheck (d : Dev) : (freeCheck d).2.gates = d.gates := by simp [freeCheck]
@[simp] theorem gates_tripLand (n : Nat) (val : Word) (d : Dev) : (tripLand n val d).gates = d.gates := by simp [tripLand]

@[simp] theorem gates_maskHigh (who : Requester) (k : Nat) (chk : Bool) (val : Word) (d : Dev) : (maskHigh who k chk val
    d).gates = d.gates := by
  simp [maskHigh]

@[simp] theorem gates_recoverWrite (who : Requester) (val : Word) (d : Dev) : (recoverWrite who val d).gates = d.gates := by
  simp [recoverWrite]

theorem gates_fltWrite (who : Requester) (off : Nat) (val : Word) (d : Dev) {e : Dev} (h : fltWrite who off val d = some e) :
    e.gates = d.gates := by
  simp only [fltWrite] at h
  repeat' split at h
  all_goals cases h
  all_goals simp

theorem gates_authWrite (who : Requester) (off : Nat) (val : Word) (d : Dev) {e : Dev} (h : authWrite who off val d = some e) :
    e.gates = d.gates := by
  unfold authWrite at h
  split at h
  all_goals cases h
  all_goals simp

theorem gates_adcWrite (off : Nat) (val : Word) (d : Dev) {e : Dev} (h : adcWrite off val d = some e) : e.gates = d.gates := by
  unfold adcWrite at h
  split at h
  all_goals cases h
  all_goals simp

theorem gates_linkWrite (off : Nat) (val : Word) (d : Dev) {e : Dev} (h : linkWrite off val d = some e) : e.gates = d.gates := by
  unfold linkWrite at h
  split at h
  all_goals cases h
  all_goals simp

theorem gates_canRegWrite (n off : Nat) (val : Word) (d : Dev) {e : Dev} (h : canRegWrite n off val d = some e) : e.gates =
    d.gates := by
  simp only [canRegWrite] at h
  repeat' split at h
  all_goals cases h
  all_goals simp

theorem gates_gpioWrite (who : Requester) (off : Nat) (val : Word) (d : Dev) {e : Dev} (h : gpioWrite who off val d = some e) :
    e.gates = d.gates := by
  simp only [gpioWrite] at h
  repeat' split at h
  all_goals cases h
  all_goals simp

@[simp] theorem gates_alarmWrite (who : Requester) (high : Bool) (val : Word) (d : Dev) : (alarmWrite who high val d).gates =
    d.gates := by
  simp only [alarmWrite]
  split
  · simp
  · split <;> simp

theorem gates_pwrWrite (who : Requester) (off : Nat) (val : Word) (d : Dev) {e : Dev} (h : pwrWrite who off val d = some e) :
    e.gates = d.gates := by
  unfold pwrWrite at h
  split at h
  all_goals cases h
  all_goals simp

@[simp] theorem gates_lfcfgWrite (c : Nat) (val : Word) (d : Dev) : (lfcfgWrite c val d).gates = d.gates := by simp [lfcfgWrite]

@[simp] theorem gates_headerWrite (base off : Nat) (val : Word) (d : Dev) : (headerWrite base off val d).gates = d.gates := by
  unfold headerWrite
  split <;> simp

@[simp] theorem gates_codeWrite (a : Nat) (acc : Acc) (val : Word) (d : Dev) : (codeWrite a acc val d).gates = d.gates := by
  unfold codeWrite
  split <;> simp

@[simp] theorem gates_injRead (r : Region) (a : Nat) (d : Dev) : (injRead r a d).1.gates = d.gates := by
  simp only [injRead]
  split
  · rfl
  · split
    · rfl
    · split <;> simp

@[simp] theorem gates_regionRead (who : Requester) (r : Region) (a : Nat) (d : Dev) : (regionRead who r a d).2.gates = d.gates := by
  simp only [regionRead]
  repeat' split
  all_goals simp_all

@[simp] theorem gates_answer (who : Requester) (w : Word) (bad : Bool) (d : Dev) : (answer who w bad d).gates = d.gates := by
  simp [answer]

@[simp] theorem gates_accessFaultAt (who : Requester) (d : Dev) : (accessFaultAt who d).gates = d.gates := by
  unfold accessFaultAt
  split <;> simp

@[simp] theorem gates_stall (c : Fin 4) (op : CoreOp) (d : Dev) : (stall c op d).gates = d.gates := by simp [stall]

@[simp] theorem gates_busRead (who : Requester) (addr : Word) (d : Dev) : (busRead who addr d).2.gates = d.gates := by
  simp only [busRead]
  split
  · simp
  · simp
  · split <;> simp

/-! ### Reads of memory -/

@[simp] theorem gates_dmaDescriptor (ch : Fin 8) (a : Nat) (d : Dev) : (dmaDescriptor ch a d).2.gates = d.gates := by
  unfold dmaDescriptor
  refine foldl_keep (fun p : Option (List Word) × Dev => p.2.gates) (fun p o => ?_) _ (some [], d)
  split <;> simp

@[simp] theorem gates_setResv (c : Nat) (r : Option (Nat × Nat)) (d : Dev) : (setResv c r d).gates = d.gates := by simp [setResv]

@[simp] theorem gates_lrLand (c : Fin 4) (addr : Word) (d : Dev) : (lrLand c addr d).gates = d.gates := by
  have h := gates_busRead (.hewer c) addr d
  simp only [lrLand]
  repeat' split
  all_goals simp_all

@[simp] theorem gates_resvExpiryLand (c : Nat) (d : Dev) : (resvExpiryLand c d).gates = d.gates := by
  unfold resvExpiryLand
  split <;> simp

/-! ### The SPI target -/

@[simp] theorem gates_readWords (who : Requester) (n a k : Nat) (d : Dev) : (readWords who n a k d).2.2.gates = d.gates := by
  induction n generalizing a k d with
  | zero => rfl
  | succ n ih =>
    have h := gates_busRead who (BitVec.ofNat 32 a) d
    simp only [readWords]
    split <;> simp_all

@[simp] theorem gates_hostErr (cause word : Nat) (r : SpiReq) (d : Dev) : (hostErr cause word r d).gates = d.gates := by
  simp [hostErr]

@[simp] theorem gates_spiAccErr (k : Option Nat) (r : SpiReq) (d : Dev) : (spiAccErr k r d).2.gates = d.gates := by
  unfold spiAccErr
  split <;> simp

@[simp] theorem gates_spiRespond (sent : Bool) (status : Nat) (data : List Word) (d : Dev) : (spiRespond sent status data
    d).gates = d.gates := by
  simp [spiRespond]

@[simp] theorem gates_spiChecks (r : SpiReq) (crc : Byte) (d : Dev) : (spiChecks r crc d).2.gates = d.gates := by
  simp only [spiChecks]
  repeat' split
  all_goals simp_all

@[simp] theorem gates_spiTimeoutLand (r : SpiReq) (crc : Byte) (d : Dev) : (spiTimeoutLand r crc d).gates = d.gates := by
  simp [spiTimeoutLand]

@[simp] theorem gates_linkAnswer (f : LinkFrame) (status n : Nat) (ws : List Word) (d : Dev) : (linkAnswer f status n ws
    d).gates = d.gates := by
  simp only [linkAnswer]
  split <;> simp

@[simp] theorem gates_linkRead (f : LinkFrame) (d : Dev) : (linkRead f d).gates = d.gates := by simp [linkRead]

/-! ### What commands share -/

@[simp] theorem gates_readOnly (who : Requester) (addr : Word) (d : Dev) : (readOnly who addr d).gates = d.gates := by
  simp [readOnly]

@[simp] theorem gates_dieWrite (who : Requester) (a : Nat) (val : Word) (f : Dev → Dev) (d : Dev) (h : ∀ e, (f e).gates =
    e.gates) : (dieWrite who a val f d).gates = d.gates := by
  unfold dieWrite
  split <;> simp [h]

@[simp] theorem gates_keptAlive (k : Nat) (chk : Bool) (d : Dev) : (keptAlive k chk d).gates = d.gates := by simp [keptAlive]

@[simp] theorem gates_workBegins (d : Dev) : (workBegins d).gates = d.gates := by
  unfold workBegins
  split <;> simp

@[simp] theorem gates_workCommits (c : Nat) (d : Dev) : (workCommits c d).gates = d.gates := by
  unfold workCommits
  split <;> simp

@[simp] theorem gates_resetEnds (c : Nat) (d : Dev) : (resetEnds c d).gates = d.gates := by
  simp only [resetEnds]
  split
  · simp
  · split <;> simp

@[simp] theorem gates_faultLand (who : Requester) (addr : Word) (kind : AccKind) (d : Dev) : (faultLand who addr kind d).gates =
    d.gates := by
  simp [faultLand]

end Sys2Proof.Machine
end

section
/-!
PROOFS. No step turns both gates of a leg on (R134): a gate turns on only where the opposite one is off, and what else happens leaves the
gates as they are or turns them off.
-/

namespace Sys2Proof.Machine

/-! ### Levels apart -/

/-- R134: no pair of gate levels has both on. -/
def gatesApart (g : Nat → Bool × Bool) : Prop := ∀ n, ((g n).1 && (g n).2) = false

@[simp] theorem gatesApart_ite (c : Prop) [Decidable c] (g h : Nat → Bool × Bool) :
    gatesApart (if c then g else h) ↔ if c then gatesApart g else gatesApart h := by split <;> rfl

theorem apart_of_leg {d e : Dev} {n : Nat} (h : gatesApart d.gates) (hn : ((e.leg n).gh && (e.leg n).gl) = false)
    (hm : ∀ m, m ≠ n → e.leg m = d.leg m) : gatesApart e.gates := by
  intro m
  by_cases hmn : m = n
  · subst hmn; exact hn
  · simpa only [Dev.gates, hm m hmn] using h m

theorem apart_setLeg {n : Nat} {r : LegRec} {d : Dev} (h : gatesApart d.gates) (hgh : r.gh = (d.leg n).gh)
    (hgl : r.gl = (d.leg n).gl) : gatesApart (d.setLeg n r).gates := by rwa [gates_setLeg hgh hgl]

theorem apart_each {f : Nat → Dev → Dev} (hf : ∀ n d, gatesApart d.gates → gatesApart (f n d).gates) (l : List Nat) {d : Dev}
    (h : gatesApart d.gates) : gatesApart (each l f d).gates := by
  induction l generalizing d with
  | nil => exact h
  | cons a l ih => exact ih (hf a d h)

theorem apart_foldl {β : Type} {f : Dev → β → Dev} (hf : ∀ d b, gatesApart d.gates → gatesApart (f d b).gates) (l : List β)
    {d : Dev} (h : gatesApart d.gates) : gatesApart (l.foldl f d).gates := by
  induction l generalizing d with
  | nil => exact h
  | cons b l ih => exact ih (hf d b h)

/-! ### Drive dies -/

@[simp] theorem apart_drive_off (n : Nat) (g : Gate) {d : Dev} (h : gatesApart d.gates) : gatesApart (drive n g false d).gates := by
  refine apart_of_leg h ?_ (fun m hm => drive_ne n m g false d hm)
  obtain ⟨hgh, hgl⟩ := drive_gates n g false d
  cases g <;> simp [hgh, hgl]

/-- A gate may turn on where the opposite one is off. -/
theorem apart_drive_on {n : Nat} {g : Gate} {d : Dev} (h : gatesApart d.gates) (hopp : (d.leg n).opposite g = false) :
    gatesApart (drive n g true d).gates := by
  refine apart_of_leg h ?_ (fun m hm => drive_ne n m g true d hm)
  obtain ⟨hgh, hgl⟩ := drive_gates n g true d
  cases g <;> simp_all [LegRec.opposite]

@[simp] theorem apart_gatesOff (n : Nat) {d : Dev} (h : gatesApart d.gates) : gatesApart (gatesOff n d).gates := by
  refine apart_of_leg h ?_ (fun m hm => gatesOff_ne n m d hm)
  obtain ⟨hgh, -, -⟩ := gatesOff_off n d
  simp [hgh]

@[simp] theorem apart_dieOff (k : Nat) {d : Dev} (h : gatesApart d.gates) : gatesApart (dieOff k d).gates :=
  apart_each (fun n _ => apart_gatesOff n) _ h

theorem apart_turnedOn {n : Nat} {g : Gate} {d : Dev} (h : gatesApart d.gates) (hopp : (d.leg n).opposite g = false) :
    gatesApart (turnedOn n g d).gates :=
  apart_drive_on (by simpa using h) (by cases g <;> simpa [LegRec.opposite] using hopp)

/-- R134: all that a turn-on command can do. -/
theorem turnOn_cases (n : Nat) (g : Gate) (oppLow bstLow : Bool) (d : Dev) : turnOn n g oppLow bstLow d = d ∨
    (d.leg n).opposite g = false ∧ turnOn n g oppLow bstLow d = turnedOn n g d ∨
    turnOn n g oppLow bstLow d = d.setLeg n { d.leg n with wait := some (g, d.now) } := by
  cases g
  · by_cases hb : bstLow = true
    · simp [turnOn, hb]
    · by_cases ho : oppLow = true ∧ (d.leg n).gl = false <;> simp [turnOn, turnedOn, LegRec.opposite, hb, ho]
  · by_cases ho : oppLow = true ∧ (d.leg n).gh = false <;> simp [turnOn, turnedOn, LegRec.opposite, ho]

theorem apart_turnOn (n : Nat) (g : Gate) (oppLow bstLow : Bool) {d : Dev} (h : gatesApart d.gates) :
    gatesApart (turnOn n g oppLow bstLow d).gates := by
  obtain e | ⟨hopp, e⟩ | e := turnOn_cases n g oppLow bstLow d
  · rwa [e]
  · rw [e]; exact apart_turnedOn h hopp
  · simpa [e] using h

@[simp] theorem apart_turnOff (n : Nat) (g : Gate) {d : Dev} (h : gatesApart d.gates) : gatesApart (turnOff n g d).gates := by
  simp [turnOff, h]

theorem apart_carried (k : Nat) (chk : Bool) {f : Dev → Dev} (hf : ∀ e, gatesApart e.gates → gatesApart (f e).gates) {d : Dev}
    (h : gatesApart d.gates) : gatesApart (carried k chk d f).gates := by
  have hc : gatesApart (carry k chk d).1.gates := by simpa using h
  simp only [carried]
  split
  · exact hf _ hc
  · exact hc

@[simp] theorem apart_edgeCommand (n : Nat) (g : Gate) (on chk oppLow bstLow : Bool) (ms : List Transition) {d : Dev}
    (h : gatesApart d.gates) : gatesApart (edgeCommand n g on chk oppLow bstLow ms d).gates := by
  simp only [edgeCommand]
  split
  · exact h
  · refine apart_carried _ _ (fun e he => ?_) (by simpa using h)
    split
    · exact he
    · split
      · simp [he]
      · split
        · exact apart_turnOn _ _ _ _ (by simpa using he)
        · exact apart_turnOff _ _ (by simpa using he)

@[simp] theorem apart_interlockTurnOn (n : Nat) (bstLow : Bool) {d : Dev} (h : gatesApart d.gates) :
    gatesApart (interlockTurnOn n bstLow d).gates := by
  cases hw : (d.leg n).wait with
  | none => simpa [interlockTurnOn, hw] using h
  | some w =>
    obtain ⟨g, t⟩ := w
    by_cases late : t + intlkTo d (n / 64) ≤ d.now
    · rwa [interlockTurnOn_late bstLow hw late]
    · by_cases hopp : (d.leg n).opposite g = true
      · cases g <;> simp_all [interlockTurnOn, LegRec.opposite]
      · have hoff : (d.leg n).opposite g = false := by simpa using hopp
        rw [interlockTurnOn_inTime bstLow hw hoff (by omega)]
        split
        · exact apart_turnedOn h hoff
        · simpa using h

@[simp] theorem apart_safeCommand (n : Nat) (hold : Hold) (chk ghLow : Bool) {d : Dev} (h : gatesApart d.gates) :
    gatesApart (safeCommand n hold chk ghLow d).gates := by
  refine apart_carried _ _ (fun e he => ?_) h
  have hset : gatesApart (e.setLeg n { e.leg n with dieHold := hold, wait := none }).gates := by simpa using he
  dsimp only
  split
  · split
    · exact apart_drive_off n .gh hset
    · split
      · exact apart_setLeg (apart_drive_off n .gh hset) rfl rfl
      · refine apart_drive_on (apart_drive_off n .gh hset) ?_
        simpa [LegRec.opposite] using (drive_gates n .gh false _).1
  · exact apart_gatesOff n hset

@[simp] theorem apart_retireCommand (n : Nat) (chk : Bool) {d : Dev} (h : gatesApart d.gates) : gatesApart (retireCommand n chk d).gates :=
  apart_carried _ _ (fun e he => apart_gatesOff n (by simpa using he)) h

@[simp] theorem apart_tripOff (n : Nat) {d : Dev} (h : gatesApart d.gates) : gatesApart (tripOff n d).gates := by simp [tripOff, h]

@[simp] theorem apart_hardTrip (n above : Nat) {d : Dev} (h : gatesApart d.gates) : gatesApart (hardTrip n above d).gates := by
  simp [hardTrip, h]

@[simp] theorem apart_softTrip (n above : Nat) (released : Bool) {d : Dev} (h : gatesApart d.gates) :
    gatesApart (softTrip n above released d).gates := by simp [softTrip, h]

@[simp] theorem apart_bstUv (n : Nat) {d : Dev} (h : gatesApart d.gates) : gatesApart (bstUv n d).gates := by simp [bstUv, h]

@[simp] theorem apart_vdrvUv (k : Nat) {d : Dev} (h : gatesApart d.gates) : gatesApart (vdrvUv k d).gates := by simp [vdrvUv, h]

@[simp] theorem apart_vdrvOv (k : Nat) {d : Dev} (h : gatesApart d.gates) : gatesApart (vdrvOv k d).gates := by
  unfold vdrvOv
  split <;> simp [h]

@[simp] theorem apart_hardSafeAssert (k : Nat) {d : Dev} (h : gatesApart d.gates) : gatesApart (hardSafeAssert k d).gates := by
  simp [hardSafeAssert, h]

@[simp] theorem apart_watchdogExpiry (k : Nat) {d : Dev} (h : gatesApart d.gates) : gatesApart (watchdogExpiry k d).gates := by
  simp [watchdogExpiry, h]

@[simp] theorem apart_cfgCommand (k : Nat) (val : Word) (chk : Bool) {d : Dev} (h : gatesApart d.gates) :
    gatesApart (cfgCommand k val chk d).gates :=
  apart_carried _ _ (fun e he => by simp [he]) h

/-! ### Frames -/

@[simp] theorem apart_legDown (n : Nat) {d : Dev} (h : gatesApart d.gates) : gatesApart (legDown n d).gates := by simp [legDown, h]

@[simp] theorem apart_addedLegs (old : Dev) (g : Nat) {d : Dev} (h : gatesApart d.gates) : gatesApart (addedLegs old g d).gates :=
  apart_each (fun n e he => by simp [he]) _ h

@[simp] theorem apart_releaseLegs (old : Dev) (g : Nat) {d : Dev} (h : gatesApart d.gates) : gatesApart (releaseLegs old g d).gates :=
  apart_each (fun n e he => by simp [he]) _ h

@[simp] theorem apart_gangSet (old : Dev) (g : Nat) {d : Dev} (h : gatesApart d.gates) : gatesApart (gangSet old g d).gates := by
  simp [gangSet, h]

@[simp] theorem apart_driveSet (lost : List Nat) (old : Dev) (union : List Nat) {d : Dev} (h : gatesApart d.gates) :
    gatesApart (driveSet lost old union d).gates := by
  simpa [driveSet] using apart_each (fun g e he => apart_gangSet old g he) _ h

@[simp] theorem apart_commitSetLand (dom : Nat) (lost : List Nat) {d : Dev} (h : gatesApart d.gates) :
    gatesApart (commitSetLand dom lost d).gates := by
  simp only [commitSetLand]
  split <;> simp [h]

@[simp] theorem apart_frameReloadLand (f : Nat) (lost : List Nat) {d : Dev} (h : gatesApart d.gates) :
    gatesApart (frameReloadLand f lost d).gates := by
  simp only [frameReloadLand]
  split <;> simp [h]

/-! ### Collector -/

@[simp] theorem apart_decide1 (m : FaultMsg) (arrival : Nat) {d : Dev} (h : gatesApart d.gates) :
    gatesApart (decide1 m arrival d).gates := by
  have hs := fun (e : Dev) (he : gatesApart e.gates) => apart_each (fun k _ => apart_hardSafeAssert k) (List.range 4) he
  simp [decide1, h, hs]

@[simp] theorem apart_decideAll (l : List (FaultMsg × Nat)) {d : Dev} (h : gatesApart d.gates) :
    gatesApart (l.foldl (fun d x => decide1 x.1 x.2 d) d).gates := by
  refine apart_foldl (fun e x he => ?_) l h
  exact apart_decide1 x.1 x.2 he

@[simp] theorem apart_decideCycle {d : Dev} (h : gatesApart d.gates) : gatesApart (decideCycle d).gates := by
  simp [decideCycle, h]

@[simp] theorem apart_collect (pick : List Bool) (ext : List FaultMsg) {d : Dev} (h : gatesApart d.gates) :
    gatesApart (collect pick ext d).gates := by
  simp [collect, h]

@[simp] theorem apart_releaseLeg (n : Nat) {d : Dev} (h : gatesApart d.gates) : gatesApart (releaseLeg n d).gates := by
  simp [releaseLeg, h]

@[simp] theorem apart_releaseGang (g : Nat) {d : Dev} (h : gatesApart d.gates) : gatesApart (releaseGang g d).gates :=
  apart_each (fun n e he => by simp [he]) _ (by simpa using h)

@[simp] theorem apart_releaseDie (device : Bool) (k : Nat) {d : Dev} (h : gatesApart d.gates) :
    gatesApart (releaseDie device k d).gates :=
  apart_each (fun n e he => by simp [he]) _ (by simpa using h)

@[simp] theorem apart_release (s : Scope) {d : Dev} (h : gatesApart d.gates) : gatesApart (release s d).gates := by
  have freed : ∀ (dev : Bool) (ks gs : List Nat) (e : Dev), gatesApart e.gates →
      gatesApart (each gs releaseGang (each ks (releaseDie dev) e)).gates := fun dev ks gs e he =>
    apart_each (fun g _ => apart_releaseGang g) gs (apart_each (fun k _ => apart_releaseDie dev k) ks he)
  unfold release
  cases s <;> simp [freed, h]

@[simp] theorem apart_quietLand (refuse lost : List Nat) {d : Dev} (h : gatesApart d.gates) :
    gatesApart (quietLand refuse lost d).gates := by
  simp only [quietLand]
  split <;> simp [h]

/-! ### Resets, sleep and wake -/

theorem apart_of_legs_nil {d : Dev} (h : d.legs = []) : gatesApart d.gates := by
  intro n
  simp [Dev.gates, Dev.leg, h, sget, legReset]

@[simp] theorem apart_deviceReset (bit : Nat) (dark : Bool) (d : Dev) : gatesApart (deviceReset bit dark d).gates :=
  apart_of_legs_nil rfl

@[simp] theorem apart_poraLand (d : Dev) : gatesApart (poraLand d).gates := apart_of_legs_nil rfl

@[simp] theorem apart_porcLand (r : Nat) {d : Dev} (h : gatesApart d.gates) : gatesApart (porcLand r d).gates := by simp [porcLand, h]

@[simp] theorem apart_pinResetLand {d : Dev} (h : gatesApart d.gates) : gatesApart (pinResetLand d).gates := by simp [pinResetLand, h]

@[simp] theorem apart_clkfailLand {d : Dev} (h : gatesApart d.gates) : gatesApart (clkfailLand d).gates := by simp [clkfailLand, h]

@[simp] theorem apart_clkLossLand (stop : Bool) {d : Dev} (h : gatesApart d.gates) : gatesApart (clkLossLand stop d).gates := by
  have hs := apart_each (fun k _ => apart_hardSafeAssert k) (List.range 4) h
  simp [clkLossLand, h, hs]

@[simp] theorem apart_dieAlone (k : Nat) {d : Dev} (h : gatesApart d.gates) : gatesApart (dieAlone k d).gates := by simp [dieAlone, h]

@[simp] theorem apart_sleepEnd {d : Dev} (h : gatesApart d.gates) : gatesApart (sleepEnd d).gates := by
  simpa [sleepEnd] using apart_each (fun k _ => apart_dieAlone k) (List.range 4) (d := drainRecords d) (by simpa using h)

@[simp] theorem apart_wakeUp (ev : Nat) (d : Dev) : gatesApart (wakeUp ev d).gates := by simp [wakeUp]

@[simp] theorem apart_wakeLand (ev : Nat) (level : Bool) (seen : Nat) (pvw : List Nat) {d : Dev} (h : gatesApart d.gates) :
    gatesApart (wakeLand ev level seen pvw d).gates := by simp [wakeLand, h]

@[simp] theorem apart_sleepDue {d : Dev} (h : gatesApart d.gates) : gatesApart (sleepDue d).gates := by
  simp only [sleepDue]
  split
  · exact h
  · split <;> simp [h]

@[simp] theorem apart_tamperLatch (i : Nat) {d : Dev} (h : gatesApart d.gates) : gatesApart (tamperLatch i d).gates := by
  simp [tamperLatch, h]

@[simp] theorem apart_tamperLand (i held : Nat) {d : Dev} (h : gatesApart d.gates) : gatesApart (tamperLand i held d).gates := by
  simp [tamperLand, h]

@[simp] theorem apart_tamperLoopLand (misread : Bool) {d : Dev} (h : gatesApart d.gates) :
    gatesApart (tamperLoopLand misread d).gates := by simp [tamperLoopLand, h]

@[simp] theorem apart_rstLand (who : Requester) (val : Word) {d : Dev} (h : gatesApart d.gates) :
    gatesApart (rstLand who val d).gates := by simp [rstLand, h]

/-! ### Bus writes -/

theorem apart_topWrite {who : Requester} {off : Nat} {val : Word} {d e : Dev} (h : gatesApart d.gates)
    (he : topWrite who off val d = some e) : gatesApart e.gates := by
  simp only [topWrite] at he
  repeat' split at he
  all_goals cases he
  all_goals simp [h]

theorem apart_ddieWrite {who : Requester} {k off : Nat} {val : Word} {d e : Dev} (h : gatesApart d.gates)
    (he : ddieWrite who k off val d = some e) : gatesApart e.gates := by
  simp only [ddieWrite] at he
  split at he
  · cases he; exact apart_cfgCommand _ _ _ (by simpa using h)
  all_goals cases he
  all_goals simp [h]

theorem apart_specialWrite {who : Requester} {p : Page} {inst off : Nat} {val : Word} {d e : Dev} (h : gatesApart d.gates)
    (he : specialWrite who p inst off val d = some e) : gatesApart e.gates := by
  cases p
  case ddie => exact apart_ddieWrite h he
  case top => exact apart_topWrite h he
  case pwr => rwa [gates_pwrWrite _ _ _ _ he]
  case flt => rwa [gates_fltWrite _ _ _ _ he]
  case auth => rwa [gates_authWrite _ _ _ _ he]
  case link => rwa [gates_linkWrite _ _ _ he]
  case can => rwa [gates_canRegWrite _ _ _ _ he]
  case gpio => rwa [gates_gpioWrite _ _ _ _ he]
  case adc => rwa [gates_adcWrite _ _ _ he]
  all_goals
    simp only [specialWrite] at he
    repeat' split at he
  all_goals cases he
  all_goals simp [h]

@[simp] theorem apart_bodyWrite (who : Requester) (p : Page) (inst a : Nat) (val : Word) {d : Dev} (h : gatesApart d.gates) :
    gatesApart (bodyWrite who p inst a val d).gates := by
  unfold bodyWrite
  split
  · next he => exact apart_specialWrite h he
  · split <;> simp [h]

@[simp] theorem apart_pageWrite (who : Requester) (p : Page) (inst a : Nat) (val : Word) {d : Dev} (h : gatesApart d.gates) :
    gatesApart (pageWrite who p inst a val d).gates := by simp [pageWrite, h]

@[simp] theorem apart_regionWrite (who : Requester) (r : Region) (a : Nat) (val : Word) {d : Dev} (h : gatesApart d.gates) :
    gatesApart (regionWrite who r a val d).gates := by
  cases r <;> simp [regionWrite, h]

@[simp] theorem apart_busWriteEnd (who : Requester) (addr val : Word) {d : Dev} (h : gatesApart d.gates) :
    gatesApart (busWriteEnd who addr val d).2.gates := by
  simp only [busWriteEnd]
  repeat' split
  all_goals simp [h]

@[simp] theorem apart_busWrite (who : Requester) (addr val : Word) {d : Dev} (h : gatesApart d.gates) :
    gatesApart (busWrite who addr val d).gates := apart_busWriteEnd who addr val h

theorem apart_of_answer {α : Type} {p : α × Dev} {x : α} {e : Dev} (hp : p = (x, e)) (h : gatesApart p.2.gates) :
    gatesApart e.gates := by rwa [hp] at h

@[simp] theorem apart_dmaWord (ch : Fin 8) (src dst : Nat) {d : Dev} (h : gatesApart d.gates) :
    gatesApart (dmaWord ch src dst d).2.gates := by
  unfold dmaWord
  split
  · next e he => exact apart_of_answer he (by simpa using h)
  · next w e he =>
    have hw : gatesApart e.gates := apart_of_answer he (by simpa using h)
    split
    · next f hf => exact apart_of_answer hf (apart_busWriteEnd _ _ _ hw)
    · next f _ hf => exact apart_of_answer hf (apart_busWriteEnd _ _ _ hw)

@[simp] theorem apart_dmaCopy (ch : Fin 8) (n src dst : Nat) {d : Dev} (h : gatesApart d.gates) :
    gatesApart (dmaCopy ch n src dst d).2.gates := by
  induction n generalizing src dst d with
  | zero => exact h
  | succ n ih =>
    unfold dmaCopy
    split
    · next e he => exact ih _ _ (apart_of_answer he (apart_dmaWord ch src dst h))
    · exact apart_dmaWord ch src dst h

@[simp] theorem apart_dmaRun (ch : Fin 8) (most : Nat) {d : Dev} (h : gatesApart d.gates) :
    gatesApart (dmaRun ch most d).2.gates := by
  unfold dmaRun
  split
  · next e he =>
    have hw : gatesApart e.gates := apart_of_answer he (by simpa using h)
    simpa using hw
  · next ws e he =>
    have hw : gatesApart e.gates := apart_of_answer he (by simpa using h)
    dsimp only
    split
    · simpa using hw
    · split
      · next e' hc => simpa using apart_of_answer hc (apart_dmaCopy ch _ _ _ hw)
      · next e' hc => exact apart_of_answer hc (apart_dmaCopy ch _ _ _ hw)

@[simp] theorem apart_dmaDescLand (ch : Fin 8) {d : Dev} (h : gatesApart d.gates) : gatesApart (dmaDescLand ch d).gates := by
  simp only [dmaDescLand]
  split
  · exact h
  · split
    · next e he => exact apart_of_answer he (apart_dmaRun ch _ h)
    · next w e he => simp [apart_of_answer he (apart_dmaRun ch _ h)]

@[simp] theorem apart_dmaMoved (ch : Fin 8) (n : Nat) {d : Dev} (h : gatesApart d.gates) : gatesApart (dmaMoved ch n d).gates := by
  simp [dmaMoved, h]

@[simp] theorem apart_dmaAbortLand (who : Requester) (ch : Fin 8) (val : Word) (moved : Nat) {d : Dev} (h : gatesApart d.gates) :
    gatesApart (dmaAbortLand who ch val moved d).gates := by
  simp [dmaAbortLand, h]

@[simp] theorem apart_hewerResetWrite (who : Requester) (val : Word) (moved : List Nat) {d : Dev} (h : gatesApart d.gates) :
    gatesApart (hewerResetWrite who val moved d).gates := by
  have hm := apart_foldl (fun e ch he => apart_dmaMoved ch (moved.getD ch.val 0) he) (List.finRange 8) h
  unfold hewerResetWrite
  exact apart_busWrite _ _ _ (by split <;> assumption)

@[simp] theorem apart_scLand (c : Fin 4) (addr val : Word) {d : Dev} (h : gatesApart d.gates) :
    gatesApart (scLand c addr val d).gates := by
  simp [scLand, h]

@[simp] theorem apart_amoLand (c : Fin 4) (op : AmoOp) (addr val : Word) {d : Dev} (h : gatesApart d.gates) :
    gatesApart (amoLand c op addr val d).gates := by
  simp only [amoLand]
  split
  · simpa using h
  · split
    · simpa using h
    · split
      · next e he => exact apart_of_answer he (by simpa using h)
      · next w e he => simp [apart_of_answer he (by simpa using h)]

@[simp] theorem apart_coreOp (c : Fin 4) (op : CoreOp) {d : Dev} (h : gatesApart d.gates) : gatesApart (coreOp c op d).gates := by
  cases op <;> simp [coreOp, h]

@[simp] theorem apart_unstall {d : Dev} (h : gatesApart d.gates) : gatesApart (unstall d).gates := by
  unfold unstall
  refine apart_foldl (fun e x he => ?_) _ (by simpa using h)
  exact apart_coreOp x.1 x.2 he

@[simp] theorem apart_writeWords (who : Requester) (ws : List Word) (a k : Nat) {d : Dev} (h : gatesApart d.gates) :
    gatesApart (writeWords who ws a k d).2.2.gates := by
  induction ws generalizing a k d with
  | nil => exact h
  | cons w ws ih =>
    have hw := apart_busWriteEnd who (BitVec.ofNat 32 a) w h
    simp only [writeWords]
    split
    · next e he => simpa [he] using hw
    · next x e _ he => exact ih _ _ (by simpa [he] using hw)

@[simp] theorem apart_spiAccess (r : SpiReq) {d : Dev} (h : gatesApart d.gates) : gatesApart (spiAccess r d).2.2.gates := by
  simp only [spiAccess]
  split
  · simp [h]
  · simp [h]
  · simp [h]
  · simp [h]
  · split <;> simp [h]
  · simp [h]

@[simp] theorem apart_spiServe (r : SpiReq) (crc : Byte) {d : Dev} (h : gatesApart d.gates) : gatesApart (spiServe r crc d).gates := by
  simp [spiServe, h]

@[simp] theorem apart_spiAbortLand (r : SpiReq) (crc : Option Byte) {d : Dev} (h : gatesApart d.gates) :
    gatesApart (spiAbortLand r crc d).gates := by
  cases crc <;> simp [spiAbortLand, h]

@[simp] theorem apart_spiLateLand {d : Dev} (h : gatesApart d.gates) : gatesApart (spiLateLand d).gates := by
  unfold spiLateLand
  split <;> simp [h]

@[simp] theorem apart_linkWrite1 (f : LinkFrame) {d : Dev} (h : gatesApart d.gates) : gatesApart (linkWrite1 f d).gates := by
  simp [linkWrite1, h]

@[simp] theorem apart_linkAccessLand (type p : Nat) (crc : Word) (f : LinkFrame) {d : Dev} (h : gatesApart d.gates) :
    gatesApart (linkAccessLand type p crc f d).gates := by
  simp [linkAccessLand, linkArrives, h]

@[simp] theorem apart_messagesLand (pick : List Bool) (ext : List FaultMsg) {d : Dev} (h : gatesApart d.gates) :
    gatesApart (messagesLand pick ext d).gates := by
  simp [messagesLand, h]

@[simp] theorem apart_quietEndLand (refuse lost : List Nat) {d : Dev} (h : gatesApart d.gates) :
    gatesApart (quietEndLand refuse lost d).gates := by simp [quietEndLand, h]

@[simp] theorem apart_pairHighLand (who : Requester) (addr val : Word) (chk : Bool) {d : Dev} (h : gatesApart d.gates) :
    gatesApart (pairHighLand who addr val chk d).gates := by
  simp only [pairHighLand]
  split
  · split <;> simp [h]
  · simp [h]

theorem apart_dieWrite (who : Requester) (a : Nat) (val : Word) {f : Dev → Dev} {d : Dev} (h : gatesApart d.gates)
    (hf : gatesApart (f d).gates) : gatesApart (dieWrite who a val f d).gates := by
  unfold dieWrite
  split <;> simp [allowed, h, hf]

/-! ### Time -/

theorem apart_deviceTick {d : Dev} (h : gatesApart d.gates) : gatesApart (deviceTick d).gates := by
  simp [deviceTick, h]

theorem apart_tick {d : Dev} (h : gatesApart d.gates) : gatesApart (tick d).gates := by
  have := apart_deviceTick h
  simp [tick, h, this]

/-! ### Commands -/

/-- What a command answers holds no leg with both gates on. -/
def OutApart (o : Out) : Prop := ∀ t, o = .next t → gatesApart t.dev.gates

theorem outApart_act {s : State} {f : Dev → Dev} (h : gatesApart s.dev.gates) (hf : gatesApart (f s.dev).gates) :
    OutApart (act s f) := by
  rintro t ⟨⟩
  simp [State.put, h, hf]

theorem outApart_onDie {s : State} {f : Dev → Dev} (h : gatesApart s.dev.gates) (hf : gatesApart (f s.dev).gates) :
    OutApart (onDie s f) := by
  rintro t ⟨⟩
  simp [State.put, h, hf]

theorem outApart_always {s : State} {f : Dev → Dev} (hf : gatesApart (f s.dev).gates) : OutApart (always s f) := by
  rintro t ⟨⟩
  exact hf

theorem outApart_checked {ok : Bool} {o : Out} (h : OutApart o) : OutApart (checked ok o) := by
  cases ok
  · rintro t ⟨⟩
  · exact h

/-- Every command keeps the gates of each leg apart: those of the drive dies and of the always-on part, those whose operands are
checked, and the others, which act while the clocks run. -/
theorem outApart_exec (c : Instr) {s : State} (h : gatesApart s.dev.gates) : OutApart (exec c s) := by
  cases c
  case watchdogExpiry | interlockTurnOn | intlkTimeout | hardSafeAssert | hardTrip | softTrip | presenceSeen | bstUv | vdrvUv |
      vdrvOv | vdrvRecover | stStep | driveLinkLoss | driveLinkReturn =>
    refine outApart_onDie h ?_
    simp [h]
  case tamper | tamperLoopStep | pllLock | relock | clkfail | coreSupply | coreSupplyReturn | porc | pora | pinReset | tempWarn |
      tempShut | tempFall | wakeEvent =>
    refine outApart_always ?_
    simp [h]
  case commitSet | faultMessage | spiRead | burstRd | burstWr | spiFrameAbort | spiTimeout | canRx | canError | i2cDone |
      linkFrameForward | linkData | linkRd | linkWr | linkResp | sample | job | commitPoint | refresh | rotate | castPoint |
      mark | initCalibrationEnd | hewerReset =>
    refine outApart_checked (outApart_act h ?_)
    simp [h]
  case ddieCfgWrite => exact outApart_act h (apart_dieWrite _ _ _ h (apart_cfgCommand _ _ _ h))
  case fence | frameReload | canSend | canAbort | txDone =>
    simp only [exec, execFence, execFrameReload, execCanSend, execCanAbort, execTxDone]
    exact outApart_act h (by simp [h])
  all_goals
    refine outApart_act h ?_
    simp [h]

/-- Settles O60: no command, and no tick, turns on a gate whose opposite one is on. -/
theorem noShootThrough : Obligations.NoShootThrough := by
  intro s t h hstep
  have hs : gatesApart s.dev.gates := h
  unfold step at hstep
  split at hstep
  · cases hstep
    exact apart_tick hs
  · next c cs _ => exact outApart_exec c (s := { s with pending := cs }) hs t hstep

end Sys2Proof.Machine
end

section
/-!
PROOFS. Trips, presence and the bootstrap (R136, R137, R140, R142, R143, R145, R150, R151).
-/

namespace Sys2Proof.Machine

theorem Dev.registersMove.raise {d e : Dev} (h : d.registersMove e) (p : Nat) (f : Fld) : d.registersMove (e.raise p f) :=
  h.event _ _

theorem Dev.registersMove.bump {d e : Dev} (h : d.registersMove e) (p : Nat) (f : Fld) : d.registersMove (e.bump p f) :=
  h.event _ _

/-! ### A trip -/

/-- R143, R150, R151: the leg is forced off, its latch `lat` is set, its trips are counted, and a message of kind `kind` goes out. -/
def tripped (n : Nat) (lat : Fld) (kind : Nat) (d : Dev) : Dev :=
  (((tripOff n d).raise (legP n) lat).bump (legP n) LEG.COUNT.TRIPS).send (faultOf (legP n) kind (tripAddr d n))

theorem tripOff_eq (n : Nat) (d : Dev) :
    tripOff n d = (gatesOff n d).setPlan n { d.plan n with stop := true } := by
  simp only [tripOff, gatesOff_plan]

theorem tripAddr_tripOff (n m p q : Nat) (f g : Fld) (d : Dev) :
    tripAddr (((tripOff n d).raise p f).bump q g) m = tripAddr d m := by
  simp [tripAddr, tripOff_eq]

/-- A leg that a trip has stopped may not switch, whatever its latches read. -/
theorem gatesFree_of_stop {d : Dev} {n : Nat} (h : (d.plan n).stop = true) : gatesFree d n = false := by
  simp [gatesFree, h]

theorem tripped_leg (n m : Nat) (lat : Fld) (kind : Nat) (d : Dev) :
    (tripped n lat kind d).leg m = (gatesOff n d).leg m := by
  simp [tripped, tripOff_eq]

theorem tripped_plan (n m : Nat) (lat : Fld) (kind : Nat) (d : Dev) :
    (tripped n lat kind d).plan m = if m = n then { d.plan n with stop := true } else d.plan m := by
  simp [tripped, tripOff_eq]

/-- A latch of LEG.TRIP is set; the count of trips, in another register, leaves it so. -/
theorem tripped_on (n : Nat) {lat : Fld} (kind : Nat) (d : Dev) (hoff : lat.off = 0x05C) (hfits : lat.lo + lat.n ≤ 32)
    (hn : 0 < lat.n) : (tripped n lat kind d).on (legP n) lat = true := by
  have apart : legP n + lat.off ≠ legP n + LEG.COUNT.TRIPS.off := by simp [hoff, LEG.COUNT.TRIPS]
  have raised := (tripOff n d).on_raise (p := legP n) hfits hn
  rw [Dev.on, Dev.fld] at raised ⊢
  rwa [tripped, Dev.send_reg, Dev.reg_bump, if_neg apart]

theorem tripped_reg {n a : Nat} {lat : Fld} (kind : Nat) (d : Dev) (hoff : lat.off = 0x05C) (h1 : a ≠ legP n + 0x05C)
    (h2 : a ≠ legP n + 0x068) : (tripped n lat kind d).reg a = d.reg a := by
  simp [tripped, tripOff_eq, hoff, h1, LEG.COUNT.TRIPS, h2]

theorem tripped_eq (n : Nat) (lat : Fld) (kind : Nat) (d : Dev) :
    ∃ ls ps rs es fs, tripped n lat kind d = { d with legs := ls, plans := ps, regs := rs, events := es, flt := fs } := by
  obtain ⟨rs, es, heq⟩ := ((Dev.registersMove.refl (tripOff n d)).raise (legP n) lat).bump (legP n) LEG.COUNT.TRIPS
  rw [tripped, heq, tripOff_eq, gatesOff_eq]
  exact ⟨_, _, rs, es, _, rfl⟩

/-- What a trip does, whichever comparator has found it. -/
theorem tripped_spec (n : Nat) {lat : Fld} (kind : Nat) (d : Dev) (hoff : lat.off = 0x05C) (hfits : lat.lo + lat.n ≤ 32)
    (hn : 0 < lat.n) :
    (tripped n lat kind d).legOff n ∧ gatesFree (tripped n lat kind d) n = false ∧
      (tripped n lat kind d).on (legP n) lat = true ∧
      (tripped n lat kind d).plan n = { d.plan n with stop := true } ∧
      (tripped n lat kind d).flt =
        { d.flt with inflight := d.flt.inflight ++ [faultOf (legP n) kind (d.now % 64 * 256 + n)] } ∧
      (∀ m, m ≠ n → (tripped n lat kind d).leg m = d.leg m ∧ (tripped n lat kind d).plan m = d.plan m) ∧
      (∀ a, a ≠ legP n + 0x05C → a ≠ legP n + 0x068 → (tripped n lat kind d).reg a = d.reg a) ∧
      ∃ ls ps rs es fs, tripped n lat kind d = { d with legs := ls, plans := ps, regs := rs, events := es, flt := fs } := by
  have stopped : (tripped n lat kind d).plan n = { d.plan n with stop := true } := by rw [tripped_plan, if_pos rfl]
  refine ⟨?_, gatesFree_of_stop (by rw [stopped]), tripped_on n kind d hoff hfits hn, stopped,
    by simp [tripped, tripOff_eq, tripAddr], fun m hm => ⟨?_, ?_⟩, fun a => tripped_reg kind d hoff, tripped_eq n lat kind d⟩
  · rw [Dev.legOff, tripped_leg]
    exact gatesOff_off n d
  · rw [tripped_leg, gatesOff_ne n m d hm]
  · rw [tripped_plan, if_neg hm]

/-! ### What the two comparators do -/

theorem hardTrip_short {n above : Nat} {d : Dev} (h : above < 12) : hardTrip n above d = d :=
  if_pos (by simp [h])

theorem hardTrip_trips {n above : Nat} {d : Dev} (ht : underTest d n = false) (hl : (d.die (n / 64)).link = true)
    (h : 12 ≤ above) : hardTrip n above d = tripped n LEG.TRIP.HARD_LAT 1 d := by
  simp only [hardTrip]
  rw [if_neg (by simp [ht, h]), sendDie_up _ _ _ (by simpa [tripOff_eq] using hl), tripAddr_tripOff]
  rfl

theorem softTrip_short {n above : Nat} {d : Dev} (r : Bool) (h : above < softTime d (n / 64) (d.now - above)) :
    softTrip n above r d = d :=
  if_pos (by simp [h])

theorem softTrip_blanked {n above : Nat} {d : Dev} (ht : underTest d n = false)
    (h : softTime d (n / 64) (d.now - above) ≤ above) (hb : d.now < (d.leg n).blankEnd) :
    softTrip n above true d =
      d.setDie (n / 64) { d.die (n / 64) with blankHits := (d.die (n / 64)).blankHits + 1 } :=
  (if_neg (by simp [ht, h])).trans (if_pos hb)

theorem softTrip_trips {n above : Nat} {d : Dev} (r : Bool) (ht : underTest d n = false)
    (hl : (d.die (n / 64)).link = true) (h : softTime d (n / 64) (d.now - above) ≤ above) (hb : (d.leg n).blankEnd ≤ d.now) :
    softTrip n above r d = tripped n LEG.TRIP.SOFT_LAT 2 d := by
  simp only [softTrip]
  rw [if_neg (by simp [ht, h]), if_neg (by omega), sendDie_up _ _ _ (by simpa [tripOff_eq] using hl), tripAddr_tripOff]
  rfl

/-! ### Presence and the bootstrap -/

theorem presenceSeen_seen {n above : Nat} {d : Dev} (h : 12 ≤ above) (hgl : (d.leg n).gl = true)
    (hb : (d.leg n).blankEnd ≤ d.now) (ht : underTest d n = false) :
    presenceSeen n above d = d.setLeg n { d.leg n with presSeen := true } :=
  if_pos (by simp [h, hgl, hb, ht])

/-- R136: a GH turn-on that waits is dropped. -/
def ghWaitDropped (n : Nat) (d : Dev) : Dev :=
  if (d.leg n).wait.map (·.1) = some .gh then d.setLeg n { d.leg n with wait := none } else d

theorem ghWaitDropped_gl (n : Nat) (d : Dev) : ((ghWaitDropped n d).leg n).gl = (d.leg n).gl := by
  unfold ghWaitDropped
  split
  · simp
  · rfl

theorem ghWaitDropped_ne {n m : Nat} (d : Dev) (h : m ≠ n) : (ghWaitDropped n d).leg m = d.leg m := by
  unfold ghWaitDropped
  split
  · simp [h]
  · rfl

theorem ghWaitDropped_eq (n : Nat) (d : Dev) : ∃ ls, ghWaitDropped n d = { d with legs := ls } := by
  unfold ghWaitDropped
  split <;> exact ⟨_, rfl⟩

/-- R136: GH goes off and a refresh pulse is owed. -/
def bstDown (n : Nat) (d : Dev) : Dev :=
  let e := drive n .gh false (ghWaitDropped n d)
  e.setLeg n { e.leg n with refreshOwed := true }

theorem bstDown_spec (n : Nat) (d : Dev) :
    ((bstDown n d).leg n).gh = false ∧ ((bstDown n d).leg n).gl = (d.leg n).gl ∧ ((bstDown n d).leg n).refreshOwed = true ∧
      (∀ m, m ≠ n → (bstDown n d).leg m = d.leg m) ∧ ∃ ls, bstDown n d = { d with legs := ls } := by
  obtain ⟨hgh, hgl⟩ := drive_gates n .gh false (ghWaitDropped n d)
  have others : ∀ m, m ≠ n → (drive n .gh false (ghWaitDropped n d)).leg m = d.leg m := fun m hm =>
    (drive_ne n m .gh false _ hm).trans (ghWaitDropped_ne d hm)
  obtain ⟨ls, heq⟩ := ghWaitDropped_eq n d
  unfold bstDown
  refine ⟨by simpa using hgh, ?_, by simp, fun m hm => by simpa [hm] using others m hm, ?_⟩
  · simpa [ghWaitDropped_gl] using hgl
  · rw [drive_eq, heq]
    exact ⟨_, rfl⟩

theorem bstUv_on {n : Nat} {d : Dev} (hgh : (d.leg n).gh = true) (hl : (d.die (n / 64)).link = true) :
    bstUv n d = ((bstDown n d).raise (legP n) LEG.TRIP.BST_UV).send (faultOf (legP n) 3 n) := by
  obtain ⟨-, -, -, -, ls, heq⟩ := bstDown_spec n d
  have up : (((bstDown n d).raise (legP n) LEG.TRIP.BST_UV).die (n / 64)).link = true := by
    rw [heq]
    exact hl
  exact (if_neg (by simp [hgh])).trans (sendDie_up _ _ _ up)

/-- What a low bootstrap does to a leg whose GH is on. -/
theorem bstUv_spec {n : Nat} {d : Dev} (hgh : (d.leg n).gh = true) (hl : (d.die (n / 64)).link = true) :
    ((bstUv n d).leg n).gh = false ∧ ((bstUv n d).leg n).gl = (d.leg n).gl ∧ ((bstUv n d).leg n).refreshOwed = true ∧
      (bstUv n d).on (legP n) LEG.TRIP.BST_UV = true ∧
      (bstUv n d).flt = { d.flt with inflight := d.flt.inflight ++ [faultOf (legP n) 3 n] } ∧
      (∀ m, m ≠ n → (bstUv n d).leg m = d.leg m) ∧ (∀ a, a ≠ legP n + 0x05C → (bstUv n d).reg a = d.reg a) ∧
      ∃ ls rs es fl, bstUv n d = { d with legs := ls, regs := rs, events := es, flt := fl } := by
  obtain ⟨hgh', hgl, howed, hothers, ls, heq⟩ := bstDown_spec n d
  have legs : ∀ m, (bstUv n d).leg m = (bstDown n d).leg m := fun m => by
    rw [bstUv_on hgh hl, Dev.send_leg, Dev.raise_leg]
  rw [legs]
  refine ⟨hgh', hgl, howed, ?_, ?_, fun m hm => (legs m).trans (hothers m hm), fun a ha => ?_, ?_⟩
  · rw [bstUv_on hgh hl, Dev.send_on, Dev.on_raise _ (by decide) (by decide)]
  · rw [bstUv_on hgh hl, Dev.send_flt, Dev.raise_flt, heq]
  · rw [bstUv_on hgh hl, Dev.send_reg, Dev.reg_raise, if_neg (by exact ha), heq]
    rfl
  · obtain ⟨rs, es, hraise⟩ := (Dev.registersMove.refl (bstDown n d)).raise (legP n) LEG.TRIP.BST_UV
    rw [bstUv_on hgh hl, hraise, heq]
    exact ⟨_, _, _, _, rfl⟩

/-! ### The statement -/

/-- Settles O2: both comparators trip a leg by the same operation, and their filters and the blanking window decide whether
they do; a low bootstrap moves GH alone. -/
theorem tripsPresenceAndBootstrap : Obligations.TripsPresenceAndBootstrap := by
  refine ⟨fun s n above hs ht hl => ⟨fun h => ?hard, fun h => ?hardShort, fun r h hb => ?soft, fun r h => ?softShort,
    fun h hb => ?blanked⟩, fun s n hs => ⟨fun above h hgl hb ht => ?presence, fun hgh hl => ?bootstrap⟩⟩
  case hard =>
    obtain ⟨hoff, hfree, hlat, hplan, hflt, hothers, hreg, ls, ps, rs, es, fs, heq⟩ :=
      tripped_spec n (lat := LEG.TRIP.HARD_LAT) 1 s.dev rfl (by decide) (by decide)
    rw [← hardTrip_trips ht hl h] at hoff hfree hlat hplan hflt hothers hreg heq
    exact ⟨_, onDie_awake hs, hoff, hfree, hlat, hplan, hflt, hothers, hreg, by rw [heq]⟩
  case hardShort => exact (onDie_awake hs).trans (by rw [hardTrip_short h]; rfl)
  case soft =>
    obtain ⟨hoff, hfree, hlat, hplan, hflt, hothers, hreg, ls, ps, rs, es, fs, heq⟩ :=
      tripped_spec n (lat := LEG.TRIP.SOFT_LAT) 2 s.dev rfl (by decide) (by decide)
    rw [← softTrip_trips r ht hl h hb] at hoff hfree hlat hplan hflt hothers hreg heq
    exact ⟨_, onDie_awake hs, hoff, hfree, hlat, hplan, hflt, hothers, hreg, by rw [heq]⟩
  case softShort => exact (onDie_awake hs).trans (by rw [softTrip_short r h]; rfl)
  case blanked =>
    refine ⟨_, (onDie_awake hs).trans (by rw [softTrip_blanked ht h hb]), by simp, fun j hj => by simp [hj], rfl⟩
  case presence =>
    refine ⟨_, (onDie_awake hs).trans (by rw [presenceSeen_seen h hgl hb ht]), by simp, fun m hm => by simp [hm], rfl⟩
  case bootstrap =>
    obtain ⟨hgh', hgl, howed, hlat, hflt, hothers, hreg, ls, rs, es, fl, heq⟩ := bstUv_spec hgh hl
    exact ⟨_, onDie_awake hs, hgh', hgl, howed, hlat, hflt, hothers, hreg, by rw [heq]⟩

end Sys2Proof.Machine
end

section
/-!
PROOFS. The test DAC's registers tell nothing of a leg's state (R118).
-/

namespace Sys2Proof.Machine

/-! ### Registers below the instance pages

A leg's state reads the pages of legs, gangs, frames, axes and converters, and STAT.DIES of the FLT page, and no other register. -/

section
variable {d : Dev} {a : Nat} {w : Word} (ha : a < 0x41000000)
include ha

theorem reg_setReg_gang (g off : Nat) : (d.setReg a w).reg (gangP g + off) = d.reg (gangP g + off) :=
  Dev.reg_setReg_ne d w (by unfold gangP; omega)

theorem fld_setReg_gang (g : Nat) (f : Fld) : (d.setReg a w).fld (gangP g) f = d.fld (gangP g) f :=
  congrArg (bits · f.lo f.n) (reg_setReg_gang ha g f.off)

theorem fld_setReg_leg (n : Nat) (f : Fld) : (d.setReg a w).fld (legP n) f = d.fld (legP n) f :=
  congrArg (bits · f.lo f.n) (Dev.reg_setReg_ne d w (by unfold legP; omega))

theorem fld_setReg_frame (n : Nat) (f : Fld) : (d.setReg a w).fld (frameP n) f = d.fld (frameP n) f :=
  congrArg (bits · f.lo f.n) (Dev.reg_setReg_ne d w (by unfold frameP; omega))

theorem fld_setReg_axis (n : Nat) (f : Fld) : (d.setReg a w).fld (axisP n) f = d.fld (axisP n) f :=
  congrArg (bits · f.lo f.n) (Dev.reg_setReg_ne d w (by unfold axisP; omega))

theorem fld_setReg_conv (n : Nat) (f : Fld) : (d.setReg a w).fld (convP n) f = d.fld (convP n) f :=
  congrArg (bits · f.lo f.n) (Dev.reg_setReg_ne d w (by unfold convP; omega))

theorem gangEn_setReg : gangEn (d.setReg a w) = gangEn d := by
  funext g
  simp only [gangEn, Dev.on, fld_setReg_gang ha]

theorem gangDie_setReg (g : Nat) : gangDie (d.setReg a w) g = gangDie d g := fld_setReg_gang ha g _

theorem gangFrame_setReg (g : Nat) : gangFrame (d.setReg a w) g = gangFrame d g := fld_setReg_gang ha g _

theorem slotByte_setReg (g : Nat) : slotByte (d.setReg a w) g = slotByte d g := by
  funext i
  simp only [slotByte, Nat.add_assoc, reg_setReg_gang ha]

theorem spareLegs_setReg (g : Nat) : spareLegs (d.setReg a w) g = spareLegs d g := by
  simp only [spareLegs, spareByte, reg_setReg_gang ha]

theorem placeIn_setReg (g n : Nat) : placeIn (d.setReg a w) g n = placeIn d g n := by
  simp only [placeIn, gangDie_setReg ha, slotByte_setReg ha, spareLegs_setReg ha]
  rfl

theorem listedIn_setReg (n : Nat) : listedIn (d.setReg a w) n = listedIn d n := by
  simp only [listedIn, enabledGangs, gangEn_setReg ha, placeIn_setReg ha]

theorem anyGangOf_setReg (n : Nat) : anyGangOf (d.setReg a w) n = anyGangOf d n := by
  simp only [anyGangOf, listedIn_setReg ha, placeIn_setReg ha]

theorem ownerFaulted_setReg (g : Nat) : ownerFaulted (d.setReg a w) g = ownerFaulted d g := by
  simp only [ownerFaulted, fld_setReg_gang ha, fld_setReg_axis ha, fld_setReg_conv ha]

theorem ownerHold_setReg (g : Nat) : ownerHold (d.setReg a w) g = ownerHold d g := by
  simp only [ownerHold, fld_setReg_gang ha, fld_setReg_axis ha]
  rfl

theorem ownerFaultHeld_setReg (g : Nat) : ownerFaultHeld (d.setReg a w) g = ownerFaultHeld d g := by
  simp only [ownerFaultHeld, fld_setReg_gang ha]
  rfl

theorem reactionHeld_setReg (n : Nat) : reactionHeld (d.setReg a w) n = reactionHeld d n := by
  simp only [reactionHeld, listedIn_setReg ha, ownerFaultHeld_setReg ha]

variable (hflt : a ≠ fltP + FLT.STAT.DIES.off)
include hflt

omit ha in
theorem dieMarked_setReg (k : Nat) : dieMarked (d.setReg a w) k = dieMarked d k :=
  congrArg (fun x : Word => (bits x FLT.STAT.DIES.lo FLT.STAT.DIES.n).testBit k) (Dev.reg_setReg_ne d w hflt.symm)

theorem heldSafe_setReg (n : Nat) : heldSafe (d.setReg a w) n = heldSafe d n := by
  simp only [heldSafe, latched, heldApart, Dev.on, listedIn_setReg ha, fld_setReg_leg ha, fld_setReg_gang ha,
    dieMarked_setReg hflt, ownerFaulted_setReg ha]
  rfl

theorem gangSwitching_setReg (g : Nat) : gangSwitching (d.setReg a w) g = gangSwitching d g := by
  simp only [gangSwitching, ownGang, Dev.on, gangEn_setReg ha, gangDie_setReg ha, gangFrame_setReg ha, fld_setReg_gang ha,
    fld_setReg_frame ha, dieMarked_setReg hflt, ownerHold_setReg ha]
  rfl

theorem legState_setReg (n : Nat) : legState (d.setReg a w) n = legState d n := by
  simp only [legState, heldSafe_setReg ha hflt, reactionHeld_setReg ha, anyGangOf_setReg ha, gangEn_setReg ha,
    gangSwitching_setReg ha hflt]
  rfl

end

end Sys2Proof.Machine
end

section
/-!
PROOFS. The test DAC, firmware conversions and windows (R155, R233, R239, R240, R243).
-/

namespace Sys2Proof.Machine

/-- Of a device, only registers differ. -/
def Dev.registersSet (d e : Dev) : Prop := ∃ rs, e = { d with regs := rs }

theorem Dev.registersSet.refl (d : Dev) : d.registersSet d := ⟨_, rfl⟩

theorem Dev.registersSet.setReg {d e : Dev} (h : d.registersSet e) (a : Nat) (w : Word) : d.registersSet (e.setReg a w) := by
  obtain ⟨rs, rfl⟩ := h
  exact ⟨_, rfl⟩

theorem Dev.registersSet.setFld {d e : Dev} (h : d.registersSet e) (p : Nat) (f : Fld) (v : Nat) :
    d.registersSet (e.setFld p f v) :=
  h.setReg _ _

theorem Dev.registersSet.setSamp {d e : Dev} (h : d.registersSet e) (f : SampRec → SampRec) :
    ∃ rs, e.setSamp f = { d with regs := rs, samp := f d.samp } := by
  obtain ⟨rs, rfl⟩ := h
  exact ⟨_, rfl⟩

theorem answer_fld (who : Requester) (w : Word) (bad : Bool) (d : Dev) (p : Nat) (f : Fld) :
    (answer who w bad d).fld p f = d.fld p f := rfl

/-! ### Who is granted the test DAC (R239) -/

theorem plumbAdvance_none {d : Dev} (h : d.samp.plumb = none) : plumbAdvance d = d := by
  simp [plumbAdvance, h]

theorem plumbAdvance_waits {d : Dev} {sl step stop : Nat} (h : d.samp.plumb = some (sl, step, stop))
    (hw : d.samp.plumbWait = true) : plumbAdvance d = d := by
  simp [plumbAdvance, h, hw]

/-- A free DAC that no plumb cycle waits for goes to the first of the other users. -/
theorem dacGrant_user {d : Dev} (h : d.samp.plumb = none) (hw : d.samp.plumbWait = false) (ho : dacOwner d = 0) :
    dacGrant d = grantUser d := by
  simp [dacGrant, plumbAdvance_none h, hw, ho]

/-- A plumb cycle that waits is granted a DAC that is free, or that a diagnosis has. -/
theorem dacGrant_plumb {d : Dev} {sl step stop : Nat} (h : d.samp.plumb = some (sl, step, stop))
    (hw : d.samp.plumbWait = true) (ho : dacOwner d = 0 ∨ dacOwner d = 2) : dacGrant d = grantPlumb d := by
  simp [dacGrant, plumbAdvance_waits h hw, hw, ho]

/-- Unless a self-test takes the DAC, the grant is all that happens. -/
theorem dacGranted_of_comp {d : Dev} (h : (dacGrant d).samp.comp = d.samp.comp) : dacGranted d = dacGrant d := by
  simp only [dacGranted, h]
  split
  · next hc => rw [if_pos hc]
  · rfl

/-- R155: a self-test that takes the DAC begins its next step. -/
theorem dacGranted_begins {d : Dev} {k : Fin 4} (h : d.samp.comp = none) (hc : (dacGrant d).samp.comp = some k.val) :
    dacGranted d = stBegin k (dacGrant d) := by
  simp [dacGranted, h, hc]

/-! ### What a grant does -/

theorem grantUser_diag {d : Dev} {q : List DacUser} (h : d.samp.queue = .diag :: q) :
    grantUser d = ((d.setFld adcP ADC.STAT.DACOWN 2).setFld adcP ADC.STAT.TD 2).setSamp
      fun r => { r with queue := q, armedAt := d.now } := by
  simp only [grantUser, h]
  rfl

theorem grantUser_comp {d : Dev} {k : Fin 4} {q : List DacUser} (h : d.samp.queue = .comp k :: q) :
    grantUser d = (d.setFld adcP ADC.STAT.DACOWN 3).setSamp fun r => { r with queue := q, comp := some k.val } := by
  simp only [grantUser, h]

/-- R235, R239: the plumb step that waits begins now. -/
theorem grantPlumb_free {d : Dev} {sl step stop : Nat} (h : d.samp.plumb = some (sl, step, stop)) (ho : dacOwner d = 0) :
    grantPlumb d = (d.setFld adcP ADC.STAT.DACOWN 1).setSamp
      fun r => { r with plumbWait := false, plumb := some (sl, step, d.now + 49152) } := by
  simp [grantPlumb, ho, Dev.setSamp, h, plumbStep]

/-- R239, R240: it takes the DAC from a diagnosis, which waits at the head of the queue again. -/
theorem grantPlumb_takes {d : Dev} {sl step stop : Nat} (h : d.samp.plumb = some (sl, step, stop)) (ho : dacOwner d = 2) :
    grantPlumb d = ((d.setFld adcP ADC.STAT.TD 1).setFld adcP ADC.STAT.DACOWN 1).setSamp
      fun r => { r with queue := .diag :: r.queue, plumbWait := false, plumb := some (sl, step, d.now + 49152) } := by
  have next : d.samp.plumb.map (fun (s, step, _) => (s, step, d.now + plumbStep)) = some (sl, step, d.now + 49152) := by
    rw [h]
    rfl
  rw [← next]
  simp only [grantPlumb, ho, if_true]
  rfl

/-- R155: the step that begins injects its level. -/
theorem stBegin_first {k l : Nat} {rest : List Nat} {d : Dev} (h : (d.die k).stLegs = l :: rest)
    (ht : testable d (64 * k + l) = true) :
    stBegin k d = showProg k (d.setDie k { d.die k with
      stOn := true, stLevel := stInject d (64 * k + l) (d.die k).stStep (d.die k).stMargin }) := by
  have stays : stSkipping k (l :: rest) d = d := by simp [stSkipping, ht]
  simp only [stBegin, h, stays]

theorem legState_setSamp (f : SampRec → SampRec) (d : Dev) (n : Nat) : legState (d.setSamp f) n = legState d n := rfl

theorem testable_grantUser {d : Dev} {k : Fin 4} {q : List DacUser} (h : d.samp.queue = .comp k :: q) (n : Nat) :
    testable (grantUser d) n = testable d n := by
  rw [grantUser_comp h, testable, legState_setSamp, Dev.setFld, legState_setReg (by decide) (by decide)]
  rfl

/-! ### The diagnosis (R240) -/

theorem exec_tdcmdGo {s : State} {who : Requester} (val : Word) (hs : s.dev.serves who) (hgo : bitOf val 0 = true)
    (hab : bitOf val 1 = false) :
    exec (.tdcmdGo who val) s = .next (s.put (answer who 0 false (tdGo val s.dev))) := by
  have hsp : specialWrite who .adc 0 ((adcP + 0x04C) % 0x1000) val s.dev = some (tdGo val s.dev) := by
    show some (if bitOf val 1 then _ else if bitOf val 0 then _ else _) = _
    simp [hgo, hab]
  rw [← bodyWrite_special hsp, ← write_adc who 0x04C val s.dev (by omega) (by omega) (by omega) hs.2]
  exact act_awake hs.1

theorem exec_tdcmdAbort {s : State} {who : Requester} (val : Word) (hs : s.dev.serves who) (hab : bitOf val 1 = true) :
    exec (.tdcmdAbort who val) s = .next (s.put (answer who 0 false (tdAbort s.dev))) := by
  have hsp : specialWrite who .adc 0 ((adcP + 0x04C) % 0x1000) val s.dev = some (tdAbort s.dev) := by
    show some (if bitOf val 1 then _ else _) = _
    simp [hab]
  rw [← bodyWrite_special hsp, ← write_adc who 0x04C val s.dev (by omega) (by omega) (by omega) hs.2]
  exact act_awake hs.1

/-- A user that asks for the DAC is in the queue, and nothing but the queue changes. -/
theorem dacRequest_queues (u : DacUser) (d : Dev) :
    ∃ q, u ∈ q ∧ dacRequest u d = d.setSamp fun r => { r with queue := q } := by
  by_cases h : d.samp.queue.contains u
  · refine ⟨d.samp.queue, by simpa using h, ?_⟩
    simp only [dacRequest, Dev.setSamp, h, if_true]
  · refine ⟨d.samp.queue ++ [u], by simp, ?_⟩
    simp only [dacRequest, Dev.setSamp, h]
    rfl

theorem tdGo_starts {d : Dev} (val : Word) (h : d.fld adcP ADC.STAT.TD = 0) :
    ∃ q, DacUser.diag ∈ q ∧ tdGo val d = (d.setFld adcP ADC.STAT.TD 1).setSamp
      fun r => { r with diag := some (bits val 8 6, bits val 16 12), queue := q } := by
  obtain ⟨q, hq, heq⟩ := dacRequest_queues .diag ((d.setFld adcP ADC.STAT.TD 1).setSamp
    fun r => { r with diag := some (bits val 8 6, bits val 16 12) })
  exact ⟨q, hq, (if_neg (by simp [h])).trans heq⟩

/-- A diagnosis that has the DAC gives it up. -/
def dacGivenUp (d : Dev) : Dev := if dacOwner d = 2 then dacRelease d else d

theorem dacGivenUp_spec (d : Dev) :
    (∀ a, a ≠ adcP + 0x058 → (dacGivenUp d).reg a = d.reg a) ∧ ∃ rs r, dacGivenUp d = { d with regs := rs, samp := r } := by
  unfold dacGivenUp
  split
  · exact ⟨fun a ha => by simp [dacRelease, ADC.STAT.DACOWN, ha], _, _, rfl⟩
  · exact ⟨fun _ _ => rfl, _, _, rfl⟩

theorem diagEnd_eq (d : Dev) :
    diagEnd d = ((dacGivenUp d).setFld adcP ADC.STAT.TD 0).setSamp
      fun r => { r with diag := none, queue := r.queue.filter (· ≠ .diag) } := rfl

theorem diagEnd_spec (d : Dev) :
    (diagEnd d).fld adcP ADC.STAT.TD = 0 ∧ (diagEnd d).samp.diag = none ∧ DacUser.diag ∉ (diagEnd d).samp.queue ∧
      (∀ a, a ≠ adcP + 0x058 → (diagEnd d).reg a = d.reg a) ∧ ∃ rs r, diagEnd d = { d with regs := rs, samp := r } := by
  obtain ⟨hreg, rs, r, heq⟩ := dacGivenUp_spec d
  rw [diagEnd_eq]
  refine ⟨?_, by simp, by simp, fun a ha => ?_, ?_⟩
  · rw [Dev.setSamp_fld, Dev.fld_setFld _ _ _ _ (by unfold Fld.fits; decide)]
    rfl
  · rw [Dev.setSamp_reg, ← hreg a ha]
    exact (Dev.reg_setFld _ _ _ _ a).trans (if_neg ha)
  · rw [heq]
    exact ⟨_, _, rfl⟩

/-! ### MAN and the windows (R233, R243) -/

theorem exec_man {s : State} {who : Requester} (val : Word) (hs : s.dev.serves who) :
    exec (.man who val) s = .next (s.put (answer who 0 false (manLand val s.dev))) := by
  have hsp : specialWrite who .adc 0 ((adcP + 0x048) % 0x1000) val s.dev = some (manLand val s.dev) := rfl
  rw [← bodyWrite_special hsp, ← write_adc who 0x048 val s.dev (by omega) (by omega) (by omega) hs.2]
  exact act_awake hs.1

theorem manLand_asks {val : Word} {d : Dev} (hgo : bitOf val 0 = true) (hv : d.on adcP ADC.MANRES.VALID = true)
    (hr : d.fld adcP ADC.MANRES.RES = bits val 16 6) (hq : ∀ q ∈ d.samp.reqs, q.frame ≠ 16)
    (hx : ∀ x ∈ d.samp.dels, x.req.frame ≠ 16) (hok : sargOk (bits val 8 6) (bits val 29 3) (bits val 22 7) = true) :
    manLand val d = d.setSamp fun r => { r with reqs := r.reqs ++
      [⟨16, 0, bits val 8 6, bits val 29 3, bits val 22 7, bits val 16 6, 255, 0, d.now + 1, none⟩] } := by
  have free : (d.samp.reqs.any (fun q => q.frame = 16) || d.samp.dels.any fun x => x.req.frame = 16) = false := by
    simpa using ⟨hq, hx⟩
  simp only [manLand, hgo, hv, hr, free, hok]
  rfl

theorem manLand_ignored {val : Word} {d : Dev} (hgo : bitOf val 0 = true) (hv : d.on adcP ADC.MANRES.VALID = false) :
    manLand val d = d.raise adcP ADC.EVT.MAN_IGN := by
  simp [manLand, hgo, hv]

theorem exec_wincfgWrite {s : State} {who : Requester} (off : Nat) (val : Word) (hs : s.dev.serves who) (h4 : off % 4 = 0)
    (hlo : 0x300 ≤ off) (hhi : off < 0x1000) :
    exec (.wincfgWrite who (at_ (resP + off)) val) s =
      .next (s.put (answer who 0 false (wincfgLand (resP + off) val s.dev))) := by
  have hsp : specialWrite who .res 0 ((resP + off) % 0x1000) val s.dev = some (wincfgLand (resP + off) val s.dev) := by
    rw [resP_mod off hhi]
    exact if_pos hlo
  rw [← bodyWrite_special hsp, ← write_res who off val s.dev hhi h4 (by omega) hs.2]
  exact act_awake hs.1

/-- R233: a limit. -/
theorem wincfgLand_limit {off : Nat} (val : Word) (d : Dev) (h : off < 0x400) :
    wincfgLand (resP + off) val d = d.setReg (resP + off) (val &&& maskAt (resP + off)) := by
  have low : ¬ 0x400 ≤ (resP + off) % 0x1000 := by rw [resP_mod off (by omega)]; omega
  exact if_neg (by simp [low])

theorem bitOf_setBits_zero (w : Word) (i : Nat) : bitOf (setBits w i 1 0) i = false := by
  simp [bitOf, setBits_getLsbD]

/-- R233: clearing EN takes the window's output down. -/
theorem wincfgLand_off {r : Nat} (val : Word) (d : Dev) (hr : r < 64) (h : bitOf val 31 = false) :
    (wincfgLand (resP + (0x400 + 4 * r)) val d).reg (resP + (0x400 + 4 * r)) = val &&& maskAt (resP + (0x400 + 4 * r)) ∧
      bitOf ((wincfgLand (resP + (0x400 + 4 * r)) val d).reg (resP + 0x050 + r / 32 * 4)) (r % 32) = false ∧
      sget zeroNat (wincfgLand (resP + (0x400 + 4 * r)) val d).samp.win r = 0 ∧
      ∃ rs q, wincfgLand (resP + (0x400 + 4 * r)) val d = { d with regs := rs, samp := q } := by
  have hmod : (resP + (0x400 + 4 * r)) % 0x1000 = 0x400 + 4 * r := resP_mod _ (by omega)
  have hidx : (0x400 + 4 * r - 0x400) / 4 = r := by omega
  have apart : resP + (0x400 + 4 * r) ≠ resP + 0x050 + r / 32 * 4 := by omega
  simp only [wincfgLand, hmod, hidx]
  rw [if_pos (by simp [h]; omega)]
  refine ⟨?_, ?_, by simp, ?_⟩
  · rw [Dev.setSamp_reg, Dev.reg_setReg_ne _ _ apart, Dev.reg_setReg_same]
  · rw [Dev.setSamp_reg, Dev.reg_setReg_same, bitOf_setBits_zero]
  · obtain ⟨rs, heq⟩ := (((Dev.registersSet.refl d).setReg (resP + (0x400 + 4 * r)) _).setReg
      (resP + 0x050 + r / 32 * 4) _).setSamp _
    exact ⟨rs, _, heq⟩

/-- A step that begins shows PROG and PROG_TOTAL, and nothing else of the device moves but its die. -/
theorem showProg_reg {k a : Nat} (d : Dev) (h1 : a ≠ ddieP k + 0x02C) (h2 : a ≠ ddieP k + 0x030) :
    (showProg k d).reg a = d.reg a := by
  simp [showProg, h1, h2]

theorem adcStat_ne_ddie (k off : Nat) : adcP + 0x058 ≠ ddieP k + off := by unfold adcP ddieP; omega

theorem showProg_adcStat (k : Nat) (f : Fld) (d : Dev) (h : f.off = 0x058) :
    (showProg k d).fld adcP f = d.fld adcP f := by
  rw [Dev.fld, h, showProg_reg d (adcStat_ne_ddie k _) (adcStat_ne_ddie k _), ← h, Dev.fld]

theorem showProg_die (k j : Nat) (d : Dev) : (showProg k d).die j = d.die j := by simp [showProg]

theorem showProg_eq (k : Nat) (d : Dev) : d.registersSet (showProg k d) :=
  ((Dev.registersSet.refl d).setReg _ _).setReg _ _

theorem stBegin_spec {k l : Nat} {rest : List Nat} {d : Dev} (h : (d.die k).stLegs = l :: rest)
    (ht : testable d (64 * k + l) = true) :
    (stBegin k d).die k = { d.die k with
        stOn := true, stLevel := stInject d (64 * k + l) (d.die k).stStep (d.die k).stMargin } ∧
      (∀ j, j ≠ k → (stBegin k d).die j = d.die j) ∧ dacOwner (stBegin k d) = dacOwner d ∧
      (∀ a, a ≠ ddieP k + 0x02C → a ≠ ddieP k + 0x030 → (stBegin k d).reg a = d.reg a) ∧
      ∃ ds rs, stBegin k d = { d with dies := ds, regs := rs } := by
  rw [stBegin_first h ht]
  refine ⟨?_, fun j hj => ?_, ?_, fun a h1 h2 => ?_, ?_⟩
  · rw [showProg_die, Dev.die_setDie, if_pos rfl]
  · rw [showProg_die, Dev.die_setDie, if_neg hj]
  · rw [dacOwner, showProg_adcStat _ _ _ rfl]
    rfl
  · rw [showProg_reg _ h1 h2]
    rfl
  · obtain ⟨rs, heq⟩ := showProg_eq k (d.setDie k { d.die k with
      stOn := true, stLevel := stInject d (64 * k + l) (d.die k).stStep (d.die k).stMargin })
    rw [heq]
    exact ⟨_, _, rfl⟩

/-! ### The statement -/

/-- Settles O28: the grant is one of three moves, which the plumb cycle, the owner and the queue choose; the rest are single
commands. -/
theorem testDacManAndWindows : Obligations.TestDacManAndWindows := by
  have hown : ADC.STAT.DACOWN.fits := by unfold Fld.fits; decide
  have htd : ADC.STAT.TD.fits := by unfold Fld.fits; decide
  refine ⟨fun s who val hs => ⟨fun q hp hw ho hq => ?diag, fun k q hq l rest hl _ hp hw ho hc ht => ?selfTest,
    fun sl step stop hp hw ho => ?plumbFree, fun sl step stop hp hw ho => ?plumbTakes, fun hgo hab ht => ?go, fun hab ht => ?abort,
    fun ht harm => ?timeout⟩, fun s who val hs => ⟨fun hgo hv hr hq hx hok => ?man, fun hgo hv => ?manIgnored, fun r => ?limit,
    fun r hen => ?off⟩⟩
  case diag =>
    have grant := (dacGrant_user hp hw ho).trans (grantUser_diag hq)
    refine ⟨_, (act_awake hs.1).trans (by rw [dacGranted_of_comp (by rw [grant]; rfl), grant]), ?_, ?_, rfl, fun a ha => ?_, ?_⟩
    · rw [dacOwner, Dev.setSamp_fld, Dev.fld_setFld_ne _ _ _ _ _ _ (.inr (by decide)), Dev.fld_setFld _ _ _ _ hown]
      rfl
    · rw [Dev.setSamp_fld, Dev.fld_setFld _ _ _ _ htd]
      rfl
    · simp [ADC.STAT.TD, ADC.STAT.DACOWN, ha]
    · obtain ⟨rs, heq⟩ := (((Dev.registersSet.refl s.dev).setFld adcP ADC.STAT.DACOWN 2).setFld adcP ADC.STAT.TD 2).setSamp _
      rw [heq]
  case selfTest =>
    have grant := (dacGrant_user hp hw ho).trans (grantUser_comp hq)
    have free : testable (dacGrant s.dev) (64 * k + l) = true := by rw [dacGrant_user hp hw ho, testable_grantUser hq, ht]
    have begins := dacGranted_begins (k := k) hc (by rw [grant]; rfl)
    obtain ⟨hdie, hothers, howner, hreg, ds, rs, heq⟩ := stBegin_spec (k := k) (by rw [grant]; exact hl) free
    rw [← begins] at hdie hothers howner hreg heq
    rw [grant] at hdie hothers howner hreg heq
    refine ⟨_, act_awake hs.1, ?_, ?_, hdie, hothers, fun a h1 h2 h3 => ?_, ?_⟩
    · rw [howner, dacOwner, Dev.setSamp_fld, Dev.fld_setFld _ _ _ _ hown]
      rfl
    · rw [heq]
      rfl
    · rw [hreg a h2 h3]
      simp [ADC.STAT.DACOWN, h1]
    · rw [heq]
      rfl
  case plumbFree =>
    have grant := (dacGrant_plumb hp hw (.inl ho)).trans (grantPlumb_free hp ho)
    refine ⟨_, (act_awake hs.1).trans (by rw [dacGranted_of_comp (by rw [grant]; rfl), grant]), ?_, rfl, fun a ha => ?_, rfl⟩
    · rw [dacOwner, Dev.setSamp_fld, Dev.fld_setFld _ _ _ _ hown]
      rfl
    · simp [ADC.STAT.DACOWN, ha]
  case plumbTakes =>
    have grant := (dacGrant_plumb hp hw (.inr ho)).trans (grantPlumb_takes hp ho)
    refine ⟨_, (act_awake hs.1).trans (by rw [dacGranted_of_comp (by rw [grant]; rfl), grant]), ?_, ?_, rfl, fun a ha => ?_, ?_⟩
    · rw [dacOwner, Dev.setSamp_fld, Dev.fld_setFld _ _ _ _ hown]
      rfl
    · rw [Dev.setSamp_fld, Dev.fld_setFld_ne _ _ _ _ _ _ (.inr (by decide)), Dev.fld_setFld _ _ _ _ htd]
      rfl
    · simp [ADC.STAT.TD, ADC.STAT.DACOWN, ha]
    · obtain ⟨rs, heq⟩ := (((Dev.registersSet.refl s.dev).setFld adcP ADC.STAT.TD 1).setFld adcP ADC.STAT.DACOWN 1).setSamp _
      rw [heq]
  case go =>
    obtain ⟨q, hq, start⟩ := tdGo_starts val ht
    refine ⟨_, (exec_tdcmdGo val hs hgo hab).trans (by rw [start]), ?_, rfl, hq, fun a ha => ?_, rfl⟩
    · rw [answer_fld, Dev.setSamp_fld, Dev.fld_setFld _ _ _ _ htd]
      rfl
    · simp [ADC.STAT.TD, ha]
  case abort =>
    have stop : tdAbort s.dev = diagEnd s.dev := if_neg ht
    obtain ⟨htd0, hdiag, hqueue, hreg, rs, r, heq⟩ := diagEnd_spec s.dev
    have run := exec_tdcmdAbort val hs hab
    rw [stop] at run
    refine ⟨_, run, htd0, hdiag, hqueue, hreg, ?_⟩
    rw [heq]
    rfl
  case timeout =>
    have late : tdTimeoutLand s.dev = (diagEnd s.dev).raise adcP ADC.EVT.TD_TIMEOUT := if_pos (by simp [ht, harm])
    obtain ⟨htd0, hdiag, hqueue, hreg, rs, r, heq⟩ := diagEnd_spec s.dev
    have run : exec .tdTimeout s = _ := act_awake hs.1
    rw [late] at run
    refine ⟨_, run, ?_, hdiag, Dev.on_raise _ (by decide) (by decide), ?_⟩
    · rw [Dev.fld_raise_ne _ _ _ _ _ (.inl (by decide)), htd0]
    · rw [heq]
      rfl
  case man =>
    exact ⟨_, (exec_man val hs).trans (by rw [manLand_asks hgo hv hr hq hx hok]), rfl, rfl⟩
  case manIgnored =>
    refine ⟨_, (exec_man val hs).trans (by rw [manLand_ignored hgo hv]), ?_, fun a ha => ?_, rfl⟩
    · rw [answer_on, Dev.on_raise _ (by decide) (by decide)]
    · simp [ADC.EVT.MAN_IGN, ha]
  case limit =>
    rw [Nat.add_assoc]
    refine ⟨_, (exec_wincfgWrite (0x300 + 4 * r) val hs (by omega) (by omega) (by omega)).trans
      (by rw [wincfgLand_limit val s.dev (by omega)]), ?_, fun a ha => ?_, rfl⟩
    · rw [answer_reg, Dev.reg_setReg_same]
    · rw [answer_reg, Dev.reg_setReg_ne _ _ ha]
  case off =>
    rw [Nat.add_assoc]
    obtain ⟨hreg, hout, hwin, rs, q, heq⟩ := wincfgLand_off val s.dev r.isLt hen
    have run := exec_wincfgWrite (0x400 + 4 * r) val hs (by omega) (by omega) (by omega)
    refine ⟨_, run, hreg, hout, hwin, ?_⟩
    rw [heq]
    rfl

end Sys2Proof.Machine
end

section
/-!
PROOFS. The comparator self-test (R154 to R156).
-/

namespace Sys2Proof.Machine

/-! ### The commands -/

theorem exec_stStart {s : State} {who : Requester} (k : Fin 4) (val : Word) (chk : Bool) (hs : s.dev.serves who)
    (hh : s.dev.hears who) :
    exec (.stStart who k val chk) s = .next (s.put (answer who 0 false (stCommand k val chk s.dev))) := by
  rw [← dieWrite_hears val (stCommand k val chk) (pageAt_ddie k 0x060 k.isLt (by omega)) hh hs.2]
  exact act_awake hs.1

theorem exec_stAbort {s : State} {who : Requester} (k : Fin 4) (val : Word) (chk : Bool) (hs : s.dev.serves who)
    (hh : s.dev.hears who) :
    exec (.stAbort who k val chk) s = .next (s.put (answer who 0 false (stCommand k val chk s.dev))) := by
  rw [← dieWrite_hears val (stCommand k val chk) (pageAt_ddie k 0x060 k.isLt (by omega)) hh hs.2]
  exact act_awake hs.1

/-- R154: the record of a die whose test begins. -/
def DieRec.testStarts (r : DieRec) (margin : Nat) : DieRec :=
  { r with
    stRun := true, stOn := false, stLevel := 0, stMargin := if margin = 0 then 8 else margin, stLegs := maskLegs r, stStep := 0,
    stAbort := false, stFail := 0, stSkip := 0, stFirst := 0, stValue := 0, stTotal := 6 * (maskLegs r).length, stDone := false,
    stAborted := false }

theorem stCommand_starts {k : Nat} {val : Word} {d : Dev} (ha : d.accepts k) (hp : (d.die k).wdPend = false)
    (hgo : bitOf val 0 = true) (hab : bitOf val 1 = false) (hrun : (d.die k).stRun = false)
    (hlegs : maskLegs (d.die k) ≠ []) :
    stCommand k val true d =
      showProg k (dacRequest (.comp k) ((taken k d).setDie k (((taken k d).die k).testStarts (bits val 8 8)))) := by
  have same : maskLegs ((taken k d).die k) = maskLegs (d.die k) := by simp [maskLegs]
  have idle : ((taken k d).die k).stRun = false := by simp [hrun]
  have some_ : (maskLegs ((taken k d).die k)).isEmpty = false := by
    rw [same]
    simpa using hlegs
  rw [stCommand, carried_accepts _ ha hp]
  simp only [hgo, hab, idle, some_]
  rfl

/-- An ABORT between two steps ends the test at once. -/
theorem stCommand_ends {k : Nat} {val : Word} {d : Dev} (ha : d.accepts k) (hp : (d.die k).wdPend = false)
    (hab : bitOf val 1 = true) (hrun : (d.die k).stRun = true) (hc : d.samp.comp ≠ some k) :
    stCommand k val true d = showProg k (stEnd k true (taken k d)) := by
  rw [stCommand, carried_accepts _ ha hp]
  simp [hab, hrun, hc]

/-- An ABORT while a step runs is noted. -/
theorem stCommand_notes {k : Nat} {val : Word} {d : Dev} (ha : d.accepts k) (hp : (d.die k).wdPend = false)
    (hab : bitOf val 1 = true) (hrun : (d.die k).stRun = true) (hc : d.samp.comp = some k) :
    ((stCommand k val true d).die k).stAbort = true ∧ ((stCommand k val true d).die k).stLegs = (d.die k).stLegs ∧
      (∀ j, j ≠ k → (stCommand k val true d).die j = d.die j) ∧ ∃ ds, stCommand k val true d = { d with dies := ds } := by
  have noted : stCommand k val true d = (taken k d).setDie k { (taken k d).die k with stAbort := true } := by
    rw [stCommand, carried_accepts _ ha hp]
    simp [hab, hrun, hc]
  rw [noted]
  refine ⟨by simp, by simp, fun j hj => by simp [hj], ?_⟩
  rw [taken_eq]
  exact ⟨_, rfl⟩

/-! ### The end of a test -/

/-- A test that does not hold the DAC leaves the queue. -/
theorem dacDropComp_waiting {k : Nat} {d : Dev} (h : d.samp.comp ≠ some k) :
    dacDropComp k d = d.setSamp fun r => { r with queue := r.queue.filter (· ≠ .comp k) } :=
  if_neg h

theorem stEnd_aborts {k : Nat} {d : Dev} (h : d.samp.comp ≠ some k) :
    ((stEnd k true d).die k).stRun = false ∧ ((stEnd k true d).die k).stAborted = true ∧
      ((stEnd k true d).die k).stDone = false ∧ ((stEnd k true d).die k).stLegs = [] ∧
      bitOf ((stEnd k true d).die k).evt 9 = true ∧ DacUser.comp k ∉ (stEnd k true d).samp.queue ∧
      (∀ j, j ≠ k → (stEnd k true d).die j = d.die j) ∧
      ∃ ds q, stEnd k true d = { d with dies := ds, samp := { d.samp with queue := q } } := by
  simp only [stEnd]
  have waits : ∀ r, (d.setDie k r).samp.comp ≠ some k := fun _ => h
  rw [dacDropComp_waiting (waits _)]
  refine ⟨by simp, by simp, by simp, by simp, ?_, by simp, fun j hj => by simp [hj], _, _, rfl⟩
  rw [dieEvt_die, if_pos rfl, bitOf, BitVec.getLsbD_or]
  simp

theorem stCommand_ends_spec {k : Nat} {val : Word} {d : Dev} (ha : d.accepts k) (hp : (d.die k).wdPend = false)
    (hab : bitOf val 1 = true) (hrun : (d.die k).stRun = true) (hc : d.samp.comp ≠ some k) :
    ((stCommand k val true d).die k).stRun = false ∧ ((stCommand k val true d).die k).stAborted = true ∧
      ((stCommand k val true d).die k).stDone = false ∧ ((stCommand k val true d).die k).stLegs = [] ∧
      bitOf ((stCommand k val true d).die k).evt 9 = true ∧ DacUser.comp k ∉ (stCommand k val true d).samp.queue ∧
      (∀ j, j ≠ k → (stCommand k val true d).die j = d.die j) ∧
      (∀ a, a ≠ ddieP k + 0x02C → a ≠ ddieP k + 0x030 → (stCommand k val true d).reg a = d.reg a) ∧
      ∃ ds rs q, stCommand k val true d = { d with dies := ds, regs := rs, samp := { d.samp with queue := q } } := by
  rw [stCommand_ends ha hp hab hrun hc]
  obtain ⟨hrun', haborted, hdone, hlegs, hevt, hq, hothers, ds, q, heq⟩ := stEnd_aborts (k := k) (d := taken k d) hc
  obtain ⟨rs, hshow⟩ := showProg_eq k (stEnd k true (taken k d))
  rw [showProg_die]
  refine ⟨hrun', haborted, hdone, hlegs, hevt, ?_, fun j hj => ?_, fun a h1 h2 => ?_, ?_⟩
  · rw [hshow]
    exact hq
  · rw [showProg_die, hothers j hj, taken_die, if_neg hj]
  · rw [showProg_reg _ h1 h2, heq]
    rfl
  · rw [hshow, heq]
    exact ⟨_, _, _, rfl⟩

/-- R162: a command that fails its check is counted, whatever it asks for. -/
theorem stCommand_checkFails {d : Dev} (k : Nat) (val : Word) (h : d.accepts k) :
    (stCommand k val false d).die k = { d.die k with lastSent := d.now, checkFail := (d.die k).checkFail + 1 } ∧
      (∀ j, j ≠ k → (stCommand k val false d).die j = d.die j) ∧ ∃ ds, stCommand k val false d = { d with dies := ds } :=
  carried_checkFails _ h

/-! ### A step -/

/-- R239: the DAC that a step has had is free again, and its test waits for it. -/
theorem stepReleases (k : Nat) (d : Dev) :
    ∃ q, DacUser.comp k ∈ q ∧ dacRequest (.comp k) (dacRelease d) =
      (d.setFld adcP ADC.STAT.DACOWN 0).setSamp fun r => { r with comp := none, queue := q } := by
  obtain ⟨q, hq, heq⟩ := dacRequest_queues (.comp k) (dacRelease d)
  exact ⟨q, hq, heq⟩

/-- R155: the record of a die after a step that is not the last of its leg. -/
def DieRec.nextStep (r : DieRec) (l : Nat) (passes : Bool) : DieRec :=
  { r with
    stFail := if passes then r.stFail else r.stFail ||| 2 ^ l,
    stFirst := if passes || bitOf r.stFirst 31 then r.stFirst else stFirstWord l r.stStep,
    stOn := true, stStep := r.stStep + 1, stValue := r.stValue + 1 }

theorem stStep_next {k l : Nat} {rest : List Nat} {after : Option Nat} {d : Dev} (hl : (d.die k).stLegs = l :: rest)
    (hrun : (d.die k).stRun = true) (hab : (d.die k).stAbort = false) (hon : (d.die k).stOn = true)
    (hc : d.samp.comp = some k) (h5 : (d.die k).stStep < 5)
    (ht : testable (dacRequest (.comp k) (dacRelease d)) (64 * k + l) = true) :
    stStep k after d = showProg k ((dacRequest (.comp k) (dacRelease d)).setDie k
      ((d.die k).nextStep l (stPasses d k (d.die k).stStep after))) := by
  obtain ⟨q, -, heq⟩ := stepReleases k d
  have hdie : (dacRequest (.comp k) (dacRelease d)).die k = d.die k := by
    rw [heq]
    rfl
  have hpass : stPasses (dacRequest (.comp k) (dacRelease d)) k (d.die k).stStep after = stPasses d k (d.die k).stStep after := by
    rw [heq]
    rfl
  have notLast : ((d.die k).stStep == 5) = false := beq_eq_false_iff_ne.mpr (by omega)
  simp only [stStep, hrun, hc, hdie, hl, hon, ht, hpass]
  cases stPasses d k (d.die k).stStep after <;>
    simp only [notLast, Bool.false_eq_true, if_true, if_false] <;> simp [hrun, hab, hl, DieRec.nextStep]

theorem DieRec.nextStep_passes (r : DieRec) (l : Nat) :
    r.nextStep l true = { r with stOn := true, stStep := r.stStep + 1, stValue := r.stValue + 1 } := rfl

/-- What a step that is not the last of its leg leaves. -/
theorem stStep_spec {k l : Nat} {rest : List Nat} {after : Option Nat} {d : Dev} (hl : (d.die k).stLegs = l :: rest)
    (hrun : (d.die k).stRun = true) (hab : (d.die k).stAbort = false) (hon : (d.die k).stOn = true)
    (hc : d.samp.comp = some k) (h5 : (d.die k).stStep < 5)
    (ht : testable (dacRequest (.comp k) (dacRelease d)) (64 * k + l) = true) :
    (stStep k after d).die k = (d.die k).nextStep l (stPasses d k (d.die k).stStep after) ∧
      (stStep k after d).samp.comp = none ∧ DacUser.comp k ∈ (stStep k after d).samp.queue ∧
      (stStep k after d).fld adcP ADC.STAT.DACOWN = 0 ∧ (∀ j, j ≠ k → (stStep k after d).die j = d.die j) ∧
      ∃ ds rs r, stStep k after d = { d with dies := ds, regs := rs, samp := r } := by
  rw [stStep_next hl hrun hab hon hc h5 ht]
  obtain ⟨q, hq, heq⟩ := stepReleases k d
  rw [heq]
  obtain ⟨rs, hshow⟩ := showProg_eq k (((d.setFld adcP ADC.STAT.DACOWN 0).setSamp
    fun r => { r with comp := none, queue := q }).setDie k ((d.die k).nextStep l (stPasses d k (d.die k).stStep after)))
  refine ⟨?_, ?_, ?_, ?_, fun j hj => ?_, ?_⟩
  · rw [showProg_die, Dev.die_setDie, if_pos rfl]
  · rw [hshow]
    rfl
  · rw [hshow]
    exact hq
  · rw [showProg_adcStat _ _ _ rfl, Dev.setDie_fld, Dev.setSamp_fld, Dev.fld_setFld _ _ _ _ (by unfold Fld.fits; decide)]
    rfl
  · rw [showProg_die, Dev.die_setDie, if_neg hj]
    rfl
  · rw [hshow]
    exact ⟨_, _, _, rfl⟩

theorem asleep_of_awake {d : Dev} (h : awake d = true) : asleep d = false := by
  cases ha : asleep d
  · rfl
  · simp [awake, ha] at h

/-- What a START leaves: the test's record, and its place in the queue for the DAC. -/
theorem stCommand_starts_spec {k : Nat} {val : Word} {d : Dev} (ha : d.accepts k) (hp : (d.die k).wdPend = false)
    (hgo : bitOf val 0 = true) (hab : bitOf val 1 = false) (hrun : (d.die k).stRun = false)
    (hlegs : maskLegs (d.die k) ≠ []) :
    (stCommand k val true d).die k = ((taken k d).die k).testStarts (bits val 8 8) ∧
      (stCommand k val true d).reg (ddieP k + 0x030) = BitVec.ofNat 32 (6 * (maskLegs ((taken k d).die k)).length) ∧
      DacUser.comp k ∈ (stCommand k val true d).samp.queue ∧
      (∀ j, j ≠ k → (stCommand k val true d).die j = d.die j) ∧
      ∃ ds rs q, stCommand k val true d = { d with dies := ds, regs := rs, samp := { d.samp with queue := q } } := by
  rw [stCommand_starts ha hp hgo hab hrun hlegs]
  obtain ⟨q, hq, heq⟩ := dacRequest_queues (.comp k) ((taken k d).setDie k (((taken k d).die k).testStarts (bits val 8 8)))
  rw [heq]
  obtain ⟨rs, hshow⟩ := showProg_eq k (((taken k d).setDie k (((taken k d).die k).testStarts (bits val 8 8))).setSamp
    fun r => { r with queue := q })
  refine ⟨?_, ?_, ?_, fun j hj => ?_, ?_⟩
  · rw [showProg_die, Dev.setSamp_die, Dev.die_setDie, if_pos rfl]
  · rw [showProg, Dev.reg_setReg_same, Dev.setSamp_die, Dev.die_setDie, if_pos rfl, DieRec.testStarts]
  · rw [hshow]
    exact hq
  · rw [showProg_die, Dev.setSamp_die, Dev.die_setDie, if_neg hj, taken_die, if_neg hj]
  · obtain ⟨ds, ht⟩ : ∃ ds, (taken k d).setDie k (((taken k d).die k).testStarts (bits val 8 8)) = { d with dies := ds } := by
      rw [taken_eq]
      exact ⟨_, rfl⟩
    rw [hshow, ht]
    exact ⟨_, _, _, rfl⟩

/-! ### The statement -/

/-- Settles O7: each command is one change of its die's record, and a step that is not the last of its leg frees the DAC and
asks for it again. -/
theorem selfTest : Obligations.SelfTest := by
  intro s k who val hs hh ha hp
  refine ⟨fun hgo hab hrun hlegs => ?start, fun hab hrun hc => ?ends, fun hab hrun hc => ?noted,
    fun l rest hl hrun hab hon hc h5 ht after hpass => ?passes, fun l rest hl hrun hab hon hc h5 ht after hpass => ?fails, ?unchecked⟩
  case start =>
    obtain ⟨hdie, htotal, hq, hothers, ds, rs, q, heq⟩ := stCommand_starts_spec ha hp hgo hab hrun hlegs
    have legs : maskLegs ((taken k s.dev).die k) = maskLegs (s.dev.die k) := by simp [maskLegs]
    rw [legs] at htotal
    refine ⟨_, exec_stStart k val true hs hh, congrArg DieRec.stRun hdie, (congrArg DieRec.stLegs hdie).trans legs,
      congrArg DieRec.stStep hdie, congrArg DieRec.stFail hdie, congrArg DieRec.stSkip hdie, congrArg DieRec.stMargin hdie,
      htotal, hq, hothers, ?_⟩
    rw [heq]
    rfl
  case ends =>
    obtain ⟨hrun', haborted, hdone, hlegs, hevt, hq, hothers, hreg, ds, rs, q, heq⟩ := stCommand_ends_spec ha hp hab hrun hc
    refine ⟨_, exec_stAbort k val true hs hh, hrun', haborted, hdone, hlegs, hevt, hq, hothers, hreg, ?_⟩
    rw [heq]
    rfl
  case noted =>
    obtain ⟨hnoted, hlegs, hothers, ds, heq⟩ := stCommand_notes ha hp hab hrun hc
    exact ⟨_, exec_stAbort k val true hs hh, hnoted, hlegs, hothers, answer_dies_frame heq who 0 false⟩
  case passes =>
    obtain ⟨hdie, hcomp, hq, hfree, hothers, ds, rs, r, heq⟩ := stStep_spec (after := after) hl hrun hab hon hc h5 ht
    rw [hpass, DieRec.nextStep_passes] at hdie
    exact ⟨_, onDie_awake (asleep_of_awake hs.1), hdie, hcomp, hq, hfree, hothers, by rw [heq]⟩
  case fails =>
    obtain ⟨hdie, hcomp, hq, hfree, hothers, ds, rs, r, heq⟩ := stStep_spec (after := after) hl hrun hab hon hc h5 ht
    rw [hpass] at hdie
    exact ⟨_, onDie_awake (asleep_of_awake hs.1), congrArg DieRec.stFail hdie, congrArg DieRec.stStep hdie, hothers, by rw [heq]⟩
  case unchecked =>
    obtain ⟨hdie, hothers, ds, heq⟩ := stCommand_checkFails k val ha
    exact ⟨_, ⟨exec_stStart k val false hs hh, exec_stAbort k val false hs hh⟩, hdie, hothers, answer_dies_frame heq who 0 false⟩

end Sys2Proof.Machine
end

section
/-!
PROOFS. Strong drive, stale loads, retirement and return (R93, R113, R128, R129, R162, R424).
-/

namespace Sys2Proof.Machine

/-! ### Adaptive drive starts (R128, R129) -/

theorem strongDriveEnd_due {n : Nat} {d : Dev} (chk : Bool) (hup : d.mode ≠ .powerUp) (htest : d.mode ≠ .test)
    (hsw : (d.leg n).sw = true) (hleft : (d.leg n).strongLeft = 0) (had : (d.leg n).adaptive = false)
    (hstop : (d.plan n).stop = false) (hfix : d.own n LEG.GATE.FIXED = 0) :
    strongDriveEnd n chk d = carried (n / 64) chk d (startAdaptive n) :=
  if_neg (by simp [hup, htest, hsw, hleft, had, hstop, hfix])

theorem own_setLeg_adaptive (d : Dev) (n : Nat) (f : Fld) :
    (d.setLeg n { d.leg n with adaptive := true, srcMeas := none, snkMeas := none, srcLim := 0, snkLim := 0 }).own n f =
      d.own n f := by
  simp [Dev.own]

theorem own_lt (d : Dev) (n : Nat) (f : Fld) : d.own n f < 2 ^ f.n := bits_lt _ _ _

theorem Dev.registersSet.ofLegs {d e : Dev} {n : Nat} {r : LegRec} (h : (d.setLeg n r).registersSet e) :
    ∃ rs ls, e = { d with regs := rs, legs := ls } := by
  obtain ⟨rs, rfl⟩ := h
  exact ⟨_, _, rfl⟩

/-- What the start of adaptive drive leaves: the leg's mark, its initial strengths, and TMEAS without a measure. -/
theorem startAdaptive_spec (n : Nat) (d : Dev) :
    ((startAdaptive n d).leg n).adaptive = true ∧
      (startAdaptive n d).fld (legP n) LEG.STRENGTH.SRC = d.own n LEG.GATE.SRC_INIT ∧
      (startAdaptive n d).fld (legP n) LEG.STRENGTH.SNK = d.own n LEG.GATE.SNK_INIT ∧
      ((startAdaptive n d).leg n).gh = (d.leg n).gh ∧ ((startAdaptive n d).leg n).gl = (d.leg n).gl ∧
      (startAdaptive n d).fld (legP n) LEG.STRENGTH.TMEAS = 127 ∧
      (∀ m, m ≠ n → (startAdaptive n d).leg m = d.leg m) ∧
      (∀ a, a ≠ legP n + 0x060 → (startAdaptive n d).reg a = d.reg a) ∧
      ∃ rs ls, startAdaptive n d = { d with regs := rs, legs := ls } := by
  have fits : LEG.STRENGTH.SRC.fits ∧ LEG.STRENGTH.SNK.fits ∧ LEG.STRENGTH.TMEAS.fits := by unfold Fld.fits; decide
  obtain ⟨hsrc, hsnk, htm⟩ := fits
  simp only [startAdaptive, own_setLeg_adaptive]
  refine ⟨by simp, ?_, ?_, by simp, by simp, ?_, fun m hm => by simp [hm], fun a ha => ?_,
    ((((Dev.registersSet.refl _).setFld _ _ _).setFld _ _ _).setFld _ _ _).ofLegs⟩
  · rw [Dev.fld_setFld_ne _ _ _ _ _ _ (.inr (by decide)), Dev.fld_setFld_ne _ _ _ _ _ _ (.inr (by decide)),
      Dev.fld_setFld _ _ _ _ hsrc]
    exact Nat.mod_eq_of_lt (own_lt d n _)
  · rw [Dev.fld_setFld_ne _ _ _ _ _ _ (.inr (by decide)), Dev.fld_setFld _ _ _ _ hsnk]
    exact Nat.mod_eq_of_lt (own_lt d n _)
  · rw [Dev.fld_setFld _ _ _ _ htm]
    rfl
  · simp [LEG.STRENGTH.SRC, LEG.STRENGTH.SNK, LEG.STRENGTH.TMEAS, ha]

/-! ### A stale load (R93) -/

/-- The period that ends at this tick counts. -/
def loadAgeNow (d : Dev) (g : Nat) : Nat :=
  if d.now = (d.frame (gangFrame d g)).next then (d.gang g).loadAge + 1 else (d.gang g).loadAge

theorem loadStale_age (g : Nat) (d : Dev) : loadStale g d = staleAt g (loadAgeNow d g) d := rfl

theorem loadStale_young {g : Nat} {d : Dev} (h : loadAgeNow d g < 4) : loadStale g d = d :=
  (loadStale_age g d).trans (if_pos (by simp [h]))

theorem loadStale_old {g : Nat} {d : Dev} (hnew : (d.gang g).loadNew = false) (hen : gangEn d g = true)
    (hst : d.on (gangP g) GANG.STAT.LOAD_STALE = false) (h : 4 ≤ loadAgeNow d g) :
    loadStale g d = (((d.raise (gangP g) GANG.STAT.LOAD_STALE).raise (gangP g) GANG.EVT.LOAD_STALE).setFld (gangP g)
      GANG.LIVE.ACTIVE (d.fld (gangP g) GANG.LIVE.LIVE)).setGang g { d.gang g with act := d.fld (gangP g) GANG.LIVE.LIVE } := by
  simp only [loadStale_age, staleAt]
  rw [if_neg (by simp [h, hnew, hst, hen])]
  simp only [Dev.raise_gang]

/-- What a stale load leaves: its two marks, and all live legs of the gang running. -/
theorem loadStale_spec {g : Nat} {d : Dev} (hnew : (d.gang g).loadNew = false) (hen : gangEn d g = true)
    (hst : d.on (gangP g) GANG.STAT.LOAD_STALE = false) (h : 4 ≤ loadAgeNow d g) :
    (loadStale g d).on (gangP g) GANG.STAT.LOAD_STALE = true ∧ (loadStale g d).on (gangP g) GANG.EVT.LOAD_STALE = true ∧
      (loadStale g d).fld (gangP g) GANG.LIVE.ACTIVE = d.fld (gangP g) GANG.LIVE.LIVE ∧
      (∀ a, a ≠ gangP g + 0x080 → a ≠ gangP g + 0x084 → a ≠ gangP g + 0x0AC → (loadStale g d).reg a = d.reg a) ∧
      (loadStale g d).gang g = { d.gang g with act := d.fld (gangP g) GANG.LIVE.LIVE } ∧
      (∀ j, j ≠ g → (loadStale g d).gang j = d.gang j) ∧
      ∃ rs es gs, loadStale g d = { d with regs := rs, events := es, gangs := gs } := by
  have apart : ∀ x y, x ≠ y → gangP g + x ≠ gangP g + y := fun x y hxy e => hxy (Nat.add_left_cancel e)
  obtain ⟨rs, es, heq⟩ := (((Dev.registersMove.refl d).raise (gangP g) GANG.STAT.LOAD_STALE).raise (gangP g)
    GANG.EVT.LOAD_STALE).setReg (gangP g + GANG.LIVE.ACTIVE.off) (setBits (((d.raise (gangP g) GANG.STAT.LOAD_STALE).raise (gangP g)
      GANG.EVT.LOAD_STALE).reg (gangP g + GANG.LIVE.ACTIVE.off)) GANG.LIVE.ACTIVE.lo GANG.LIVE.ACTIVE.n (d.fld (gangP g) GANG.LIVE.LIVE))
  rw [loadStale_old hnew hen hst h]
  refine ⟨?_, ?_, ?_, fun a h1 h2 h3 => ?_, by simp, fun j hj => by simp [hj], ?_⟩
  · rw [Dev.on, Dev.setGang_fld, Dev.fld_setFld_ne _ _ _ _ _ _ (.inl (apart _ _ (by decide))),
      Dev.fld_raise_ne _ _ _ _ _ (.inl (apart _ _ (by decide))), Dev.fld_raise _ _ _ (by unfold Fld.fits; decide) (by decide)]
    rfl
  · rw [Dev.on, Dev.setGang_fld, Dev.fld_setFld_ne _ _ _ _ _ _ (.inl (apart _ _ (by decide))),
      Dev.fld_raise _ _ _ (by unfold Fld.fits; decide) (by decide)]
    rfl
  · rw [Dev.setGang_fld, Dev.fld_setFld _ _ _ _ (by unfold Fld.fits; decide)]
    exact Nat.mod_eq_of_lt (bits_lt _ _ _)
  · simp [GANG.LIVE.ACTIVE, GANG.STAT.LOAD_STALE, GANG.EVT.LOAD_STALE, h1, h2, h3]
  · rw [Dev.setFld, heq]
    exact ⟨_, _, _, rfl⟩

/-! ### The LIMP condition after a leg's change (R112) -/

theorem Dev.enter_eq (d : Dev) (m : Mode) :
    ∃ md rs es b, d.enter m = { d with mode := md, regs := rs, events := es, flt := { d.flt with l4Safe := b } } := by
  unfold Dev.enter
  split
  · exact ⟨_, _, _, _, rfl⟩
  · obtain ⟨rs, es, heq⟩ := (((Dev.registersMove.refl d).setReg (topP + TOP_MODE_PREV.off) (setBits (d.reg (topP + TOP_MODE_PREV.off))
      TOP_MODE_PREV.lo TOP_MODE_PREV.n d.mode.code)).bump topP TOP_MODE_CHANGES).raise topP TOP.EVT.MODE_CHANGED
    simp only [Dev.setFld, heq]
    exact ⟨_, _, _, _, rfl⟩

theorem autoFirst_eq (d : Dev) : ∃ rs es sy, autoFirst d = { d with regs := rs, events := es, sys := sy } := by
  unfold autoFirst
  split
  · dsimp only
    split
    · split
      · exact ⟨_, _, _, rfl⟩
      · exact ⟨_, _, _, rfl⟩
    · exact ⟨_, _, _, rfl⟩
  · exact ⟨_, _, _, rfl⟩

theorem Dev.reLimp_eq (d : Dev) : ∃ md rs es sy b,
    d.reLimp = { d with mode := md, regs := rs, events := es, sys := sy, flt := { d.flt with l4Safe := b } } := by
  unfold Dev.reLimp
  split
  · obtain ⟨md, rs, es, b, h⟩ := d.enter_eq .limp
    exact ⟨_, _, _, _, _, h⟩
  · split
    · obtain ⟨md, rs, es, b, h⟩ := d.enter_eq .run
      exact ⟨_, _, _, _, _, h⟩
    · obtain ⟨rs, es, sy, h⟩ := autoFirst_eq d
      exact ⟨_, _, _, _, _, h⟩

/-! ### A retirement (R113, R424) -/

/-- Of a device, whether leg `n` is retired, and by whom, with what waits for the journal, the memory and the time. -/
def retiredView (n : Nat) (d : Dev) : (Bool × Bool) × List JournalRec × List Host.Cell × Nat :=
  (((d.leg n).retired, (d.leg n).fwRet), d.flt.journal, d.mem, d.now)

section
variable (n : Nat) (d : Dev)

@[simp] theorem retiredView_raise (p : Nat) (f : Fld) : retiredView n (d.raise p f) = retiredView n d := (rfl)
@[simp] theorem retiredView_lower (p : Nat) (f : Fld) : retiredView n (d.lower p f) = retiredView n d := (rfl)
@[simp] theorem retiredView_setReg (a : Nat) (w : Word) : retiredView n (d.setReg a w) = retiredView n d := (rfl)
@[simp] theorem retiredView_setFld (p v : Nat) (f : Fld) : retiredView n (d.setFld p f v) = retiredView n d := (rfl)
@[simp] theorem retiredView_setPlan (m : Nat) (r : LegPlan) : retiredView n (d.setPlan m r) = retiredView n d := (rfl)
@[simp] theorem retiredView_setGang (g : Nat) (r : GangRec) : retiredView n (d.setGang g r) = retiredView n d := (rfl)
@[simp] theorem retiredView_send (m : FaultMsg) : retiredView n (d.send m) = retiredView n d := (rfl)
@[simp] theorem retiredView_stopLeg (m : Nat) : retiredView n (stopLeg m d) = retiredView n d := (rfl)

/-- A change of a leg's record beside its retirement. -/
theorem retiredView_setLeg {m : Nat} {r : LegRec} (h : r.retired = (d.leg m).retired) (hfw : r.fwRet = (d.leg m).fwRet) :
    retiredView n (d.setLeg m r) = retiredView n d := by
  unfold retiredView
  by_cases e : n = m
  · simp [e, h, hfw]
  · simp [e]

theorem retiredView_holdLeg (m : Nat) (h : Hold) : retiredView n (holdLeg h m d) = retiredView n d :=
  retiredView_setLeg n d rfl rfl

@[simp] theorem retiredView_shutGang (g : Nat) : retiredView n (shutGang d g) = retiredView n d := by
  simp only [shutGang, retiredView_lower, retiredView_raise]
  refine each_keep (retiredView n) _ d fun m x => ?_
  split
  · exact retiredView_holdLeg n x m .off
  · rfl

@[simp] theorem retiredView_understrength (g : Nat) : retiredView n (understrength d g) = retiredView n d := by
  unfold understrength
  split <;> simp

@[simp] theorem retiredView_showLive (g l a : Nat) : retiredView n (showLive d g l a) = retiredView n d := by
  simp [showLive]

end

/-- R113: a leg that firmware retires is retired by it; its gang's live count, its re-gang and its shutdown change neither that
nor what waits for the journal. -/
theorem retiredView_retireLeg {n : Nat} {d : Dev} (fw : Bool) (h : (d.leg n).retired = false) :
    retiredView n (retireLeg d fw n) = ((true, fw), d.flt.journal, d.mem, d.now) := by
  have marked : retiredView n (d.setLeg n
      { d.leg n with retired := true, fwRet := fw, retCycle := some (d.now / 2), wait := none }) =
      ((true, fw), d.flt.journal, d.mem, d.now) := by simp [retiredView]
  have dark : ∀ e : Dev, retiredView n (e.setLeg n { e.leg n with dark := true }) = retiredView n e :=
    fun e => retiredView_setLeg n e rfl rfl
  simp only [retireLeg, h]
  split
  · exact absurd ‹_› (by simp)
  · split
    · simp [marked]
    · split
      · simp [marked]
      · split <;>
          simp only [retiredView_understrength, retiredView_setGang, retiredView_raise, retiredView_setReg, retiredView_showLive,
            retiredView_stopLeg, dark, marked]

theorem retiredView_reLimp (n : Nat) (d : Dev) : retiredView n d.reLimp = retiredView n d := by
  obtain ⟨md, rs, es, sy, b, heq⟩ := d.reLimp_eq
  rw [heq]
  rfl

/-! ### The commands of a leg (R113) -/

theorem specialWrite_legCmd (who : Requester) (n : Nat) (val : Word) (d : Dev) :
    specialWrite who .leg n ((legP n + 0x054) % 0x1000) val d = some (axesSettle (legCmd n val d)) := by
  rw [legP_mod _ _ (by omega)]
  rfl

theorem exec_retire {s : State} {who : Requester} (n : Fin 256) (val : Word) (hs : s.dev.serves who) (hh : s.dev.hears who) :
    exec (.retire who n val) s = .next (s.put (answer who 0 false (axesSettle (legCmd n val s.dev)))) := by
  rw [← bodyWrite_special (specialWrite_legCmd who n val s.dev),
    ← write_leg who n 0x054 val s.dev n.isLt (by omega) (by omega) (by omega) hh hs.2]
  exact act_awake hs.1

theorem exec_returnLeg {s : State} {who : Requester} (n : Fin 256) (val : Word) (hs : s.dev.serves who) (hh : s.dev.hears who) :
    exec (.returnLeg who n val) s = .next (s.put (answer who 0 false (axesSettle (legCmd n val s.dev)))) := by
  rw [← bodyWrite_special (specialWrite_legCmd who n val s.dev),
    ← write_leg who n 0x054 val s.dev n.isLt (by omega) (by omega) (by omega) hh hs.2]
  exact act_awake hs.1

theorem legCmd_retires {n : Nat} {val : Word} {d : Dev} (hret : bitOf val 1 = true) (h : (d.leg n).retired = false) :
    legCmd n val d = (journal n 0 false (retireLeg d true n)).reLimp := by
  simp [legCmd, hret, h]

/-- R424: what waits for the journal after a retirement, which leaves the memory alone. -/
theorem legCmd_retires_view {n : Nat} {val : Word} {d : Dev} (hret : bitOf val 1 = true) (h : (d.leg n).retired = false) :
    retiredView n (legCmd n val d) = ((true, true), d.flt.journal ++ [⟨n, 0, d.now, false⟩], d.mem, d.now) := by
  have before := retiredView_retireLeg true h
  rw [legCmd_retires hret h, retiredView_reLimp]
  simp only [retiredView, Prod.mk.injEq] at before
  obtain ⟨⟨hr, hfw⟩, hj, hm, hnow⟩ := before
  simp only [retiredView, journal, Prod.mk.injEq]
  refine ⟨⟨hr, hfw⟩, ?_, hm, hnow⟩
  rw [← hj, ← hnow]
  rfl

/-- R113: a leg that no enabled gang lists is in service again. -/
def legReturned (n : Nat) (d : Dev) : Dev :=
  d.setLeg n { d.leg n with retired := false, fwRet := false, dark := false, dieRetired := false }

theorem legCmd_returns {n : Nat} {val : Word} {d : Dev} (hgo : bitOf val 0 = true) (hret : bitOf val 1 = false)
    (h : (d.leg n).retired = true) (hl : listedIn d n = none) (hc : (d.leg n).retCycle ≠ some (d.now / 2)) :
    legCmd n val d = (journal n 0 true (legReturned n d)).reLimp := by
  simp [legCmd, hgo, hret, h, hl, hc, legReturned]

theorem Dev.reLimp_leg (d : Dev) (m : Nat) : d.reLimp.leg m = d.leg m := by
  obtain ⟨md, rs, es, sy, b, heq⟩ := d.reLimp_eq
  rw [heq]
  rfl

theorem Dev.reLimp_journal (d : Dev) : d.reLimp.flt.journal = d.flt.journal := by
  obtain ⟨md, rs, es, sy, b, heq⟩ := d.reLimp_eq
  rw [heq]

theorem journal_leg (n k : Nat) (ret : Bool) (d : Dev) (m : Nat) : (journal n k ret d).leg m = d.leg m := rfl

/-- What a RETURN leaves: the leg in service, its record for the journal, and the mode that the LIMP condition asks for. -/
theorem legCmd_returns_spec {n : Nat} {val : Word} {d : Dev} (hgo : bitOf val 0 = true) (hret : bitOf val 1 = false)
    (h : (d.leg n).retired = true) (hl : listedIn d n = none) (hc : (d.leg n).retCycle ≠ some (d.now / 2)) :
    ((legCmd n val d).leg n).retired = false ∧ ((legCmd n val d).leg n).dieRetired = false ∧
      (legCmd n val d).flt.journal = d.flt.journal ++ [⟨n, 0, d.now, true⟩] ∧
      (∀ m, m ≠ n → (legCmd n val d).leg m = d.leg m) ∧
      ∃ ls fl md rs es sy, legCmd n val d = { d with legs := ls, flt := fl, mode := md, regs := rs, events := es, sys := sy } := by
  rw [legCmd_returns hgo hret h hl hc, Dev.reLimp_leg, Dev.reLimp_journal, journal_leg]
  refine ⟨by simp [legReturned], by simp [legReturned], rfl, fun m hm => ?_, ?_⟩
  · rw [Dev.reLimp_leg, journal_leg]
    simp [legReturned, hm]
  · obtain ⟨md, rs, es, sy, b, heq⟩ := (journal n 0 true (legReturned n d)).reLimp_eq
    rw [heq]
    exact ⟨_, _, _, _, _, _, rfl⟩

theorem legCmd_ignores {n : Nat} {val : Word} {d : Dev} (hgo : bitOf val 0 = true) (hret : bitOf val 1 = false)
    (h : (d.leg n).retired = false ∨ listedIn d n ≠ none ∨ (d.leg n).retCycle = some (d.now / 2)) :
    legCmd n val d = d.raise (legP n) LEG.EVT.CMD_IGN := by
  have ignored : (!(d.leg n).retired || (listedIn d n).isSome || (d.leg n).retCycle == some (d.now / 2)) = true := by
    rcases h with h | h | h
    · simp [h]
    · simp [Option.isSome_iff_ne_none.mpr h]
    · simp [h]
  simp only [legCmd, hgo, hret, ignored]
  rfl

/-! ### The statement -/

theorem loadAgeNow_old {d : Dev} {g : Nat}
    (h : 4 ≤ (d.gang g).loadAge ∨ ((d.gang g).loadAge = 3 ∧ d.now = (d.frame (gangFrame d g)).next)) : 4 ≤ loadAgeNow d g := by
  unfold loadAgeNow
  split <;> omega

theorem loadAgeNow_young {d : Dev} {g : Nat}
    (h : (d.gang g).loadAge < 3 ∨ ((d.gang g).loadAge = 3 ∧ d.now ≠ (d.frame (gangFrame d g)).next)) : loadAgeNow d g < 4 := by
  unfold loadAgeNow
  split <;> omega

/-- Settles O21: the end of strong drive is one command to the die, a stale load one change of its gang, and a leg's commands
one change of the leg with its record for the journal. -/
theorem legUpkeep : Obligations.LegUpkeep := by
  refine ⟨fun s n hs hup htest ha hp hsw hleft had hstop hfix => ⟨?adaptive, ?unchecked⟩,
    fun s g hs hnew hen hst => ⟨fun h => ?stale, fun h => ?young⟩,
    fun s who n val hs hh => ⟨fun hret h => ?retires, fun hgo hret h hl hc => ?returns, fun hgo hret h => ?ignored⟩⟩
  case adaptive =>
    have run : exec (.strongDriveEnd n true) s = _ := act_awake hs
    rw [strongDriveEnd_due true hup htest hsw hleft had hstop hfix, carried_accepts _ ha hp] at run
    have own : ∀ f, (taken (n / 64) s.dev).own n f = s.dev.own n f := fun f => by simp [Dev.own]
    obtain ⟨hadapt, hsrc, hsnk, hgh, hgl, htm, hothers, hreg, rs, ls, heq⟩ := startAdaptive_spec n (taken (n / 64) s.dev)
    rw [own] at hsrc hsnk
    refine ⟨_, run, hadapt, hsrc, hsnk, ?_, ?_, htm, ?_, ?_, ?_⟩
    · simpa using hgh
    · simpa using hgl
    · simpa using hothers
    · simpa using hreg
    · rw [heq, taken_eq]
  case unchecked =>
    obtain ⟨r, hdie⟩ := carried_unchecked (n / 64) (startAdaptive n) s.dev
    have run : exec (.strongDriveEnd n false) s = _ := act_awake hs
    rw [strongDriveEnd_due false hup htest hsw hleft had hstop hfix, hdie] at run
    exact ⟨_, run, rfl⟩
  case stale =>
    obtain ⟨hstat, hevt, hact, hreg, hgang, hothers, rs, es, gs, heq⟩ := loadStale_spec hnew hen hst (loadAgeNow_old h)
    exact ⟨_, act_awake hs, hstat, hevt, hact, hreg, hgang, hothers, by rw [heq]⟩
  case young =>
    exact (act_awake hs).trans (by rw [loadStale_young (loadAgeNow_young h)]; rfl)
  case retires =>
    have view := legCmd_retires_view hret h
    simp only [retiredView, Prod.mk.injEq] at view
    obtain ⟨⟨hr, hfw⟩, hj, hm, -⟩ := view
    exact ⟨_, exec_retire n val hs hh, hr, hfw, hj, hm⟩
  case returns =>
    obtain ⟨hr, hdie, hj, hothers, ls, fl, md, rs, es, sy, heq⟩ := legCmd_returns_spec hgo hret h hl hc
    exact ⟨_, exec_returnLeg n val hs hh, hr, hdie, hj, hothers, by rw [heq]⟩
  case ignored =>
    refine ⟨_, exec_returnLeg n val hs hh, ?_⟩
    rw [legCmd_ignores hgo hret h]
    exact ⟨Dev.on_raise _ (by decide) (by decide), fun a ha => (Dev.reg_raise _ _ _ a).trans (if_neg ha), rfl⟩

end Sys2Proof.Machine
end
